-- ==== Sys2Proof/Word.lean ====
section
/-!
DEFINITION. The widths and unit numbers of the controller (R7), the station addresses of R8, and the sparse-table type.
-/
namespace Sys2Proof

/-- One byte of a dictionary value or a memory bank. -/
abbrev Byte := BitVec 8
/-- Field F0-F7 (R7). -/
abbrev FieldId := Fin 8
/-- Cluster within a field: 0-15 compute, 16 fabric, 17 memory interface, 18 field I/O (R7). -/
abbrev ClusterId := Fin 19
/-- MR number within a cluster; 16-23 exist in compute clusters only (R7). -/
abbrev MrId := Fin 24
/-- Droop sensor within a cluster; 16-31 exist in compute clusters only (R7). -/
abbrev SensorId := Fin 32
/-- Tile within a field (R7). -/
abbrev TileId := Fin 16
/-- Rail index: 0-7 FR0-FR7, 8-15 AX0-AX7 (R7). -/
abbrev RailId := Fin 16
/-- Phase of a rail; 4-31 exist on field rails only (R7). -/
abbrev PhaseId := Fin 32
/-- Bus converter DX0-DX15 (R7). -/
abbrev ConvId := Fin 16
/-- PMBus segment PB0, PB1 (R7). -/
abbrev SegId := Fin 2
/-- ADC converter number q within a field station (R199). -/
abbrev AdcId := Fin 5
/-- Switched domain D00-D63 (R25). -/
abbrev DomId := Fin 64
/-- Session slot (R401). -/
abbrev Slot := Fin 32
/-- Partition (R7). -/
abbrev PartId := Fin 1024
/-- Loop engine (R122): 0-151 the cluster engine of that global cluster id, 152 + 8f + g the general engine g of
field f, 216 + h the general engine h of the hub. -/
abbrev EngId := Fin 232
/-- Task of an engine (R140). -/
abbrev TaskId := Fin 8
/-- Trace unit: 0-7 the field stations', 8 the hub's (R150). -/
abbrev TraceId := Fin 9
/-- Window channel k (R413). -/
abbrev ChanId := Fin 4
/-- Network class (R49). -/
abbrev NetClass := Fin 4

/-- A sparse table in one canonical form: keys strictly rising, and no entry equal to the default of its key. -/
abbrev Tbl (α : Type) := List (Nat × α)

/-- A station of R8. -/
inductive Station
  | hub
  | field (f : FieldId)
  | cluster (f : FieldId) (c : ClusterId)
deriving DecidableEq, Repr

/-- The address R8 gives a station. -/
def Station.addr : Station → Nat
  | .hub => 0x0000
  | .field f => 0x0010 + f.val
  | .cluster f c => 0x0100 + f.val * 0x20 + c.val

end Sys2Proof
end

