-- ==== Sys2Proof/Syntax.lean ====
section
/-!
DEFINITION. The commands of the block: one constructor per row of spec/opcode_table.json, and the operand types.
-/
namespace Sys2Proof

/-- A Wheel of R31. -/
inductive WheelRef
  | mr (f : FieldId) (c : ClusterId) (m : MrId)
  | cluster (f : FieldId) (c : ClusterId)
  | domain (d : DomId)
  | field (f : FieldId)
  | die
  | group (a : Fin 0x8000)
deriving DecidableEq, Repr

/-- A link of the station network (R47): a cluster station's link to its field station, or L0 or L1 of a field station. -/
inductive LinkRef
  | cl (f : FieldId) (c : ClusterId)
  | fh (f : FieldId) (l : Fin 2)
deriving DecidableEq, Repr

/-- The header flit of a message (R48). -/
structure NetMsg where
  dest : BitVec 16
  src : BitVec 16
  cls : NetClass
  len : Fin 16
  type : Byte
  elapsed : BitVec 18
deriving DecidableEq, Repr

/-- The address of a dictionary object (R10). -/
structure DictAddr where
  station : BitVec 16
  index : BitVec 16
  sub : BitVec 8
deriving DecidableEq, Repr

/-- An attribution slot record of a snapshot (R229): its tag, and the counts MAT, SRAM, FAB, MEMX, LNK. -/
structure SnapSlot where
  tag : BitVec 16
  counts : List (BitVec 32)
deriving DecidableEq, Repr

/-- A telemetry record that holds extremes (R225): a station's, a domain's, a rail's, a group's, or a field's temperatures. -/
inductive TelRef
  | station (st : Station)
  | domain (d : DomId)
  | rail (r : RailId)
  | group (a : Fin 0x8000)
  | temp (f : FieldId)
deriving DecidableEq, Repr

/-- A unit inside a Rind (R346): a cluster station, a field station, an engine, an ADC converter, a PMBus segment, or a
trace unit. -/
inductive BlkUnit
  | cluster (f : FieldId) (c : ClusterId)
  | field (f : FieldId)
  | engine (e : EngId)
  | adc (f : FieldId) (q : AdcId)
  | segment (k : SegId)
  | trace (x : TraceId)
deriving DecidableEq, Repr

/-- Critical state of R345 with an uncorrectable error: a store of an engine (with its FAIL_CAUSE less 1, and for a general
engine the tasks whose lines or words hold it), the registers of a cluster station, the arbiter's tables (in the store that
serves, or in the other copy), the fault collector, or the sequencer. -/
inductive CritItem
  | engine (e : EngId) (cause : Fin 3) (mask : Byte)
  | clusterRegs (f : FieldId) (c : ClusterId)
  | arbiter (serving : Bool)
  | collector
  | sequencer
deriving DecidableEq, Repr

/-- A station that holds scratchpad banks (R381): the hub, or a field station. -/
inductive PadRef
  | hub
  | field (f : FieldId)
deriving DecidableEq, Repr

/-- Where a context lies (R393): a field store, the hub store, the host tier, or in place for its task. -/
inductive PagePlace
  | field (f : FieldId)
  | hub
  | host
  | engine
deriving DecidableEq, Repr

/-- How an access meets one from the other port at the same word, where one of them writes (R387): not at all, granted
first, granted later, or after waiting for an atomic access. -/
inductive Clash
  | none | first | later | waited
deriving DecidableEq, Repr

/-- A corrected error of a scrub pass: its bit column and its word (R389). -/
structure ColErr where
  col : Fin 72
  word : BitVec 12
deriving DecidableEq, Repr

/-- What the check code finds in a word that an access reads (R389, R390). -/
inductive WordErr
  | none
  | corrected (col : Fin 72)
  | uncorrectable
deriving DecidableEq, Repr

/-- How a context move ends (R394-R396). -/
inductive PageResult
  | done | error | lost
deriving DecidableEq, Repr
/-- One direction of a link: `up` towards the hub. -/
structure LinkEnd where
  link : LinkRef
  up : Bool
deriving DecidableEq, Repr

/-- What the two phases of an MR carried, in mA, in each of the last `run` periods (R71). -/
structure MrReading where
  mr : MrId
  ia : BitVec 16
  ib : BitVec 16
  run : BitVec 16
deriving DecidableEq, Repr

/-- The voltage at a rail's comparator in µV (R162). -/
structure RailReading where
  rail : RailId
  uv : BitVec 32
deriving DecidableEq, Repr

/-- The voltage at a phase's comparator in µV (R166). -/
structure PhaseReading where
  phase : PhaseId
  uv : BitVec 32
deriving DecidableEq, Repr

/-- The commands: one constructor per row of spec/opcode_table.json. -/
inductive Instr
  /-- CONFIG_WRITE (R15). A dictionary write to an object that has no row of its own is checked for access, range and reserved encodings, and then takes effect or is rejected whole. -/
  | configWrite (slot : Slot) (a : DictAddr) (val : List Byte)
  /-- WHEEL_START (R38). Command 1 at a domain, field, die or group Wheel is passed to the sequencer as a turn-on request. -/
  | wheelStart (slot : Slot) (w : WheelRef)
  /-- WHEEL_STOP (R38). Command 2 at a domain, field, die or group Wheel is passed to the sequencer as a turn-off request, with dependants turned off first. -/
  | wheelStop (slot : Slot) (w : WheelRef)
  /-- WHEEL_PARK (R38). Command 3 retires an MR as a service action, or parks a cluster and returns its budget, or applies to group members. -/
  | wheelPark (slot : Slot) (w : WheelRef)
  /-- WHEEL_RELEASE (R38). Command 4 reverses a park once its cause has gone, taking the Wheel to STARTING or STOPPED. -/
  | wheelRelease (slot : Slot) (w : WheelRef)
  /-- WHEEL_CLEAR (R38). Command 5 takes a LATCHED Wheel to STOPPED once every fault that latched it has been cleared. -/
  | wheelClear (slot : Slot) (w : WheelRef)
  /-- SETPOINT_WRITE (R99). An accepted SETPOINT write to a cluster increments CMD_SEQ and enters the pending slot, replacing any write not yet taken. -/
  | setpointWrite (slot : Slot) (f : FieldId) (c : ClusterId) (mv : BitVec 16)
  /-- VSET_WRITE (R30). A domain VSET write is checked against the VMIN and VMAX of every cluster and then passed to every cluster of the domain or to the auxiliary rail. -/
  | vsetWrite (slot : Slot) (d : DomId) (mv : BitVec 16)
  /-- GROUP_SETPOINT_WRITE (R43). A group SETPOINT write is checked against every Wheel reachable through the group and then written to each member in member order. -/
  | groupSetpointWrite (slot : Slot) (g : Fin 0x8000) (mv : BitVec 16)
  /-- ILIMIT_WRITE (R45). An ILIMIT write is propagated to every dependent ILIMIT_EFF and group share before the next arbiter window. -/
  | ilimitWrite (slot : Slot) (w : WheelRef) (ma : BitVec 32)
  /-- MEMBER_COUNT_WRITE (R42). A MEMBER_COUNT write creates, replaces or deletes a group after a full check of its staged members. -/
  | memberCountWrite (slot : Slot) (g : Fin 0x8000) (n : Byte)
  /-- MESSAGE_FORWARD (R47). A station-network message is received whole at a hop, checked, routed, and has its ELAPSED field updated. -/
  | messageForward (hop : Station) (msg : NetMsg) (spent : BitVec 18)
  /-- UNCORRECTABLE_FLIT (R52). An uncorrectable flit is discarded and a class-0 flit is resent once; a second such flit within 1 ms fails the link. -/
  | uncorrectableFlit (l : LinkEnd) (cls : NetClass)
  /-- LINK_HANDSHAKE_TIMEOUT (R52). A handshake that is not acknowledged within 200 ns fails the link. -/
  | linkHandshakeTimeout (l : LinkRef)
  /-- LINK_IDLE_TIMEOUT (R52). A link on which no flit arrives for 2 µs is failed. -/
  | linkIdleTimeout (l : LinkRef)
  /-- IDLE_CHECK_FLIT (R52). A station sends the idle check flit on each link every 1 µs. -/
  | idleCheckFlit (st : Station)
  /-- CLUSTER_LINK_PARK (R53). 1 ms after it detects the loss of its link, a cluster station parks itself. -/
  | clusterLinkPark (f : FieldId) (c : ClusterId)
  /-- LINK_SOUND (R53). A failed link becomes sound again, and the station reports the end of the NET_LINK_CL condition. -/
  | linkSound (l : LinkRef)
  /-- OFFSET_EXCHANGE (R55). On request, the hub exchanges timestamps with a station and reports the offset and uncertainty. -/
  | offsetExchange (st : Station) (t1 : BitVec 64) (t2 : BitVec 64) (t3 : BitVec 64) (t4 : BitVec 64)
  /-- TILE_TAKES_TOKEN_WORD (R56). A tile takes a word from its token crossing, discarding older words, and any waiting word then enters. -/
  | tileTakesTokenWord (f : FieldId) (t : TileId)
  /-- ACTIVITY_SNAPSHOT_REQUEST (R57). Every 2 µs the field station requests a snapshot of a tile's activity counters, or skips the request and counts a stall. -/
  | activitySnapshotRequest (f : FieldId) (t : TileId)
  /-- ACTIVITY_SNAPSHOT_RECEIVE (R228). A snapshot of counters, slot records and hints arrives; the field station forms advances, writes the estimator input and splits the tile interval's energy. -/
  | activitySnapshotReceive (f : FieldId) (t : TileId) (counts : List (BitVec 32)) (slots : List SnapSlot) (hints : List (BitVec 32))
  /-- FENCE_ASSERT (R112). A tile's fence signal is seen asserted, and the field station parks the tile's compute cluster. -/
  | fenceAssert (f : FieldId) (t : TileId)
  /-- FENCE_DEASSERT (R289). A tile's fence signal is seen deasserted, and FENCE_HOST is updated. -/
  | fenceDeassert (f : FieldId) (t : TileId)
  /-- SENSOR_CONVERSION_ROUND (R81). Every 25 ns each droop sensor converts; the min tree selects the lowest unmasked reading and the overshoot OR is formed. -/
  | sensorConversionRound (f : FieldId) (c : ClusterId) (readings : List (BitVec 10)) (cut : BitVec 16)
  /-- CYCLE_LIMIT (R64). An MR's current reaches ICYC, and the cell ends the pulse within the period. -/
  | cycleLimit (f : FieldId) (c : ClusterId) (m : MrId) (prev : Bool)
  /-- HICCUP_ENTRY (R68). After LIM_RUN consecutive limited periods an MR enters hiccup with both phases off and its hiccup count raised. -/
  | hiccupEntry (f : FieldId) (c : ClusterId) (m : MrId)
  /-- HICCUP_RESTART (R68). HICCUP_OFF expires and the MR restarts with a 2 µs ramp in diode emulation. -/
  | hiccupRestart (f : FieldId) (c : ClusterId) (m : MrId)
  /-- RESTART_RAMP_END (R68). The 2 µs restart ramp ends, and normal switching and the count of limited periods resume. -/
  | restartRampEnd (f : FieldId) (c : ClusterId) (m : MrId)
  /-- HICCUP_WINDOW_CLOSE (R69). RETRY_WINDOW passes with fewer than HICCUP_LIMIT hiccups, and the count returns to 0. -/
  | hiccupWindowClose (f : FieldId) (c : ClusterId) (m : Option MrId)
  /-- CLUSTER_HICCUP_RESTART (R77). After HICCUP_OFF, every MR of a cluster in hiccup restarts together under the ramp. -/
  | clusterHiccupRestart (f : FieldId) (c : ClusterId)
  /-- CLUSTER_HICCUP_END (R79). A restart ends with fewer than SHORT_FRAC of the MRs in hiccup after LIM_RUN periods; the episode ends and the MRs' own counts are discarded. -/
  | clusterHiccupEnd (f : FieldId) (c : ClusterId)
  /-- MR_OPEN_DETECT (R71). After OPEN_RUN periods of low current at a code of 40 or more, the MR is found open and retired. -/
  | mrOpenDetect (f : FieldId) (c : ClusterId) (m : MrReading)
  /-- SLOT_ROTATION_ADVANCE (R62). Every ROT_PERIOD periods the rotation count advances. -/
  | slotRotationAdvance (f : FieldId) (c : ClusterId)
  /-- SLOT_MAP_REBUILD (R63). At the next sample boundary after a retirement, release, park or rotation advance, the slot map is rebuilt; it takes effect at a period boundary. -/
  | slotMapRebuild (f : FieldId) (c : ClusterId)
  /-- SENSOR_WINDOW_JUDGE (R83). At each aligned 1 ms window, sensors that deviate or read stuck are masked automatically. -/
  | sensorWindowJudge (f : FieldId) (c : ClusterId)
  /-- ENABLE_MASK_WRITE (R84). An ENABLE_MASK write enables or disables sensors, and a 0-to-1 change unmasks a sensor. -/
  | enableMaskWrite (slot : Slot) (f : FieldId) (c : ClusterId) (mask : BitVec 32)
  /-- WINS_CLEAR (R88). A write of 0x01 sets every sensor's WINS to 0 at one sample boundary. -/
  | winsClear (slot : Slot) (f : FieldId) (c : ClusterId) (v : Byte)
  /-- CLUSTER_INPUT_INSTANT (R91). At each input instant the cluster takes MIN, ISUM and VIN, takes the pending slot, advances SET_NOW and POS_NOW, and activates its program. -/
  | clusterInputInstant (f : FieldId) (c : ClusterId) (ia : List (BitVec 16)) (ib : List (BitVec 16)) (vin : BitVec 16)
  /-- CLUSTER_OUTPUT_INSTANT (R91). At the output instant the selected code and the winner are latched to the cells and the estimate is committed. -/
  | clusterOutputInstant (f : FieldId) (c : ClusterId)
  /-- FEEDFORWARD_RECEIVE (R98). A feed-forward message arrives; a late one is discarded, otherwise it is applied to i_L at the next input instant. -/
  | feedforwardReceive (f : FieldId) (c : ClusterId) (step : BitVec 32) (elapsed : BitVec 18)
  /-- POS_REQ_RECEIVE (R102). A pre-position request arrives, and POS_NOW follows it at the slew rates, capped at POS_MAX. -/
  | posReqReceive (f : FieldId) (c : ClusterId) (mv : Byte)
  /-- ITHERM_RECEIVE (R94). A thermal current figure arrives and is applied by index 3 from the next input instant. -/
  | ithermReceive (f : FieldId) (c : ClusterId) (ma : BitVec 32)
  /-- PLAUSIBILITY_LOSS (R105). Residuals out of bound at RESID_RUN consecutive samples mean the feedback is lost. -/
  | plausibilityLoss (f : FieldId) (c : ClusterId)
  /-- FE_TIMER_EXPIRE (R106). The following-error timer reaches FE_TIME, and the feedback is lost. -/
  | feTimerExpire (f : FieldId) (c : ClusterId)
  /-- FEEDBACK_FROZEN (R107). MIN or ISUM identical at 64 input instants while the code spans 8 codes or more means the feedback is frozen. -/
  | feedbackFrozen (f : FieldId) (c : ClusterId)
  /-- FEEDBACK_RETURN (R110). After RECOVER_RUN good samples the estimate is reseeded and the Wheel returns to its earlier state. -/
  | feedbackReturn (f : FieldId) (c : ClusterId)
  /-- HOLD_EXPIRE (R111). HOLD_TIME passes in HOLDING, the cluster is parked, and CL_HOLD_EXPIRE is raised. -/
  | holdExpire (f : FieldId) (c : ClusterId)
  /-- TILE_IMPLAUSIBLE (R113). An implausible tile current held for DEAD_TIME parks the cluster and raises CL_TILE_IMPL. -/
  | tileImplausible (f : FieldId) (c : ClusterId) (byEst : Bool)
  /-- PARK_MESSAGE_RECEIVE (R114). The class-0 park message reaches the cluster, which shows PARKING and keeps regulating. -/
  | parkMessageReceive (f : FieldId) (c : ClusterId)
  /-- PARK_DELAY_EXPIRE (R114). At the first input instant at least PARK_DELAY after the park message, the cells stop and the Wheel enters PARKED. -/
  | parkDelayExpire (f : FieldId) (c : ClusterId)
  /-- WIN_CLEAR (R121). A write of 0x01 zeroes the winner totals at one input instant and records the time. -/
  | winClear (slot : Slot) (f : FieldId) (c : ClusterId) (v : Byte)
  /-- WINNER_CHANGE_RECEIVE (R97). The field station receives a cluster's change of winner for its throttle-reason reports. -/
  | winnerChangeReceive (f : FieldId) (c : ClusterId)
  /-- CLOSE_MARKER_RECEIVE (R236). A cluster receives the close marker and, at its next input instant, returns the energy of the interval. -/
  | closeMarkerReceive (f : FieldId) (c : ClusterId)
  /-- TASK_RELEASE (R140). A general-engine task is released at its PERIOD and PHASE and scheduled by class and deadline, abandoning or skipping an unfinished activation. -/
  | taskRelease (e : EngId) (t : TaskId)
  /-- ACTIVATION_COMMIT (R139). At the latch instant, the held effects of an activation that reached END take effect together. -/
  | activationCommit (e : EngId) (t : TaskId)
  /-- DEADLINE_ABANDON (R139). An activation not at END by its latch instant is abandoned, and a deadline fault is raised. -/
  | deadlineAbandon (e : EngId) (t : TaskId)
  /-- NOP (R133). The instruction does nothing. -/
  | insnNop (e : EngId)
  /-- IN (R133). Reads n ports into Vd, each scaled as R135 states. -/
  | insnIn (e : EngId) (fmt : BitVec 2) (d : Byte) (p : Byte) (n : Byte)
  /-- OUT (R133). Sends an element to an output port at commit. -/
  | insnOut (e : EngId) (port : Byte) (a : Byte) (x : Byte)
  /-- LDV (R133). Loads a stored vector with its format and exponent. -/
  | insnLdv (e : EngId) (fmt : BitVec 2) (d : Byte) (line : Byte)
  /-- STV (R133). Stores a vector at commit. -/
  | insnStv (e : EngId) (line : Byte) (a : Byte)
  /-- SETE (R133). Re-rounds Vd at a new format and exponent. -/
  | insnSete (e : EngId) (fmt : BitVec 2) (d : Byte) (x : Byte)
  /-- NORM (R128). Sets the exponent of Vd to the smallest that fits Va and writes the elements. -/
  | insnNorm (e : EngId) (fmt : BitVec 2) (d : Byte) (a : Byte)
  /-- MVM (R127). Multiplies a matrix by a vector into an accumulator or vector register. -/
  | insnMvm (e : EngId) (fmt : BitVec 2) (d : Byte) (line : Byte) (v : Byte)
  /-- MVMA (R127). Adds a matrix-vector product into an accumulator. -/
  | insnMvma (e : EngId) (d : Byte) (line : Byte) (v : Byte)
  /-- MOVA (R127). Rounds an accumulator into a vector register. -/
  | insnMova (e : EngId) (fmt : BitVec 2) (d : Byte) (a : Byte)
  /-- VCAT (R133). Concatenates two vectors. -/
  | insnVcat (e : EngId) (fmt : BitVec 2) (d : Byte) (a : Byte) (v : Byte)
  /-- VEXT (R133). Extracts one element into a vector of length 1. -/
  | insnVext (e : EngId) (fmt : BitVec 2) (d : Byte) (a : Byte) (x : Byte)
  /-- VADD (R133). Adds two vectors elementwise. -/
  | insnVadd (e : EngId) (fmt : BitVec 2) (d : Byte) (a : Byte) (v : Byte)
  /-- VSUB (R133). Subtracts two vectors elementwise. -/
  | insnVsub (e : EngId) (fmt : BitVec 2) (d : Byte) (a : Byte) (v : Byte)
  /-- VMUL (R133). Multiplies two vectors elementwise. -/
  | insnVmul (e : EngId) (fmt : BitVec 2) (d : Byte) (a : Byte) (v : Byte)
  /-- VSCL (R133). Scales a vector by a power of two. -/
  | insnVscl (e : EngId) (fmt : BitVec 2) (d : Byte) (a : Byte) (sh : Byte)
  /-- VMAX (R133). Takes the elementwise larger of two vectors. -/
  | insnVmax (e : EngId) (fmt : BitVec 2) (d : Byte) (a : Byte) (v : Byte)
  /-- VMIN (R133). Takes the elementwise smaller of two vectors. -/
  | insnVmin (e : EngId) (fmt : BitVec 2) (d : Byte) (a : Byte) (v : Byte)
  /-- MINS (R133). Takes the lowest element and sets WIDX to its index. -/
  | insnMins (e : EngId) (fmt : BitVec 2) (d : Byte) (a : Byte)
  /-- CLAMP (R133). Limits each element to lo to hi. -/
  | insnClamp (e : EngId) (fmt : BitVec 2) (d : Byte) (a : Byte) (v : Byte)
  /-- SATU (R133). Rounds each element to an integer and limits it to an unsigned width. -/
  | insnSatu (e : EngId) (fmt : BitVec 2) (d : Byte) (a : Byte) (w : Byte)
  /-- SEL (R136). Selects the elements of Va where the condition bit is 1. -/
  | insnSel (e : EngId) (fmt : BitVec 2) (d : Byte) (a : Byte) (c : Byte)
  /-- SELN (R136). Selects the elements of Va where the condition bit is 0. -/
  | insnSeln (e : EngId) (fmt : BitVec 2) (d : Byte) (a : Byte) (c : Byte)
  /-- PWL (R134). Evaluates a 32-segment piecewise-linear table. -/
  | insnPwl (e : EngId) (fmt : BitVec 2) (d : Byte) (a : Byte) (line : Byte)
  /-- RELU (R133). Takes max(x, 0) of each element. -/
  | insnRelu (e : EngId) (fmt : BitVec 2) (d : Byte) (a : Byte)
  /-- RLS (R134). Performs one recursive least-squares step on a block in working lines. -/
  | insnRls (e : EngId) (fmt : BitVec 2) (line : Byte) (phi : Byte) (err : Byte)
  /-- SUPV (R133). Reports a supervision result to a channel at commit. -/
  | insnSupv (e : EngId) (ch : Byte) (a : Byte) (v : Byte)
  /-- END (R139). Marks the activation complete. -/
  | insnEnd (e : EngId)
  /-- IMAGE (R143). A segmented write of an engine image discards the shadow at the first segment and loads the shadow arrays. -/
  | image (slot : Slot) (e : EngId) (data : List Byte)
  /-- VERIFY (R138). Writing VERIFY runs the image checks and computes the table time, ending in verified or rejected. -/
  | verify (slot : Slot) (e : EngId) (v : Byte)
  /-- SWAP (R144). SWAP 1 in the verified state schedules the swap for the task's next activation start. -/
  | swap (slot : Slot) (e : EngId)
  /-- SWAP_REVERT (R145). SWAP 2 in the previous state exchanges the programs back. -/
  | swapRevert (slot : Slot) (e : EngId)
  /-- SWAP_FLIP (R144). At the next activation start the selection bits flip, working lines are initialised if asked, and the old program becomes the shadow. -/
  | swapFlip (e : EngId)
  /-- TASK_ENABLE (R141). TASK_CTRL 1 enables a task subject to the admission test. -/
  | taskEnable (slot : Slot) (e : EngId) (t : TaskId)
  /-- TASK_DISABLE (R154). TASK_CTRL 2 disables a task at the next boundary. -/
  | taskDisable (slot : Slot) (e : EngId) (t : TaskId)
  /-- TASK_UNLOAD (R154). TASK_CTRL 3 unloads a task. -/
  | taskUnload (slot : Slot) (e : EngId) (t : TaskId)
  /-- ENGINE_FAIL (R146). A cluster engine fails; it is held in block reset, and the spare takes over the loop or the cluster is parked. -/
  | engineFail (e : EngId) (cause : Fin 3)
  /-- SPARE_IMAGE_LOAD_DONE (R146). The spare finishes loading a differing eligible image from the field station's copy and starts the loop. -/
  | spareImageLoadDone (f : FieldId)
  /-- HANDBACK (R148). A HANDBACK write returns the loop to the cluster engine at the next input instant. -/
  | handback (slot : Slot) (f : FieldId) (c : ClusterId)
  /-- GENERAL_ENGINE_ERROR (R149). An uncorrectable error on a general engine abandons the running activation and disables the affected tasks. -/
  | generalEngineError (e : EngId) (corrected : Bool) (mask : Byte)
  /-- STICKY_CLEAR (R155). A W1C write clears the engine's sticky flags. -/
  | stickyClear (slot : Slot) (e : EngId) (m : BitVec 16)
  /-- TRACE_ARM (R150). TRACE_CTRL 1 arms the trace unit if it owns its banks. -/
  | traceArm (slot : Slot) (x : TraceId)
  /-- TRACE_STOP (R156). TRACE_CTRL 2 stops the trace. -/
  | traceStop (slot : Slot) (x : TraceId)
  /-- TRACE_RESET (R156). TRACE_CTRL 3 returns the trace unit to idle. -/
  | traceReset (slot : Slot) (x : TraceId)
  /-- TRACE_TRIGGER_CMD (R150). TRACE_CTRL 5 triggers the trace. -/
  | traceTriggerCmd (slot : Slot) (x : TraceId)
  /-- TRACE_TRIGGER (R150). The selected trigger source fires, and the unit records POST_COUNT further entries. -/
  | traceTrigger (x : TraceId)
  /-- TRACE_POST_COUNT_DONE (R150). POST_COUNT entries after the trigger have been recorded, and the unit stops. -/
  | tracePostCountDone (x : TraceId)
  /-- MODULATOR_TRIP (R162). The COT comparator trips, and an on-time is assigned to the next eligible phase of the ring or held. -/
  | modulatorTrip (r : RailReading)
  /-- HELD_TRIP_ASSIGN (R167). A held trip is assigned once a phase becomes eligible. -/
  | heldTripAssign (r : RailId)
  /-- ON_TIME_END (R163). A phase's on-time ends and its PWM goes low. -/
  | onTimeEnd (r : RailId) (p : PhaseId)
  /-- PHASE_CYCLE_LIMIT (R166). The cycle-limit comparator ends the on-time, and runs of limited pulses drop the phase. -/
  | phaseCycleLimit (r : RailId) (p : PhaseReading)
  /-- ZERO_CROSSING (R165). The zero-crossing comparator trips and the PWM goes to mid level. -/
  | zeroCrossing (r : RailId) (p : PhaseReading)
  /-- FALLBACK_MID_TIMER (R166). For a phase in sense fallback, the PWM goes to mid level after the computed fall time. -/
  | fallbackMidTimer (r : RailId) (p : PhaseId)
  /-- STG_EN_LEAD_EXPIRE (R161). 50 µs after STG_EN rises, the rail's first on-time may be issued. -/
  | stgEnLeadExpire (r : RailId)
  /-- STG_EN_DROP (R161). 10 µs after every PWM output of a rail is at mid level, STG_EN goes low. -/
  | stgEnDrop (r : RailId)
  /-- RAIL_IN_REGULATION (R168). After V_FB has stayed within ±3 % of the target for 100 µs, the rail is declared in regulation. -/
  | railInRegulation (r : RailId)
  /-- RAIL_START_TIMEOUT (R168). A rail not in regulation within SS_TIMEOUT raises RAIL_START_FAIL. -/
  | railStartTimeout (r : RailId)
  /-- RAIL_UNDERVOLTAGE (R170). V_FB below 90 % of V_REFNOW for 10 µs stops the rail, latches its Wheel and turns its domains off. -/
  | railUndervoltage (r : RailId)
  /-- AX_ILIMIT_TIMER (R174). AXEXCESS above 0 for 100 µs raises AX_ILIMIT. -/
  | axIlimitTimer (r : RailId)
  /-- PHASE_OPEN_DETECT (R175). A phase with low mean current for OPEN_RUN periods is dropped with PH_OPEN. -/
  | phaseOpenDetect (r : RailId) (p : PhaseId)
  /-- PHASE_DROP_CMD (R195). PH_CTRL 1 drops a phase by command. -/
  | phaseDropCmd (slot : Slot) (r : RailId) (p : PhaseId)
  /-- PHASE_RESTORE (R176). PH_CTRL 2 restores a dropped phase once its fault is cleared, with TRIM 0. -/
  | phaseRestore (slot : Slot) (r : RailId) (p : PhaseId)
  /-- SENSE_FALLBACK_EXIT (R177). A phase leaves fallback after its fault is cleared and 1 ms without a sense-failure condition. -/
  | senseFallbackExit (r : RailId) (p : PhaseId)
  /-- RAIL_OVERCURRENT (R178). RAIL_OC_RUN qualifying 1 µs intervals put the rail in hiccup, zero the codes and turn its domains off. -/
  | railOvercurrent (r : RailId)
  /-- RAIL_HICCUP_RESTART (R178). After RAIL_HICCUP_OFF the rail restarts from its present V_FB. -/
  | railHiccupRestart (r : RailId)
  /-- RAIL_RETRY_WINDOW_CLOSE (R179). The rail's retry window expires with too few hiccups, and the count returns to 0. -/
  | railRetryWindowClose (r : RailId)
  /-- RAIL_OVERVOLTAGE (R180). A rail at or above its overvoltage threshold for 1 µs is discharged low-side and latched. -/
  | railOvervoltage (r : RailId)
  /-- OV_DISCHARGE_END (R180). After the 100 µs discharge the PWM outputs go to mid level and STG_EN goes low. -/
  | ovDischargeEnd (r : RailId)
  /-- STAGE_FAULT (R181). STG_FLT_N low for 200 ns puts the rail at mid level and latches it with STG_FAULT. -/
  | stageFault (r : RailId)
  /-- IBUS_UNDERVOLTAGE (R182). IB below 4.5 V puts FR and AX at mid level and raises IBUS_UV. -/
  | ibusUndervoltage (f : FieldId)
  /-- IBUS_RECOVER (R182). After IB has stayed at or above 4.8 V for 1 ms, the IBUS_UV condition ends and the rails may restart. -/
  | ibusRecover (f : FieldId)
  /-- REMOTE_SENSE_LOST (R184). Remote sense differing from local by more than SNS_WIN for 4 µs switches regulation to local sense. -/
  | remoteSenseLost (r : RailId)
  /-- REMOTE_SENSE_RETURN (R184). The rail returns to remote sense at the first agreeing 10 µs average after SENSE_LOST is cleared. -/
  | remoteSenseReturn (r : RailId)
  /-- R_DROP_LEARN (R185). Once per 1 ms window on remote sense, R_DROP is updated from the local-remote difference. -/
  | rDropLearn (r : RailId) (start stop : BitVec 64)
  /-- CONVERTER_START_READS (R186). START_TIME after the enable, the converter's start reads decide whether it becomes available or start-failed. -/
  | converterStartReads (n : ConvId) (failed : Bool) (tries : Fin 10) (status : BitVec 16) (vin : BitVec 16) (vout : BitVec 16)
  /-- FIRST_CONTACT (R456). The controller reads the converter's identity and capability and writes ON_OFF_CONFIG. -/
  | firstContact (n : ConvId) (acked : Bool) (cap : Byte) (voutMode : Byte) (rev : Byte) (vendor : List Byte) (model : List Byte)
  /-- CONVERTER_POLL (R189). Once per POLL_PERIOD the segment polls its enabled converters. -/
  | converterPoll (k : SegId)
  /-- PMBUS_ALERT (R189). A low ALERT_N leads to an alert-response read and a STATUS_WORD read ahead of the poll. -/
  | pmbusAlert (k : SegId) (addr : BitVec 7)
  /-- PMBUS_TRANSACTION_DONE (R190). A PMBus transaction completes, and its result drives fault, warning, communication-loss and restore judgements. -/
  | pmbusTransactionDone (n : ConvId) (cmd : Byte) (ack pec : Bool) (data : List Byte) (pt : Bool)
  /-- PMBUS_LINE_TIMEOUT (R187). A line held low for 35 ms starts the recovery clocks. -/
  | pmbusLineTimeout (k : SegId)
  /-- PMBUS_RECOVERY_DONE (R187). After the recovery clocks and stop, the segment is working or stuck, with PB_STUCK raised. -/
  | pmbusRecoveryDone (k : SegId) (held : Bool)
  /-- CONVERTER_ENABLE (R198). DX_CTRL 1 enables a converter from state 0 or 5. -/
  | converterEnable (slot : Slot) (n : ConvId)
  /-- CONVERTER_DISABLE (R198). DX_CTRL 2 drives the enable low and gives state 5. -/
  | converterDisable (slot : Slot) (n : ConvId)
  /-- CONVERTER_RESTORE (R191). DX_CTRL 3 clears the converter's faults, makes first contact and holds the enable low before a restart. -/
  | converterRestore (slot : Slot) (n : ConvId)
  /-- RESTORE_HOLD_EXPIRE (R191). After the 10 ms enable-low hold, the restored converter is started. -/
  | restoreHoldExpire (n : ConvId)
  /-- PASS_THROUGH_REQUEST (R193). A PT_REQ write runs a permitted read or CLEAR_FAULTS on a converter ahead of the next poll. -/
  | passThroughRequest (slot : Slot) (n : ConvId) (cmd : Byte) (len : Byte)
  /-- DXEN_DROP_TIMER (R332). 1 ms after FR and AX reach mid level at a field turn-off, the field's converter enables go low. -/
  | dxenDropTimer (f : FieldId)
  /-- ADC_TIMER_TRIGGER (R207). TMR0 or TMR1 fires and triggers its sequences. -/
  | adcTimerTrigger (f : FieldId) (q : AdcId) (tmr : Fin 2)
  /-- SW_TRIG (R207). A SW_TRIG write runs the selected sequences at once. -/
  | swTrig (slot : Slot) (f : FieldId) (q : AdcId) (mask : BitVec 32)
  /-- HOLD_CLOSE (R208). At the sample instant the run's holds close, with LATE, OVERRUN or urgent-drop handling. -/
  | holdClose (f : FieldId) (q : AdcId) (sq : Fin 24)
  /-- FRONTEND_SLOT_START (R202). A slice is free and the front end passes the next held value in priority order. -/
  | frontendSlotStart (f : FieldId) (q : AdcId)
  /-- CONVERSION_RESULT (R211). A conversion result arrives with its flags in the result register and on the result line, and its users take it. -/
  | conversionResult (f : FieldId) (q : AdcId) (code : BitVec 12) (ovr : Bool)
  /-- SLICE_SWAP (R203). Every CAL_PERIOD the spare slice replaces the longest-active slice. -/
  | sliceSwap (f : FieldId) (q : AdcId)
  /-- SLICE_CALIBRATION_DONE (R204). After 40 µs of calibration the slice becomes the spare, or is retired if out of limits. -/
  | sliceCalibrationDone (f : FieldId) (q : AdcId) (ok : Bool)
  /-- REF_EN_WRITE (R205). A REF_EN write disables the reference buffer or starts its 200 µs settling. -/
  | refEnWrite (slot : Slot) (f : FieldId) (q : AdcId) (v : Byte)
  /-- REF_READY (R205). 200 µs after enabling, the reference becomes ready. -/
  | refReady (f : FieldId) (q : AdcId)
  /-- SEQUENCE_WRITE (R206). A sequence descriptor write is checked and takes effect at the next trigger. -/
  | sequenceWrite (slot : Slot) (f : FieldId) (q : AdcId) (n : Fin 24) (word : BitVec 32)
  /-- COMPARATOR_CONFIG_WRITE (R214). A CMP_CFG write configures a comparator and puts it in band when enabled. -/
  | comparatorConfigWrite (slot : Slot) (f : FieldId) (q : AdcId) (n : Fin 4) (word : BitVec 32)
  /-- TELEMETRY_WINDOW_10US (R215). At each 10 µs window end the averages and peaks are formed and published. -/
  | telemetryWindow10us (st : Station)
  /-- TELEMETRY_WINDOW_1MS (R217). At each 1 ms window end the 1 ms figures are formed from the 10 µs averages. -/
  | telemetryWindow1ms (st : Station)
  /-- TELEMETRY_WINDOW_1S (R217). At each 1 s window end the 1 s figures are formed. -/
  | telemetryWindow1s (st : Station)
  /-- HOLD_CLEAR (R218). A write of 0x01 resets the telemetry holds at the next 10 µs window end. -/
  | holdClear (slot : Slot) (a : TelRef) (v : Byte)
  /-- DOMAIN_TABLE_PUBLISH (R220). At each 10 µs and 1 ms hub window end the domain current tables are published, with stale entries carried over. -/
  | domainTablePublish (ms : Bool)
  /-- DESC (R234). A Culture descriptor write is checked and tied to an image. -/
  | desc (slot : Slot) (f : FieldId) (g : Fin 4) (data : List Byte)
  /-- LEARNING_WINDOW_END (R236). At each 1 ms learning window end the field station sends close markers to the clusters. -/
  | learningWindowEnd (f : FieldId)
  /-- ENERGY_REPLY_RECEIVE (R239). The cluster's measured energy arrives; the interval is judged for learning, snapshot, disagreement, freeze and thaw. -/
  | energyReplyReceive (f : FieldId) (t : TileId)
  /-- FREEZE_TILE_CMD (R253). FREEZE_CTRL 1 freezes the masked tiles. -/
  | freezeTileCmd (slot : Slot) (f : FieldId) (mask : BitVec 16)
  /-- THAW_TILE_CMD (R240). FREEZE_CTRL 2 thaws a commanded freeze. -/
  | thawTileCmd (slot : Slot) (f : FieldId) (mask : BitVec 16)
  /-- RESTART_LEARNING_CMD (R253). FREEZE_CTRL 3 restarts learning from W_INIT. -/
  | restartLearningCmd (slot : Slot) (f : FieldId) (mask : BitVec 16)
  /-- SERVICE_SPLIT (R242). Every 10 µs the field station splits the measured service energy among the slots. -/
  | serviceSplit (f : FieldId)
  /-- LEDGER_ADD_ISSUE (R243). Every LEDGER_PERIOD the field station issues atomic adds of whole µJ to the ledger entries. -/
  | ledgerAddIssue (f : FieldId)
  /-- JOB_OPEN (R246). Opens or reopens a job entry, evicting a closed entry or charging the job to overflow. -/
  | jobOpen (slot : Slot) (id : BitVec 64)
  /-- JOB_CLOSE (R247). Clears the job's bindings, sets it closing and requests flushes from every field station. -/
  | jobClose (slot : Slot) (id : BitVec 64)
  /-- FLUSH_REPLY (R247). A field station's flush reply arrives; when all eight have replied, the entry becomes closed. -/
  | flushReply (f : FieldId) (h : Fin 4096)
  /-- JOB_FREE (R247). Zeroes and frees a closed entry. -/
  | jobFree (slot : Slot) (h : BitVec 16)
  /-- JOB_FIND (R254). Returns the handle of an identifier held in an own entry. -/
  | jobFind (slot : Slot) (id : BitVec 64)
  /-- FLUSH_ACK (R248). Releases the given number of oldest flush records. -/
  | flushAck (slot : Slot) (n : BitVec 16)
  /-- BIND (R249). A binding write for a partition's queues is checked and sent to the field stations. -/
  | bind (slot : Slot) (p : PartId) (data : List Byte)
  /-- BINDING_RECEIVE (R249). A field station receives a binding, which takes effect at its next tile interval. -/
  | bindingReceive (f : FieldId) (p : PartId)
  /-- WINDOW_START (R258). At each 1 µs window start the field station writes token words and sends feed-forward and pre-position messages. -/
  | windowStart (f : FieldId)
  /-- INPUT_FREEZE (R260). At 600 ns the inputs freeze and the peak ceiling and lowest-wins selection are computed for the next window. -/
  | inputFreeze (f : FieldId)
  /-- FORCED_ZERO (R261). A forced cause reaches the field station, which puts a code-0 word into the token crossing at once. -/
  | forcedZero (f : FieldId) (t : TileId)
  /-- BUDGET_ARBITER_PERIOD (R264). Every 10 µs the hub shares the die budget among partitions and updates C[p], C_COOL, the die share and the die credit. -/
  | budgetArbiterPeriod
  /-- HUB_FIGURE_RECEIVE (R266). A field station receives hub figures, applied to window w + 1 or w + 2. -/
  | hubFigureReceive (f : FieldId)
  /-- PART_CLAIM (R263). Claims a partition from a 32-byte descriptor, or refuses the claim with a result code. -/
  | partClaim (slot : Slot) (desc : List Byte)
  /-- PART_RELEASE (R263). Releases a partition, unbinding its queues, clearing its pace and returning its grant. -/
  | partRelease (slot : Slot) (n : BitVec 16)
  /-- PACE (R286). Sets or removes a partition's pace ceiling and starts its lapse. -/
  | pace (slot : Slot) (p : PartId) (v : BitVec 16)
  /-- PACE_LAPSE (R287). PACE_TTL ends without a further write, and the pace ceiling is removed. -/
  | paceLapse (p : PartId)
  /-- THERMAL_FIGURES_RECEIVE (R273). Node temperatures arrive, and the per-node thermal candidates are updated. -/
  | thermalFiguresReceive (f : FieldId)
  /-- INRUSH_REQUEST (R275). The sequencer queues a reservation request at a field station, or it is refused with a full queue. -/
  | inrushRequest (d : DomId)
  /-- INRUSH_GRANT (R276). At the first window whose headroom covers the head request, the reservation is granted. -/
  | inrushGrant (f : FieldId)
  /-- INRUSH_TIMEOUT_EXPIRE (R277). The head request is not granted within INRUSH_TIMEOUT, and the make-room ceiling starts with ROOM_FORCED. -/
  | inrushTimeoutExpire (f : FieldId)
  /-- RESERVATION_RELEASE (R276). A reservation is removed once its domain has been RUNNING for 100 µs or its turn-on has failed. -/
  | reservationRelease (d : DomId)
  /-- SIGNATURE_RECEIVE (R280). The hub receives a tile's activity signature and matches it against the Curd table. -/
  | signatureReceive (f : FieldId) (t : TileId)
  /-- CURD_LEARN (R280). 100 µs after a signature or phase mark, the Curd entry is updated or inserted. -/
  | curdLearn
  /-- HINT_RECEIVE (R282). A hint word is queued, displacing the oldest when the queue is full. -/
  | hintReceive (f : FieldId) (t : TileId) (word : BitVec 32)
  /-- HINT_ACT (R283). At the time its lead gives, a hint raises or caps demand or ends predictions. -/
  | hintAct (f : FieldId) (t : TileId)
  /-- HINT_EXPIRE (R283). HINT_LIFE after its lead, a hint prediction ends. -/
  | hintExpire (f : FieldId) (t : TileId)
  /-- POS_REQ_SEND (R285). At its scheduled time the field station sends the cluster a pre-position request or its return to 0. -/
  | posReqSend (f : FieldId) (t : TileId)
  /-- CURD_CLEAR (R294). Frees every Curd entry at the next arbiter period. -/
  | curdClear (slot : Slot) (v : Byte)
  /-- THR_CLEAR (R297). Zeroes the tile's throttle counters at one window start. -/
  | thrClear (slot : Slot) (f : FieldId) (t : TileId) (v : Byte)
  /-- ARB_STALE_TIMER (R292). With no arbiter period for 100 µs the field station raises ARB_STALE and holds the hub figures. -/
  | arbStaleTimer (f : FieldId)
  /-- THERMAL_UPDATE (R299). Every 10 µs the thermal unit steps its model, sends T_J and ITHERM, and makes the model trip comparison. -/
  | thermalUpdate (f : FieldId) (mismatch : Bool)
  /-- DIODE_CORRECTION (R302). Once per ms T_OFS is corrected from the diode residuals, with split and range checks. -/
  | diodeCorrection (f : FieldId)
  /-- DIODE_TIMEOUT (R304). A diode with no valid conversion for 1 ms becomes invalid. -/
  | diodeTimeout (f : FieldId) (k : Fin 2)
  /-- DIODE_START_TIMEOUT (R305). No diode valid 10 ms after the references are ready raises TH_DIODE_LOST. -/
  | diodeStartTimeout (f : FieldId)
  /-- PARAMS (R300). A thermal parameter block write is checked and takes effect at the next update. -/
  | params (slot : Slot) (f : FieldId) (data : List Byte)
  /-- ELYTRON_TRIP (R309). A rise of the die trip line zeroes every tile code, asserts THERMTRIP_N and stops every domain. -/
  | elytronTrip
  /-- TRIP_RAMPDOWN_DONE (R310). All domains are STOPPED after a trip, and the state moves to waiting or locked. -/
  | tripRampdownDone
  /-- TRIP_AUTO_RESTART (R310). With COOL_OK, WAIT_OK and no inhibit, the automatic restart turns on the restart set. -/
  | tripAutoRestart
  /-- TRIP_RESTART_COMPLETE (R310). Every domain requested in the restart is up or failed, and the state returns to normal. -/
  | tripRestartComplete
  /-- RESTART_WINDOW_CLOSE (R311). The 10-minute window closes and AUTO_RESTARTS resets to 0. -/
  | restartWindowClose
  /-- PENDING_CLEAR (R311). After a reset during a trip, PENDING clears once COOL_OK holds and RESTART_WAIT has passed. -/
  | pendingClear
  /-- TRIP_RESTART_CMD (R310). TRIP_CTRL 1 restarts from the waiting or locked state when its conditions hold. -/
  | tripRestartCmd (slot : Slot)
  /-- TRIP_INHIBIT_SET (R314). TRIP_CTRL 2 sets the command inhibit of automatic restart. -/
  | tripInhibitSet (slot : Slot)
  /-- TRIP_INHIBIT_REMOVE (R314). TRIP_CTRL 3 removes the command inhibit. -/
  | tripInhibitRemove (slot : Slot)
  /-- TRIP_TEST (R314). TRIP_CTRL 4 fires a test trip with cause 3. -/
  | tripTest (slot : Slot)
  /-- TCRIT (R314). A TCRIT write is checked against its limits and reaches every field unit. -/
  | tcrit (slot : Slot) (v : BitVec 16)
  /-- VIO18_LOSS (R318). VIO18 absent zeroes every tile code, turns the cells and rails off, stops the Wheels and raises SUP_VIO_LOST. -/
  | vio18Loss
  /-- VIO18_PRESENT (R316). VIO18 becomes present and the SUP_VIO_LOST condition ends. -/
  | vio18Present (straps : BitVec 4) (opt0 : Option (BitVec 32)) (opt1 : Option (BitVec 32))
  /-- VSTBY_LOSS (R319). The loss of VSTBY takes AON down and the controller stops without a ramp. -/
  | vstbyLoss
  /-- SEQ_ARM (R322). A write of 0x01 arms the sequencer and releases RST_OUT_N after the stretch; 0x00 disarms it. -/
  | seqArm (slot : Slot) (v : Byte)
  /-- DOMAIN_ON (R323). SEQ_REQ OP 1 requests a domain turn-on after the checks of R323. -/
  | domainOn (slot : Slot) (d : DomId)
  /-- DOMAIN_OFF (R331). SEQ_REQ OP 2 turns a domain off, its dependants first. -/
  | domainOff (slot : Slot) (d : DomId)
  /-- FIELD_ON (R325). SEQ_REQ OP 3 starts the field's converters and rail and then its domains in fixed order. -/
  | fieldOn (slot : Slot) (f : FieldId)
  /-- FIELD_OFF (R332). SEQ_REQ OP 4 turns a field off in reverse order. -/
  | fieldOff (slot : Slot) (f : FieldId)
  /-- DIE_ON (R327). SEQ_REQ OP 5 brings up the fields in FIELD_ORDER, up to SEQ_PARALLEL at once. -/
  | dieOn (slot : Slot)
  /-- DIE_OFF (R332). SEQ_REQ OP 6 takes every field down at once. -/
  | dieOff (slot : Slot)
  /-- DOMAIN_POWER_GOOD (R328). Every active cluster has left STARTING and held MIN within DOM_PG_BAND for 10 µs; the turn-on completes and the next domain may start. -/
  | domainPowerGood (d : DomId)
  /-- DOMAIN_START_TIMEOUT (R328). DOM_SS_TIMEOUT passes without completion; the clusters turn off and the domain latches with DOM_START_FAIL. -/
  | domainStartTimeout (d : DomId)
  /-- STOP_DRAIN_EXPIRE (R331). After STOP_DRAIN the domain's clusters enter STOPPING. -/
  | stopDrainExpire (d : DomId)
  /-- AUX_RAIL_DISCHARGED (R331). AX reads below 50 mV and the auxiliary domain is STOPPED. -/
  | auxRailDischarged (f : FieldId)
  /-- POWER_ON_RESET (R341). AON entering range after VSTBY arrives, or a brownout, asserts the power-on reset. -/
  | powerOnReset (brownout : Bool)
  /-- AON_RANGE (R341). AON enters the out-of-range band without reset, and AON_RANGE is raised. -/
  | aonRange
  /-- RESET_PIN (R343). An accepted low pulse on RESET_IN_N starts a system reset. -/
  | resetPin
  /-- RESET_ARM (R358). A write of 0x01 arms RESET_CTRL for 1 ms. -/
  | resetArm (slot : Slot) (v : Byte)
  /-- CORE_RESET_CMD (R338). RESET_CTRL 1 starts a core reset. -/
  | coreResetCmd (slot : Slot)
  /-- SYSTEM_RESET_CMD (R347). RESET_CTRL 2 starts a system reset through the shutdown stage. -/
  | systemResetCmd (slot : Slot)
  /-- RESET_RELEASE (R347). A power-on or system reset is released; the straps are sampled and the option words loaded. -/
  | resetRelease (straps : BitVec 4) (opt0 : Option (BitVec 32)) (opt1 : Option (BitVec 32))
  /-- RESET_STRETCH_END (R348). RST_STRETCH has run out since release, and RST_OUT_N may be released. -/
  | resetStretchEnd
  /-- WATCHDOG_EXPIRE (R344). The core watchdog expires, causing a core reset with CORE_WDOG. -/
  | watchdogExpire
  /-- WDOG_KICK (R344). Restarts the watchdog with WDOG_PERIOD. -/
  | wdogKick (slot : Slot) (v : Byte)
  /-- CRITICAL_ERROR (R345). An uncorrectable error in critical state triggers its reset action: park, mirror takeover or system reset. -/
  | criticalError (item : CritItem)
  /-- BLOCK_RESET_START (R346). BLK_CTRL 1 closes a unit's Rind and applies a block reset if the request is accepted. -/
  | blockResetStart (slot : Slot)
  /-- BLOCK_SELF_TEST_DONE (R346). The block's self-test completes, and the Rind opens or the block stays closed with BLK_FAIL. -/
  | blockSelfTestDone (u : BlkUnit) (pass : Bool)
  /-- RIND_OPEN_CMD (R346). BLK_CTRL 2 opens the Rind where the block reset allows it. -/
  | rindOpenCmd (slot : Slot)
  /-- BOOT_SOURCE_DONE (R355). The boot ROM finishes reading and checking an image from a source, and starts firmware or falls back. -/
  | bootSourceDone (answered : Bool)
  /-- FIRMWARE_READY (R339). Firmware signals ready, and the core Rind opens to firmware-served requests. -/
  | firmwareReady
  /-- CLOCK_GOOD (R356). An interface's clock-good arrives, and the interface leaves reset. -/
  | clockGood (n : Fin 6)
  /-- CLK_GOOD_TIMEOUT (R356). Clock-good does not arrive within 1 ms, and the interface stays in reset. -/
  | clkGoodTimeout (n : Fin 6)
  /-- REFCLK_LOSS (R447). REFCLK out of tolerance for 10 µs clears CLK_GOOD bit 0, and the timers continue on their oscillators. -/
  | refclkLoss
  /-- FAULT_RAISE (R367). A fault message reaches the collector; it is entered, logged, acted on at its severity and notified, or added to an existing record. -/
  | faultRaise (code : BitVec 16) (st : Station) (k : BitVec 16) (resend : Bool)
  /-- FAULT_ACTION_RECEIVE (R364). A CONTAIN or STOP action reaches its target station and is performed. -/
  | faultActionReceive (code : BitVec 16) (st : Station) (k : BitVec 16)
  /-- FAULT_ACK_RECEIVE (R372). The collector's acknowledgement reaches the raising station, which releases its dual-rail pair. -/
  | faultAckReceive (st : Station) (code : BitVec 16) (k : BitVec 16)
  /-- CONDITION_END_REPORT (R362). A station reports the end of a condition fault to the collector. -/
  | conditionEndReport (code : BitVec 16) (st : Station) (k : BitVec 16)
  /-- FAULT_ESCALATION (R370). ESC_DUE passes on an uncleared record; its severity rises and the new action is performed. -/
  | faultEscalation (code : BitVec 16) (st : Station) (k : BitVec 16)
  /-- FLT_CLEAR (R371). Clears the matching records whose conditions have ended. -/
  | fltClear (slot : Slot) (word : BitVec 64)
  /-- FLT_CLEAR_ALL (R371). Clears every clearable record. -/
  | fltClearAll (slot : Slot)
  /-- WIRE_FAULT (R372). A dual-rail pair with equal rails for 50 ns raises FLT_WIRE. -/
  | wireFault (f : FieldId) (pair : Option ClusterId)
  /-- WIRE_FAULT_END (R372). A valid encoding held for 1 ms ends the wire fault. -/
  | wireFaultEnd (f : FieldId) (pair : Option ClusterId)
  /-- RESEND_REQUEST (R373). A pair outstanding for 20 µs, or every 100 µs during a wire fault, makes the hub request resends. -/
  | resendRequest (f : FieldId)
  /-- INJ_ARM (R374). Arms INJ_REQ for 1 ms. -/
  | injArm (slot : Slot)
  /-- INJ_REQ (R374). Names a checker, unit and mode for one injection. -/
  | injReq (slot : Slot) (word : BitVec 32)
  /-- INJECTION_APPLY (R374). At the next write to the named store or flit on the link, the inverted check bits are applied. -/
  | injectionApply (e : ColErr) (cls : NetClass) (mask : Byte)
  /-- MEMORY_ACCESS (R382). A 4- or 8-byte bank read or write is checked for ownership and alignment and performed. -/
  | memoryAccess (pad : PadRef) (agent : BitVec 16) (addr : BitVec 32) (wide : Bool) (data : Option (BitVec 64)) (clash : Clash) (err : WordErr)
  /-- ADD32 (R388). Atomic 32-bit add returning the old value. -/
  | add32 (pad : PadRef) (agent : BitVec 16) (addr : BitVec 32) (v : BitVec 32) (clash : Clash) (err : WordErr)
  /-- ADD64 (R388). Atomic 64-bit add returning the old value. -/
  | add64 (pad : PadRef) (agent : BitVec 16) (addr : BitVec 32) (v : BitVec 64) (clash : Clash) (err : WordErr)
  /-- SWAP32 (R388). Atomic 32-bit swap returning the old value. -/
  | swap32 (pad : PadRef) (agent : BitVec 16) (addr : BitVec 32) (v : BitVec 32) (clash : Clash) (err : WordErr)
  /-- SWAP64 (R388). Atomic 64-bit swap returning the old value. -/
  | swap64 (pad : PadRef) (agent : BitVec 16) (addr : BitVec 32) (v : BitVec 64) (clash : Clash) (err : WordErr)
  /-- OWNER (R386). An OWNER write hands a bank to a new owner when the conditions hold. -/
  | owner (slot : Slot) (pad : PadRef) (b : Fin 64) (w : BitVec 16)
  /-- SCRUB_PASS (R389). Once per SCRUB_PERIOD a bank is scrubbed, which may start an automatic column repair. -/
  | scrubPass (pad : PadRef) (b : Fin 64) (errs : List ColErr) (uncorr : List (BitVec 12))
  /-- REPAIR_CTRL (R391). Starts a soft column repair through a repair handover. -/
  | repairCtrl (slot : Slot) (pad : PadRef) (b : Fin 64) (w : BitVec 16)
  /-- REPAIR_HANDOVER_END (R392). The rebuild and verify complete; the bank returns to its owner or fails. -/
  | repairHandoverEnd (pad : PadRef) (b : Fin 64) (uncorr : List (BitVec 12)) (newErr : Bool)
  /-- PAGE_MOVE_DONE (R394). A context move completes, or ends with an error, or the context is lost. -/
  | pageMoveDone (pad : PadRef) (kind : Fin 6) (id : BitVec 32) (addr : BitVec 32) (len : BitVec 32) (dest : PagePlace) (result : PageResult)
  /-- HOST_TIER_SIZE (R395). A non-zero write grants the host tier; a zero write ends it. -/
  | hostTierSize (slot : Slot) (v : BitVec 32)
  /-- TRACE_DUMP (R398). Copies a stopped trace ring to the host tier. -/
  | traceDump (slot : Slot) (v : BitVec 16)
  /-- READ (R404). An expedited read of an object of 8 bytes or fewer. -/
  | read (slot : Slot) (a : DictAddr)
  /-- WRITE (R404). An expedited write of an object of 8 bytes or fewer. -/
  | write (slot : Slot) (a : DictAddr) (val : List Byte)
  /-- SEG_READ_INIT (R405). Opens a segmented read and returns the object's length. -/
  | segReadInit (slot : Slot) (a : DictAddr)
  /-- SEG_READ (R405). Reads a segment from the snapshot taken at the first segment. -/
  | segRead (slot : Slot) (a : DictAddr) (offset : BitVec 32) (count : BitVec 16)
  /-- SEG_WRITE_INIT (R405). Opens a segmented write and reserves buffer space. -/
  | segWriteInit (slot : Slot) (a : DictAddr) (total : BitVec 32)
  /-- SEG_WRITE (R405). Writes a segment at the next ascending offset. -/
  | segWrite (slot : Slot) (a : DictAddr) (offset : BitVec 32) (data : List Byte)
  /-- SEG_END (R405). Ends a segmented transfer; for a write, the value takes effect whole. -/
  | segEnd (slot : Slot) (a : DictAddr) (count : BitVec 32)
  /-- ABORT (R403). Ends the session's transfer with no effect. -/
  | abortCmd (slot : Slot)
  /-- SESSION_CLOSE (R403). Frees the session slot after the response. -/
  | sessionClose (slot : Slot)
  /-- NOTIFY (R407). The controller sends a queued notification record to a session. -/
  | notify (slot : Slot)
  /-- XFER_TIMEOUT (R405). A transfer with no message for XFER_TIMEOUT ends with the timeout abort. -/
  | xferTimeout (slot : Slot)
  /-- SESSION_IDLE (R401). An MCTP session idle for SESSION_IDLE with NOTE_SEV 0 is freed. -/
  | sessionIdle (slot : Slot)
  /-- MCTP_PACKET (R408). An MCTP packet is received and assembled into a message, or discarded. -/
  | mctpPacket (b : Fin 2) (packet : List Byte)
  /-- MCTP_ASSEMBLY_TIMEOUT (R408). A message not complete 100 ms after its first packet is discarded. -/
  | mctpAssemblyTimeout (b : Fin 2) (src : Byte) (tag : Fin 8)
  /-- SET_ENDPOINT_ID (R409). Sets the binding's EID and frees its MCTP sessions. -/
  | setEndpointId (b : Fin 2) (eid : Byte) (fromOwner : Bool)
  /-- GET_ENDPOINT_ID (R409). Returns the EID and the endpoint type. -/
  | getEndpointId (b : Fin 2)
  /-- GET_ENDPOINT_UUID (R409). Returns a UUID formed from SERIAL. -/
  | getEndpointUuid (b : Fin 2)
  /-- GET_MCTP_VERSION_SUPPORT (R409). Returns version 1.3. -/
  | getMctpVersionSupport (b : Fin 2) (msgType : Byte)
  /-- GET_MESSAGE_TYPE_SUPPORT (R409). Returns message type 0x7F. -/
  | getMessageTypeSupport (b : Fin 2)
  /-- GET_VENDOR_DEFINED_MESSAGE_SUPPORT (R409). Returns the enterprise number and the Phosen version. -/
  | getVendorDefinedMessageSupport (b : Fin 2) (selector : Byte)
  /-- I3C_ADDRESS_ASSIGN (R410). SETDASA or ENTDAA assigns the target's dynamic address. -/
  | i3cAddressAssign (viaStatic : Bool) (addr : Fin 128)
  /-- I3C_PRIVATE_READ (R410). A private read takes the pending message announced by the in-band interrupt. -/
  | i3cPrivateRead
  /-- PCIE_CROSSING_UP (R401). The PCIe message crossing comes up and the window channel sessions open. -/
  | pcieCrossingUp
  /-- PCIE_CROSSING_DOWN (R395). The crossing goes down or the host resets; the window sessions close and the host tier ends. -/
  | pcieCrossingDown (hostReset : Bool)
  /-- WINDOW_BAD_ACCESS (R412). An unaligned or wrong-size window access is counted and dropped. -/
  | windowBadAccess (isWrite : Bool)
  /-- PART_CLAIM_GO (R413). Writes the staged descriptor to PART_CLAIM. -/
  | partClaimGo (ch : ChanId) (desc : List Byte)
  /-- BIND_GO (R413). Writes the staged binding block to BIND of the partition. -/
  | bindGo (ch : ChanId) (p : PartId) (data : List Byte)
  /-- WINDOW_DICT_READ (R413). DICT_CTRL 1 performs an expedited read through the channel. -/
  | windowDictRead (ch : ChanId) (a : DictAddr)
  /-- WINDOW_DICT_WRITE (R413). DICT_CTRL 2 performs an expedited write through the channel. -/
  | windowDictWrite (ch : ChanId) (a : DictAddr) (len : BitVec 32) (data : BitVec 64)
  /-- WINDOW_SEGMENT_READ (R413). DICT_CTRL 3 reads a segment into BUFFER; at offset 0 it also opens the transfer. -/
  | windowSegmentRead (ch : ChanId) (a : DictAddr) (offset : BitVec 32) (len : BitVec 32)
  /-- WINDOW_SEGMENT_WRITE (R413). DICT_CTRL 4 writes a segment from BUFFER; at offset 0 it also opens the transfer. -/
  | windowSegmentWrite (ch : ChanId) (a : DictAddr) (offset : BitVec 32) (total : BitVec 32) (data : List Byte)
  /-- WINDOW_SEG_END (R413). DICT_CTRL 5 ends a segmented transfer. -/
  | windowSegEnd (ch : ChanId)
  /-- WINDOW_ABORT (R413). DICT_CTRL 6 aborts the channel's transfer. -/
  | windowAbort (ch : ChanId)
  /-- NOTE_ACK (R413). Removes the oldest notification from the channel's queue. -/
  | noteAck (ch : ChanId)
  /-- IMAGE_OPEN (R427). IMG_CTRL 1 erases the target area and opens the transfer. -/
  | imageOpen (slot : Slot)
  /-- IMAGE_ERASE_DONE (R427). The erase completes and IMG_STATE goes to receiving. -/
  | imageEraseDone (k : Fin 3)
  /-- IMG_CHUNK (R427). Programs a chunk at its offset and reads it back. -/
  | imgChunk (slot : Slot) (data : List Byte) (k : Fin 3)
  /-- IMAGE_CHECK (R423). IMG_CTRL 2 starts the format, key, signature and rollback checks. -/
  | imageCheck (slot : Slot)
  /-- IMAGE_CHECK_DONE (R423). The checks end in the checked or rejected state. -/
  | imageCheckDone (answered : Bool)
  /-- IMAGE_SWITCH (R427). IMG_CTRL 3 programs the new SLOT_SEQ and starts a core reset of cause 9, or starts the recovery buffer. -/
  | imageSwitch (slot : Slot)
  /-- IMAGE_CONFIRM (R427). IMG_CTRL 4 confirms the running image. -/
  | imageConfirm (slot : Slot)
  /-- MANIFEST_INSTALL (R429). IMG_CTRL 5 installs the manifest at one instant. -/
  | manifestInstall (slot : Slot)
  /-- IMAGE_ABORT (R436). IMG_CTRL 6 ends the open transfer. -/
  | imageAbort (slot : Slot)
  /-- ROLLBACK_COMMIT (R425). IMG_CTRL 7 burns rollback fuses up to ACTIVE_SVN. -/
  | rollbackCommit (slot : Slot) (ok : Bool)
  /-- KEY_REVOKE (R424). Burns a key slot's revocation fuse. -/
  | keyRevoke (slot : Slot) (k : Byte)
  /-- TRIAL_EXPIRE (R428). CONFIRM_TIME runs out in trial, causing a core reset with MLT_TRIAL_EXPIRE. -/
  | trialExpire
  /-- MIRROR_REFILL_DONE (R431). The arbiter mirror refill completes and MIRROR_STATE returns to 0. -/
  | mirrorRefillDone
  /-- EXTEST (R450). Selects the boundary register and drives the pins from it, if the intrusive conditions hold. -/
  | extest (cells : Option (BitVec 988))
  /-- IDCODE (R450). Selects the identification register. -/
  | idcode
  /-- SAMPLE_PRELOAD (R450). Selects the boundary register without driving the pins. -/
  | samplePreload (cells : Option (BitVec 988))
  /-- TAP_CLAMP (R450). Holds the pins from the boundary register and selects bypass, if permitted. -/
  | tapClamp
  /-- HIGHZ (R450). Leaves every output not driven, if permitted. -/
  | highz
  /-- LOOPBACK_TEST (R453). Selects the loopback register for analog pin tests, if permitted. -/
  | loopbackTest
  /-- BYPASS (R450). Selects the bypass register. -/
  | bypass
  /-- LOOPBACK_UPDATE_DR (R453). Update-DR applies the loopback pin and test current. -/
  | loopbackUpdateDr (pin : BitVec 9) (cur : Fin 4)
  /-- LOOPBACK_CONVERSION (R453). Every 1 µs the tested pin is converted single-ended. -/
  | loopbackConversion (code : BitVec 12)
  /-- TAP_RESET (R452). A TAP reset selects IDCODE and returns the pins to R320. -/
  | tapReset
  /-- FIELD_RAIL_DISCHARGED (R331). A field rail turned off reads below 50 mV, and the field Wheel leaves STOPPING for STOPPED. -/
  | fieldRailDischarged (f : FieldId)
  /-- VBAK_LOSS (R316). VBAK falls below 1.55 V; SUPPLY_STATUS bit 1 clears, and if VSTBY is also absent the backup domain's contents are lost. -/
  | vbakLoss
  /-- VBAK_RETURN (R316). VBAK rises to 1.60 V or more, and SUPPLY_STATUS bit 1 sets. -/
  | vbakReturn
  /-- AON_IN_RANGE (R341). AON returns from the out-of-range band into 0.70 V to 0.80 V, the guarantee of R50 holds again and the AON_RANGE condition ends. -/
  | aonInRange
  /-- PMBUS_LINE_RELEASED (R187). A stuck PMBus SDA or SCL line is released, ending the PB_STUCK condition and the stuck state of the segment. -/
  | pmbusLineReleased (k : SegId)
  /-- DISEC (R410). The active I3C controller disables in-band interrupts by DISEC, or enables them again, deciding whether pending NOTIFY messages raise an IBI. -/
  | disec (disable : Bool)
  /-- INJ_ARM_EXPIRE (R374). 1 ms after INJ_ARM with no INJ_REQ, the arm lapses and INJ_STATE leaves armed. -/
  | injArmExpire
  /-- RESET_ARM_EXPIRE (R358). 1 ms after RESET_ARM the arming of RESET_CTRL lapses. -/
  | resetArmExpire
  /-- CLUSTER_ENGINE_RELOAD_DONE (R115). After an accepted Release of a cluster parked under R147, the field station finishes loading the cluster's image into its engine; the engine resumes with RESEED and the cluster starts. -/
  | clusterEngineReloadDone (f : FieldId) (c : ClusterId)
  /-- FLASH_PROGRAM_DONE (R427). A flash program of SLOT_SEQ, CONFIRM or a manifest area completes with read-back, leading to the core reset of a switch or ending in error 8. -/
  | flashProgramDone (ok : Bool)
deriving DecidableEq, Repr

end Sys2Proof
end

