-- ==== Sys2Proof/Machine/FaultTable.lean ====
section
/-!
DEFINITION. The fault codes of R361, R397, R417 and R435: kind, default severity and the unit that CONTAIN isolates.
-/
namespace Sys2Proof.Machine

/-- What CONTAIN isolates (the column Contained of R361). -/
inductive Contained
  | none | mr | cluster | domain | field | rail | phase | converter | segment | adc | engine | fieldAux
deriving DecidableEq, Repr

/-- One line of R361. -/
structure FaultRow where
  code : Nat
  condition : Bool
  severity : Nat
  contained : Contained
deriving DecidableEq, Repr

namespace F
def CFG_RANGE : Nat := 0x0101
def FLT_WIRE : Nat := 0x0102
def FLT_MSG_LOST : Nat := 0x0103
def NET_LINK_FH : Nat := 0x0201
def NET_FIELD_ISOL : Nat := 0x0202
def NET_LINK_CL : Nat := 0x0203
def MR_OC_RETIRE : Nat := 0x0301
def MR_OPEN_RETIRE : Nat := 0x0302
def CL_MR_DERATE : Nat := 0x0303
def CL_MR_EXHAUST : Nat := 0x0304
def CL_SHORT : Nat := 0x0305
def DOM_SHORT : Nat := 0x0306
def DS_MASKED : Nat := 0x0307
def DS_MASK_MANY : Nat := 0x0308
def DS_FEW : Nat := 0x0309
def CL_LATE : Nat := 0x0401
def CL_FB_LOST : Nat := 0x0402
def CL_FB_FROZEN : Nat := 0x0403
def CL_HOLD_EXPIRE : Nat := 0x0404
def CL_FENCE : Nat := 0x0405
def CL_TILE_IMPL : Nat := 0x0406
def ENG_SAT : Nat := 0x0501
def ENG_DEADLINE_CTL : Nat := 0x0502
def ENG_DEADLINE_EST : Nat := 0x0503
def ENG_FAIL : Nat := 0x0504
def ENG_NO_SPARE : Nat := 0x0505
def ENG_LOAD_REJECT : Nat := 0x0506
def PH_OC : Nat := 0x0601
def PH_OPEN : Nat := 0x0602
def PH_SNS_FAIL : Nat := 0x0603
def RAIL_SNS_FEW : Nat := 0x0604
def RAIL_OC : Nat := 0x0605
def FR_SHORT : Nat := 0x0606
def AX_SHORT : Nat := 0x0607
def FR_OV : Nat := 0x0608
def AX_OV : Nat := 0x0609
def RAIL_UV : Nat := 0x060A
def RAIL_START_FAIL : Nat := 0x060B
def STG_FAULT : Nat := 0x060C
def IBUS_UV : Nat := 0x060D
def SENSE_LOST : Nat := 0x060E
def RAIL_OL_HOLD : Nat := 0x060F
def AX_ILIMIT : Nat := 0x0610
def BUSVIN_RANGE : Nat := 0x0701
def DX_FAULT : Nat := 0x0702
def DX_START_FAIL : Nat := 0x0703
def DX_COMM : Nat := 0x0704
def DX_WARN : Nat := 0x0705
def DX_FORMAT : Nat := 0x0706
def PB_STUCK : Nat := 0x0707
def ADC_SLICE_FAIL : Nat := 0x0801
def ADC_FAIL : Nat := 0x0802
def ADC_WINDOW : Nat := 0x0803
def ADC_OVR : Nat := 0x0804
def EST_DISAGREE : Nat := 0x0901
def EST_NO_DESC : Nat := 0x0902
def LEDGER_OVERFLOW : Nat := 0x0903
def LEDGER_FLUSH_FULL : Nat := 0x0904
def LEDGER_GAP : Nat := 0x0905
def PART_FLOOR_SHORT : Nat := 0x0A01
def DIE_PEAK_SPENT : Nat := 0x0A02
def ROOM_FORCED : Nat := 0x0A03
def INRUSH_REFUSED : Nat := 0x0A04
def ARB_STALE : Nat := 0x0A05
def PACE_LAPSE : Nat := 0x0A06
def ELYTRON_TRIP : Nat := 0x0B01
def TRIP_LOCKED : Nat := 0x0B02
def TH_CORR_RANGE : Nat := 0x0B03
def TH_DIODE_SPLIT : Nat := 0x0B04
def TH_DIODE_LOST : Nat := 0x0B05
def TH_UNIT_FAIL : Nat := 0x0B06
def TH_BLIND : Nat := 0x0B07
def TH_PARAM_REJECT : Nat := 0x0B08
def SUP_VIO_LOST : Nat := 0x0C01
def SUP_BAK_LOST : Nat := 0x0C02
def DOM_START_FAIL : Nat := 0x0C03
def SEQ_DEP_OFF : Nat := 0x0C04
def AON_RANGE : Nat := 0x0D01
def CORE_WDOG : Nat := 0x0D02
def CRIT_CLUSTER : Nat := 0x0D03
def CRIT_ARB : Nat := 0x0D04
def BLK_FAIL : Nat := 0x0D05
def BOOT_OPT_ERR : Nat := 0x0D06
def BOOT_SRC_RSVD : Nat := 0x0D07
def BOOT_FAIL : Nat := 0x0D08
def CLK_GOOD_TIMEOUT : Nat := 0x0D09
def MEM_OWNER : Nat := 0x0E01
def MEM_UNCORR : Nat := 0x0E02
def MEM_REPAIR : Nat := 0x0E03
def MEM_NO_SPARE : Nat := 0x0E04
def MEM_BANK_FAIL : Nat := 0x0E05
def MEM_HOST_TIER : Nat := 0x0E06
def MEM_PAGE_LOST : Nat := 0x0E07
def PHO_SESSION_FULL : Nat := 0x0F01
def PHO_NOTE_LOST : Nat := 0x0F02
def PHO_XFER_TIMEOUT : Nat := 0x0F03
def PHO_DENIED : Nat := 0x0F04
def PHO_PCIE_DOWN : Nat := 0x0F05
def MLT_IMG_REJECT : Nat := 0x1001
def MLT_REVERT : Nat := 0x1002
def MLT_TRIAL_EXPIRE : Nat := 0x1003
def MLT_MIRROR : Nat := 0x1004
def MLT_FLASH : Nat := 0x1005
def MLT_FUSE : Nat := 0x1006
end F

def faultRows0 : List FaultRow := [
  ⟨F.CFG_RANGE, false, 1, .none⟩,
  ⟨F.FLT_WIRE, false, 3, .none⟩,
  ⟨F.FLT_MSG_LOST, false, 2, .none⟩,
  ⟨F.NET_LINK_FH, true, 3, .field⟩,
  ⟨F.NET_FIELD_ISOL, true, 5, .field⟩,
  ⟨F.NET_LINK_CL, true, 4, .cluster⟩,
  ⟨F.MR_OC_RETIRE, false, 1, .mr⟩,
  ⟨F.MR_OPEN_RETIRE, false, 1, .mr⟩,
  ⟨F.CL_MR_DERATE, true, 3, .cluster⟩,
  ⟨F.CL_MR_EXHAUST, false, 2, .cluster⟩,
  ⟨F.CL_SHORT, false, 4, .cluster⟩,
  ⟨F.DOM_SHORT, false, 4, .domain⟩,
  ⟨F.DS_MASKED, false, 1, .cluster⟩,
  ⟨F.DS_MASK_MANY, true, 3, .cluster⟩,
  ⟨F.DS_FEW, true, 3, .cluster⟩,
  ⟨F.CL_LATE, false, 3, .cluster⟩,
  ⟨F.CL_FB_LOST, false, 3, .cluster⟩,
  ⟨F.CL_FB_FROZEN, false, 3, .cluster⟩,
  ⟨F.CL_HOLD_EXPIRE, false, 2, .cluster⟩,
  ⟨F.CL_FENCE, false, 1, .cluster⟩,
  ⟨F.CL_TILE_IMPL, false, 2, .cluster⟩,
  ⟨F.ENG_SAT, false, 1, .engine⟩,
  ⟨F.ENG_DEADLINE_CTL, false, 3, .engine⟩,
  ⟨F.ENG_DEADLINE_EST, false, 1, .engine⟩,
  ⟨F.ENG_FAIL, false, 3, .engine⟩,
  ⟨F.ENG_NO_SPARE, false, 2, .cluster⟩,
  ⟨F.ENG_LOAD_REJECT, false, 1, .engine⟩,
  ⟨F.PH_OC, false, 3, .phase⟩,
  ⟨F.PH_OPEN, false, 3, .phase⟩,
  ⟨F.PH_SNS_FAIL, false, 3, .phase⟩,
  ⟨F.RAIL_SNS_FEW, true, 4, .rail⟩,
  ⟨F.RAIL_OC, false, 2, .rail⟩,
  ⟨F.FR_SHORT, false, 4, .rail⟩,
  ⟨F.AX_SHORT, false, 4, .rail⟩,
  ⟨F.FR_OV, false, 5, .rail⟩,
  ⟨F.AX_OV, false, 4, .rail⟩,
  ⟨F.RAIL_UV, false, 4, .rail⟩,
  ⟨F.RAIL_START_FAIL, false, 4, .rail⟩,
  ⟨F.STG_FAULT, false, 4, .rail⟩,
  ⟨F.IBUS_UV, true, 4, .fieldAux⟩]
def faultRows1 : List FaultRow := [
  ⟨F.SENSE_LOST, false, 3, .rail⟩,
  ⟨F.RAIL_OL_HOLD, false, 3, .rail⟩,
  ⟨F.AX_ILIMIT, true, 2, .rail⟩,
  ⟨F.BUSVIN_RANGE, true, 2, .converter⟩,
  ⟨F.DX_FAULT, false, 3, .converter⟩,
  ⟨F.DX_START_FAIL, false, 3, .converter⟩,
  ⟨F.DX_COMM, true, 2, .converter⟩,
  ⟨F.DX_WARN, false, 1, .none⟩,
  ⟨F.DX_FORMAT, false, 1, .converter⟩,
  ⟨F.PB_STUCK, true, 2, .segment⟩,
  ⟨F.ADC_SLICE_FAIL, false, 3, .adc⟩,
  ⟨F.ADC_FAIL, false, 3, .adc⟩,
  ⟨F.ADC_WINDOW, false, 2, .none⟩,
  ⟨F.ADC_OVR, false, 1, .none⟩,
  ⟨F.EST_DISAGREE, false, 2, .none⟩,
  ⟨F.EST_NO_DESC, true, 3, .none⟩,
  ⟨F.LEDGER_OVERFLOW, false, 2, .none⟩,
  ⟨F.LEDGER_FLUSH_FULL, false, 2, .none⟩,
  ⟨F.LEDGER_GAP, false, 1, .none⟩,
  ⟨F.PART_FLOOR_SHORT, false, 2, .none⟩,
  ⟨F.DIE_PEAK_SPENT, false, 1, .none⟩,
  ⟨F.ROOM_FORCED, false, 1, .none⟩,
  ⟨F.INRUSH_REFUSED, false, 2, .domain⟩,
  ⟨F.ARB_STALE, true, 1, .none⟩,
  ⟨F.PACE_LAPSE, false, 1, .none⟩,
  ⟨F.ELYTRON_TRIP, false, 2, .none⟩,
  ⟨F.TRIP_LOCKED, true, 2, .none⟩,
  ⟨F.TH_CORR_RANGE, false, 3, .none⟩,
  ⟨F.TH_DIODE_SPLIT, false, 3, .none⟩,
  ⟨F.TH_DIODE_LOST, true, 3, .none⟩,
  ⟨F.TH_UNIT_FAIL, false, 3, .none⟩,
  ⟨F.TH_BLIND, true, 2, .none⟩,
  ⟨F.TH_PARAM_REJECT, false, 1, .none⟩,
  ⟨F.SUP_VIO_LOST, true, 5, .none⟩,
  ⟨F.SUP_BAK_LOST, false, 1, .none⟩,
  ⟨F.DOM_START_FAIL, false, 4, .domain⟩,
  ⟨F.SEQ_DEP_OFF, false, 1, .none⟩,
  ⟨F.AON_RANGE, true, 2, .none⟩,
  ⟨F.CORE_WDOG, false, 1, .none⟩,
  ⟨F.CRIT_CLUSTER, false, 2, .cluster⟩]
def faultRows2 : List FaultRow := [
  ⟨F.CRIT_ARB, false, 2, .none⟩,
  ⟨F.BLK_FAIL, false, 3, .none⟩,
  ⟨F.BOOT_OPT_ERR, false, 2, .none⟩,
  ⟨F.BOOT_SRC_RSVD, false, 2, .none⟩,
  ⟨F.BOOT_FAIL, false, 2, .none⟩,
  ⟨F.CLK_GOOD_TIMEOUT, true, 3, .none⟩,
  ⟨F.MEM_OWNER, false, 1, .none⟩,
  ⟨F.MEM_UNCORR, false, 2, .none⟩,
  ⟨F.MEM_REPAIR, false, 1, .none⟩,
  ⟨F.MEM_NO_SPARE, false, 3, .none⟩,
  ⟨F.MEM_BANK_FAIL, false, 3, .none⟩,
  ⟨F.MEM_HOST_TIER, false, 2, .none⟩,
  ⟨F.MEM_PAGE_LOST, false, 2, .none⟩,
  ⟨F.PHO_SESSION_FULL, false, 2, .none⟩,
  ⟨F.PHO_NOTE_LOST, false, 1, .none⟩,
  ⟨F.PHO_XFER_TIMEOUT, false, 1, .none⟩,
  ⟨F.PHO_DENIED, false, 1, .none⟩,
  ⟨F.PHO_PCIE_DOWN, true, 2, .none⟩,
  ⟨F.MLT_IMG_REJECT, false, 1, .none⟩,
  ⟨F.MLT_REVERT, false, 2, .none⟩,
  ⟨F.MLT_TRIAL_EXPIRE, false, 2, .none⟩,
  ⟨F.MLT_MIRROR, true, 3, .none⟩,
  ⟨F.MLT_FLASH, false, 2, .none⟩,
  ⟨F.MLT_FUSE, false, 2, .none⟩]
/-- Every assigned fault code. -/
def faultRows : List FaultRow := faultRows0 ++ faultRows1 ++ faultRows2

/-- The line of a code, where one is assigned. -/
def faultRow (code : Nat) : Option FaultRow := faultRows.find? (fun r => r.code == code)
/-- The default severity of a code (R361). -/
def faultDefaultSev (code : Nat) : Nat := (faultRow code).elim 0 FaultRow.severity
/-- Whether a code names a condition fault (R362). -/
def faultIsCondition (code : Nat) : Bool := (faultRow code).elim false FaultRow.condition
/-- What CONTAIN isolates for a code (R361). -/
def faultContained (code : Nat) : Contained := (faultRow code).elim .none FaultRow.contained

/-- The highest number assigned in a group (subindex 00 of R379). -/
def faultGroupMax (g : Nat) : Nat :=
  match g with
  | 0x01 => 3
  | 0x02 => 3
  | 0x03 => 9
  | 0x04 => 6
  | 0x05 => 6
  | 0x06 => 16
  | 0x07 => 7
  | 0x08 => 4
  | 0x09 => 5
  | 0x0A => 6
  | 0x0B => 8
  | 0x0C => 4
  | 0x0D => 9
  | 0x0E => 7
  | 0x0F => 5
  | 0x10 => 6
  | _ => 0

end Sys2Proof.Machine
end

