-- ==== Sys2Proof/Config.lean ====
section
/-!
DEFINITION. The free values: what the spec leaves open has no body here, so that no proof can see it.
-/
namespace Sys2Proof

/-- The k-th free value drawn: an undefined result, a random draw, a value a race leaves (assumption 2). -/
opaque Config.freeValue : Nat → Nat

/-- Element i of a result for which the spec states no value (R129, R130, R133, R134): the instruction's word and operands (assumption
101). -/
opaque Config.openElement : List Int → Nat → Int

/-- The data line at which the image with an IMAGE_ID keeps an item that the spec places in working lines without saying
where: the weight line (k), the h₂ sum (8 + k) of tile k of an estimator image; the RLS block (0), φ (1) and e (2) of a
learning image (assumption 40). -/
opaque Config.imageLine : Nat → Nat → Nat

/-- SHA-384 of a list of bytes (R423): named by the spec, laid down outside it (assumption 80). -/
opaque Config.sha384 : List Nat → List Nat

/-- Whether an ECDSA P-384 signature verifies: the key's bytes, the digest and the signature's bytes (R423, assumption 80). -/
opaque Config.p384 : List Nat → List Nat → List Nat → Bool

/-- The per mille of a second that an engine was busy: the engine and the number of the 1 s window (assumption 85). -/
opaque Config.busyTime : Nat → Nat → Nat

/-- Which of several equally frequent throttle reasons a partition's status shows (assumption 86). -/
opaque Config.tie : List Nat → Nat

/-- The MCTP UUID formed from SERIAL (R409): the spec does not say how (assumption 87). -/
opaque Config.uuid : Nat → BitVec 128

end Sys2Proof
end

