-- ==== Sys2Proof/Machine/Table.lean ====
section
/-!
DEFINITION. Reading and writing a sparse table, and the arithmetic the chapters share: saturating counts, rounding,
two's complement and byte order (R11).
-/
namespace Sys2Proof.Machine
open Sys2Proof

variable {α : Type}

/-- The entry of a key, where one is listed. -/
def tblFind (t : Tbl α) (k : Nat) : Option α :=
  match t with
  | [] => none
  | (j, a) :: r => if j = k then some a else tblFind r k

/-- The value at a key: the listed one, else the default `d`. -/
def tblGet (d : α) (t : Tbl α) (k : Nat) : α := (tblFind t k).getD d

/-- The table without a key. -/
def tblErase (t : Tbl α) (k : Nat) : Tbl α := t.filter (fun p => p.1 != k)

/-- The table with a key listed, keys rising. -/
def tblInsert (t : Tbl α) (k : Nat) (v : α) : Tbl α :=
  match t with
  | [] => [(k, v)]
  | (j, a) :: r => if k < j then (k, v) :: (j, a) :: r else if j = k then (k, v) :: r else (j, a) :: tblInsert r k v

/-- Writing the default removes the entry, so that equal tables are equal lists. -/
def tblSet [DecidableEq α] (d : α) (t : Tbl α) (k : Nat) (v : α) : Tbl α :=
  if v = d then tblErase t k else tblInsert t k v

/-- Every key of the table lies above `k`, and the keys rise. -/
def tblRising (t : Tbl α) : Bool :=
  match t with
  | [] => true
  | (j, _) :: r => r.all (fun p => j < p.1) && tblRising r

/-- The canonical form: keys strictly rising, no entry equal to its key's default. -/
def tblWf [DecidableEq α] (d : Nat → α) (t : Tbl α) : Bool :=
  tblRising t && t.all (fun p => decide (p.2 ≠ d p.1))

/-- The entries whose key meets `p`. -/
def tblKeep (p : Nat → Bool) (t : Tbl α) : Tbl α := t.filter (fun e => p e.1)

/-- A count that stops at `m`. -/
def satAdd (m a b : Nat) : Nat := min m (a + b)
/-- Largest values of the unsigned types (R11). -/
def max8 : Nat := 0xFF
def max16 : Nat := 0xFFFF
def max32 : Nat := 0xFFFFFFFF

/-- The two's complement pattern of an integer in `n` bits. -/
def toBits (n : Nat) (x : Int) : Nat := (x % (2 ^ n : Nat)).toNat
/-- The integer of a two's complement pattern of `n` bits. -/
def ofBits (n : Nat) (x : Nat) : Int := if x % 2 ^ n < 2 ^ (n - 1) then (x % 2 ^ n : Nat) else ((x % 2 ^ n : Nat) : Int) - (2 ^ n : Nat)
/-- An integer held to `lo`..`hi`. -/
def clampInt (lo hi x : Int) : Int := max lo (min hi x)
/-- A signed 16-bit value, saturating. -/
def satS16 (x : Int) : Nat := toBits 16 (clampInt (-32768) 32767 x)
/-- A count held to `lo`..`hi`. -/
def clampNat (lo hi x : Nat) : Nat := max lo (min hi x)

/-- Quotient rounded to nearest, ties to even. -/
def divRne (a : Int) (b : Nat) : Int :=
  let q := a / (b : Int)
  let r := a % (b : Int)
  if 2 * r > b then q + 1 else if 2 * r < b then q else if q % 2 = 0 then q else q + 1

/-- Quotient rounded to nearest, ties away from zero, of counts. -/
def divRound (a b : Nat) : Nat := (2 * a + b) / (2 * b)
/-- Quotient rounded up. -/
def divCeil (a b : Nat) : Nat := (a + b - 1) / b

/-- The `n` bytes of a value, least significant first (R11). -/
def leBytes (n v : Nat) : List Byte :=
  match n with
  | 0 => []
  | n + 1 => BitVec.ofNat 8 v :: leBytes n (v / 256)

/-- The value of bytes, least significant first (R11). -/
def leNat (l : List Byte) : Nat :=
  match l with
  | [] => 0
  | b :: r => b.toNat + 256 * leNat r

/-- Bits [hi:lo] of a word. -/
def bits (w hi lo : Nat) : Nat := w / 2 ^ lo % 2 ^ (hi + 1 - lo)
/-- Bit `k` of a word. -/
def bit (w k : Nat) : Bool := w.testBit k
/-- A flag at bit `k`. -/
def flagAt (b : Bool) (k : Nat) : Nat := if b then 2 ^ k else 0
/-- The mask of the numbers below `n` that meet `p`. -/
def maskOf (n : Nat) (p : Nat → Bool) : Nat := (List.range n).foldl (fun m k => m + flagAt (p k) k) 0
/-- How many of the numbers below `n` meet `p`. -/
def countOf (n : Nat) (p : Nat → Bool) : Nat := ((List.range n).filter p).length
/-- The sum of `g` over the numbers below `n`. -/
def sumOf (n : Nat) (g : Nat → Nat) : Nat := (List.range n).foldl (fun a k => a + g k) 0
/-- The lowest `g` over a list of numbers, `d` for an empty one. -/
def minOf (d : Nat) (l : List Nat) : Nat := match l with | [] => d | x :: r => r.foldl min x

end Sys2Proof.Machine
end

