-- ==== Sys2Proof/Machine/Bfp.lean ====
section
/-!
DEFINITION. Block floating point (R124-R128): exact values, rounding once into a destination, stored vectors and
matrices (R130), and the arithmetic of the engine instructions (R133, R134).
-/
namespace Sys2Proof.Machine

/-- An exact value m × 2^e. -/
structure Dy where
  m : Int
  e : Int
deriving DecidableEq, Repr

/-- A vector register or a stored vector (R124): format code, exponent, mantissas. -/
structure Block where
  fmt : Nat := 0
  exp : Int := 0
  m : List Int := [0]
deriving DecidableEq, Repr

/-- An accumulator (R127). -/
structure Acc where
  exp : Int := 0
  m : List Int := [0]
deriving DecidableEq, Repr

/-- A matrix of data memory (R130). -/
structure Mat where
  rows : Nat
  cols : Nat
  fmt : Nat
  exp : Int
  m : List Int
deriving DecidableEq, Repr

/-! ### Sticky flags (R155) -/

def flSAT : Nat := 1
def flACCSAT : Nat := 2
def flDEADLINE : Nat := 4
def flNORMZ : Nat := 8
def flPWLR : Nat := 16
def flSRND : Nat := 32
def flCORR : Nat := 64

/-! ### Exact values -/

def Dy.zero : Dy := ⟨0, 0⟩
/-- Two values at one exponent. -/
def Dy.align (a b : Dy) : Int × Int × Int :=
  let e := min a.e b.e
  (a.m * 2 ^ (a.e - e).toNat, b.m * 2 ^ (b.e - e).toNat, e)
def Dy.add (a b : Dy) : Dy := let (x, y, e) := a.align b; ⟨x + y, e⟩
def Dy.neg (a : Dy) : Dy := ⟨-a.m, a.e⟩
def Dy.sub (a b : Dy) : Dy := a.add b.neg
def Dy.mul (a b : Dy) : Dy := ⟨a.m * b.m, a.e + b.e⟩
def Dy.le (a b : Dy) : Bool := let (x, y, _) := a.align b; decide (x ≤ y)
def Dy.lt (a b : Dy) : Bool := let (x, y, _) := a.align b; decide (x < y)
def Dy.max (a b : Dy) : Dy := if a.le b then b else a
def Dy.min (a b : Dy) : Dy := if b.le a then b else a
def Dy.abs (a : Dy) : Dy := ⟨(a.m.natAbs : Int), a.e⟩
/-- The sum of a list. -/
def dySum (l : List Dy) : Dy := l.foldl Dy.add Dy.zero

/-- A quotient n / d of exact values, d above 0, rounded to nearest even at exponent `e` (R126). -/
def roundQ (n : Dy) (d : Nat) (e : Int) : Int :=
  let s := n.e - e
  if 0 ≤ s then divRne (n.m * 2 ^ s.toNat) d else divRne n.m (d * 2 ^ (-s).toNat)
/-- A quotient rounded towards minus infinity at exponent `e`, and whether that dropped anything. -/
def floorQ (n : Dy) (d : Nat) (e : Int) : Int × Bool :=
  let s := n.e - e
  let a := if 0 ≤ s then n.m * 2 ^ s.toNat else n.m
  let b : Int := if 0 ≤ s then d else d * 2 ^ (-s).toNat
  (a / b, decide (a % b ≠ 0))
/-- A value rounded to nearest even at exponent `e`. -/
def roundAt (x : Dy) (e : Int) : Int := roundQ x 1 e

/-- The mantissa range of a format (R124). -/
def fmtLo (f : Nat) : Int := if f = 2 then -128 else if f = 1 then -2048 else -32768
def fmtHi (f : Nat) : Int := if f = 2 then 127 else if f = 1 then 2047 else 32767
def fmtFits (f : Nat) (x : Int) : Bool := decide (fmtLo f ≤ x ∧ x ≤ fmtHi f)

/-- Elements rounded once into a format at an exponent, and whether one saturated (R126). -/
def roundBlock (f : Nat) (e : Int) (xs : List Dy) : Block × Bool :=
  let r := xs.map (fun x => roundAt x e)
  (⟨f, e, r.map (clampInt (fmtLo f) (fmtHi f))⟩, r.any (fun x => !fmtFits f x))

/-- The elements of a block as exact values. -/
def Block.vals (b : Block) : List Dy := b.m.map (fun x => ⟨x, b.exp⟩)
def Acc.vals (a : Acc) : List Dy := a.m.map (fun x => ⟨x, a.exp⟩)

/-- The first exponent from `e`, in `fuel` tries, at which every quotient of the list rounds into the format; 127 else
(R128). -/
def normSearch (f : Nat) (d : Nat) (xs : List Dy) (fuel : Nat) (e : Int) : Int :=
  match fuel with
  | 0 => 127
  | n + 1 => if xs.all (fun x => fmtFits f (roundQ x d e)) then e else normSearch f d xs n (e + 1)
/-- The smallest exponent of −128 to 127 at which a list of quotients fits a format. -/
def normExp (f : Nat) (d : Nat) (xs : List Dy) : Int := normSearch f d xs 256 (-128)

/-- Broadcasting of R129; none for a pairing that no verified image holds. -/
def broadcast (a b : List Dy) : Option (List Dy × List Dy) :=
  if a.length = b.length then some (a, b)
  else match a, b with
    | [x], _ => some (List.replicate b.length x, b)
    | _, [y] => some (a, List.replicate a.length y)
    | _, _ => none

/-! ### Data memory (R123, R130) -/

/-- A byte of data memory. -/
def memByte (mem : Tbl Nat) (a : Nat) : Nat := tblGet 0 mem (a % 4096)
def memS8 (mem : Tbl Nat) (a : Nat) : Int := ofBits 8 (memByte mem a)
def memS16 (mem : Tbl Nat) (a : Nat) : Int := ofBits 16 (memByte mem a + 256 * memByte mem (a + 1))

/-- Element i of mantissas that start at a byte, in a format (R124). -/
def memMant (mem : Tbl Nat) (f base i : Nat) : Int :=
  if f = 0 then memS16 mem (base + 2 * i)
  else if f = 2 then memS8 mem (base + i)
  else
    let p := base + i / 2 * 3
    let w := memByte mem p + 256 * memByte mem (p + 1) + 65536 * memByte mem (p + 2)
    ofBits 12 (if i % 2 = 0 then w % 4096 else w / 4096 % 4096)

/-- The bytes of mantissas in a format (R124). -/
def mantBytes (f : Nat) (l : List Int) : List Nat :=
  match f, l with
  | _, [] => []
  | 1, a :: b :: r =>
    let w := toBits 12 a + 4096 * toBits 12 b
    [w % 256, w / 256 % 256, w / 65536 % 256] ++ mantBytes 1 r
  | 1, [a] => [toBits 12 a % 256, toBits 12 a / 256]
  | 2, a :: r => toBits 8 a :: mantBytes 2 r
  | f, a :: r => [toBits 16 a % 256, toBits 16 a / 256] ++ mantBytes f r

/-- A stored vector at a line; none where its header is none that R130 allows. -/
def loadVec (mem : Tbl Nat) (line : Nat) : Option Block :=
  let a := line * 16
  let h := memByte mem (a + 1)
  let n := h % 64
  if h / 64 = 3 ∨ n = 0 ∨ 32 < n then none
  else some ⟨h / 64, memS8 mem a, (List.range n).map (memMant mem (h / 64) (a + 2))⟩
/-- A stored matrix at a line. -/
def loadMat (mem : Tbl Nat) (line : Nat) : Option Mat :=
  let a := line * 16
  let h := memByte mem (a + 1)
  let r := h % 64
  let c := memByte mem (a + 2) % 64
  if h / 64 = 3 ∨ r = 0 ∨ 32 < r ∨ c = 0 ∨ 32 < c then none
  else some ⟨r, c, h / 64, memS8 mem a, (List.range (r * c)).map (memMant mem (h / 64) (a + 4))⟩
/-- Writing bytes from an address on. -/
def memWrite (mem : Tbl Nat) (a : Nat) (l : List Nat) : Tbl Nat :=
  match l with
  | [] => mem
  | b :: r => memWrite (tblSet 0 mem (a % 4096) b) (a + 1) r
/-- The bytes of a stored vector. -/
def vecBytes (b : Block) : List Nat := [toBits 8 b.exp, b.fmt * 64 + b.m.length % 64] ++ mantBytes b.fmt b.m
/-- The bytes of a stored matrix. -/
def matBytes (f : Nat) (e : Int) (r c : Nat) (m : List Int) : List Nat :=
  [toBits 8 e, f * 64 + r % 64, c % 64, 0] ++ mantBytes f m
/-- Lines that some bytes take. -/
def linesOf (n : Nat) : Nat := (n + 15) / 16

/-! ### Products -/

/-- Row i of a matrix. -/
def Mat.row (x : Mat) (i : Nat) : List Int := (x.m.drop (i * x.cols)).take x.cols
/-- The exact product of two lists of mantissas. -/
def dot (a b : List Int) : Int := (List.zipWith (· * ·) a b).foldl (· + ·) 0
/-- MVM (R127): the exact sums at exponent e_M + e_v. -/
def mvm (x : Mat) (v : Block) : Acc := ⟨x.exp + v.exp, (List.range x.rows).map (fun i => dot (x.row i) v.m)⟩

/-- The range of an accumulator: 48 bits, two's complement. -/
def accLo : Int := -(2 ^ 47)
def accHi : Int := 2 ^ 47 - 1
/-- MVMA (R127): the exact new sum at the larger exponent, rounded once, saturated to 48 bits; an operand of length 1 is broadcast (R129).
None for a pairing that no verified image holds. -/
def mvma (a p : Acc) : Option (Acc × Bool) :=
  (broadcast a.vals p.vals).map (fun q =>
    let e := max a.exp p.exp
    let r := (List.zipWith Dy.add q.1 q.2).map (fun x => roundAt x e)
    (⟨e, r.map (clampInt accLo accHi)⟩, r.any (fun x => decide (x < accLo ∨ accHi < x))))

/-! ### PWL (R134) -/

/-- The value of a piecewise-linear table at a line for one input, and whether the input lay outside it. -/
def pwlAt (mem : Tbl Nat) (line : Nat) (x : Dy) : Dy × Bool :=
  let a := line * 16
  let xlo : Dy := ⟨memS16 mem a, memS8 mem (a + 2)⟩
  let swl := memByte mem (a + 3) % 16
  let ex := memS8 mem (a + 2)
  let eb := memS8 mem (a + 4)
  let es := memS8 mem (a + 5)
  let off := x.sub xlo
  let k := (floorQ off 1 (ex + swl)).1
  let kk := clampInt 0 31 k
  let seg := a + 16 + 4 * kk.toNat
  let at_ := off.sub ⟨kk, ex + swl⟩
  let slope : Dy := ⟨memS16 mem seg, es⟩
  let icept : Dy := ⟨memS16 mem (seg + 2), eb⟩
  (icept.add (slope.mul at_), k != kk)

/-! ### RLS (R134) -/

/-- A value with a denominator: n / d. -/
structure Quo where
  n : Dy
  d : Dy
deriving DecidableEq, Repr

/-- What an RLS step finds in its block: n, λ, w, P and the lines of w and P. -/
structure RlsBlock where
  n : Nat
  lambda : Dy
  w : Block
  p : Mat
  wLine : Nat
  pLine : Nat
deriving DecidableEq, Repr

/-- The block of an RLS step at a line (R134): a header line, then w, then P, each from a new line. -/
def loadRls (mem : Tbl Nat) (line : Nat) : Option RlsBlock :=
  let a := line * 16
  let n := memByte mem a
  let wl := line + 1
  match loadVec mem wl with
  | none => none
  | some w =>
    let pl := wl + linesOf (vecBytes w).length
    match loadMat mem pl with
    | none => none
    | some p =>
      if n = 0 ∨ 32 < n ∨ w.m.length ≠ n ∨ p.rows ≠ n ∨ p.cols ≠ n then none
      else some ⟨n, ⟨memMant mem (memByte mem (a + 3) / 64) (a + 4) 0, memS8 mem (a + 2)⟩, w, p, wl, pl⟩

/-- One step: the exact numerators of the new w and P, and their denominators D = λ + φᵀPφ and Dλ. -/
def rlsStep (b : RlsBlock) (phi : Block) (e0 : Dy) : (List Dy × Dy) × (List Dy × Dy) :=
  let f := phi.vals
  let row (i : Nat) : List Dy := (b.p.row i).map (fun x => (⟨x, b.p.exp⟩ : Dy))
  let u := (List.range b.n).map (fun i => dySum (List.zipWith Dy.mul (row i) f))
  let v := (List.range b.n).map (fun j =>
    dySum ((List.range b.n).map (fun i => (f.getD i Dy.zero).mul ((row i).getD j Dy.zero))))
  let den := b.lambda.add (dySum (List.zipWith Dy.mul f u))
  let w := List.zipWith (fun (x y : Dy) => (x.mul den).add (y.mul e0)) b.w.vals u
  let p := (List.range b.n).flatMap (fun i => (List.range b.n).map (fun j =>
    (((row i).getD j Dy.zero).mul den).sub ((u.getD i Dy.zero).mul (v.getD j Dy.zero))))
  ((w, den), (p, den.mul b.lambda))

/-- Numerators over a denominator as values over a positive count: the sign moves up, the exponent into the value. -/
def overPos (xs : List Dy) (d : Dy) : List Dy × Nat :=
  (xs.map (fun x => ⟨if d.m < 0 then -x.m else x.m, x.e - d.e⟩), d.m.natAbs)

end Sys2Proof.Machine
end

