-- ==== Sys2Proof/Machine/State.lean ====
section
/-!
DEFINITION. The state of the controller, as plain data. Every scalar dictionary object that is stored, not computed,
lives in `regs` under its own address (R10); what the spec gives a unit beside its objects lives in the unit's record.
The tables list only what differs from the reset value.
-/
namespace Sys2Proof.Machine
open Sys2Proof

/-! ### Samples of a window -/

/-- Samples of one quantity in an open window: their number, sum, lowest and highest (R216-R218). -/
structure Samp where
  n : Nat := 0
  sum : Int := 0
  lo : Int := 0
  hi : Int := 0
deriving DecidableEq, Repr

/-- A telemetry record's open windows (R215): samples of the 10 µs window, and the 10 µs averages, with the extremes of the
finer samples, of the 1 ms and 1 s windows. -/
structure TelRec where
  v : Samp := {}
  i : Samp := {}
  p : Samp := {}
  v1 : Samp := {}
  i1 : Samp := {}
  p1 : Samp := {}
  v2 : Samp := {}
  i2 : Samp := {}
  p2 : Samp := {}
  /-- An OVR sample entered the open window; a hold clear waits (R218). -/
  ovr : Bool := false
  clear : Bool := false
deriving DecidableEq, Repr

/-! ### Wheels and the station network -/

/-- STATE of a Wheel (R35). -/
inductive WState
  | stopped | starting | running | derated | holding | stopping | parked | latched
deriving DecidableEq, Repr

/-- Why a Wheel is PARKED (R37, R115): by command, for a short (R78), by a fence (R112), for MR exhaustion (R74), hold
expiry (R111), implausible current (R113), lack of a spare (R147), link isolation (R53), or a block reset (R346). -/
inductive ParkCause
  | none | command | short | fence | exhaust | holdExpire | implausible | noSpare | link | blockReset
deriving DecidableEq, Repr

/-- What a Wheel holds beside its record's objects. -/
structure WheelRec where
  state : WState := .stopped
  /-- The state held before HOLDING (R37). -/
  prior : WState := .running
  parkCause : ParkCause := .none
  /-- The CONTAIN action has latched it (R259, R364). -/
  contained : Bool := false
  /-- REJECT of R34 by a rejected write of the station (R457). -/
  reject : Bool := false
  /-- REJECT of a group by a member's refusal (R457). -/
  refused : Bool := false
deriving DecidableEq, Repr

/-- An existing group: its address and its member words (R40, R41). -/
structure GroupRec where
  addr : Nat
  members : List Nat
deriving DecidableEq, Repr

/-- A link (R52): failed or sound, the time of its last uncorrectable flit, and of its last flit. -/
structure LinkRec where
  failed : Bool := false
  lastBad : Option Nat := none
  lastFlit : Nat := 0
  /-- Class-0 flits resent once from the buffer. -/
  resent : Nat := 0
  /-- CONTAIN for NET_LINK_CL waits for the cluster station's own park (R53). -/
  contain : Bool := false
deriving DecidableEq, Repr

/-- The running sum and count of ELAPSED of one class at one station (R51). -/
structure ElapsedRec where
  sum : Nat := 0
  count : Nat := 0
deriving DecidableEq, Repr

/-- A message in its class's buffer of the link output from `src` to `dst` (R49): how many of its flits have crossed, and whether one
of them has been resent (R52). The buffers hold their messages in arrival order. -/
structure Transit where
  src : Nat
  dst : Nat
  msg : NetMsg
  sent : Nat := 0
  resent : Bool := false
deriving DecidableEq, Repr

/-- A link output's count of flits of classes 1 to 3 granted since classes 2 and 3 last had one, while they wait (R49). -/
structure OutArb where
  since2 : Nat := 0
  since3 : Nat := 0
deriving DecidableEq, Repr

/-- The result of an offset exchange (R55). -/
structure OffsetResult where
  station : Nat
  offset : Int
  uncertainty : Int
deriving DecidableEq, Repr

structure Net where
  links : Tbl LinkRec := []
  transit : List Transit := []
  /-- The arbitration of each link output, by source and destination. -/
  arb : Tbl OutArb := []
  elapsed : Tbl ElapsedRec := []
  /-- Check errors counted at a station (R48). -/
  checkErrs : Tbl Nat := []
  offset : Option OffsetResult := none
deriving DecidableEq, Repr

/-! ### Fault collection -/

/-- The identity of a record (R367). -/
structure FltId where
  code : Nat
  station : Nat
  item : Nat
deriving DecidableEq, Repr

/-- A fault message of a station (R368). -/
structure FltMsg where
  id : FltId
  data : Nat
  time : Nat
  injected : Bool
  /-- It has reached the collector (R367). -/
  arrived : Bool := false
deriving DecidableEq, Repr

/-- A record of the uncleared set (R379). -/
structure FltRec where
  slot : Nat
  id : FltId
  sev : Nat
  present : Bool
  injected : Bool
  acted : Bool
  count : Nat
  entryTime : Nat
  escDue : Nat
  window : Nat
deriving DecidableEq, Repr

/-- An overflow record, or the single record, with the raises it holds (R367). -/
structure OvfRec where
  body : FltRec
  raises : List FltId
  /-- SEQ of its log entry, and whether it has escalated. -/
  seq : Nat
  up : Bool := false
deriving DecidableEq, Repr

/-- A log entry (R376). -/
structure LogEntry where
  seq : Nat
  id : FltId
  kind : Nat
  sev : Nat
  data : Nat
  stnTime : Nat
  hubTime : Nat
deriving DecidableEq, Repr

/-- A CONTAIN or STOP action on its way to its target (R364, R365). -/
structure FltAction where
  id : FltId
  sev : Nat
  /-- The record it acts for, and its log entry, which takes ACTED when the action is performed (R376). -/
  body : FltId
  seq : Option Nat
deriving DecidableEq, Repr

/-- A dual-rail pair with a wire fault: the field, and the cluster or none for the field station's own pair (R372). -/
structure WirePair where
  field : Nat
  cluster : Option Nat
deriving DecidableEq, Repr

/-- An accepted injection request (R374). -/
structure InjReq where
  station : Nat
  mode : Nat
  checker : Nat
  unit : Nat
deriving DecidableEq, Repr

structure Faults where
  set : List FltRec := []
  overflow : List OvfRec := []
  single : Option OvfRec := none
  log : List LogEntry := []
  /-- Fault messages not yet acknowledged (R372). -/
  outbox : List FltMsg := []
  /-- Class-0 resends requested and not yet received (R373). -/
  resends : List FltId := []
  actions : List FltAction := []
  /-- Reports of the end of a condition on their way to the collector (R362). -/
  ends : List FltId := []
  wires : List WirePair := []
  /-- Since when a field station's pair has been outstanding at the hub, or when its last resend request went out (R373), by field. -/
  pairAt : Tbl Nat := []
  /-- The fields whose Wheels a STOP action latched (R259, R365). -/
  stops : List Nat := []
  /-- Records at STOP whose ESC_DUE has passed and whose system reset waits for the STOP action (R342). -/
  escWait : List FltId := []
  /-- Corrected errors of critical state, by checker (R345, R374). -/
  critErrs : Tbl Nat := []
  /-- When INJ_ARM was last written (R374). -/
  injAt : Nat := 0
  injection : Option InjReq := none
  /-- An injected error waits to be detected at its checker. -/
  injected : Option InjReq := none
deriving DecidableEq, Repr

/-! ### Sessions and transports -/

/-- A notification record (R407). -/
structure Note where
  kind : Nat
  sev : Nat
  code : Nat
  station : Nat
  item : Nat
  sub : Nat
  value : Nat
  stnTime : Nat
  hubTime : Nat
deriving DecidableEq, Repr

/-- An open segmented transfer (R405). -/
inductive Xfer
  | read (a : DictAddr) (copy : Option (List Byte))
  | write (a : DictAddr) (total : Nat) (got : List Byte)
deriving DecidableEq, Repr

/-- The last response of a session: the operation, the abort code of R406 (0: none), PARAM and DATA (R402, R403). -/
structure Response where
  op : Nat := 0
  abort : Nat := 0
  param : Nat := 0
  data : List Byte := []
deriving DecidableEq, Repr

/-- A session slot (R401). -/
structure Session where
  isOpen : Bool := false
  carrier : Nat := 0
  peer : Nat := 0
  noteSev : Nat := 0
  notes : List Note := []
  noteLost : Nat := 0
  /-- Records lost since the last KIND 4 record (R407). -/
  lostSince : Nat := 0
  lastActive : Nat := 0
  xfer : Option Xfer := none
  /-- When the transfer last had a message, and whether the last one ended by its timeout (R405). -/
  xferAt : Nat := 0
  timedOut : Bool := false
  resp : Response := {}
  opResult : Nat := 0
  partResult : Nat := 0
  seqResult : Nat := 0
  fltResult : Nat := 0
  fastAbort : Nat := 0
deriving DecidableEq, Repr

/-- A message in assembly (R408). -/
structure Assembly where
  binding : Nat
  src : Nat
  tag : Nat
  seq : Nat
  start : Nat
  bytes : List Byte
deriving DecidableEq, Repr

/-- A window channel's registers beside its session's (R413). -/
structure WinChan where
  partDesc : List Byte := []
  bindData : List Byte := []
  dictAddr : DictAddr := ⟨0, 0, 0⟩
  dictLen : Nat := 0
  dictStatus : Nat := 0
  dictOffset : Nat := 0
  dictData : Nat := 0
  dictTotal : Nat := 0
  buffer : List Byte := []
deriving DecidableEq, Repr

/-- An MCTP binding: its packets (those that wait for a private read on I3C, those of the last message sent on PCIe), the slots and
records of the NOTIFY messages among them, whether in-band interrupts are disabled, and the response data of its last control command
(R407-R411). -/
structure Binding where
  out : List (List Byte) := []
  notes : List (Nat × Note) := []
  ibiOff : Bool := false
  ctrl : List Byte := []
deriving DecidableEq, Repr

structure Transports where
  sessions : Tbl Session := []
  assembly : List Assembly := []
  bindings : Tbl Binding := []
  channels : Tbl WinChan := []
  /-- The throttle-state words last received from the field stations, by f × 16 + t (R290, R412); 0xB0000000 where none is listed. -/
  thr : Tbl Nat := []
deriving DecidableEq, Repr

/-! ### Cells, sensors and cluster loops -/

/-- CELL of the MR status word (R87). -/
inductive Cell
  | off | starting | switching | hiccupOff | restartRamp | retired | clusterHiccup
deriving DecidableEq, Repr

/-- An MR cell beside its objects (R59-R87). -/
structure MrRec where
  cell : Cell := .off
  cause : Nat := 0
  /-- The station's count at the end of the last limited period (R87), and whether overshoot truncation has acted in the open and in the
  last 100 ns sample. -/
  limAt : Option Nat := none
  truncNow : Bool := false
  trunc : Bool := false
  /-- When the restart ramp began, and whether a Release began it (R37, R68, R76). -/
  rampAt : Nat := 0
  released : Bool := false
  hiccups : Nat := 0
  windowOpen : Bool := false
  /-- When it entered hiccup (R68), and when its window opened (R69). -/
  hicAt : Nat := 0
  winAt : Nat := 0
  /-- Consecutive limited periods (R68). -/
  limRun : Nat := 0
  slot : Nat := 0
  duty : Nat := 0
  /-- Phase currents in the open 10 µs window (R216). -/
  pa : Samp := {}
  pb : Samp := {}
deriving DecidableEq, Repr

/-- A reading of the min tree with its sensor (R82). -/
structure MinTake where
  value : Nat
  index : Nat
deriving DecidableEq, Repr

/-- What the cells and sensors of one cluster share (R62-R84). -/
structure CellsRec where
  /-- Cluster hiccups in the open window, when the last of them began, and when the window opened (R77). -/
  hiccups : Nat := 0
  windowOpen : Bool := false
  hicAt : Nat := 0
  winAt : Nat := 0
  /-- The rotation count r, and whether the slot map waits to be rebuilt (R62, R63). -/
  rotation : Nat := 0
  rebuild : Bool := false
  /-- The combined overshoot flag of the last round (R65). -/
  overshoot : Bool := false
  /-- The lowest reading held since the last input instant (R82). -/
  held : Option MinTake := none
  /-- Whether the open 1 ms window is judged: the state throughout it, and SET_NOW at 550 mV or more (R83). -/
  judged : Bool := true
  setHigh : Bool := true
  /-- The lowest MIN of the open 1 ms window. -/
  low : Option MinTake := none
  /-- When the last cluster hiccup episode ended (R108), and when the cluster was declared shorted (R80). -/
  episodeEnd : Option Nat := none
  shortAt : Option Nat := none
deriving DecidableEq, Repr

/-- A droop sensor beside its objects: why it is masked (2 deviation, 3 stuck), its run of deviating windows, and the
sums of the open 1 ms window (R83). -/
structure SensorRec where
  reason : Nat := 0
  devRun : Nat := 0
  sum : Nat := 0
  count : Nat := 0
  low : Nat := 1023
  stuck : Bool := true
deriving DecidableEq, Repr

/-- One sample of a cluster loop, for R107 and R109. -/
structure Sample where
  min : Nat
  isum : Nat
  code : Nat
deriving DecidableEq, Repr

/-- A setpoint write in the pending slot (R99). -/
structure SetWrite where
  value : Nat
  seq : Nat
deriving DecidableEq, Repr

/-- A cluster loop beside its objects (R89-R121). -/
structure LoopRec where
  /-- SET_NOW and POS_NOW in 1/16 mV (R100, R102). -/
  setNow : Nat := 0
  posNow : Nat := 0
  posReq : Nat := 0
  /-- CMD_SEQ of the write that set the target, and whether the target has still to end (R101). -/
  targetSeq : Nat := 0
  open_ : Bool := false
  /-- The error behind the park that waits was an injected one; what it raises carries INJ (R374). -/
  parkInj : Option InjReq := none
  /-- The station's block reset waits for the cluster's cells to stop (R345). -/
  resetDue : Bool := false
  /-- Since when every MIN taken has been at or above SETPOINT less DOM_PG_BAND (R328). -/
  goodFrom : Option Nat := none
  slot : Option SetWrite := none
  /-- Sessions that wrote the Wheel since the previous end, and those that received the OUTCOME 3 of a hold entry. -/
  writers : List Nat := []
  heldWriters : List Nat := []
  /-- The code applied in the previous sample, and IF in 1/65,536 mA (R94). -/
  uPrev : Nat := 0
  filtered : Nat := 0
  /-- The Δc × G of the feed-forward messages that wait for the next input instant, and the load change added at the last one, in mA
  (R98). -/
  feedIn : Int := 0
  feedForward : Int := 0
  itherm : Option Nat := none
  /-- Late output of the last sample; sample counted by R105 and R106. -/
  late : Bool := false
  /-- LATE_COUNT at the last clear that named the station (LATE of R34). -/
  lateBase : Nat := 0
  /-- Run counts and timers of R105 to R107 and R110. -/
  residRun : Nat := 0
  feTimer : Nat := 0
  samples : List Sample := []
  /-- The codes applied in the last 16 samples, oldest first (R109). -/
  codes : List Nat := []
  /-- The times since which IF has exceeded DEAD_IMIN, and the estimate by more than DEAD_MARGIN (R113). -/
  deadSince : Option Nat := none
  excessSince : Option Nat := none
  goodRun : Nat := 0
  /-- Samples in a row with the same MIN, and with the same ISUM (R110). -/
  minRun : Nat := 0
  isumRun : Nat := 0
  /-- The held code before clipping (R109), and the loss recorded last (1 frozen, 2 check, 3 sensors). -/
  holdMean : Nat := 0
  loss : Nat := 0
  /-- SETPOINT becomes the target again at the next input instant (R110). -/
  resume : Bool := false
  /-- Time of the park message of R114, and what the park is for. -/
  parking : Option Nat := none
  /-- When the cluster entered HOLDING (R111). -/
  holdAt : Nat := 0
  parkFor : ParkCause := .none
  /-- The integral state q holds (R96). -/
  qHold : Bool := false
  /-- The next activation starts with RESEED set (R110, R146). -/
  reseed : Bool := false
  uv : Bool := false
  winClear : Bool := false
  winsClear : Bool := false
  /-- The activation of this sample has committed, and it has been started; what it put at its ports, and its supervision result (R137, R139). -/
  committed : Bool := false
  activated : Bool := false
  outCode : Option Nat := none
  outWin : Nat := 0
  supv : Option Bool := none
  /-- The voltage residual of an order-3 program's last commit, mV (R105, R119). -/
  resid : Option Int := none
  /-- The lower limit of SET_NOW's fall of an Elytron trip applies (R309). -/
  tripFall : Bool := false
  /-- Power samples of the learning interval in mW × 100 ns, whether the interval is spoilt (R236), the close markers that wait, and the
  answers on their way to the field station, oldest first: the count at which the window ended, the energy, and whether it is spoilt. -/
  energy : Nat := 0
  spoilt : Bool := false
  marker : List Nat := []
  reply : List (Nat × Nat × Bool) := []
  /-- Changes of winner on their way to the field station, oldest first (R97). -/
  winMsgs : List Nat := []
deriving DecidableEq, Repr

/-! ### Domains, the sequencer, trip and supplies -/

/-- A target of a sequencer request (R336), and the restart set of R310. -/
inductive SeqTarget
  | domain (d : DomId)
  | field (f : FieldId)
  | die
  | restart
deriving DecidableEq, Repr

/-- Who asked: a session by SEQ_REQ or a Wheel command, or a field, die or restart sequence. -/
inductive SeqOrigin
  | session (n : Slot)
  | parent
deriving DecidableEq, Repr

/-- Where a job stands (R325-R332). -/
inductive SeqStep
  | reserving | ramping | dependants | draining | falling | converters | rail | domains | fields
deriving DecidableEq, Repr

/-- A request in progress or pending (R324). -/
structure SeqJob where
  target : SeqTarget
  on : Bool
  origin : SeqOrigin
  step : SeqStep
  /-- What is still to be done, in order: domains of a field or a restart, fields of the die, stages of a field turn-off,
  clusters that start at their next input instant. -/
  rest : List Nat := []
  /-- The parts in progress, and the parts that have failed. -/
  run : List Nat := []
  failed : List Nat := []
  /-- The code of the first failure (R325). -/
  fail : Nat := 0
  /-- The converter enables stay as they are (R364, row Field). -/
  keepDx : Bool := false
  /-- When the domain's soft start began: the grant, then the start of its last cluster (R328 step 2). -/
  since : Nat := 0
deriving DecidableEq, Repr

structure Sequencer where
  armed : Bool := false
  jobs : List SeqJob := []
  waiting : List SeqJob := []
  fieldOrder : List Nat := [0, 3, 4, 7, 1, 2, 5, 6]
  /-- The fields whose converter enables fall 1 ms after mid level (R332). -/
  dxDrop : List Nat := []
  /-- The domains whose clusters enter STOPPING after STOP_DRAIN, with the acceptance of their turn-off (R331). -/
  drains : List (Nat × Nat) := []
deriving DecidableEq, Repr

/-- A trip that fires: cause, field, node and temperature (R308, R315). -/
structure TripFire where
  cause : Nat
  field : Nat
  node : Nat
  temp : Nat
deriving DecidableEq, Repr

/-- The Elytron trip (R308-R314). -/
structure Trip where
  /-- 0 normal, 1 ramping down, 2 waiting, 3 restarting, 4 locked. -/
  state : Nat := 0
  cause : Nat := 0
  field : Nat := 0
  node : Nat := 0
  /-- Domains of the restart set, and those the restart has still to turn on. -/
  set : List Nat := []
  inhibit : Bool := false
  pending : Bool := false
  locked : Bool := false
  windowOpen : Bool := false
  windowStart : Nat := 0
  /-- The part of the window that ran before the last power-on reset (R54, R311). -/
  windowPast : Nat := 0
  /-- Hub time of the last trip since the reset; WAIT_OK counts from it. -/
  last : Option Nat := none
  /-- The time of the last reset while PENDING waits. -/
  resetAt : Nat := 0
  /-- The fields whose trip lines are asserted, and the trips that have fired and not been taken. -/
  line : List Nat := []
  fires : List TripFire := []
deriving DecidableEq, Repr

/-- The supplies of R316 and the backup domain's check word (R317). -/
structure Supply where
  vstby : Bool := true
  vio18 : Bool := true
  vbak : Bool := true
  backupValid : Bool := true
  bakLost : Bool := false
  /-- AON in the out-of-range band (R341). -/
  aonOut : Bool := false
deriving DecidableEq, Repr

/-! ### Package stages and converters -/

/-- A PWM level (R159). -/
inductive Pwm
  | low | mid | high
  /-- Not driven, while VIO18 is absent. -/
  | undriven
deriving DecidableEq, Repr

/-- A period of a phase that has ended while a conversion of its peak or its valley is still on its way (R216): when it began and ended, its
on-time in 250 ps, the end of that, the move to mid level, and its currents in mA. -/
structure PhPeriod where
  start : Nat
  stop : Nat
  ton : Nat
  off : Option Nat
  mid : Option Nat
  valley : Option Int
  peak : Option Int
deriving DecidableEq, Repr

/-- A phase beside its objects (R159-R177). -/
structure PhaseRec where
  pwm : Pwm := .mid
  /-- Why it is dropped: 0 not, else STATE of R197 (3 open, 4 over-current, 5 command, 6 stage fault). -/
  dropped : Nat := 0
  fallback : Bool := false
  snsCause : Nat := 0
  /-- When a condition of the sense-failure row was last met (R177). -/
  snsAt : Nat := 0
  limNow : Bool := false
  dcm : Bool := false
  trim : Int := 0
  ton : Nat := 0
  /-- Times of the last on-time's start and end, and of the move to mid level after it (R163, R165). -/
  onAt : Option Nat := none
  offAt : Option Nat := none
  midAt : Option Nat := none
  /-- The PWM has gone to mid level at a zero crossing since the last on-time (R165, R197). -/
  crossed : Bool := false
  /-- Consecutive limited pulses (R175). -/
  limRun : Nat := 0
  /-- Currents of the valley and the peak of the period that runs in mA, the ended periods that wait for theirs, and the mean of the last
  completed period (R216). -/
  valley : Option Int := none
  peak : Option Int := none
  late : List PhPeriod := []
  mean : Option Int := none
  /-- Consecutive conversions out of range and with the same code, and periods without ripple (R175). -/
  outRun : Nat := 0
  lastCode : Option Nat := none
  sameRun : Nat := 0
  flatRun : Nat := 0
  /-- An on-time has been issued since the last conversion; consecutive periods with a low mean (R175). -/
  issued : Bool := false
  openRun : Nat := 0
  /-- Charge of the open 10 µs window in mA × ns, and the time it covers; the same of the last closed window (R216). -/
  charge : Int := 0
  span : Nat := 0
  lastCharge : Int := 0
  lastSpan : Nat := 0
  /-- In fallback because its converter has failed (R204). -/
  adcLost : Bool := false
deriving DecidableEq, Repr

/-- A rail beside its objects (R161-R185). -/
structure RailRec where
  stgEn : Bool := false
  /-- The 50 µs lead has run (R161). -/
  lead : Bool := false
  /-- STG_EN falls 10 µs after mid level (R161). -/
  stgDrop : Bool := false
  /-- The reference without REF_TRIM in mV, at the count from which it moves to the target at SS_SLEW (R168, R169). -/
  refFrom : Nat := 0
  refAt : Nat := 0
  /-- The reference falls under R309 after a trip. -/
  tripFall : Bool := false
  /-- The low-side discharge of R180 is in progress. -/
  discharge : Bool := false
  /-- Outer-loop outputs committed and not yet taken at a trip (R172): REF_TRIM, RIPPLE_AMP, TON_K, and the trims by phase. -/
  olRef : Option Int := none
  olRipple : Option Int := none
  olTonK : Option Int := none
  olTrim : Tbl Int := []
  /-- Consecutive implausible and plausible activations, and frozen outputs (R173). -/
  olBad : Nat := 0
  olGood : Nat := 0
  olHold : Bool := false
  /-- The ring position that the next trip looks at first, the trips held, and the time of the last trip (R162, R167). -/
  ptr : Nat := 0
  held : Nat := 0
  lastTrip : Option Nat := none
  /-- V_INJ at `injAt`, as a fraction of mV (R164). -/
  injNum : Nat := 0
  injDen : Nat := 1
  injAt : Nat := 0
  /-- Since when AXEXCESS has been above 0 (R174). -/
  axFrom : Option Nat := none
  /-- AX_ILIMIT stands (R174); the rail is latched by STG_FLT_N (R181); RAIL_SNS_FEW stands (R177). -/
  axLimit : Bool := false
  stgFlt : Bool := false
  snsFew : Bool := false
  /-- Samples of IBf in the 1 µs interval in progress, and its number (R163). -/
  ib : Samp := {}
  ibWin : Nat := 0
  /-- Local sense samples of the open 10 µs window. -/
  loc : Samp := {}
  /-- The last valid codes of the remote and the local sense (R200). -/
  vfb : Nat := 0
  vloc : Nat := 0
  /-- The converter and the sample instant of that remote reading: a local reading of the same instant makes a pair (R210, R212). -/
  vfbAt : Option (Nat × Nat) := none
  /-- The counts from which every valid reading has been below 90 % of V_REFNOW while the rail regulates (R170), at or above the
  overvoltage threshold (R180), within ±3 % of the target at the end of the ramp (R168), and every pair more than SNS_WIN apart
  (R184). -/
  uvFrom : Option Nat := none
  ovFrom : Option Nat := none
  regFrom : Option Nat := none
  snsFrom : Option Nat := none
  /-- The 1 µs interval of the hub timer in progress, the phases that issued a limited pulse in it, and the qualifying intervals
  before it in a row (R178). -/
  ocWin : Nat := 0
  ocPh : List Nat := []
  ocRun : Nat := 0
  /-- When the rail started (R168), STG_EN rose and every output reached mid level (R161), the discharge began (R180), hiccup began
  (R178) and the retry window opened (R179). -/
  startAt : Nat := 0
  stgAt : Nat := 0
  offAt : Nat := 0
  ovAt : Nat := 0
  hicAt : Nat := 0
  retryAt : Nat := 0
  /-- Remote and local codes and rail currents of the 1 ms window in progress (R185). -/
  remMs : Samp := {}
  locMs : Samp := {}
  curMs : Samp := {}
  /-- The condition of IBUS_UV holds at its bus (R182). -/
  ibLow : Bool := false
deriving DecidableEq, Repr

/-- A converter beside its objects (R186-R192). -/
structure ConvRec where
  enable : Bool := false
  /-- First contact has been made (R456); CAPABILITY says PEC and 1 MHz; VOUT_MODE. -/
  contacted : Bool := false
  pec : Bool := false
  fast : Bool := false
  voutMode : Nat := 0
  /-- Consecutive failed transactions; the poll in progress has been clean; consecutive clean polls (R190, R191). -/
  failRun : Nat := 0
  clean : Bool := true
  cleanPolls : Nat := 0
  /-- The time from which every READ_VIN has been out of range, and whether BUSVIN_RANGE stands (R192). -/
  vinBad : Option Nat := none
  vinOut : Bool := false
  /-- The enable is held low before a restart, since the count `restAt` (R191). -/
  restoring : Bool := false
  restAt : Nat := 0
  /-- When the enable rose (R186). -/
  enAt : Nat := 0
  /-- The commands of the transactions that are still due, of its poll or its restore (R188, R191); its poll is in progress. -/
  due : List Nat := []
  polling : Bool := false
  /-- An attempt at first contact is due (R456), and the ON_OFF_CONFIG last written. -/
  contactDue : Bool := false
  onOff : Option Nat := none
deriving DecidableEq, Repr

/-- A PMBus segment beside its objects: polls begun, converters whose STATUS_WORD is read ahead of the poll, and its Rind. -/
structure SegRec where
  polls : Nat := 0
  urgent : List Nat := []
  /-- When the last poll began (R189); the segment runs at 1 MHz (R187). -/
  pollAt : Option Nat := none
  fast : Bool := false
  closed : Bool := false
  tested : Bool := false
deriving DecidableEq, Repr

/-- A pass-through request that waits (R193), and whether the transaction that was in progress when it came may still end. -/
structure PassReq where
  conv : Nat
  cmd : Nat
  len : Nat
  behind : Bool := false
deriving DecidableEq, Repr

/-! ### Converters of package quantities (R199-R214) -/

/-- A run whose holds have still to close: its sequence, urgency, trigger (a phase and whether it is its peak, or none),
the entries and channels left, the count of its trigger and its DELAY, and whether its sample instant is still to come (R206-R209). -/
structure AdcRun where
  seq : Nat
  urgent : Bool
  trig : Option (Nat × Bool)
  entries : List (Nat × Nat)
  firedAt : Nat := 0
  delay : Nat := 0
  fresh : Bool := true
  /-- When the period of its phase began (R216). -/
  period : Nat := 0
deriving DecidableEq, Repr

/-- A held value, and after its slot starts the slice, the slot's start, and whether the reference was not ready. -/
structure AdcHold where
  entry : Nat
  channel : Nat
  time : Nat
  urgent : Bool
  late : Bool
  trig : Option (Nat × Bool)
  slice : Nat := 0
  slot : Nat := 0
  rnr : Bool := false
  /-- When the period of its phase began (R216). -/
  period : Nat := 0
deriving DecidableEq, Repr

/-- A converter beside its objects. -/
structure AdcRec where
  /-- The active slices, the one that has been active longest first; the slice in calibration; slot starts by slice. -/
  active : List Nat := [0, 1, 2, 3]
  calib : Option Nat := none
  /-- The slice in calibration has no spare in its place; a swap waits for the slice that leaves; when the last swap fell due (R203). -/
  calBack : Bool := false
  swapDue : Bool := false
  swapAt : Nat := 0
  used : Tbl Nat := []
  runs : List AdcRun := []
  /-- Values that wait, and values in slices, oldest slot first. -/
  holds : List AdcHold := []
  flight : List AdcHold := []
  lastSlot : Option Nat := none
  /-- The last OVR conversion's slot start, and whether the first slot after its 300 ns is to come (R213). -/
  ovrAt : Option Nat := none
  ovrTail : Bool := false
  /-- Entries whose last valid result was not OVR (R221). -/
  clean : List Nat := []
  /-- Consecutive check readings out of range; the converter has failed (R204). -/
  checkBad : Nat := 0
  failed : Bool := false
  /-- Slots started in the open 1 ms window (R222). -/
  slots : Nat := 0
  /-- The last valid code of channel 14 (R201). -/
  iref : Option Nat := none
  /-- Its Rind is closed, and its self-test has passed since (R346). -/
  closed : Bool := false
  tested : Bool := false
deriving DecidableEq, Repr

/-! ### The thermal model unit (R298-R307) -/

/-- A field diode: valid under R304, its consecutive valid conversions, the time of the last one, its residuals of the open
ms, whether its last comparison lay above the limit, and its samples of the 10 µs, 1 ms and 1 s windows. -/
structure DiodeRec where
  valid : Bool := false
  run : Nat := 0
  last : Nat := 0
  resid : Samp := {}
  hot : Bool := false
  t0 : Samp := {}
  t1 : Samp := {}
  t2 : Samp := {}
deriving DecidableEq, Repr

/-- A field's unit beside its objects. -/
structure ThermRec where
  /-- ΔT_J, ΔT_S and ΔT_P by node, in 1/4,096 °C, and each node's last power figure. -/
  dj : Tbl Nat := []
  ds : Tbl Nat := []
  dp : Tbl Nat := []
  power : Tbl Nat := []
  d0 : DiodeRec := {}
  d1 : DiodeRec := {}
  /-- A diode has been valid since the reset, and R305's start timeout has run out. -/
  seen : Bool := false
  startLost : Bool := false
  /-- Consecutive split ms, and whether their count has stopped at 10 (R305). -/
  splitRun : Nat := 0
  split : Bool := false
  /-- A node's last comparison lay above TCRIT; TH_BLIND stands. -/
  hot : Bool := false
  blind : Bool := false
  /-- The last update's figures have not been taken by the arbiter (R272); the ITHERM figures on their way to each cluster, oldest
  first (R299). -/
  fresh : Bool := false
  sent : Tbl (List Nat) := []
  /-- When each diode's converter first reported its reference ready, plus 1 (R305); TH_CORR_RANGE has been raised in this run at the
  bound (R302). -/
  readyAt : Tbl Nat := []
  ranged : Bool := false
  /-- T_HOT in the open 1 ms and 1 s windows, and the hold clear that waits (R218). -/
  h1 : Samp := {}
  h2 : Samp := {}
  clear : Bool := false
deriving DecidableEq, Repr

/-! ### Tiles -/

/-- An attribution slot record (R229): the tag, and the counts MAT, SRAM, FAB, MEMX, LNK. -/
structure SlotRec where
  tag : Nat := 0
  counts : List Nat := [0, 0, 0, 0, 0]
deriving DecidableEq, Repr

/-- What the hub has still to learn from a signature or a phase mark (R280). -/
structure CurdObs where
  field : Nat
  tile : Nat
  kind : Nat
  key : Nat
  time : Nat
  pest : Nat
  sum : Nat
  n : Nat
deriving DecidableEq, Repr
/-- A hint word with its tile and receipt time (R282), and the tile's figures at its arrival (R280). -/
structure HintWord where
  tile : Nat
  word : Nat
  time : Nat
  seen : CurdObs
deriving DecidableEq, Repr

/-- A prediction in force (R281, R283): PRED_SRC, its intensity, whether it caps demand, and its end. -/
structure Pred where
  src : Nat
  level : Nat
  cap : Bool
  till : Nat
deriving DecidableEq, Repr

/-- Figures of the hub for a field (R266): an arbiter period's, or a pace alone. -/
structure HubFig where
  period : Bool
  cB : List Nat := []
  pace : List Nat := []
  cCool : Nat := 256
  share : Nat := 0
  marked : Bool := false
  excess : Bool := false
deriving DecidableEq, Repr

/-- A learning interval that has closed (R236): when its window ended, its mean estimate, and whether a feed was missing. -/
structure Closed where
  endAt : Nat
  est : Int
  gap : Bool
deriving DecidableEq, Repr

/-- A tile at the field station: token crossing, activity port, fence (R56-R58, R257-R261). -/
structure TileRec where
  /-- The code sent for the previous window, and the word chosen for the next one. -/
  prev : Nat := 0
  next : Nat := 0xB00000
  /-- Words held in the crossing, oldest first, the word that waits for space, and the word the tile took last (R56); at reset the
  token word is that of R257, with REASON 11. -/
  words : List Nat := []
  waiting : Option Nat := none
  taken : Option Nat := some 0xB00000
  /-- Activity requests outstanding (R57). -/
  asked : Nat := 0
  /-- The tile's fence signal (R58). -/
  fence : Bool := false
  /-- The last snapshot (R228, R229): its time, counters and slot records, and the bindings at the interval's start. -/
  snapAt : Nat := 0
  counts : List Nat := []
  slots : List SlotRec := []
  /-- The input vectors that wait for the estimator's next release (R231). -/
  input : Option (Block × Block) := none
  binds : Tbl (List Nat) := []
  /-- The estimator's last output, its sum and number in the 1 ms interval, and the codes sent in it (R231, R232, R239). -/
  est : Nat := 0
  estSum : Nat := 0
  estN : Nat := 0
  codeSum : Nat := 0
  codeN : Nat := 0
  /-- Activations since the h₂ sum was zeroed, and the sum and number taken at the last IVL activation (R231, R237). -/
  acts : Nat := 0
  h2 : Option (Block × Nat) := none
  /-- w in force, whether the estimator engine's line has still to take it, the RLS block as bytes, its snapshot, and the error and y of the interval to learn from (R237, R238). -/
  w : Block := {}
  wDue : Bool := false
  rls : List Nat := []
  snap : List Nat := []
  learn : Option (Int × Block) := none
  /-- The image whose descriptor set the tile up (R235). -/
  image : Option Nat := none
  /-- Why it is frozen: bit 0 disagreement, bit 1 command, bit 2 no descriptor (R239, R240, R235). -/
  frozen : Nat := 0
  goodRun : Nat := 0
  thawRun : Nat := 0
  /-- The feed of snapshots was missing for more than 10 µs in the open interval. -/
  gap : Bool := false
  /-- Closed intervals that wait for their energy, oldest first, and the close markers on their way to the cluster, each by the count at
  which its window ended (R236). -/
  closed : List Closed := []
  markers : List Nat := []
  /-- C_B and the pace in force, the last window's candidates, and those selected for the next one (R260, R266, R297). -/
  cB : Nat := 256
  pace : Nat := 256
  cand : List Nat := []
  candNext : List Nat := []
  /-- A code below 256 since the last arbiter period (R265); THR_CLEAR waits (R297). -/
  low : Bool := false
  thrClear : Bool := false
  /-- Windows by reason, and windows below 256, in the open and the last 1 ms window (R296); CODE_AVG (R290). -/
  reasons : Tbl Nat := []
  lastReasons : Tbl Nat := []
  thrWin : Nat := 0
  lastThrWin : Nat := 0
  avg : Nat := 0
  /-- The feed-forward messages on their way to the cluster: the change of code and G (R98). -/
  feed : List (Int × Nat) := []
  /-- The field station's count when a snapshot last showed an advance of any counter (R113). -/
  advancedAt : Nat := 0
  /-- Hint words taken and not acted on, the hint and the Curd prediction in force, and the pre-position messages to send,
  with their times (R282-R285). -/
  hintDue : List HintWord := []
  hint : Option Pred := none
  curd : Option Pred := none
  pos : List (Nat × Nat) := []
  /-- Pre-position messages on their way to the cluster, oldest first (R285, R102). -/
  posOut : List Nat := []
  /-- Counter advances of the open 10 µs window, and the signature on its way to the hub (R280). -/
  sig : List Nat := []
  sigOut : Option Nat := none
  /-- Sum and number of all P_EST figures, for the means of R280. -/
  totSum : Nat := 0
  totN : Nat := 0
deriving DecidableEq, Repr

/-- A field station's arbiter beside its objects: requests waiting for a reservation, and reservations held (R274-R276). -/
structure ArbRec where
  queue : List Nat := []
  /-- When the request in front reached the head of the queue (R277). -/
  headAt : Nat := 0
  granted : List Nat := []
  /-- L of R270, which may be negative. -/
  limit : Int := 0
  /-- The last winner that each cluster reported (R97). -/
  winners : Tbl Nat := []
  /-- mW of the reservations granted, by domain (R276); the make-room ceiling acts (R277). -/
  amounts : Tbl Nat := []
  roomOn : Bool := false
  /-- Thermal candidates by node, 256 where none is listed (R273). -/
  therm : Tbl Nat := []
  cCool : Nat := 256
  share : Nat := 1750000
  /-- Hub figures sent and not received, and received and not applied (R266). -/
  sent : List HubFig := []
  inbox : List HubFig := []
  /-- CAPDROP for the next selection (R260). -/
  capDrop : Bool := false
  hints : List HintWord := []
  /-- The output power of AX*f* for the open service window (R242). -/
  axPower : Option Nat := none
  /-- ARB_STALE has been raised since the last arbiter period. -/
  stale : Bool := false
deriving DecidableEq, Repr


/-! ### Loop engines (R122-R156) -/

/-- An engine image (R142). `id` is its CRC-32, `ttab` its table time in 100 ps (R138). -/
structure Image where
  kind : Nat
  order : Nat
  cbase : Nat
  wbase : Nat
  wlines : Nat
  flags : Nat
  xline0 : Nat
  xline1 : Nat
  regfmt : List Nat
  ps : List Int
  xscale : List Int
  words : List Nat
  consts : List Nat
  init : List Nat
  id : Nat
  ttab : Nat
  /-- Its bytes, and the first instruction word of the range that the station chose for it (R123). -/
  bytes : List Nat := []
  base : Nat := 0
deriving DecidableEq, Repr

/-- An effect held until the commit (R139). A supervision result comes with element 0 of its Va, rounded to an integer (assumption 24). -/
inductive Held
  | out (port : Nat) (v : Dy)
  | store (line : Nat) (bytes : List Nat)
  | supv (ch : Nat) (isOver : Bool) (resid : Int)
deriving DecidableEq, Repr

/-- A register bank with the activation that runs in it (R139). -/
structure Bank where
  task : Nat
  /-- Its latch instant, on the station's count (R139). -/
  due : Nat := 0
  v : List Block
  a : List Acc
  widx : Nat := 0
  /-- SAT was set in this activation, and whether it is the task's first (R136). -/
  satNow : Bool := false
  first : Bool := false
  pc : Nat := 0
  held : List Held := []
  /-- The port values and station masks of this activation (R137). -/
  ports : Tbl Int := []
  masks : Tbl Nat := []
deriving DecidableEq, Repr

/-- An activation that has reached END and waits for its latch instant. -/
structure Done where
  task : Nat
  due : Nat := 0
  held : List Held
deriving DecidableEq, Repr

/-- A released task that waits to run (R140). -/
structure Ready where
  task : Nat
  cls : Nat
  due : Nat
deriving DecidableEq, Repr

/-- A loop engine beside its objects. -/
structure EngRec where
  /-- The banks in use, by class, and the class that runs. -/
  banks : Tbl (Option Bank) := []
  running : Option Nat := none
  ready : List Ready := []
  done : List Done := []
  /-- Data memory, by byte: what its selection bits select, and the other array (R123). -/
  mem : Tbl Nat := []
  alt : Tbl Nat := []
  /-- The active image of each task, and the shadow (R143). -/
  images : Tbl (Option Image) := []
  shadow : List Byte := []
  shadowImg : Option Image := none
  /-- The task that TARGET named when the shadow was loaded (R143). -/
  shadowTask : Nat := 0
  /-- A swap (1) or revert (2) waits for the next activation start; the shadow has been written since the last swap. -/
  swapDue : Nat := 0
  written : Bool := false
  /-- Tasks whose next activation is the first after enable, swap or takeover. -/
  firsts : List Nat := []
  /-- Failed (R146), its Rind closed, and its self-test passed since (R346). -/
  failed : Bool := false
  closed : Bool := false
  tested : Bool := false
  /-- The spare loads the image of this cluster (R146); a handback waits for the cluster's next input instant (R148). -/
  loading : Option Nat := none
  handback : Bool := false
  /-- Tasks to unload when their activation ends (R139, R154). -/
  unload : List Nat := []
  /-- An estimator's last release was the first in its 1 ms window (R231). -/
  ivl : Bool := false
deriving DecidableEq, Repr

/-- A trace unit beside its objects (R150): entries held, entries still to record after the trigger, and whether its trigger source
has fired. `buf` is the buffer of the traced cluster station and `lost` the entries lost since it was last full (R152). -/
structure TraceRec where
  count : Nat := 0
  left : Nat := 0
  lastTime : Option Nat := none
  fired : Bool := false
  buf : List Nat := []
  lost : Nat := 0
  closed : Bool := false
deriving DecidableEq, Repr

/-! ### Estimation and the ledger -/

/-- What a handle has still to be charged with at a field station, in 1/1,024 µJ (R243). -/
structure Bucket where
  attr : Nat := 0
  svc : Nat := 0
  meas : Nat := 0
deriving DecidableEq, Repr

/-- A tagged slot's counts of one 10 µs window (R242). -/
structure SvcShare where
  handle : Nat
  counts : List Nat
deriving DecidableEq, Repr

/-- A field station's learning and energy accounts (R237-R243, R249). -/
structure EstRec where
  /-- The tile to learn next, and the one whose block is in the task's working lines. -/
  next : Nat := 0
  learning : Option Nat := none
  /-- The tile whose block the paging unit has placed for the next release (R237, R394). -/
  paged : Option Nat := none
  binds : Tbl (List Nat) := []
  /-- The descriptor of the image that runs on each estimator engine, once the next image's has been written (R430). -/
  descKept : Tbl (List Byte) := []
  buckets : Tbl Bucket := []
  unattr : Nat := 0
  /-- The shares of the open 10 µs window, and the tiles' whole counts of it. -/
  shares : List SvcShare := []
  whole : List Nat := [0, 0, 0, 0, 0]
  /-- Handles to flush (R247). -/
  flush : List Nat := []
  /-- The field's estimated µJ of each tile, as fractions of 1/1,000,000 µJ not yet in E_EST or E_MEAS. -/
  estFrac : Tbl Nat := []
  measFrac : Tbl Nat := []
deriving DecidableEq, Repr

/-- The hub's ledger beside its entries, which lie in its banks (R244-R250). -/
structure LedgerRec where
  /-- The first unacknowledged record of the flush ring and their number. -/
  head : Nat := 0
  count : Nat := 0
  /-- Bindings, by partition. -/
  binds : Tbl (List Nat) := []
  /-- Field stations that have replied to the flush of a closing handle. -/
  replies : Tbl Nat := []
  /-- Identifiers charged to the overflow entry and not closed. -/
  overflow : List Nat := []
  /-- The part of E_DIE_MEAS below 1 µJ, in 1/100 µJ (R251). -/
  dieFrac : Nat := 0
deriving DecidableEq, Repr

/-! ### Budget (R263-R296) -/

/-- A claimed partition: its descriptor, C[p] and set[p], D, g and POWER of the last period, its pace and the end of its
lapse. -/
structure PartRec where
  weight : Nat
  pmin : Nat
  pmax : Nat
  mask : Nat
  c : Nat := 256
  isSet : Bool := false
  demand : Nat := 0
  grant : Nat := 0
  power : Nat := 0
  pace : Nat := 256
  lapse : Nat := 0
deriving DecidableEq, Repr

/-- The hub's budget arbiter beside its objects. -/
structure BudgetRec where
  parts : Tbl (Option PartRec) := []
  shortPrev : Bool := false
  /-- 1 ms bins of die power, newest first, over bins that all hold `fill` (R267). -/
  bins : List Nat := []
  fill : Nat := 11000000
  /-- A fault has changed a field's capacity since the last period, and the shares sent in it (R269). -/
  capFault : Bool := false
  shares : Tbl Nat := []
  /-- The standby copy of the partitions, with their grants, and of the bindings, and whether it serves from the next period (R431). -/
  copyParts : Tbl (Option PartRec) := []
  copyBinds : Tbl (List Nat) := []
  mirrorDue : Bool := false
  curdClear : Bool := false
  obs : List CurdObs := []
deriving DecidableEq, Repr

/-- What the publications of R220 hold: domains with a new figure since the last 10 µs and the last 1 ms table, and the
number of tables of each kind. -/
structure PubRec where
  new10 : List Nat := []
  new1 : List Nat := []
  seq10 : Nat := 0
  seq1 : Nat := 0
deriving DecidableEq, Repr

/-! ### Resets, boot and in-service images (R338-R359, R421-R437) -/

/-- What BOOT_STATUS shows (R359), the source in progress (0 bank A, 1 bank B, 2 the OTP image, 3 MCTP recovery), and those
that follow it. -/
structure BootRec where
  stage : Nat := 0
  src : Nat := 0
  bank : Nat := 0
  fallback : Bool := false
  optBlank : Bool := false
  err : Nat := 0
  cur : Nat := 0
  rest : List Nat := []
deriving DecidableEq, Repr

structure ResetRec where
  /-- The level of the reset that stands until its release: 0 power-on, 1 system; and the causes counted in it (R349). -/
  held : Option Nat := some 0
  causes : List Nat := []
  /-- When the reset that stands was applied, and when the last power-on or system reset was released (R347, R348, R356). -/
  heldAt : Nat := 0
  releasedAt : Nat := 0
  /-- RESET_CTRL is armed, and since when (R358). -/
  armed : Bool := false
  armedAt : Nat := 0
  /-- The straps and the option load wait for VIO18 (R440). -/
  strapWait : Bool := false
  /-- The first configured state has been reached, and RST_STRETCH has run out (R322, R348). -/
  configured : Bool := false
  stretched : Bool := false
  /-- Firmware is ready, and the core's Rind is open (R339). -/
  coreUp : Bool := false
  /-- When the core watchdog expires, and a trial (R344, R428). -/
  wdogDue : Option Nat := none
  trialDue : Option Nat := none
  /-- Interfaces held in reset for want of clock-good (R356); REFCLK's has held since the release (R447); and from when the 1 ms of an
  interface released anew count, by its bit. -/
  clkStuck : Nat := 0
  refSeen : Bool := false
  clkFrom : Tbl Nat := []
  /-- Stations whose Rind is closed, and units that a CONTAIN action holds closed (R346, R364). -/
  closedSt : List Nat := []
  contained : List BlkUnit := []
  /-- Units whose block reset is in progress: closed, with the self-test still to come (R346). -/
  testing : List BlkUnit := []
  boot : BootRec := {}
deriving DecidableEq, Repr

/-- An entry of the Moult log (R437). -/
structure MltEntry where
  seq : Nat
  kind : Nat
  result : Nat
  station : Nat
  item : Nat
  value : Nat
  stnTime : Nat
  hubTime : Nat
deriving DecidableEq, Repr

/-- A flash program in progress (R427, R429): SLOT_SEQ of a bank, CONFIRM of a bank, or the manifest areas. -/
inductive FlashOp
  | slotSeq (bank value : Nat)
  | confirm (bank : Nat)
  | manifest
deriving DecidableEq, Repr

structure Moult where
  log : List MltEntry := []
  /-- The flash, by byte; a byte not listed reads 0xFF. -/
  flash : Tbl Nat := []
  /-- The OTP image and the hashes of the key slots. -/
  otpImage : List Nat := []
  keyHash : Tbl (List Nat) := []
  /-- The fuse word of each thermal diode's ideality, by 2 × field + diode, 0 where it is blank (R304). -/
  eta : Tbl Nat := []
  /-- The bank of the open transfer, the flash programs in progress, and the bytes of the manifest to install. -/
  bank : Nat := 0
  ops : List FlashOp := []
  manifest : List Nat := []
  /-- The boot ROM holds banks B24-B55 as the recovery buffer (R434). -/
  buffer : Bool := false
  /-- The key slot in which the running image is signed. -/
  activeKey : Option Nat := none
deriving DecidableEq, Repr

/-! ### Scratchpads and paging (R381-R399) -/

/-- The response to the last access of a bank: 0 done, 1 error, 2 repair; its data, and BUSY (R382-R392). A context move that ends with
an error leaves 1 (R394). -/
structure MemResp where
  code : Nat := 0
  data : Nat := 0
  busy : Bool := false
deriving DecidableEq, Repr

/-- A context of R393: its kind, where it is held, its tile or IMAGE_ID, its first byte in the store and its length. The bytes of one
on the host tier are `data`; those of the others stand in the banks. -/
structure PageCtx where
  kind : Nat
  place : PagePlace
  id : Nat
  addr : Nat
  len : Nat
  data : List Nat := []
deriving DecidableEq, Repr

structure MemRec where
  resp : MemResp := {}
  /-- The contexts held, the least recently used first, and the trace dumps in progress, by station. -/
  ctxs : List PageCtx := []
  dumps : List Nat := []
  /-- IMAGE_IDs of the control images that the field stores have lost and firmware has not reloaded (R396). -/
  lostImgs : List Nat := []
  /-- HOST_TIER_BASE has been written since the reset (R395). -/
  baseSet : Bool := false
deriving DecidableEq, Repr

/-! ### The test access port (R450-R453) -/

/-- The instructions of R450. -/
inductive TapInstr
  | extest | idcode | samplePreload | clamp | highz | loopback | bypass
deriving DecidableEq, Repr

structure TapRec where
  instr : TapInstr := .idcode
  /-- The previous instruction was refused (R452). -/
  refused : Bool := false
  /-- The boundary register's 988 cells, the first cell from TDI in the highest bit. -/
  cells : Nat := 0
  /-- The loopback register, and when Update-DR last applied it. -/
  pin : Nat := 0
  current : Nat := 0
  valid : Bool := false
  code : Nat := 0
  since : Nat := 0
deriving DecidableEq, Repr

/-! ### The machine -/

structure State where
  /-- The commands waiting, first in first out. -/
  pending : List Instr := []
  /-- The nanoseconds that have passed since the power-on reset. -/
  now : Nat := 0
  /-- What each station's oscillator has gained or lost since, in 1/1,000,000 ns, by station address (R54). -/
  skew : Tbl Int := []
  /-- The model's own counter of free values drawn. -/
  free : Nat := 0
  /-- The stored scalar objects of the dictionary, by address. -/
  regs : Tbl Nat := []
  wheels : Tbl WheelRec := []
  groups : List GroupRec := []
  net : Net := {}
  flt : Faults := {}
  tr : Transports := {}
  mrs : Tbl MrRec := []
  cells : Tbl CellsRec := []
  sensors : Tbl SensorRec := []
  loops : Tbl LoopRec := []
  tiles : Tbl TileRec := []
  seq : Sequencer := {}
  trip : Trip := {}
  supply : Supply := {}
  tels : Tbl TelRec := []
  rails : Tbl RailRec := []
  phases : Tbl PhaseRec := []
  convs : Tbl ConvRec := []
  segs : Tbl SegRec := []
  adcs : Tbl AdcRec := []
  therms : Tbl ThermRec := []
  pass : Option PassReq := none
  arbs : Tbl ArbRec := []
  engines : Tbl EngRec := []
  traces : Tbl TraceRec := []
  /-- The scratchpads: station (0 hub, 1 + f a field station) × 2^32 + byte address (R381); a byte not listed reads 0. -/
  mem : List Host.Cell := []
  /-- IMAGE_IDs of the installed manifest (R138, R429). -/
  manifest : List Nat := []
  ests : Tbl EstRec := []
  ledger : LedgerRec := {}
  /-- The stored BLOB and STR objects, by address. -/
  blobs : Tbl (List Byte) := []
  /-- Poisoned words of the scratchpads (R390): the key of a byte address over 8. -/
  poison : List Nat := []
  budget : BudgetRec := {}
  pub : PubRec := {}
  rst : ResetRec := {}
  moult : Moult := {}
  memory : MemRec := {}
  tap : TapRec := {}
  /-- For each periodic event, 1 + the count at which it was last taken. -/
  marks : Tbl Nat := []
deriving DecidableEq, Repr

/-- Why the machine stops with a fault. A fault of the device itself is no stop: it is a record of its collector. -/
inductive Fault
deriving DecidableEq, Repr

/-- Why a command has no next state. -/
inductive Refusal
  /-- Raised by an arm of `exec` whose meaning is not written; safe. -/
  | notModelled (mnemonic : String)
  /-- Raised by an engine instruction with an operand that R131 to R136 reserve: R138 refuses every image that holds one,
  so no engine executes it; safe. -/
  | reservedOperand
  /-- Raised by an event that names a unit the spec says does not exist (MR or sensor 16-31 of a service cluster, phase
  4-31 of an auxiliary rail); safe. -/
  | noSuchUnit
deriving DecidableEq, Repr

/-- The machine right after a power-on reset: every table empty, so every object at its default (R13). -/
def State.reset : State := {}

end Sys2Proof.Machine
end

