-- ==== Sys2Proof/Machine/Objects.lean ====
section
/-!
DEFINITION. The dictionary objects (R10): the index and subindex of every named object of the chapters' tables, and one
row per table line with its holders, size, access right, default and range (R11-R13). Taken from the tables of spec/.
-/
namespace Sys2Proof.Machine

/-- An object's index and subindex (R10). A record of several units adds the unit's number to the index. -/
structure Obj where
  index : Nat
  sub : Nat
deriving DecidableEq, Repr

/-- The object of unit `k` of its record. -/
def Obj.at (o : Obj) (k : Nat) : Obj := { o with index := o.index + k }
/-- The object `k` subindices further in its record. -/
def Obj.nth (o : Obj) (k : Nat) : Obj := { o with sub := o.sub + k }

/-- Access rights of R12. -/
inductive Access
  | ro | rw | wo | rws | w1c
deriving DecidableEq, Repr

/-- One line of a dictionary table. `own` adds 1 for the hub, 2 for field stations, 4 for cluster stations and 8 for
group addresses; `size` is 0 for BFV, STR and BLOB objects. -/
structure ObjRow where
  own : Nat
  base : Nat
  count : Nat
  subLo : Nat
  subHi : Nat
  size : Nat
  access : Access
  dflt : Nat
  lo : Nat
  hi : Nat
deriving DecidableEq, Repr

namespace O
/-- DOMAIN_COUNT, U8 RO, default 64 (chapter 01). -/
def DOMAIN_COUNT : Obj := ⟨0x2000, 0x00⟩
/-- DOMAINS_ON, U64 RO, default 0 (chapter 01). -/
def DOMAINS_ON : Obj := ⟨0x2001, 0x00⟩
/-- DOMAINS_LATCHED, U64 RO, default 0 (chapter 01). -/
def DOMAINS_LATCHED : Obj := ⟨0x2002, 0x00⟩
/-- STAGE_EFF, U16 RW, default 920 (chapter 01). -/
def STAGE_EFF : Obj := ⟨0x2003, 0x00⟩
/-- KIND, U8 RO, default per R25 (chapter 01). -/
def DOM_KIND : Obj := ⟨0x2040, 0x01⟩
/-- FIELD, U8 RO, default per R25 (chapter 01). -/
def DOM_FIELD : Obj := ⟨0x2040, 0x02⟩
/-- CLUSTER_MASK, U32 RO, default per R25 (chapter 01). -/
def CLUSTER_MASK : Obj := ⟨0x2040, 0x03⟩
/-- RAIL_INDEX, U8 RO, default per R25 (chapter 01). -/
def DOM_RAIL_INDEX : Obj := ⟨0x2040, 0x04⟩
/-- VSET, U16 RW, default OTP (chapter 01). -/
def VSET : Obj := ⟨0x2040, 0x05⟩
/-- STATE, U8 RO, default stopped (chapter 01). -/
def DOM_STATE : Obj := ⟨0x2040, 0x06⟩
/-- ACTIVE_MR, U16 RO, default — (chapter 01). -/
def ACTIVE_MR : Obj := ⟨0x2040, 0x07⟩
/-- PARKED_MASK, U32 RO, default 0 (chapter 01). -/
def PARKED_MASK : Obj := ⟨0x2040, 0x08⟩
/-- ICAP_CONT, U32 RO, default — (chapter 01). -/
def ICAP_CONT : Obj := ⟨0x2040, 0x09⟩
/-- ICAP_PEAK, U32 RO, default — (chapter 01). -/
def ICAP_PEAK : Obj := ⟨0x2040, 0x0A⟩
/-- LATCH_CAUSE, U16 RO, default 0 (chapter 01). -/
def LATCH_CAUSE : Obj := ⟨0x2040, 0x0B⟩
/-- ON_TIME, U64 RO, default 0 (chapter 01). -/
def ON_TIME : Obj := ⟨0x2040, 0x0C⟩
/-- DX_ACTIVE, U8 RO, default — (chapter 01). -/
def DX_ACTIVE : Obj := ⟨0x2080, 0x01⟩
/-- BUS_PMAX, U32 RO, default — (chapter 01). -/
def BUS_PMAX : Obj := ⟨0x2080, 0x02⟩
/-- FR_PHASES, U8 RO, default — (chapter 01). -/
def FR_PHASES : Obj := ⟨0x2080, 0x03⟩
/-- FR_ICONT, U32 RO, default — (chapter 01). -/
def FR_ICONT : Obj := ⟨0x2080, 0x04⟩
/-- FR_IPEAK, U32 RO, default — (chapter 01). -/
def FR_IPEAK : Obj := ⟨0x2080, 0x05⟩
/-- AX_PHASES, U8 RO, default — (chapter 01). -/
def AX_PHASES : Obj := ⟨0x2080, 0x06⟩
/-- W_LEVEL, U8 RO, default per R31 (chapter 02). -/
def W_LEVEL : Obj := ⟨0x2010, 0x01⟩
/-- W_STATE, U8 RO, default 0 (chapter 02). -/
def W_STATE : Obj := ⟨0x2010, 0x02⟩
/-- W_COMMAND, U8 WO, default — (chapter 02). -/
def W_COMMAND : Obj := ⟨0x2010, 0x03⟩
/-- W_SETPOINT, U16 RW, default per level (chapter 02). -/
def W_SETPOINT : Obj := ⟨0x2010, 0x04⟩
/-- W_SET_NOW, U16 RO, default — (chapter 02). -/
def W_SET_NOW : Obj := ⟨0x2010, 0x05⟩
/-- W_VMIN, U16 RW, default lower end of level range (chapter 02). -/
def W_VMIN : Obj := ⟨0x2010, 0x06⟩
/-- W_VMAX, U16 RW, default upper end of level range (chapter 02). -/
def W_VMAX : Obj := ⟨0x2010, 0x07⟩
/-- W_ILIMIT, U32 RW, default 0xFFFFFFFF (chapter 02). -/
def W_ILIMIT : Obj := ⟨0x2010, 0x08⟩
/-- W_ILIMIT_EFF, U32 RO, default — (chapter 02). -/
def W_ILIMIT_EFF : Obj := ⟨0x2010, 0x09⟩
/-- W_V_MEAS, U16 RO, default — (chapter 02). -/
def W_V_MEAS : Obj := ⟨0x2010, 0x0A⟩
/-- W_I_MEAS, U32 RO, default — (chapter 02). -/
def W_I_MEAS : Obj := ⟨0x2010, 0x0B⟩
/-- W_P_MEAS, U32 RO, default — (chapter 02). -/
def W_P_MEAS : Obj := ⟨0x2010, 0x0C⟩
/-- W_FAULTS, U32 RO, default 0 (chapter 02). -/
def W_FAULTS : Obj := ⟨0x2010, 0x0D⟩
/-- W_PARENTS, U8 RO, default 0 (chapter 02). -/
def W_PARENTS : Obj := ⟨0x2010, 0x0E⟩
/-- W_MEMBERS, U16 RO, default per R31 (chapter 02). -/
def W_MEMBERS : Obj := ⟨0x2010, 0x0F⟩
/-- W_STATE_TIME, U64 RO, default 0 (chapter 02). -/
def W_STATE_TIME : Obj := ⟨0x2010, 0x10⟩
/-- MEMBER_COUNT, U8 RW, default 0 (chapter 02). -/
def MEMBER_COUNT : Obj := ⟨0x2011, 0x00⟩
/-- MEMBER, U32 RW, default 0 (chapter 02). -/
def MEMBER : Obj := ⟨0x2011, 0x01⟩
/-- MR_COUNT, U8 RO, default 24 or 16 (chapter 03). -/
def MR_COUNT : Obj := ⟨0x2200, 0x01⟩
/-- ACTIVE, U8 RO, default — (chapter 03). -/
def ACTIVE : Obj := ⟨0x2200, 0x02⟩
/-- RETIRED_MASK, U32 RO, default 0 (chapter 03). -/
def RETIRED_MASK : Obj := ⟨0x2200, 0x03⟩
/-- PRESET_MASK, U32 RWS, default 0 (chapter 03). -/
def PRESET_MASK : Obj := ⟨0x2200, 0x04⟩
/-- ICYC, U32 RW, default 10,000 (chapter 03). -/
def ICYC : Obj := ⟨0x2200, 0x05⟩
/-- LIM_RUN, U16 RW, default 64 (chapter 03). -/
def LIM_RUN : Obj := ⟨0x2200, 0x06⟩
/-- HICCUP_OFF, U32 RW, default 10,000 (chapter 03). -/
def HICCUP_OFF : Obj := ⟨0x2200, 0x07⟩
/-- HICCUP_LIMIT, U8 RW, default 4 (chapter 03). -/
def HICCUP_LIMIT : Obj := ⟨0x2200, 0x08⟩
/-- RETRY_WINDOW, U32 RW, default 1,000,000 (chapter 03). -/
def RETRY_WINDOW : Obj := ⟨0x2200, 0x09⟩
/-- OPEN_FRAC, U8 RW, default 10 (chapter 03). -/
def OPEN_FRAC : Obj := ⟨0x2200, 0x0A⟩
/-- OPEN_RUN, U16 RW, default 4,096 (chapter 03). -/
def MC_OPEN_RUN : Obj := ⟨0x2200, 0x0B⟩
/-- ROT_PERIOD, U16 RW, default 1,024 (chapter 03). -/
def ROT_PERIOD : Obj := ⟨0x2200, 0x0C⟩
/-- OVT, U16 RW, default 30 (chapter 03). -/
def OVT : Obj := ⟨0x2200, 0x0D⟩
/-- DUTY_MAX, U16 RW, default 1,434 (chapter 03). -/
def DUTY_MAX : Obj := ⟨0x2200, 0x0E⟩
/-- SHORT_FRAC, U8 RW, default 75 (chapter 03). -/
def SHORT_FRAC : Obj := ⟨0x2200, 0x0F⟩
/-- CEILING, U16 RO, default 256 (chapter 03). -/
def CEILING : Obj := ⟨0x2200, 0x10⟩
/-- TRUNC_COUNT, U32 RO, default 0 (chapter 03). -/
def TRUNC_COUNT : Obj := ⟨0x2200, 0x11⟩
/-- SHORT_STATE, U8 RO, default 0 (chapter 03). -/
def SHORT_STATE : Obj := ⟨0x2200, 0x12⟩
/-- STATUS, U32 RO, default 0 (chapter 03). -/
def MR_STATUS : Obj := ⟨0x2210, 0x01⟩
/-- I_PHA, U32 RO, default — (chapter 03). -/
def I_PHA : Obj := ⟨0x2210, 0x02⟩
/-- I_PHB, U32 RO, default — (chapter 03). -/
def I_PHB : Obj := ⟨0x2210, 0x03⟩
/-- TRIM, S16 RO, default 0 (chapter 03). -/
def MR_TRIM : Obj := ⟨0x2210, 0x04⟩
/-- LIM_COUNT, U32 RO, default 0 (chapter 03). -/
def LIM_COUNT : Obj := ⟨0x2210, 0x05⟩
/-- HICCUP_TOTAL, U32 RO, default 0 (chapter 03). -/
def MR_HICCUP_TOTAL : Obj := ⟨0x2210, 0x06⟩
/-- RETIRE_TIME, U64 RO, default 0 (chapter 03). -/
def RETIRE_TIME : Obj := ⟨0x2210, 0x07⟩
/-- RETIRE_FAULT, U16 RO, default 0 (chapter 03). -/
def RETIRE_FAULT : Obj := ⟨0x2210, 0x08⟩
/-- SENSOR_COUNT, U8 RO, default 32 or 16 (chapter 03). -/
def SENSOR_COUNT : Obj := ⟨0x2300, 0x01⟩
/-- ENABLE_MASK, U32 RW, default 0xFFFFFFFF or 0x0000FFFF (chapter 03). -/
def ENABLE_MASK : Obj := ⟨0x2300, 0x02⟩
/-- MASKED_MASK, U32 RO, default 0 (chapter 03). -/
def MASKED_MASK : Obj := ⟨0x2300, 0x03⟩
/-- MIN_NOW, U16 RO, default — (chapter 03). -/
def MIN_NOW : Obj := ⟨0x2300, 0x04⟩
/-- MIN_INDEX, U8 RO, default — (chapter 03). -/
def MIN_INDEX : Obj := ⟨0x2300, 0x05⟩
/-- MIN_1MS, U16 RO, default — (chapter 03). -/
def SC_MIN_1MS : Obj := ⟨0x2300, 0x06⟩
/-- MIN_1MS_INDEX, U8 RO, default — (chapter 03). -/
def MIN_1MS_INDEX : Obj := ⟨0x2300, 0x07⟩
/-- MASK_DEV, U16 RW, default 60 (chapter 03). -/
def MASK_DEV : Obj := ⟨0x2300, 0x08⟩
/-- WINS_CLEAR, BOOL WO, default — (chapter 03). -/
def WINS_CLEAR : Obj := ⟨0x2300, 0x09⟩
/-- STATUS, U8 RO, default 0 (chapter 03). -/
def SN_STATUS : Obj := ⟨0x2310, 0x01⟩
/-- VALUE, U16 RO, default — (chapter 03). -/
def VALUE : Obj := ⟨0x2310, 0x02⟩
/-- MEAN_1MS, U16 RO, default — (chapter 03). -/
def MEAN_1MS : Obj := ⟨0x2310, 0x03⟩
/-- MIN_1MS, U16 RO, default — (chapter 03). -/
def SN_MIN_1MS : Obj := ⟨0x2310, 0x04⟩
/-- WINS, U32 RO, default 0 (chapter 03). -/
def WINS : Obj := ⟨0x2310, 0x05⟩
/-- TRIM, S16 RO, default OTP (chapter 03). -/
def SN_TRIM : Obj := ⟨0x2310, 0x06⟩
/-- ORDER, U8 RO, default 5 or 3 (chapter 04). -/
def ORDER : Obj := ⟨0x2100, 0x01⟩
/-- SLEW_UP, U16 RW, default 16 (chapter 04). -/
def SLEW_UP : Obj := ⟨0x2100, 0x02⟩
/-- SLEW_DOWN, U16 RW, default 16 (chapter 04). -/
def SLEW_DOWN : Obj := ⟨0x2100, 0x03⟩
/-- FF_WEIGHT, U16 RW, default 800 or 0 (chapter 04). -/
def FF_WEIGHT : Obj := ⟨0x2100, 0x04⟩
/-- TAU_IL, U32 RW, default 1,000 (chapter 04). -/
def TAU_IL : Obj := ⟨0x2100, 0x05⟩
/-- RESID_V, U16 RW, default 25 (chapter 04). -/
def RESID_V : Obj := ⟨0x2100, 0x06⟩
/-- RESID_I, U32 RW, default 20,000 (chapter 04). -/
def RESID_I : Obj := ⟨0x2100, 0x07⟩
/-- RESID_RUN, U16 RW, default 16 (chapter 04). -/
def RESID_RUN : Obj := ⟨0x2100, 0x08⟩
/-- FE_MAX, U16 RW, default 40 (chapter 04). -/
def FE_MAX : Obj := ⟨0x2100, 0x09⟩
/-- FE_TIME, U32 RW, default 20,000 (chapter 04). -/
def FE_TIME : Obj := ⟨0x2100, 0x0A⟩
/-- HOLD_BAND, U16 RW, default 40 (chapter 04). -/
def HOLD_BAND : Obj := ⟨0x2100, 0x0B⟩
/-- HOLD_TIME, U32 RW, default 100,000 (chapter 04). -/
def HOLD_TIME : Obj := ⟨0x2100, 0x0C⟩
/-- RECOVER_RUN, U16 RW, default 32 (chapter 04). -/
def RECOVER_RUN : Obj := ⟨0x2100, 0x0D⟩
/-- DEAD_IMIN, U32 RW, default 40,000 (chapter 04). -/
def DEAD_IMIN : Obj := ⟨0x2100, 0x0E⟩
/-- DEAD_MARGIN, U32 RW, default 60,000 (chapter 04). -/
def DEAD_MARGIN : Obj := ⟨0x2100, 0x0F⟩
/-- DEAD_TIME, U32 RW, default 500,000 (chapter 04). -/
def DEAD_TIME : Obj := ⟨0x2100, 0x10⟩
/-- PARK_DELAY, U32 RW, default 2,000 (chapter 04). -/
def PARK_DELAY : Obj := ⟨0x2100, 0x11⟩
/-- POS_MAX, U16 RW, default 25 (chapter 04). -/
def POS_MAX : Obj := ⟨0x2100, 0x12⟩
/-- LOOP_STATUS, U32 RO, default 0 (chapter 04). -/
def LOOP_STATUS : Obj := ⟨0x2101, 0x01⟩
/-- REF, U16 RO, default — (chapter 04). -/
def REF : Obj := ⟨0x2101, 0x02⟩
/-- POS_NOW, U16 RO, default 0 (chapter 04). -/
def POS_NOW : Obj := ⟨0x2101, 0x03⟩
/-- VIN, U16 RO, default — (chapter 04). -/
def LP_VIN : Obj := ⟨0x2101, 0x04⟩
/-- ISUM, U32 RO, default — (chapter 04). -/
def ISUM : Obj := ⟨0x2101, 0x05⟩
/-- ITHERM, U32 RO, default 0xFFFFFFFF (chapter 04). -/
def LP_ITHERM : Obj := ⟨0x2101, 0x06⟩
/-- FE_NOW, S16 RO, default 0 (chapter 04). -/
def FE_NOW : Obj := ⟨0x2101, 0x07⟩
/-- HOLD_CODE, U16 RO, default 0 (chapter 04). -/
def HOLD_CODE : Obj := ⟨0x2101, 0x08⟩
/-- HOLD_COUNT, U32 RO, default 0 (chapter 04). -/
def HOLD_COUNT : Obj := ⟨0x2101, 0x09⟩
/-- LATE_COUNT, U32 RO, default 0 (chapter 04). -/
def LATE_COUNT : Obj := ⟨0x2101, 0x0A⟩
/-- LATE_RUN, U8 RO, default 0 (chapter 04). -/
def LATE_RUN : Obj := ⟨0x2101, 0x0B⟩
/-- CMD_SEQ, U16 RO, default 0 (chapter 04). -/
def CMD_SEQ : Obj := ⟨0x2101, 0x0C⟩
/-- SLEW_ACK, U32 RO, default 0 (chapter 04). -/
def SLEW_ACK : Obj := ⟨0x2101, 0x0D⟩
/-- SUPERSEDED, U32 RO, default 0 (chapter 04). -/
def SUPERSEDED : Obj := ⟨0x2101, 0x0E⟩
/-- FF_LATE, U32 RO, default 0 (chapter 04). -/
def FF_LATE : Obj := ⟨0x2101, 0x0F⟩
/-- X_HAT, BFV RO, default — (chapter 04). -/
def X_HAT : Obj := ⟨0x2101, 0x10⟩
/-- WINNER, U8 RO, default 0 (chapter 04). -/
def WINNER : Obj := ⟨0x2102, 0x01⟩
/-- WIN_SINCE, U64 RO, default 0 (chapter 04). -/
def WIN_SINCE : Obj := ⟨0x2102, 0x02⟩
/-- WIN_TIME_V, U64 RO, default 0 (chapter 04). -/
def WIN_TIME_V : Obj := ⟨0x2102, 0x03⟩
/-- WIN_TIME_I, U64 RO, default 0 (chapter 04). -/
def WIN_TIME_I : Obj := ⟨0x2102, 0x04⟩
/-- WIN_TIME_UV, U64 RO, default 0 (chapter 04). -/
def WIN_TIME_UV : Obj := ⟨0x2102, 0x05⟩
/-- WIN_TIME_T, U64 RO, default 0 (chapter 04). -/
def WIN_TIME_T : Obj := ⟨0x2102, 0x06⟩
/-- WIN_TIME_H, U64 RO, default 0 (chapter 04). -/
def WIN_TIME_H : Obj := ⟨0x2102, 0x07⟩
/-- WIN_CHANGES, U32 RO, default 0 (chapter 04). -/
def WIN_CHANGES : Obj := ⟨0x2102, 0x08⟩
/-- WIN_CLEAR_TIME, U64 RO, default 0 (chapter 04). -/
def WIN_CLEAR_TIME : Obj := ⟨0x2102, 0x09⟩
/-- WIN_CLEAR, BOOL WO, default — (chapter 04). -/
def WIN_CLEAR : Obj := ⟨0x2102, 0x0A⟩
/-- ENGINE_COUNT, U8 RO, default 1, 8 or 16 (chapter 05). -/
def ENGINE_COUNT : Obj := ⟨0x2400, 0x01⟩
/-- KIND, U8 RO, default per station (chapter 05). -/
def EN_KIND : Obj := ⟨0x2400, 0x02⟩
/-- SPARE, U8 RO, default 7 or 0xFF (chapter 05). -/
def SPARE : Obj := ⟨0x2400, 0x03⟩
/-- SPARE_FOR, U8 RO, default 0xFF (chapter 05). -/
def SPARE_FOR : Obj := ⟨0x2400, 0x04⟩
/-- SPARE_IMAGE, U32 RO, default 0 (chapter 05). -/
def SPARE_IMAGE : Obj := ⟨0x2400, 0x05⟩
/-- SPARE_ENABLE, BOOL RW, default 0x01 (chapter 05). -/
def SPARE_ENABLE : Obj := ⟨0x2400, 0x06⟩
/-- TAKEOVERS, U32 RO, default 0 (chapter 05). -/
def TAKEOVERS : Obj := ⟨0x2400, 0x07⟩
/-- HANDBACK, U8 WO, default — (chapter 05). -/
def HANDBACK : Obj := ⟨0x2400, 0x08⟩
/-- ENG_STATUS, U32 RO, default 0 (chapter 05). -/
def ENG_STATUS : Obj := ⟨0x2410, 0x01⟩
/-- ACTIVATIONS, U64 RO, default 0 (chapter 05). -/
def ACTIVATIONS : Obj := ⟨0x2410, 0x02⟩
/-- ABANDONED, U32 RO, default 0 (chapter 05). -/
def ABANDONED : Obj := ⟨0x2410, 0x03⟩
/-- STICKY, U16 W1C, default 0 (chapter 05). -/
def STICKY : Obj := ⟨0x2410, 0x04⟩
/-- UTIL, U16 RO, default 0 (chapter 05). -/
def UTIL : Obj := ⟨0x2410, 0x05⟩
/-- BUSY_1S, U16 RO, default 0 (chapter 05). -/
def BUSY_1S : Obj := ⟨0x2410, 0x06⟩
/-- CORR_COUNT, U32 RO, default 0 (chapter 05). -/
def EG_CORR_COUNT : Obj := ⟨0x2410, 0x07⟩
/-- FAIL_CAUSE, U8 RO, default 0 (chapter 05). -/
def EG_FAIL_CAUSE : Obj := ⟨0x2410, 0x08⟩
/-- FAIL_TIME, U64 RO, default 0 (chapter 05). -/
def FAIL_TIME : Obj := ⟨0x2410, 0x09⟩
/-- TARGET, U8 RW, default 0 (chapter 05). -/
def TARGET : Obj := ⟨0x2440, 0x01⟩
/-- IMAGE, BLOB WO, default — (chapter 05). -/
def IMAGE : Obj := ⟨0x2440, 0x02⟩
/-- LOAD_STATE, U8 RO, default 0 (chapter 05). -/
def LOAD_STATE : Obj := ⟨0x2440, 0x03⟩
/-- VERIFY, BOOL WO, default — (chapter 05). -/
def VERIFY : Obj := ⟨0x2440, 0x04⟩
/-- LOAD_ERR, U8 RO, default 0 (chapter 05). -/
def LOAD_ERR : Obj := ⟨0x2440, 0x05⟩
/-- SWAP, U8 WO, default — (chapter 05). -/
def SWAP : Obj := ⟨0x2440, 0x06⟩
/-- IMAGE_ID, U32 RO, default 0 (chapter 05). -/
def IMAGE_ID : Obj := ⟨0x2440, 0x07⟩
/-- SHADOW_TTAB, U16 RO, default 0 (chapter 05). -/
def SHADOW_TTAB : Obj := ⟨0x2440, 0x08⟩
/-- SWAP_TIME, U64 RO, default 0 (chapter 05). -/
def SWAP_TIME : Obj := ⟨0x2440, 0x09⟩
/-- SWAPS, U32 RO, default 0 (chapter 05). -/
def SWAPS : Obj := ⟨0x2440, 0x0A⟩
/-- TASK_STATE, U8 RO, default 0 (chapter 05). -/
def TASK_STATE : Obj := ⟨0x2480, 0x01⟩
/-- TASK_CTRL, U8 WO, default — (chapter 05). -/
def TASK_CTRL : Obj := ⟨0x2480, 0x02⟩
/-- CLASS, U8 RW, default 3 (chapter 05). -/
def CLASS : Obj := ⟨0x2480, 0x03⟩
/-- PERIOD, U32 RW, default 1,000,000 (chapter 05). -/
def PERIOD : Obj := ⟨0x2480, 0x04⟩
/-- PHASE, U32 RW, default 0 (chapter 05). -/
def PHASE : Obj := ⟨0x2480, 0x05⟩
/-- DEADLINE, U32 RW, default 1,000,000 (chapter 05). -/
def DEADLINE : Obj := ⟨0x2480, 0x06⟩
/-- ACTIVE_ID, U32 RO, default 0 (chapter 05). -/
def ACTIVE_ID : Obj := ⟨0x2480, 0x07⟩
/-- TTAB, U16 RO, default 0 (chapter 05). -/
def TTAB : Obj := ⟨0x2480, 0x08⟩
/-- MISSES, U32 RO, default 0 (chapter 05). -/
def MISSES : Obj := ⟨0x2480, 0x09⟩
/-- SKIPS, U32 RO, default 0 (chapter 05). -/
def SKIPS : Obj := ⟨0x2480, 0x0A⟩
/-- TRACE_STATE, U8 RO, default 0 (chapter 05). -/
def TRACE_STATE : Obj := ⟨0x2460, 0x01⟩
/-- TRACE_CTRL, U8 WO, default — (chapter 05). -/
def TRACE_CTRL : Obj := ⟨0x2460, 0x02⟩
/-- SOURCE, U32 RW, default 0 (chapter 05). -/
def SOURCE : Obj := ⟨0x2460, 0x03⟩
/-- TRIG_SRC, U8 RW, default 0 (chapter 05). -/
def TRIG_SRC : Obj := ⟨0x2460, 0x04⟩
/-- TRIG_ARG, U16 RW, default 0 (chapter 05). -/
def TRIG_ARG : Obj := ⟨0x2460, 0x05⟩
/-- POST_COUNT, U16 RW, default 4,096 (chapter 05). -/
def POST_COUNT : Obj := ⟨0x2460, 0x06⟩
/-- CAPACITY, U16 RO, default 8,192 or 32,768 (chapter 05). -/
def CAPACITY : Obj := ⟨0x2460, 0x07⟩
/-- WRITE_PTR, U16 RO, default 0 (chapter 05). -/
def WRITE_PTR : Obj := ⟨0x2460, 0x08⟩
/-- LOST, U32 RO, default 0 (chapter 05). -/
def TR_LOST : Obj := ⟨0x2460, 0x09⟩
/-- TRIG_TIME, U64 RO, default 0 (chapter 05). -/
def TRIG_TIME : Obj := ⟨0x2460, 0x0A⟩
/-- DATA, BLOB RO, default — (chapter 05). -/
def DATA : Obj := ⟨0x2460, 0x0B⟩
/-- TAP_COUNT, U8 RW, default 0 (chapter 05). -/
def TAP_COUNT : Obj := ⟨0x2461, 0x00⟩
/-- TAP, U32 RW, default 0 (chapter 05). -/
def TAP : Obj := ⟨0x2461, 0x01⟩
/-- RAIL_COUNT, U8 RO, default 16 (chapter 06). -/
def RAIL_COUNT : Obj := ⟨0x2500, 0x01⟩
/-- PHASES_ACTIVE, U16 RO, default — (chapter 06). -/
def PHASES_ACTIVE : Obj := ⟨0x2500, 0x02⟩
/-- IREF, U16 RO, default 800 (chapter 06). -/
def IREF : Obj := ⟨0x2500, 0x03⟩
/-- KIND, U8 RO, default per rail (chapter 06). -/
def RL_KIND : Obj := ⟨0x2510, 0x01⟩
/-- PHASE_COUNT, U8 RO, default 32 or 4 (chapter 06). -/
def PHASE_COUNT : Obj := ⟨0x2510, 0x02⟩
/-- TON_K_NOM, U16 RW, default 2,000 (chapter 06). -/
def TON_K_NOM : Obj := ⟨0x2510, 0x03⟩
/-- TOFF_MIN, U16 RW, default 120 (chapter 06). -/
def TOFF_MIN : Obj := ⟨0x2510, 0x04⟩
/-- RIPPLE_NOM, U16 RW, default 12 or 8 (chapter 06). -/
def RIPPLE_NOM : Obj := ⟨0x2510, 0x05⟩
/-- TBLANK, U16 RW, default 15 (chapter 06). -/
def TBLANK : Obj := ⟨0x2510, 0x06⟩
/-- ICYC_PH, U32 RW, default 60,000 (chapter 06). -/
def ICYC_PH : Obj := ⟨0x2510, 0x07⟩
/-- ZCD, U32 RW, default 500 (chapter 06). -/
def ZCD : Obj := ⟨0x2510, 0x08⟩
/-- SS_SLEW, U16 RW, default 1,800 (chapter 06). -/
def SS_SLEW : Obj := ⟨0x2510, 0x09⟩
/-- SS_TIMEOUT, U32 RW, default 5,000,000 (chapter 06). -/
def SS_TIMEOUT : Obj := ⟨0x2510, 0x0A⟩
/-- PH_LIM_RUN, U16 RW, default 256 (chapter 06). -/
def PH_LIM_RUN : Obj := ⟨0x2510, 0x0B⟩
/-- OPEN_PCT, U8 RW, default 20 (chapter 06). -/
def OPEN_PCT : Obj := ⟨0x2510, 0x0C⟩
/-- OPEN_RUN, U16 RW, default 64 (chapter 06). -/
def RL_OPEN_RUN : Obj := ⟨0x2510, 0x0D⟩
/-- OPEN_IMIN, U32 RW, default 4,000 (chapter 06). -/
def OPEN_IMIN : Obj := ⟨0x2510, 0x0E⟩
/-- RIPPLE_MIN, U32 RW, default 2,000 (chapter 06). -/
def RIPPLE_MIN : Obj := ⟨0x2510, 0x0F⟩
/-- RAIL_OC_RUN, U8 RW, default 8 (chapter 06). -/
def RAIL_OC_RUN : Obj := ⟨0x2510, 0x10⟩
/-- RAIL_HICCUP_OFF, U32 RW, default 2,000,000 (chapter 06). -/
def RAIL_HICCUP_OFF : Obj := ⟨0x2510, 0x11⟩
/-- RAIL_HICCUP_LIMIT, U8 RW, default 3 (chapter 06). -/
def RAIL_HICCUP_LIMIT : Obj := ⟨0x2510, 0x12⟩
/-- RAIL_RETRY_WINDOW, U32 RW, default 1,000,000,000 (chapter 06). -/
def RAIL_RETRY_WINDOW : Obj := ⟨0x2510, 0x13⟩
/-- SNS_WIN, U16 RW, default 40 (chapter 06). -/
def SNS_WIN : Obj := ⟨0x2510, 0x14⟩
/-- OL_RESID, U16 RW, default 15 (chapter 06). -/
def OL_RESID : Obj := ⟨0x2510, 0x15⟩
/-- PH_CTRL, U16 WO, default — (chapter 06). -/
def PH_CTRL : Obj := ⟨0x2510, 0x16⟩
/-- RAIL_STATE, U8 RO, default 0 (chapter 06). -/
def RAIL_STATE : Obj := ⟨0x2520, 0x01⟩
/-- V_SENSE, U16 RO, default — (chapter 06). -/
def V_SENSE : Obj := ⟨0x2520, 0x02⟩
/-- V_LOCAL, U16 RO, default — (chapter 06). -/
def V_LOCAL : Obj := ⟨0x2520, 0x03⟩
/-- V_REFNOW, U16 RO, default 0 (chapter 06). -/
def V_REFNOW : Obj := ⟨0x2520, 0x04⟩
/-- I_RAIL, U32 RO, default — (chapter 06). -/
def I_RAIL : Obj := ⟨0x2520, 0x05⟩
/-- V_IB, U16 RO, default — (chapter 06). -/
def V_IB : Obj := ⟨0x2520, 0x06⟩
/-- N_ROT, U8 RO, default 0 (chapter 06). -/
def N_ROT : Obj := ⟨0x2520, 0x07⟩
/-- N_FALLBACK, U8 RO, default 0 (chapter 06). -/
def N_FALLBACK : Obj := ⟨0x2520, 0x08⟩
/-- SENSE_SRC, U8 RO, default 0 (chapter 06). -/
def SENSE_SRC : Obj := ⟨0x2520, 0x09⟩
/-- R_DROP, U32 RO, default 0 (chapter 06). -/
def R_DROP : Obj := ⟨0x2520, 0x0A⟩
/-- REF_TRIM, S16 RO, default 0 (chapter 06). -/
def REF_TRIM : Obj := ⟨0x2520, 0x0B⟩
/-- RIPPLE_AMP, U16 RO, default RIPPLE_NOM (chapter 06). -/
def RIPPLE_AMP : Obj := ⟨0x2520, 0x0C⟩
/-- TON_K, U16 RO, default TON_K_NOM (chapter 06). -/
def TON_K : Obj := ⟨0x2520, 0x0D⟩
/-- HICCUPS, U8 RO, default 0 (chapter 06). -/
def HICCUPS : Obj := ⟨0x2520, 0x0E⟩
/-- HICCUP_TOTAL, U32 RO, default 0 (chapter 06). -/
def RT_HICCUP_TOTAL : Obj := ⟨0x2520, 0x0F⟩
/-- OL_CLAMPS, U32 RO, default 0 (chapter 06). -/
def OL_CLAMPS : Obj := ⟨0x2520, 0x10⟩
/-- RING_HELD, U32 RO, default 0 (chapter 06). -/
def RING_HELD : Obj := ⟨0x2520, 0x11⟩
/-- AX_EXCESS, U32 RO, default 0 (chapter 06). -/
def AX_EXCESS : Obj := ⟨0x2520, 0x12⟩
/-- PH_STATUS, U32 RO, default 0 (chapter 06). -/
def PH_STATUS : Obj := ⟨0x2580, 0x01⟩
/-- PH_I, U32 RO, default — (chapter 06). -/
def PH_I : Obj := ⟨0x25A0, 0x01⟩
/-- PB0_SPEED, U8 RW, default 0 (chapter 06). -/
def PB0_SPEED : Obj := ⟨0x2600, 0x01⟩
/-- PB1_SPEED, U8 RW, default 0 (chapter 06). -/
def PB1_SPEED : Obj := ⟨0x2600, 0x02⟩
/-- PEC_REQ, BOOL RW, default 0x01 (chapter 06). -/
def PEC_REQ : Obj := ⟨0x2600, 0x03⟩
/-- POLL_PERIOD, U32 RW, default 10,000,000 (chapter 06). -/
def POLL_PERIOD : Obj := ⟨0x2600, 0x04⟩
/-- PB0_STATE, U8 RO, default 0 (chapter 06). -/
def PB0_STATE : Obj := ⟨0x2600, 0x05⟩
/-- PB1_STATE, U8 RO, default 0 (chapter 06). -/
def PB1_STATE : Obj := ⟨0x2600, 0x06⟩
/-- ALERTS_UNKNOWN, U32 RO, default 0 (chapter 06). -/
def ALERTS_UNKNOWN : Obj := ⟨0x2600, 0x07⟩
/-- ADDR, U8 RW, default 0x40 + (n mod 8) (chapter 06). -/
def ADDR : Obj := ⟨0x2610, 0x01⟩
/-- DX_STATE, U8 RO, default 0 (chapter 06). -/
def DX_STATE : Obj := ⟨0x2610, 0x02⟩
/-- DX_CTRL, U8 WO, default — (chapter 06). -/
def DX_CTRL : Obj := ⟨0x2610, 0x03⟩
/-- START_TIME, U32 RW, default 20,000,000 (chapter 06). -/
def START_TIME : Obj := ⟨0x2610, 0x04⟩
/-- VIN, U16 RO, default 0 (chapter 06). -/
def DX_VIN : Obj := ⟨0x2610, 0x05⟩
/-- IIN, U32 RO, default 0 (chapter 06). -/
def IIN : Obj := ⟨0x2610, 0x06⟩
/-- VOUT, U16 RO, default 0 (chapter 06). -/
def VOUT : Obj := ⟨0x2610, 0x07⟩
/-- IOUT, U32 RO, default 0 (chapter 06). -/
def IOUT : Obj := ⟨0x2610, 0x08⟩
/-- TEMP, S16 RO, default 0 (chapter 06). -/
def TEMP : Obj := ⟨0x2610, 0x09⟩
/-- PIN, U32 RO, default 0 (chapter 06). -/
def PIN : Obj := ⟨0x2610, 0x0A⟩
/-- POUT, U32 RO, default 0 (chapter 06). -/
def POUT : Obj := ⟨0x2610, 0x0B⟩
/-- STATUS, U16 RO, default 0 (chapter 06). -/
def DX_STATUS : Obj := ⟨0x2610, 0x0C⟩
/-- LAST_FAULT, U16 RO, default 0 (chapter 06). -/
def LAST_FAULT : Obj := ⟨0x2610, 0x0D⟩
/-- COMM_ERR, U32 RO, default 0 (chapter 06). -/
def COMM_ERR : Obj := ⟨0x2610, 0x0E⟩
/-- READ_TIME, U64 RO, default 0 (chapter 06). -/
def READ_TIME : Obj := ⟨0x2610, 0x0F⟩
/-- MFR_ID, STR RO, default — (chapter 06). -/
def MFR_ID : Obj := ⟨0x2610, 0x10⟩
/-- MFR_MODEL, STR RO, default — (chapter 06). -/
def MFR_MODEL : Obj := ⟨0x2610, 0x11⟩
/-- PMBUS_REV, U8 RO, default 0 (chapter 06). -/
def PMBUS_REV : Obj := ⟨0x2610, 0x12⟩
/-- PT_REQ, BLOB WO, default — (chapter 06). -/
def PT_REQ : Obj := ⟨0x2620, 0x01⟩
/-- PT_STATE, U8 RO, default 0 (chapter 06). -/
def PT_STATE : Obj := ⟨0x2620, 0x02⟩
/-- PT_DATA, BLOB RO, default — (chapter 06). -/
def PT_DATA : Obj := ⟨0x2620, 0x03⟩
/-- ADC_COUNT, U8 RO, default 5 (chapter 07). -/
def ADC_COUNT : Obj := ⟨0x2700, 0x01⟩
/-- ADC_NAMES, BLOB RO, default per field (chapter 07). -/
def ADC_NAMES : Obj := ⟨0x2700, 0x02⟩
/-- RAIL_INDEX, U8 RO, default f or 8 + f (chapter 07). -/
def AD_RAIL_INDEX : Obj := ⟨0x2710, 0x01⟩
/-- REF_EN, BOOL RW, default 0x01 (chapter 07). -/
def REF_EN : Obj := ⟨0x2710, 0x02⟩
/-- REF_STATE, U8 RO, default 1 (chapter 07). -/
def REF_STATE : Obj := ⟨0x2710, 0x03⟩
/-- REF_READY_TIME, U64 RO, default 0 (chapter 07). -/
def REF_READY_TIME : Obj := ⟨0x2710, 0x04⟩
/-- TMR0_PERIOD, U32 RW, default 1,000 or 500 (chapter 07). -/
def TMR0_PERIOD : Obj := ⟨0x2710, 0x05⟩
/-- TMR0_PHASE, U32 RW, default 0 (chapter 07). -/
def TMR0_PHASE : Obj := ⟨0x2710, 0x06⟩
/-- TMR1_PERIOD, U32 RW, default 10,000 (chapter 07). -/
def TMR1_PERIOD : Obj := ⟨0x2710, 0x07⟩
/-- TMR1_PHASE, U32 RW, default 0 (chapter 07). -/
def TMR1_PHASE : Obj := ⟨0x2710, 0x08⟩
/-- SW_TRIG, U32 WO, default — (chapter 07). -/
def SW_TRIG : Obj := ⟨0x2710, 0x09⟩
/-- CAL_PERIOD, U32 RW, default 1,000,000 (chapter 07). -/
def CAL_PERIOD : Obj := ⟨0x2710, 0x0A⟩
/-- SLICES, U8 RO, default 0x1F (chapter 07). -/
def SLICES : Obj := ⟨0x2710, 0x0B⟩
/-- SPARE_SLICE, U8 RO, default 4 (chapter 07). -/
def SPARE_SLICE : Obj := ⟨0x2710, 0x0C⟩
/-- CONV_COUNT, U64 RO, default 0 (chapter 07). -/
def CONV_COUNT : Obj := ⟨0x2710, 0x0D⟩
/-- URGENT_DROP, U32 RO, default 0 (chapter 07). -/
def URGENT_DROP : Obj := ⟨0x2710, 0x0E⟩
/-- OVERRUN, U32 RO, default 0 (chapter 07). -/
def OVERRUN : Obj := ⟨0x2710, 0x0F⟩
/-- OVR_COUNT, U32 RO, default 0 (chapter 07). -/
def OVR_COUNT : Obj := ⟨0x2710, 0x10⟩
/-- SETTLE_COUNT, U32 RO, default 0 (chapter 07). -/
def SETTLE_COUNT : Obj := ⟨0x2710, 0x11⟩
/-- RNR_COUNT, U32 RO, default 0 (chapter 07). -/
def RNR_COUNT : Obj := ⟨0x2710, 0x12⟩
/-- FAIL_CAUSE, U8 RO, default 0 (chapter 07). -/
def AD_FAIL_CAUSE : Obj := ⟨0x2710, 0x13⟩
/-- REF_CHECK, U16 RO, default 0 (chapter 07). -/
def REF_CHECK : Obj := ⟨0x2710, 0x14⟩
/-- LOAD_1MS, U16 RO, default 0 (chapter 07). -/
def LOAD_1MS : Obj := ⟨0x2710, 0x15⟩
/-- SEQ, U32 RW, default per R210 (chapter 07). -/
def SEQ : Obj := ⟨0x2720, 0x01⟩
/-- ENTRY_CH, U8 RW, default per R210 (chapter 07). -/
def ENTRY_CH : Obj := ⟨0x2730, 0x01⟩
/-- RESULT, U32 RO, default 0 (chapter 07). -/
def RESULT : Obj := ⟨0x2740, 0x01⟩
/-- RESULT_TIME, U64 RO, default 0 (chapter 07). -/
def RESULT_TIME : Obj := ⟨0x2750, 0x01⟩
/-- CMP_CFG, U32 RW, default 0 (chapter 07). -/
def CMP_CFG : Obj := ⟨0x2760, 0x01⟩
/-- CMP_STAT, U32 RO, default 0 (chapter 07). -/
def CMP_STAT : Obj := ⟨0x2760, 0x05⟩
/-- CMP_HYST, U16 RW, default 8 (chapter 07). -/
def CMP_HYST : Obj := ⟨0x2760, 0x09⟩
/-- CMP_TIME, U64 RO, default 0 (chapter 07). -/
def CMP_TIME : Obj := ⟨0x2760, 0x0A⟩
/-- T_HOT_10US, S16 RO, default 0 (chapter 07). -/
def T_HOT_10US : Obj := ⟨0x2801, 0x01⟩
/-- T_HOT_1MS, S16 RO, default 0 (chapter 07). -/
def T_HOT_1MS : Obj := ⟨0x2801, 0x02⟩
/-- T_HOT_1MS_MAX, S16 RO, default 0 (chapter 07). -/
def T_HOT_1MS_MAX : Obj := ⟨0x2801, 0x03⟩
/-- T_HOT_1S, S16 RO, default 0 (chapter 07). -/
def T_HOT_1S : Obj := ⟨0x2801, 0x04⟩
/-- T_HOT_1S_MAX, S16 RO, default 0 (chapter 07). -/
def T_HOT_1S_MAX : Obj := ⟨0x2801, 0x05⟩
/-- T_HOT_HOLD, S16 RO, default −32,768 (chapter 07). -/
def T_HOT_HOLD : Obj := ⟨0x2801, 0x06⟩
/-- T_D0_1MS, S16 RO, default 0 (chapter 07). -/
def T_D0_1MS : Obj := ⟨0x2801, 0x07⟩
/-- T_D1_1MS, S16 RO, default 0 (chapter 07). -/
def T_D1_1MS : Obj := ⟨0x2801, 0x08⟩
/-- T_D0_1S, S16 RO, default 0 (chapter 07). -/
def T_D0_1S : Obj := ⟨0x2801, 0x09⟩
/-- T_D1_1S, S16 RO, default 0 (chapter 07). -/
def T_D1_1S : Obj := ⟨0x2801, 0x0A⟩
/-- HOLD_CLEAR, BOOL WO, default — (chapter 07). -/
def HOLD_CLEAR : Obj := ⟨0x2801, 0x0B⟩
/-- DOM_I_10US, BLOB RO, default — (chapter 07). -/
def DOM_I_10US : Obj := ⟨0x2810, 0x01⟩
/-- DOM_I_1MS, BLOB RO, default — (chapter 07). -/
def DOM_I_1MS : Obj := ⟨0x2810, 0x02⟩
/-- DOM_IMAX_1MS, BLOB RO, default — (chapter 07). -/
def DOM_IMAX_1MS : Obj := ⟨0x2810, 0x03⟩
/-- DIS_PCT, U8 RW, default 15 (chapter 08). -/
def DIS_PCT : Obj := ⟨0x2900, 0x01⟩
/-- DIS_MW, U32 RW, default 5,000 (chapter 08). -/
def DIS_MW : Obj := ⟨0x2900, 0x02⟩
/-- DIS_RUN, U16 RW, default 10 (chapter 08). -/
def DIS_RUN : Obj := ⟨0x2900, 0x03⟩
/-- SNAP_RUN, U16 RW, default 100 (chapter 08). -/
def SNAP_RUN : Obj := ⟨0x2900, 0x04⟩
/-- THAW_RUN, U16 RW, default 100 (chapter 08). -/
def THAW_RUN : Obj := ⟨0x2900, 0x05⟩
/-- GUARD, U16 RW, default 1,100 (chapter 08). -/
def GUARD : Obj := ⟨0x2900, 0x06⟩
/-- LEARN_EN, BOOL RW, default 0x01 (chapter 08). -/
def LEARN_EN : Obj := ⟨0x2900, 0x07⟩
/-- LEDGER_PERIOD, U32 RW, default 100,000 (chapter 08). -/
def LEDGER_PERIOD : Obj := ⟨0x2900, 0x08⟩
/-- FROZEN_MASK, U16 RO, default 0 (chapter 08). -/
def FROZEN_MASK : Obj := ⟨0x2900, 0x09⟩
/-- FREEZE_CTRL, U32 WO, default — (chapter 08). -/
def FREEZE_CTRL : Obj := ⟨0x2900, 0x0A⟩
/-- E_UNATTR, U64 RO, default 0 (chapter 08). -/
def ES_E_UNATTR : Obj := ⟨0x2900, 0x0B⟩
/-- SVC_WIN_LOST, U32 RO, default 0 (chapter 08). -/
def SVC_WIN_LOST : Obj := ⟨0x2900, 0x0C⟩
/-- DESC, BLOB RW, default zeroes (chapter 08). -/
def DESC : Obj := ⟨0x2904, 0x00⟩
/-- EST_STATE, U8 RO, default 4 (chapter 08). -/
def EST_STATE : Obj := ⟨0x2910, 0x01⟩
/-- P_EST, U32 RO, default 0 (chapter 08). -/
def P_EST : Obj := ⟨0x2910, 0x02⟩
/-- P0, U32 RO, default 0 (chapter 08). -/
def P0 : Obj := ⟨0x2910, 0x03⟩
/-- I_EST, U32 RO, default 0 (chapter 08). -/
def I_EST : Obj := ⟨0x2910, 0x04⟩
/-- G, U32 RO, default 500 (chapter 08). -/
def G : Obj := ⟨0x2910, 0x05⟩
/-- Y_1MS, U32 RO, default 0 (chapter 08). -/
def Y_1MS : Obj := ⟨0x2910, 0x06⟩
/-- ERR_1MS, S32 RO, default 0 (chapter 08). -/
def ERR_1MS : Obj := ⟨0x2910, 0x07⟩
/-- DIS_COUNT, U16 RO, default 0 (chapter 08). -/
def DIS_COUNT : Obj := ⟨0x2910, 0x08⟩
/-- FREEZES, U32 RO, default 0 (chapter 08). -/
def FREEZES : Obj := ⟨0x2910, 0x09⟩
/-- FREEZE_TIME, U64 RO, default 0 (chapter 08). -/
def FREEZE_TIME : Obj := ⟨0x2910, 0x0A⟩
/-- SNAP_TIME, U64 RO, default 0 (chapter 08). -/
def SNAP_TIME : Obj := ⟨0x2910, 0x0B⟩
/-- LEARN_STEPS, U64 RO, default 0 (chapter 08). -/
def LEARN_STEPS : Obj := ⟨0x2910, 0x0C⟩
/-- W, BFV RO, default — (chapter 08). -/
def W : Obj := ⟨0x2910, 0x0D⟩
/-- E_EST, U64 RO, default 0 (chapter 08). -/
def E_EST : Obj := ⟨0x2910, 0x0E⟩
/-- E_MEAS, U64 RO, default 0 (chapter 08). -/
def E_MEAS : Obj := ⟨0x2910, 0x0F⟩
/-- SLOT_TAGS, BLOB RO, default — (chapter 08). -/
def SLOT_TAGS : Obj := ⟨0x2910, 0x10⟩
/-- OPEN_COUNT, U16 RO, default 0 (chapter 08). -/
def OPEN_COUNT : Obj := ⟨0x2A00, 0x01⟩
/-- CLOSED_COUNT, U16 RO, default 0 (chapter 08). -/
def CLOSED_COUNT : Obj := ⟨0x2A00, 0x02⟩
/-- EVICTIONS, U32 RO, default 0 (chapter 08). -/
def LG_EVICTIONS : Obj := ⟨0x2A00, 0x03⟩
/-- OVF_OPENS, U32 RO, default 0 (chapter 08). -/
def OVF_OPENS : Obj := ⟨0x2A00, 0x04⟩
/-- E_UNATTR, U64 RO, default 0 (chapter 08). -/
def LG_E_UNATTR : Obj := ⟨0x2A00, 0x05⟩
/-- E_HANDOVER, U64 RO, default 0 (chapter 08). -/
def E_HANDOVER : Obj := ⟨0x2A00, 0x06⟩
/-- E_DIE_MEAS, U64 RO, default 0 (chapter 08). -/
def E_DIE_MEAS : Obj := ⟨0x2A00, 0x07⟩
/-- HANDOVERS, U32 RO, default 0 (chapter 08). -/
def HANDOVERS : Obj := ⟨0x2A00, 0x08⟩
/-- JOB_OPEN, U64 WO, default — (chapter 08). -/
def JOB_OPEN : Obj := ⟨0x2A10, 0x01⟩
/-- JOB_CLOSE, U64 WO, default — (chapter 08). -/
def JOB_CLOSE : Obj := ⟨0x2A10, 0x02⟩
/-- JOB_FREE, U16 WO, default — (chapter 08). -/
def JOB_FREE : Obj := ⟨0x2A10, 0x03⟩
/-- JOB_FIND, U64 WO, default — (chapter 08). -/
def JOB_FIND : Obj := ⟨0x2A10, 0x04⟩
/-- OP_RESULT, U32 RO, default 0 (chapter 08). -/
def OP_RESULT : Obj := ⟨0x2A10, 0x05⟩
/-- FLUSH_COUNT, U16 RO, default 0 (chapter 08). -/
def FLUSH_COUNT : Obj := ⟨0x2A20, 0x01⟩
/-- FLUSH_RECORD, BLOB RO, default — (chapter 08). -/
def FLUSH_RECORD : Obj := ⟨0x2A20, 0x02⟩
/-- FLUSH_ACK, U16 WO, default — (chapter 08). -/
def FLUSH_ACK : Obj := ⟨0x2A20, 0x03⟩
/-- BIND, BLOB RW, default 0xFFFF × 16 (chapter 08). -/
def BIND : Obj := ⟨0x2A40, 0x01⟩
/-- ENTRY, BLOB RO, default zeroes (chapter 08). -/
def ENTRY : Obj := ⟨0x2A80, 0x01⟩
/-- COOL_LIMIT, U32 RW, default 11,000,000 (chapter 09). -/
def COOL_LIMIT : Obj := ⟨0x2B00, 0x01⟩
/-- COOL_WINDOW, U16 RW, default 4,000 (chapter 09). -/
def COOL_WINDOW : Obj := ⟨0x2B00, 0x02⟩
/-- COOL_BOOST, U16 RW, default 1,000 (chapter 09). -/
def COOL_BOOST : Obj := ⟨0x2B00, 0x03⟩
/-- P_AVG, U32 RO, default 11,000,000 (chapter 09). -/
def P_AVG : Obj := ⟨0x2B00, 0x04⟩
/-- B_COOL, U32 RO, default — (chapter 09). -/
def B_COOL : Obj := ⟨0x2B00, 0x05⟩
/-- PART_BUDGET, U32 RW, default 11,000,000 (chapter 09). -/
def PART_BUDGET : Obj := ⟨0x2B00, 0x06⟩
/-- DIE_PCONT, U32 RW, default 10,000,000 (chapter 09). -/
def DIE_PCONT : Obj := ⟨0x2B00, 0x07⟩
/-- DIE_PPEAK, U32 RW, default 14,000,000 (chapter 09). -/
def DIE_PPEAK : Obj := ⟨0x2B00, 0x08⟩
/-- PEAK_TIME, U32 RW, default 100,000 (chapter 09). -/
def PEAK_TIME : Obj := ⟨0x2B00, 0x09⟩
/-- DIE_CREDIT, U32 RO, default 100,000 (chapter 09). -/
def DIE_CREDIT : Obj := ⟨0x2B00, 0x0A⟩
/-- SLOPE_UP, U16 RW, default 8 (chapter 09). -/
def SLOPE_UP : Obj := ⟨0x2B00, 0x0B⟩
/-- SLOPE_DOWN, U16 RW, default 8 (chapter 09). -/
def SLOPE_DOWN : Obj := ⟨0x2B00, 0x0C⟩
/-- LOOP_GAIN, U16 RW, default 500 (chapter 09). -/
def LOOP_GAIN : Obj := ⟨0x2B00, 0x0D⟩
/-- UNCLAIMED_CODE, U16 RW, default 256 (chapter 09). -/
def UNCLAIMED_CODE : Obj := ⟨0x2B00, 0x0E⟩
/-- MR_EFF, U16 RW, default 920 (chapter 09). -/
def MR_EFF : Obj := ⟨0x2B00, 0x0F⟩
/-- TOK_FULL, U16 RW, default 4,096 (chapter 09). -/
def TOK_FULL : Obj := ⟨0x2B00, 0x10⟩
/-- THROTTLE_TEMP, S16 RW, default 6,400 (chapter 09). -/
def THROTTLE_TEMP : Obj := ⟨0x2B00, 0x11⟩
/-- THERM_GAIN, U8 RW, default 4 (chapter 09). -/
def THERM_GAIN : Obj := ⟨0x2B00, 0x12⟩
/-- PACE_TTL, U32 RW, default 10,000,000 (chapter 09). -/
def PACE_TTL : Obj := ⟨0x2B00, 0x13⟩
/-- INRUSH_TIMEOUT, U32 RW, default 2,000,000 (chapter 09). -/
def INRUSH_TIMEOUT : Obj := ⟨0x2B00, 0x14⟩
/-- CURD_EN, BOOL RW, default 0x01 (chapter 09). -/
def CURD_EN : Obj := ⟨0x2B00, 0x15⟩
/-- HINT_EN, BOOL RW, default 0x01 (chapter 09). -/
def HINT_EN : Obj := ⟨0x2B00, 0x16⟩
/-- CURD_RISE, U32 RW, default 10,000 (chapter 09). -/
def CURD_RISE : Obj := ⟨0x2B00, 0x17⟩
/-- POS_LEAD, U32 RW, default 5,000 (chapter 09). -/
def POS_LEAD : Obj := ⟨0x2B00, 0x18⟩
/-- POS_FULL, U16 RW, default 25 (chapter 09). -/
def POS_FULL : Obj := ⟨0x2B00, 0x19⟩
/-- POS_HOLD, U32 RW, default 100,000 (chapter 09). -/
def POS_HOLD : Obj := ⟨0x2B00, 0x1A⟩
/-- WHEY, U32 RO, default 0 (chapter 09). -/
def WHEY : Obj := ⟨0x2B00, 0x1B⟩
/-- C_COOL, U16 RO, default 256 (chapter 09). -/
def C_COOL : Obj := ⟨0x2B00, 0x1C⟩
/-- PART_CLAIM, BLOB WO, default — (chapter 09). -/
def PART_CLAIM : Obj := ⟨0x2B10, 0x01⟩
/-- PART_RELEASE, U16 WO, default — (chapter 09). -/
def PART_RELEASE : Obj := ⟨0x2B10, 0x02⟩
/-- PART_RESULT, U32 RO, default 0 (chapter 09). -/
def PART_RESULT : Obj := ⟨0x2B10, 0x03⟩
/-- CLAIMED, U16 RO, default 0 (chapter 09). -/
def CLAIMED : Obj := ⟨0x2B10, 0x04⟩
/-- PART_STATUS, BLOB RO, default zeroes (chapter 09). -/
def PART_STATUS : Obj := ⟨0x2B20, 0x01⟩
/-- PACE, U16 RW, default 256 (chapter 09). -/
def PACE : Obj := ⟨0x2B28, 0x01⟩
/-- PART_MASK, BLOB RO, default zeroes (chapter 09). -/
def PART_MASK : Obj := ⟨0x2B30, 0x01⟩
/-- CURD_COUNT, U16 RO, default 0 (chapter 09). -/
def CURD_COUNT : Obj := ⟨0x2B40, 0x01⟩
/-- CURD_HITS, U64 RO, default 0 (chapter 09). -/
def CURD_HITS : Obj := ⟨0x2B40, 0x02⟩
/-- CURD_INSERTS, U64 RO, default 0 (chapter 09). -/
def CURD_INSERTS : Obj := ⟨0x2B40, 0x03⟩
/-- CURD_EVICTS, U64 RO, default 0 (chapter 09). -/
def CURD_EVICTS : Obj := ⟨0x2B40, 0x04⟩
/-- CURD_CLEAR, BOOL WO, default — (chapter 09). -/
def CURD_CLEAR : Obj := ⟨0x2B40, 0x05⟩
/-- CURD_SEL, U16 RW, default 0 (chapter 09). -/
def CURD_SEL : Obj := ⟨0x2B40, 0x06⟩
/-- CURD_ENTRY, BLOB RO, default — (chapter 09). -/
def CURD_ENTRY : Obj := ⟨0x2B40, 0x07⟩
/-- L_CORE, U32 RO, default — (chapter 09). -/
def L_CORE : Obj := ⟨0x2B80, 0x01⟩
/-- HEADROOM, S32 RO, default — (chapter 09). -/
def HEADROOM : Obj := ⟨0x2B80, 0x02⟩
/-- RES_F, U32 RO, default 0 (chapter 09). -/
def RES_F : Obj := ⟨0x2B80, 0x03⟩
/-- RES_WAITING, U8 RO, default 0 (chapter 09). -/
def RES_WAITING : Obj := ⟨0x2B80, 0x04⟩
/-- C_PK, U16 RO, default 256 (chapter 09). -/
def C_PK : Obj := ⟨0x2B80, 0x05⟩
/-- C_AX, U16 RO, default 256 (chapter 09). -/
def C_AX : Obj := ⟨0x2B80, 0x06⟩
/-- C_ROOM, U16 RO, default 256 (chapter 09). -/
def C_ROOM : Obj := ⟨0x2B80, 0x07⟩
/-- FR_CREDIT, U32 RO, default 100,000 (chapter 09). -/
def FR_CREDIT : Obj := ⟨0x2B80, 0x08⟩
/-- ARB_TIME, U64 RO, default 0 (chapter 09). -/
def ARB_TIME : Obj := ⟨0x2B80, 0x09⟩
/-- HINT_QUEUED, U8 RO, default 0 (chapter 09). -/
def HINT_QUEUED : Obj := ⟨0x2B80, 0x0A⟩
/-- HINT_DROPS, U32 RO, default 0 (chapter 09). -/
def HINT_DROPS : Obj := ⟨0x2B80, 0x0B⟩
/-- HINT_BAD, U32 RO, default 0 (chapter 09). -/
def HINT_BAD : Obj := ⟨0x2B80, 0x0C⟩
/-- FENCE_HOST, U16 RO, default 0 (chapter 09). -/
def FENCE_HOST : Obj := ⟨0x2B80, 0x0D⟩
/-- FENCE_CTRL, U16 RO, default 0 (chapter 09). -/
def FENCE_CTRL : Obj := ⟨0x2B80, 0x0E⟩
/-- ROOM_ACTS, U32 RO, default 0 (chapter 09). -/
def ROOM_ACTS : Obj := ⟨0x2B80, 0x0F⟩
/-- INRUSH_Q, U32 RW, default 48,000 (chapter 09). -/
def INRUSH_Q : Obj := ⟨0x2B80, 0x10⟩
/-- INRUSH_SVC, U32 RW, default 40,000 (chapter 09). -/
def INRUSH_SVC : Obj := ⟨0x2B80, 0x11⟩
/-- INRUSH_AX, U32 RW, default 20,000 (chapter 09). -/
def INRUSH_AX : Obj := ⟨0x2B80, 0x12⟩
/-- THR_STATE, U32 RO, default 0xB0000000 (chapter 09). -/
def THR_STATE : Obj := ⟨0x2B90, 0x01⟩
/-- CANDIDATES, BLOB RO, default — (chapter 09). -/
def CANDIDATES : Obj := ⟨0x2B90, 0x02⟩
/-- THR_NS, U64 RO, default 0 (chapter 09). -/
def THR_NS : Obj := ⟨0x2B90, 0x03⟩
/-- THR_CLEAR, BOOL WO, default — (chapter 09). -/
def THR_CLEAR : Obj := ⟨0x2B90, 0x0E⟩
/-- TOKEN_STALLS, U32 RO, default 0 (chapter 09). -/
def TOKEN_STALLS : Obj := ⟨0x2B90, 0x0F⟩
/-- ACT_STALLS, U32 RO, default 0 (chapter 09). -/
def ACT_STALLS : Obj := ⟨0x2B90, 0x10⟩
/-- FENCE_CAUSE, U8 RO, default 0 (chapter 09). -/
def FENCE_CAUSE : Obj := ⟨0x2B90, 0x11⟩
/-- POS_REQ, U16 RO, default 0 (chapter 09). -/
def POS_REQ : Obj := ⟨0x2B90, 0x12⟩
/-- PRED, U32 RO, default 0 (chapter 09). -/
def PRED : Obj := ⟨0x2B90, 0x13⟩
/-- PRED_SRC, U8 RO, default 0 (chapter 09). -/
def PRED_SRC : Obj := ⟨0x2B90, 0x14⟩
/-- UNIT_STATE, U8 RO, default 0 (chapter 10). -/
def UNIT_STATE : Obj := ⟨0x2C00, 0x01⟩
/-- T_OFS, S16 RO, default 0 (chapter 10). -/
def T_OFS : Obj := ⟨0x2C00, 0x02⟩
/-- CORR_GAIN, U16 RW, default 250 (chapter 10). -/
def CORR_GAIN : Obj := ⟨0x2C00, 0x03⟩
/-- CORR_RATE, U16 RW, default 16 (chapter 10). -/
def CORR_RATE : Obj := ⟨0x2C00, 0x04⟩
/-- CORR_MAX, U16 RW, default 640 (chapter 10). -/
def CORR_MAX : Obj := ⟨0x2C00, 0x05⟩
/-- CORR_RUN, U16 RW, default 100 (chapter 10). -/
def CORR_RUN : Obj := ⟨0x2C00, 0x06⟩
/-- DIODE_SPLIT, U16 RW, default 512 (chapter 10). -/
def DIODE_SPLIT : Obj := ⟨0x2C00, 0x07⟩
/-- DERATE_TEMP, S16 RW, default 6,720 (chapter 10). -/
def DERATE_TEMP : Obj := ⟨0x2C00, 0x08⟩
/-- T_D0, S16 RO, default 0 (chapter 10). -/
def T_D0 : Obj := ⟨0x2C00, 0x09⟩
/-- T_D1, S16 RO, default 0 (chapter 10). -/
def T_D1 : Obj := ⟨0x2C00, 0x0A⟩
/-- DIODE_STATUS, U8 RO, default 0 (chapter 10). -/
def DIODE_STATUS : Obj := ⟨0x2C00, 0x0B⟩
/-- RESID_0, S16 RO, default 0 (chapter 10). -/
def RESID_0 : Obj := ⟨0x2C00, 0x0C⟩
/-- RESID_1, S16 RO, default 0 (chapter 10). -/
def RESID_1 : Obj := ⟨0x2C00, 0x0D⟩
/-- PARAM_CRC, U32 RO, default per default block (chapter 10). -/
def PARAM_CRC : Obj := ⟨0x2C00, 0x0E⟩
/-- UPDATES, U64 RO, default 0 (chapter 10). -/
def UPDATES : Obj := ⟨0x2C00, 0x0F⟩
/-- BOUND_MS, U16 RO, default 0 (chapter 10). -/
def BOUND_MS : Obj := ⟨0x2C00, 0x10⟩
/-- PARAMS, BLOB RW, default default block (chapter 10). -/
def PARAMS : Obj := ⟨0x2C10, 0x00⟩
/-- T_J, S16 RO, default 0 (chapter 10). -/
def T_J : Obj := ⟨0x2C20, 0x01⟩
/-- T_S, S16 RO, default 0 (chapter 10). -/
def T_S : Obj := ⟨0x2C20, 0x02⟩
/-- T_P, S16 RO, default 0 (chapter 10). -/
def T_P : Obj := ⟨0x2C20, 0x03⟩
/-- P_IN, U32 RO, default 0 (chapter 10). -/
def P_IN : Obj := ⟨0x2C20, 0x04⟩
/-- ITHERM, U32 RO, default 0xFFFFFFFF (chapter 10). -/
def TN_ITHERM : Obj := ⟨0x2C20, 0x05⟩
/-- TCRIT, S16 RW, default 7,040 (chapter 10). -/
def TCRIT : Obj := ⟨0x2C80, 0x01⟩
/-- TCRIT_CAP, S16 RO, default OTP (chapter 10). -/
def TCRIT_CAP : Obj := ⟨0x2C80, 0x02⟩
/-- T_COOL, S16 RW, default 2,560 (chapter 10). -/
def T_COOL : Obj := ⟨0x2C80, 0x03⟩
/-- RESTART_TEMP, S16 RW, default 5,440 (chapter 10). -/
def RESTART_TEMP : Obj := ⟨0x2C80, 0x04⟩
/-- RESTART_WAIT, U32 RW, default 5,000 (chapter 10). -/
def RESTART_WAIT : Obj := ⟨0x2C80, 0x05⟩
/-- TRIP_STATUS, U32 RO, default 0 (chapter 10). -/
def TRIP_STATUS : Obj := ⟨0x2C80, 0x06⟩
/-- TRIP_TIME, U64 RO, default 0 (chapter 10). -/
def TRIP_TIME : Obj := ⟨0x2C80, 0x07⟩
/-- TRIP_TEMP, S16 RO, default 0 (chapter 10). -/
def TRIP_TEMP : Obj := ⟨0x2C80, 0x08⟩
/-- TRIP_CTRL, U8 WO, default — (chapter 10). -/
def TRIP_CTRL : Obj := ⟨0x2C80, 0x09⟩
/-- TRIP_TOTAL, U32 RO, default backup (chapter 10). -/
def TRIP_TOTAL : Obj := ⟨0x2C80, 0x0A⟩
/-- AUTO_RESTARTS, U8 RO, default backup (chapter 10). -/
def AUTO_RESTARTS : Obj := ⟨0x2C80, 0x0B⟩
/-- WINDOW_LEFT, U32 RO, default backup (chapter 10). -/
def WINDOW_LEFT : Obj := ⟨0x2C80, 0x0C⟩
/-- AUTO_EN, BOOL RW, default 0x01 (chapter 10). -/
def AUTO_EN : Obj := ⟨0x2C80, 0x0D⟩
/-- SEQ_STATE, U8 RO, default 0 (chapter 11). -/
def SEQ_STATE : Obj := ⟨0x2D00, 0x01⟩
/-- SEQ_ARM, BOOL WO, default — (chapter 11). -/
def SEQ_ARM : Obj := ⟨0x2D00, 0x02⟩
/-- FIELD_ORDER, BLOB RW, default 00 03 04 07 01 02 05 06 (chapter 11). -/
def FIELD_ORDER : Obj := ⟨0x2D00, 0x03⟩
/-- START_MASK, U64 RW, default 0xFFFFFFFFFFFFFFFF (chapter 11). -/
def START_MASK : Obj := ⟨0x2D00, 0x04⟩
/-- SEQ_PARALLEL, U8 RW, default 4 (chapter 11). -/
def SEQ_PARALLEL : Obj := ⟨0x2D00, 0x05⟩
/-- EDGE_WAIVE, U8 RW, default 0 (chapter 11). -/
def EDGE_WAIVE : Obj := ⟨0x2D00, 0x06⟩
/-- DOM_SS_SLEW, U16 RW, default 4 (chapter 11). -/
def DOM_SS_SLEW : Obj := ⟨0x2D00, 0x07⟩
/-- DOM_SS_TIMEOUT, U32 RW, default 2,000,000 (chapter 11). -/
def DOM_SS_TIMEOUT : Obj := ⟨0x2D00, 0x08⟩
/-- DOM_PG_BAND, U16 RW, default 30 (chapter 11). -/
def DOM_PG_BAND : Obj := ⟨0x2D00, 0x09⟩
/-- STOP_DRAIN, U32 RW, default 2,000 (chapter 11). -/
def STOP_DRAIN : Obj := ⟨0x2D00, 0x0A⟩
/-- SEQ_REQ, U32 WO, default — (chapter 11). -/
def SEQ_REQ : Obj := ⟨0x2D00, 0x0B⟩
/-- SEQ_RESULT, U32 RO, default 0 (chapter 11). -/
def SEQ_RESULT : Obj := ⟨0x2D00, 0x0C⟩
/-- SUPPLY_STATUS, U8 RO, default — (chapter 11). -/
def SUPPLY_STATUS : Obj := ⟨0x2D00, 0x0D⟩
/-- FIELDS_UP, U8 RO, default 0 (chapter 11). -/
def FIELDS_UP : Obj := ⟨0x2D00, 0x0E⟩
/-- REFUSALS, U32 RO, default 0 (chapter 11). -/
def REFUSALS : Obj := ⟨0x2D00, 0x0F⟩
/-- DEP_OFFS, U32 RO, default 0 (chapter 11). -/
def DEP_OFFS : Obj := ⟨0x2D00, 0x10⟩
/-- RESET_CAUSE, U8 RO, default backup (chapter 12). -/
def RESET_CAUSE : Obj := ⟨0x1200, 0x01⟩
/-- RESET_LEVEL, U8 RO, default — (chapter 12). -/
def RESET_LEVEL : Obj := ⟨0x1200, 0x02⟩
/-- RESET_COUNT, U32 RO, default backup (chapter 12). -/
def RESET_COUNT : Obj := ⟨0x1200, 0x03⟩
/-- RESET_RELEASE, U64 RO, default 0 (chapter 12). -/
def RESET_RELEASE : Obj := ⟨0x1200, 0x04⟩
/-- RESET_FAULT, U16 RO, default backup (chapter 12). -/
def RESET_FAULT : Obj := ⟨0x1200, 0x05⟩
/-- RESET_ARM, BOOL WO, default — (chapter 12). -/
def RESET_ARM : Obj := ⟨0x1200, 0x06⟩
/-- RESET_CTRL, U8 WO, default — (chapter 12). -/
def RESET_CTRL : Obj := ⟨0x1200, 0x07⟩
/-- STRAPS, U8 RO, default — (chapter 12). -/
def STRAPS : Obj := ⟨0x1200, 0x08⟩
/-- OPT0, U32 RO, default OTP (chapter 12). -/
def OPT0 : Obj := ⟨0x1200, 0x09⟩
/-- OPT1, U32 RO, default OTP (chapter 12). -/
def OPT1 : Obj := ⟨0x1200, 0x0A⟩
/-- BOOT_STATUS, U32 RO, default 0 (chapter 12). -/
def BOOT_STATUS : Obj := ⟨0x1200, 0x0B⟩
/-- CLK_GOOD, U8 RO, default 0 (chapter 12). -/
def CLK_GOOD : Obj := ⟨0x1200, 0x0C⟩
/-- WDOG_PERIOD, U32 RW, default 2,000,000,000 (chapter 12). -/
def WDOG_PERIOD : Obj := ⟨0x1200, 0x0D⟩
/-- WDOG_KICK, BOOL WO, default — (chapter 12). -/
def WDOG_KICK : Obj := ⟨0x1200, 0x0E⟩
/-- ESC_RESET, BOOL RW, default 0x01 (chapter 12). -/
def ESC_RESET : Obj := ⟨0x1200, 0x0F⟩
/-- RST_STRETCH, U32 RO, default 16,000,000 (chapter 12). -/
def RST_STRETCH : Obj := ⟨0x1200, 0x10⟩
/-- CAUSE_COUNT, U16 RO, default backup (chapter 12). -/
def CAUSE_COUNT : Obj := ⟨0x1201, 0x01⟩
/-- BLK_REQ, U32 WO, default — (chapter 12). -/
def BLK_REQ : Obj := ⟨0x1210, 0x01⟩
/-- BLK_CTRL, U8 WO, default — (chapter 12). -/
def BLK_CTRL : Obj := ⟨0x1210, 0x02⟩
/-- BLK_STATE, U32 RO, default 0 (chapter 12). -/
def BLK_STATE : Obj := ⟨0x1210, 0x03⟩
/-- BLK_COUNT, U32 RO, default 0 (chapter 12). -/
def BLK_COUNT : Obj := ⟨0x1210, 0x04⟩
/-- ERR_THRESH, U8 RW, default 3 (chapter 13). -/
def ERR_THRESH : Obj := ⟨0x1300, 0x01⟩
/-- UNCLEARED, U16 RO, default 0 (chapter 13). -/
def UNCLEARED : Obj := ⟨0x1300, 0x02⟩
/-- SEV_MAX, U8 RO, default 0 (chapter 13). -/
def SEV_MAX : Obj := ⟨0x1300, 0x03⟩
/-- SET_OVF, BOOL RO, default 0x00 (chapter 13). -/
def SET_OVF : Obj := ⟨0x1300, 0x04⟩
/-- LOG_NEXT, U32 RO, default 0 (chapter 13). -/
def LOG_NEXT : Obj := ⟨0x1300, 0x05⟩
/-- LOG_LOST, U32 RO, default 0 (chapter 13). -/
def LOG_LOST : Obj := ⟨0x1300, 0x06⟩
/-- RAISES, U64 RO, default 0 (chapter 13). -/
def RAISES : Obj := ⟨0x1300, 0x07⟩
/-- ESCALATIONS, U32 RO, default 0 (chapter 13). -/
def ESCALATIONS : Obj := ⟨0x1300, 0x08⟩
/-- RESENDS, U32 RO, default 0 (chapter 13). -/
def RESENDS : Obj := ⟨0x1300, 0x09⟩
/-- FLT_CLEAR, U64 WO, default — (chapter 13). -/
def FLT_CLEAR : Obj := ⟨0x1301, 0x01⟩
/-- FLT_CLEAR_ALL, BOOL WO, default — (chapter 13). -/
def FLT_CLEAR_ALL : Obj := ⟨0x1301, 0x02⟩
/-- FLT_RESULT, U32 RO, default 0 (chapter 13). -/
def FLT_RESULT : Obj := ⟨0x1301, 0x03⟩
/-- SET_SEL, U16 RW, default 0 (chapter 13). -/
def SET_SEL : Obj := ⟨0x1302, 0x01⟩
/-- SET_RECORD, BLOB RO, default — (chapter 13). -/
def SET_RECORD : Obj := ⟨0x1302, 0x02⟩
/-- LOG_SEL, U32 RW, default 0 (chapter 13). -/
def LOG_SEL : Obj := ⟨0x1303, 0x01⟩
/-- LOG_ENTRY, BLOB RO, default — (chapter 13). -/
def LOG_ENTRY : Obj := ⟨0x1303, 0x02⟩
/-- INJ_ARM, BOOL WO, default — (chapter 13). -/
def INJ_ARM : Obj := ⟨0x1304, 0x01⟩
/-- INJ_REQ, U32 WO, default — (chapter 13). -/
def INJ_REQ : Obj := ⟨0x1304, 0x02⟩
/-- INJ_STATE, U8 RO, default 0 (chapter 13). -/
def INJ_STATE : Obj := ⟨0x1304, 0x03⟩
/-- WIRE_MASK, U32 RO, default 0 (chapter 13). -/
def WIRE_MASK : Obj := ⟨0x1306, 0x01⟩
/-- WIRE_FAULTS, U32 RO, default 0 (chapter 13). -/
def WIRE_FAULTS : Obj := ⟨0x1306, 0x02⟩
/-- BANK_COUNT, U8 RO, default 64 or 32 (chapter 14). -/
def BANK_COUNT : Obj := ⟨0x1400, 0x01⟩
/-- BANK_SIZE, U32 RO, default 32,768 or 16,384 (chapter 14). -/
def BANK_SIZE : Obj := ⟨0x1400, 0x02⟩
/-- DUAL_MASK, U64 RO, default 0xF or 0x3 (chapter 14). -/
def DUAL_MASK : Obj := ⟨0x1400, 0x03⟩
/-- SCRUB_PERIOD, U32 RW, default 1,000,000,000 (chapter 14). -/
def SCRUB_PERIOD : Obj := ⟨0x1400, 0x04⟩
/-- COL_THRESH, U8 RW, default 3 (chapter 14). -/
def COL_THRESH : Obj := ⟨0x1400, 0x05⟩
/-- REPAIR_AUTO, BOOL RW, default 0x01 (chapter 14). -/
def REPAIR_AUTO : Obj := ⟨0x1400, 0x06⟩
/-- CORR_TOTAL, U64 RO, default 0 (chapter 14). -/
def CORR_TOTAL : Obj := ⟨0x1400, 0x07⟩
/-- UNCORR_TOTAL, U32 RO, default 0 (chapter 14). -/
def UNCORR_TOTAL : Obj := ⟨0x1400, 0x08⟩
/-- OWNER_REFUSED, U32 RO, default 0 (chapter 14). -/
def OWNER_REFUSED : Obj := ⟨0x1400, 0x09⟩
/-- STORE_BYTES, U32 RO, default 1,048,576 or 458,752 (chapter 14). -/
def STORE_BYTES : Obj := ⟨0x1410, 0x01⟩
/-- STORE_FREE, U32 RO, default — (chapter 14). -/
def STORE_FREE : Obj := ⟨0x1410, 0x02⟩
/-- RESIDENT, U16 RO, default 0 (chapter 14). -/
def RESIDENT : Obj := ⟨0x1410, 0x03⟩
/-- PAGE_MOVES, U64 RO, default 0 (chapter 14). -/
def PAGE_MOVES : Obj := ⟨0x1410, 0x04⟩
/-- EVICTIONS, U32 RO, default 0 (chapter 14). -/
def PG_EVICTIONS : Obj := ⟨0x1410, 0x05⟩
/-- LOST, U32 RO, default 0 (chapter 14). -/
def PG_LOST : Obj := ⟨0x1410, 0x06⟩
/-- HOST_TIER_BASE, U64 RW, default 0 (chapter 14). -/
def HOST_TIER_BASE : Obj := ⟨0x1410, 0x07⟩
/-- HOST_TIER_SIZE, U32 RW, default 0 (chapter 14). -/
def HOST_TIER_SIZE : Obj := ⟨0x1410, 0x08⟩
/-- HOST_TIER_STATE, U8 RO, default 0 (chapter 14). -/
def HOST_TIER_STATE : Obj := ⟨0x1410, 0x09⟩
/-- TRACE_DUMP, U16 WO, default — (chapter 14). -/
def TRACE_DUMP : Obj := ⟨0x1410, 0x0A⟩
/-- OWNER, U16 RW, default per R383 (chapter 14). -/
def OWNER : Obj := ⟨0x1440, 0x01⟩
/-- PORTB_AGENT, U16 RW, default 0x0000 (chapter 14). -/
def PORTB_AGENT : Obj := ⟨0x1440, 0x02⟩
/-- BANK_STATE, U8 RO, default 0 (chapter 14). -/
def BANK_STATE : Obj := ⟨0x1440, 0x03⟩
/-- SPARE_FUSED, U8 RO, default OTP (chapter 14). -/
def SPARE_FUSED : Obj := ⟨0x1440, 0x04⟩
/-- SPARE_SOFT, U8 RO, default 0 (chapter 14). -/
def SPARE_SOFT : Obj := ⟨0x1440, 0x05⟩
/-- COL_MAP, U32 RO, default OTP (chapter 14). -/
def COL_MAP : Obj := ⟨0x1440, 0x06⟩
/-- CORR_COUNT, U32 RO, default 0 (chapter 14). -/
def BK_CORR_COUNT : Obj := ⟨0x1440, 0x07⟩
/-- UNCORR_COUNT, U32 RO, default 0 (chapter 14). -/
def UNCORR_COUNT : Obj := ⟨0x1440, 0x08⟩
/-- LAST_ERR, U32 RO, default 0 (chapter 14). -/
def LAST_ERR : Obj := ⟨0x1440, 0x09⟩
/-- BUSY_COUNT, U32 RO, default 0 (chapter 14). -/
def BUSY_COUNT : Obj := ⟨0x1440, 0x0A⟩
/-- REPAIR_CTRL, U16 WO, default — (chapter 14). -/
def REPAIR_CTRL : Obj := ⟨0x1440, 0x0B⟩
/-- HANDOVER_TIME, U64 RO, default 0 (chapter 14). -/
def HANDOVER_TIME : Obj := ⟨0x1440, 0x0C⟩
/-- ADDRESS, U16 RO, default per R8 (chapter 15). -/
def ADDRESS : Obj := ⟨0x1000, 0x01⟩
/-- KIND, U8 RO, default per station (chapter 15). -/
def ST_KIND : Obj := ⟨0x1000, 0x02⟩
/-- FIELD, U8 RO, default per station (chapter 15). -/
def ST_FIELD : Obj := ⟨0x1000, 0x03⟩
/-- CLUSTER, U8 RO, default per station (chapter 15). -/
def CLUSTER : Obj := ⟨0x1000, 0x04⟩
/-- ELAPSED_MAX, U32 RO, default 0 (chapter 15). -/
def ELAPSED_MAX : Obj := ⟨0x1100, 0x01⟩
/-- ELAPSED_MEAN, U32 RO, default 0 (chapter 15). -/
def ELAPSED_MEAN : Obj := ⟨0x1100, 0x05⟩
/-- MSG_COUNT, U64 RO, default 0 (chapter 15). -/
def MSG_COUNT : Obj := ⟨0x1100, 0x09⟩
/-- LINKS, U8 RO, default — (chapter 15). -/
def LINKS : Obj := ⟨0x1100, 0x0D⟩
/-- LOST_MSGS, U32 RO, default 0 (chapter 15). -/
def LOST_MSGS : Obj := ⟨0x1100, 0x0E⟩
/-- VENDOR, STR RO, default "RINHECO" (chapter 15). -/
def VENDOR : Obj := ⟨0x1001, 0x01⟩
/-- PRODUCT, STR RO, default "ADTER" (chapter 15). -/
def PRODUCT : Obj := ⟨0x1001, 0x02⟩
/-- SILICON_REV, U16 RO, default per part (chapter 15). -/
def SILICON_REV : Obj := ⟨0x1001, 0x03⟩
/-- SERIAL, U64 RO, default OTP (chapter 15). -/
def SERIAL : Obj := ⟨0x1001, 0x04⟩
/-- ROM_VERSION, U32 RO, default per part (chapter 15). -/
def ROM_VERSION : Obj := ⟨0x1001, 0x05⟩
/-- FW_VERSION, U32 RO, default — (chapter 15). -/
def FW_VERSION : Obj := ⟨0x1001, 0x06⟩
/-- PHOSEN_VERSION, U8 RO, default 0x01 (chapter 15). -/
def PHOSEN_VERSION : Obj := ⟨0x1001, 0x07⟩
/-- MCTP_PEN, U32 RO, default 0x0017F3A9 (chapter 15). -/
def MCTP_PEN : Obj := ⟨0x1001, 0x08⟩
/-- I3C_PID, U64 RO, default OTP (chapter 15). -/
def I3C_PID : Obj := ⟨0x1001, 0x09⟩
/-- STATIONS, BLOB RO, default — (chapter 15). -/
def STATIONS : Obj := ⟨0x1001, 0x0A⟩
/-- HOST_WRITE, BOOL RW, default 0x00 (chapter 15). -/
def HOST_WRITE : Obj := ⟨0x1110, 0x01⟩
/-- I3C_DADDR, U8 RO, default 0 (chapter 15). -/
def I3C_DADDR : Obj := ⟨0x1110, 0x02⟩
/-- I3C_EID, U8 RO, default 0 (chapter 15). -/
def I3C_EID : Obj := ⟨0x1110, 0x03⟩
/-- PCIE_EID, U8 RO, default 0 (chapter 15). -/
def PCIE_EID : Obj := ⟨0x1110, 0x04⟩
/-- PCIE_STATE, U8 RO, default 0 (chapter 15). -/
def PCIE_STATE : Obj := ⟨0x1110, 0x05⟩
/-- SESSION_IDLE, U32 RW, default 60,000 (chapter 15). -/
def SESSION_IDLE : Obj := ⟨0x1110, 0x06⟩
/-- XFER_TIMEOUT, U32 RW, default 100 (chapter 15). -/
def XFER_TIMEOUT : Obj := ⟨0x1110, 0x07⟩
/-- MCTP_DISCARDS, U32 RO, default 0 (chapter 15). -/
def MCTP_DISCARDS : Obj := ⟨0x1110, 0x08⟩
/-- WIN_BAD, U32 RO, default 0 (chapter 15). -/
def WIN_BAD : Obj := ⟨0x1110, 0x09⟩
/-- SESSIONS_OPEN, U8 RO, default 1 (chapter 15). -/
def SESSIONS_OPEN : Obj := ⟨0x1110, 0x0A⟩
/-- SESSION_REFUSED, U32 RO, default 0 (chapter 15). -/
def SESSION_REFUSED : Obj := ⟨0x1110, 0x0B⟩
/-- SESSION_SELF, U8 RO, default — (chapter 15). -/
def SESSION_SELF : Obj := ⟨0x1110, 0x0C⟩
/-- STATE, U8 RO, default per R401 (chapter 15). -/
def SES_STATE : Obj := ⟨0x1120, 0x01⟩
/-- CARRIER, U8 RO, default per R401 (chapter 15). -/
def CARRIER : Obj := ⟨0x1120, 0x02⟩
/-- PEER, U16 RO, default 0 (chapter 15). -/
def PEER : Obj := ⟨0x1120, 0x03⟩
/-- NOTE_SEV, U8 RW, default 2 or 0 (chapter 15). -/
def NOTE_SEV : Obj := ⟨0x1120, 0x04⟩
/-- NOTE_QUEUED, U8 RO, default 0 (chapter 15). -/
def NOTE_QUEUED : Obj := ⟨0x1120, 0x05⟩
/-- NOTE_LOST, U32 RO, default 0 (chapter 15). -/
def NOTE_LOST : Obj := ⟨0x1120, 0x06⟩
/-- LAST_ACTIVE, U64 RO, default 0 (chapter 15). -/
def LAST_ACTIVE : Obj := ⟨0x1120, 0x07⟩
/-- ACTIVE_BANK, U8 RO, default — (chapter 16). -/
def ACTIVE_BANK : Obj := ⟨0x1500, 0x01⟩
/-- ACTIVE_SEQ, U32 RO, default — (chapter 16). -/
def ACTIVE_SEQ : Obj := ⟨0x1500, 0x02⟩
/-- ACTIVE_SVN, U8 RO, default — (chapter 16). -/
def ACTIVE_SVN : Obj := ⟨0x1500, 0x03⟩
/-- CONFIRMED, BOOL RO, default — (chapter 16). -/
def CONFIRMED : Obj := ⟨0x1500, 0x04⟩
/-- TRIAL_BOOTS, U8 RO, default backup (chapter 16). -/
def TRIAL_BOOTS : Obj := ⟨0x1500, 0x05⟩
/-- CONFIRM_TIME, U32 RW, default 60,000 (chapter 16). -/
def CONFIRM_TIME : Obj := ⟨0x1500, 0x06⟩
/-- TRIAL_LEFT, U32 RO, default 0 (chapter 16). -/
def TRIAL_LEFT : Obj := ⟨0x1500, 0x07⟩
/-- ROLLBACK_CTR, U8 RO, default OTP (chapter 16). -/
def ROLLBACK_CTR : Obj := ⟨0x1500, 0x08⟩
/-- KEY_SLOTS, U8 RO, default OTP (chapter 16). -/
def KEY_SLOTS : Obj := ⟨0x1500, 0x09⟩
/-- KEY_REVOKED, U8 RO, default OTP (chapter 16). -/
def KEY_REVOKED : Obj := ⟨0x1500, 0x0A⟩
/-- KEY_REVOKE, U8 WO, default — (chapter 16). -/
def KEY_REVOKE : Obj := ⟨0x1500, 0x0B⟩
/-- MANIFEST_ID, U32 RO, default 0 (chapter 16). -/
def MANIFEST_ID : Obj := ⟨0x1500, 0x0C⟩
/-- MANIFEST_COUNT, U16 RO, default 0 (chapter 16). -/
def MANIFEST_COUNT : Obj := ⟨0x1500, 0x0D⟩
/-- MIRROR_STATE, U8 RO, default 0 (chapter 16). -/
def MIRROR_STATE : Obj := ⟨0x1500, 0x0E⟩
/-- MIRROR_TAKEOVERS, U32 RO, default 0 (chapter 16). -/
def MIRROR_TAKEOVERS : Obj := ⟨0x1500, 0x0F⟩
/-- OTHER_STATE, U8 RO, default — (chapter 16). -/
def OTHER_STATE : Obj := ⟨0x1500, 0x10⟩
/-- IMG_TARGET, U8 RW, default 1 (chapter 16). -/
def IMG_TARGET : Obj := ⟨0x1510, 0x01⟩
/-- IMG_CHUNK, BLOB WO, default — (chapter 16). -/
def IMG_CHUNK : Obj := ⟨0x1510, 0x02⟩
/-- IMG_CTRL, U8 WO, default — (chapter 16). -/
def IMG_CTRL : Obj := ⟨0x1510, 0x03⟩
/-- IMG_STATE, U8 RO, default 0 (chapter 16). -/
def IMG_STATE : Obj := ⟨0x1510, 0x04⟩
/-- IMG_ERR, U8 RO, default 0 (chapter 16). -/
def IMG_ERR : Obj := ⟨0x1510, 0x05⟩
/-- IMG_LEN, U32 RO, default 0 (chapter 16). -/
def IMG_LEN : Obj := ⟨0x1510, 0x06⟩
/-- IMG_INFO, U32 RO, default 0 (chapter 16). -/
def IMG_INFO : Obj := ⟨0x1510, 0x07⟩
/-- MLOG_SEL, U32 RW, default 0 (chapter 16). -/
def MLOG_SEL : Obj := ⟨0x1520, 0x01⟩
/-- MLOG_ENTRY, BLOB RO, default — (chapter 16). -/
def MLOG_ENTRY : Obj := ⟨0x1520, 0x02⟩
/-- MLOG_NEXT, U32 RO, default 0 (chapter 16). -/
def MLOG_NEXT : Obj := ⟨0x1520, 0x03⟩
end O

def objRows10a : List ObjRow := [
  ⟨7, 0x1000, 1, 0x00, 0x00, 1, .ro, 4, 0, 255⟩,
  ⟨7, 0x1000, 1, 0x01, 0x01, 2, .ro, 0, 0, 65535⟩,
  ⟨7, 0x1000, 1, 0x02, 0x02, 1, .ro, 0, 0, 255⟩,
  ⟨7, 0x1000, 1, 0x03, 0x03, 1, .ro, 0, 0, 255⟩,
  ⟨7, 0x1000, 1, 0x04, 0x04, 1, .ro, 0, 0, 255⟩,
  ⟨1, 0x1001, 1, 0x00, 0x00, 1, .ro, 10, 0, 255⟩,
  ⟨1, 0x1001, 1, 0x01, 0x01, 0, .ro, 0, 0, 0⟩,
  ⟨1, 0x1001, 1, 0x02, 0x02, 0, .ro, 0, 0, 0⟩,
  ⟨1, 0x1001, 1, 0x03, 0x03, 2, .ro, 0, 0, 65535⟩,
  ⟨1, 0x1001, 1, 0x04, 0x04, 8, .ro, 0, 0, 18446744073709551615⟩,
  ⟨1, 0x1001, 1, 0x05, 0x05, 4, .ro, 0, 0, 4294967295⟩,
  ⟨1, 0x1001, 1, 0x06, 0x06, 4, .ro, 0, 0, 4294967295⟩,
  ⟨1, 0x1001, 1, 0x07, 0x07, 1, .ro, 1, 0, 255⟩,
  ⟨1, 0x1001, 1, 0x08, 0x08, 4, .ro, 1569705, 0, 4294967295⟩,
  ⟨1, 0x1001, 1, 0x09, 0x09, 8, .ro, 0, 0, 18446744073709551615⟩,
  ⟨1, 0x1001, 1, 0x0A, 0x0A, 0, .ro, 0, 0, 0⟩]
/-- The tables of range 0x1000. -/
def objRows10 : List ObjRow := objRows10a

def objRows11a : List ObjRow := [
  ⟨7, 0x1100, 1, 0x00, 0x00, 1, .ro, 14, 0, 255⟩,
  ⟨7, 0x1100, 1, 0x01, 0x04, 4, .ro, 0, 0, 4294967295⟩,
  ⟨7, 0x1100, 1, 0x05, 0x08, 4, .ro, 0, 0, 4294967295⟩,
  ⟨7, 0x1100, 1, 0x09, 0x0C, 8, .ro, 0, 0, 18446744073709551615⟩,
  ⟨7, 0x1100, 1, 0x0D, 0x0D, 1, .ro, 0, 0, 255⟩,
  ⟨7, 0x1100, 1, 0x0E, 0x0E, 4, .ro, 0, 0, 4294967295⟩,
  ⟨1, 0x1110, 1, 0x00, 0x00, 1, .ro, 12, 0, 255⟩,
  ⟨1, 0x1110, 1, 0x01, 0x01, 1, .rw, 0, 0, 1⟩,
  ⟨1, 0x1110, 1, 0x02, 0x02, 1, .ro, 0, 0, 255⟩,
  ⟨1, 0x1110, 1, 0x03, 0x03, 1, .ro, 0, 0, 255⟩,
  ⟨1, 0x1110, 1, 0x04, 0x04, 1, .ro, 0, 0, 255⟩,
  ⟨1, 0x1110, 1, 0x05, 0x05, 1, .ro, 0, 0, 255⟩,
  ⟨1, 0x1110, 1, 0x06, 0x06, 4, .rw, 60000, 1000, 3600000⟩,
  ⟨1, 0x1110, 1, 0x07, 0x07, 4, .rw, 100, 10, 10000⟩,
  ⟨1, 0x1110, 1, 0x08, 0x08, 4, .ro, 0, 0, 4294967295⟩,
  ⟨1, 0x1110, 1, 0x09, 0x09, 4, .ro, 0, 0, 4294967295⟩,
  ⟨1, 0x1110, 1, 0x0A, 0x0A, 1, .ro, 1, 0, 255⟩,
  ⟨1, 0x1110, 1, 0x0B, 0x0B, 4, .ro, 0, 0, 4294967295⟩,
  ⟨1, 0x1110, 1, 0x0C, 0x0C, 1, .ro, 0, 0, 255⟩,
  ⟨1, 0x1120, 32, 0x00, 0x00, 1, .ro, 7, 0, 255⟩,
  ⟨1, 0x1120, 32, 0x01, 0x01, 1, .ro, 0, 0, 255⟩,
  ⟨1, 0x1120, 32, 0x02, 0x02, 1, .ro, 0, 0, 255⟩,
  ⟨1, 0x1120, 32, 0x03, 0x03, 2, .ro, 0, 0, 65535⟩,
  ⟨1, 0x1120, 32, 0x04, 0x04, 1, .rw, 0, 0, 5⟩,
  ⟨1, 0x1120, 32, 0x05, 0x05, 1, .ro, 0, 0, 255⟩,
  ⟨1, 0x1120, 32, 0x06, 0x06, 4, .ro, 0, 0, 4294967295⟩,
  ⟨1, 0x1120, 32, 0x07, 0x07, 8, .ro, 0, 0, 18446744073709551615⟩]
/-- The tables of range 0x1100. -/
def objRows11 : List ObjRow := objRows11a

def objRows12a : List ObjRow := [
  ⟨1, 0x1200, 1, 0x00, 0x00, 1, .ro, 16, 0, 255⟩,
  ⟨1, 0x1200, 1, 0x01, 0x01, 1, .ro, 0, 0, 255⟩,
  ⟨1, 0x1200, 1, 0x02, 0x02, 1, .ro, 0, 0, 255⟩,
  ⟨1, 0x1200, 1, 0x03, 0x03, 4, .ro, 0, 0, 4294967295⟩,
  ⟨1, 0x1200, 1, 0x04, 0x04, 8, .ro, 0, 0, 18446744073709551615⟩,
  ⟨1, 0x1200, 1, 0x05, 0x05, 2, .ro, 0, 0, 65535⟩,
  ⟨1, 0x1200, 1, 0x06, 0x06, 1, .wo, 0, 0, 255⟩,
  ⟨1, 0x1200, 1, 0x07, 0x07, 1, .wo, 0, 0, 255⟩,
  ⟨1, 0x1200, 1, 0x08, 0x08, 1, .ro, 0, 0, 255⟩,
  ⟨1, 0x1200, 1, 0x09, 0x09, 4, .ro, 0, 0, 4294967295⟩,
  ⟨1, 0x1200, 1, 0x0A, 0x0A, 4, .ro, 0, 0, 4294967295⟩,
  ⟨1, 0x1200, 1, 0x0B, 0x0B, 4, .ro, 0, 0, 4294967295⟩,
  ⟨1, 0x1200, 1, 0x0C, 0x0C, 1, .ro, 0, 0, 255⟩,
  ⟨1, 0x1200, 1, 0x0D, 0x0D, 4, .rw, 2000000000, 10000000, 4000000000⟩,
  ⟨1, 0x1200, 1, 0x0E, 0x0E, 1, .wo, 0, 0, 255⟩,
  ⟨1, 0x1200, 1, 0x0F, 0x0F, 1, .rw, 1, 0, 1⟩,
  ⟨1, 0x1200, 1, 0x10, 0x10, 4, .ro, 16000000, 0, 4294967295⟩,
  ⟨1, 0x1201, 1, 0x00, 0x00, 1, .ro, 9, 0, 255⟩,
  ⟨1, 0x1201, 1, 0x01, 0x09, 2, .ro, 0, 0, 65535⟩,
  ⟨1, 0x1210, 1, 0x00, 0x00, 1, .ro, 4, 0, 255⟩,
  ⟨1, 0x1210, 1, 0x01, 0x01, 4, .wo, 0, 0, 4294967295⟩,
  ⟨1, 0x1210, 1, 0x02, 0x02, 1, .wo, 0, 0, 255⟩,
  ⟨1, 0x1210, 1, 0x03, 0x03, 4, .ro, 0, 0, 4294967295⟩,
  ⟨1, 0x1210, 1, 0x04, 0x04, 4, .ro, 0, 0, 4294967295⟩]
/-- The tables of range 0x1200. -/
def objRows12 : List ObjRow := objRows12a

def objRows13a : List ObjRow := [
  ⟨1, 0x1300, 1, 0x00, 0x00, 1, .ro, 9, 0, 255⟩,
  ⟨1, 0x1300, 1, 0x01, 0x01, 1, .rw, 3, 1, 5⟩,
  ⟨1, 0x1300, 1, 0x02, 0x02, 2, .ro, 0, 0, 65535⟩,
  ⟨1, 0x1300, 1, 0x03, 0x03, 1, .ro, 0, 0, 255⟩,
  ⟨1, 0x1300, 1, 0x04, 0x04, 1, .ro, 0, 0, 255⟩,
  ⟨1, 0x1300, 1, 0x05, 0x05, 4, .ro, 0, 0, 4294967295⟩,
  ⟨1, 0x1300, 1, 0x06, 0x06, 4, .ro, 0, 0, 4294967295⟩,
  ⟨1, 0x1300, 1, 0x07, 0x07, 8, .ro, 0, 0, 18446744073709551615⟩,
  ⟨1, 0x1300, 1, 0x08, 0x08, 4, .ro, 0, 0, 4294967295⟩,
  ⟨1, 0x1300, 1, 0x09, 0x09, 4, .ro, 0, 0, 4294967295⟩,
  ⟨1, 0x1301, 1, 0x00, 0x00, 1, .ro, 3, 0, 255⟩,
  ⟨1, 0x1301, 1, 0x01, 0x01, 8, .wo, 0, 0, 18446744073709551615⟩,
  ⟨1, 0x1301, 1, 0x02, 0x02, 1, .wo, 0, 0, 255⟩,
  ⟨1, 0x1301, 1, 0x03, 0x03, 4, .ro, 0, 0, 4294967295⟩,
  ⟨1, 0x1302, 1, 0x00, 0x00, 1, .ro, 2, 0, 255⟩,
  ⟨1, 0x1302, 1, 0x01, 0x01, 2, .rw, 0, 0, 1088⟩,
  ⟨1, 0x1302, 1, 0x02, 0x02, 0, .ro, 0, 0, 0⟩,
  ⟨1, 0x1303, 1, 0x00, 0x00, 1, .ro, 2, 0, 255⟩,
  ⟨1, 0x1303, 1, 0x01, 0x01, 4, .rw, 0, 0, 4294967295⟩,
  ⟨1, 0x1303, 1, 0x02, 0x02, 0, .ro, 0, 0, 0⟩,
  ⟨1, 0x1304, 1, 0x00, 0x00, 1, .ro, 3, 0, 255⟩,
  ⟨1, 0x1304, 1, 0x01, 0x01, 1, .wo, 0, 0, 255⟩,
  ⟨1, 0x1304, 1, 0x02, 0x02, 4, .wo, 0, 0, 4294967295⟩,
  ⟨1, 0x1304, 1, 0x03, 0x03, 1, .ro, 0, 0, 255⟩,
  ⟨2, 0x1306, 1, 0x00, 0x00, 1, .ro, 2, 0, 255⟩,
  ⟨2, 0x1306, 1, 0x01, 0x01, 4, .ro, 0, 0, 4294967295⟩,
  ⟨2, 0x1306, 1, 0x02, 0x02, 4, .ro, 0, 0, 4294967295⟩]
/-- The tables of range 0x1300. -/
def objRows13 : List ObjRow := objRows13a

def objRows14a : List ObjRow := [
  ⟨3, 0x1400, 1, 0x00, 0x00, 1, .ro, 9, 0, 255⟩,
  ⟨3, 0x1400, 1, 0x01, 0x01, 1, .ro, 0, 0, 255⟩,
  ⟨3, 0x1400, 1, 0x02, 0x02, 4, .ro, 0, 0, 4294967295⟩,
  ⟨3, 0x1400, 1, 0x03, 0x03, 8, .ro, 0, 0, 18446744073709551615⟩,
  ⟨3, 0x1400, 1, 0x04, 0x04, 4, .rw, 1000000000, 100000000, 4000000000⟩,
  ⟨3, 0x1400, 1, 0x05, 0x05, 1, .rw, 3, 2, 64⟩,
  ⟨3, 0x1400, 1, 0x06, 0x06, 1, .rw, 1, 0, 1⟩,
  ⟨3, 0x1400, 1, 0x07, 0x07, 8, .ro, 0, 0, 18446744073709551615⟩,
  ⟨3, 0x1400, 1, 0x08, 0x08, 4, .ro, 0, 0, 4294967295⟩,
  ⟨3, 0x1400, 1, 0x09, 0x09, 4, .ro, 0, 0, 4294967295⟩,
  ⟨3, 0x1410, 1, 0x00, 0x00, 1, .ro, 0, 0, 255⟩,
  ⟨3, 0x1410, 1, 0x01, 0x01, 4, .ro, 0, 0, 4294967295⟩,
  ⟨3, 0x1410, 1, 0x02, 0x02, 4, .ro, 0, 0, 4294967295⟩,
  ⟨3, 0x1410, 1, 0x03, 0x03, 2, .ro, 0, 0, 65535⟩,
  ⟨3, 0x1410, 1, 0x04, 0x04, 8, .ro, 0, 0, 18446744073709551615⟩,
  ⟨3, 0x1410, 1, 0x05, 0x05, 4, .ro, 0, 0, 4294967295⟩,
  ⟨3, 0x1410, 1, 0x06, 0x06, 4, .ro, 0, 0, 4294967295⟩,
  ⟨3, 0x1410, 1, 0x07, 0x07, 8, .rw, 0, 0, 18446744073709551615⟩,
  ⟨3, 0x1410, 1, 0x08, 0x08, 4, .rw, 0, 0, 65536⟩,
  ⟨3, 0x1410, 1, 0x09, 0x09, 1, .ro, 0, 0, 255⟩,
  ⟨3, 0x1410, 1, 0x0A, 0x0A, 2, .wo, 0, 0, 65535⟩,
  ⟨3, 0x1440, 64, 0x00, 0x00, 1, .ro, 12, 0, 255⟩,
  ⟨3, 0x1440, 64, 0x01, 0x01, 2, .rw, 0, 0, 65535⟩,
  ⟨3, 0x1440, 64, 0x02, 0x02, 2, .rw, 0, 0, 65535⟩,
  ⟨3, 0x1440, 64, 0x03, 0x03, 1, .ro, 0, 0, 255⟩,
  ⟨3, 0x1440, 64, 0x04, 0x04, 1, .ro, 0, 0, 255⟩,
  ⟨3, 0x1440, 64, 0x05, 0x05, 1, .ro, 0, 0, 255⟩,
  ⟨3, 0x1440, 64, 0x06, 0x06, 4, .ro, 0, 0, 4294967295⟩,
  ⟨3, 0x1440, 64, 0x07, 0x07, 4, .ro, 0, 0, 4294967295⟩,
  ⟨3, 0x1440, 64, 0x08, 0x08, 4, .ro, 0, 0, 4294967295⟩,
  ⟨3, 0x1440, 64, 0x09, 0x09, 4, .ro, 0, 0, 4294967295⟩,
  ⟨3, 0x1440, 64, 0x0A, 0x0A, 4, .ro, 0, 0, 4294967295⟩,
  ⟨3, 0x1440, 64, 0x0B, 0x0B, 2, .wo, 0, 0, 65535⟩,
  ⟨3, 0x1440, 64, 0x0C, 0x0C, 8, .ro, 0, 0, 18446744073709551615⟩]
/-- The tables of range 0x1400. -/
def objRows14 : List ObjRow := objRows14a

def objRows15a : List ObjRow := [
  ⟨1, 0x1500, 1, 0x00, 0x00, 1, .ro, 16, 0, 255⟩,
  ⟨1, 0x1500, 1, 0x01, 0x01, 1, .ro, 0, 0, 255⟩,
  ⟨1, 0x1500, 1, 0x02, 0x02, 4, .ro, 0, 0, 4294967295⟩,
  ⟨1, 0x1500, 1, 0x03, 0x03, 1, .ro, 0, 0, 255⟩,
  ⟨1, 0x1500, 1, 0x04, 0x04, 1, .ro, 0, 0, 255⟩,
  ⟨1, 0x1500, 1, 0x05, 0x05, 1, .ro, 0, 0, 255⟩,
  ⟨1, 0x1500, 1, 0x06, 0x06, 4, .rw, 60000, 10000, 3600000⟩,
  ⟨1, 0x1500, 1, 0x07, 0x07, 4, .ro, 0, 0, 4294967295⟩,
  ⟨1, 0x1500, 1, 0x08, 0x08, 1, .ro, 0, 0, 255⟩,
  ⟨1, 0x1500, 1, 0x09, 0x09, 1, .ro, 0, 0, 255⟩,
  ⟨1, 0x1500, 1, 0x0A, 0x0A, 1, .ro, 0, 0, 255⟩,
  ⟨1, 0x1500, 1, 0x0B, 0x0B, 1, .wo, 0, 0, 255⟩,
  ⟨1, 0x1500, 1, 0x0C, 0x0C, 4, .ro, 0, 0, 4294967295⟩,
  ⟨1, 0x1500, 1, 0x0D, 0x0D, 2, .ro, 0, 0, 65535⟩,
  ⟨1, 0x1500, 1, 0x0E, 0x0E, 1, .ro, 0, 0, 255⟩,
  ⟨1, 0x1500, 1, 0x0F, 0x0F, 4, .ro, 0, 0, 4294967295⟩,
  ⟨1, 0x1500, 1, 0x10, 0x10, 1, .ro, 0, 0, 255⟩,
  ⟨1, 0x1510, 1, 0x00, 0x00, 1, .ro, 7, 0, 255⟩,
  ⟨1, 0x1510, 1, 0x01, 0x01, 1, .rw, 1, 1, 4⟩,
  ⟨1, 0x1510, 1, 0x02, 0x02, 0, .wo, 0, 0, 0⟩,
  ⟨1, 0x1510, 1, 0x03, 0x03, 1, .wo, 0, 0, 255⟩,
  ⟨1, 0x1510, 1, 0x04, 0x04, 1, .ro, 0, 0, 255⟩,
  ⟨1, 0x1510, 1, 0x05, 0x05, 1, .ro, 0, 0, 255⟩,
  ⟨1, 0x1510, 1, 0x06, 0x06, 4, .ro, 0, 0, 4294967295⟩,
  ⟨1, 0x1510, 1, 0x07, 0x07, 4, .ro, 0, 0, 4294967295⟩,
  ⟨1, 0x1520, 1, 0x00, 0x00, 1, .ro, 3, 0, 255⟩,
  ⟨1, 0x1520, 1, 0x01, 0x01, 4, .rw, 0, 0, 4294967295⟩,
  ⟨1, 0x1520, 1, 0x02, 0x02, 0, .ro, 0, 0, 0⟩,
  ⟨1, 0x1520, 1, 0x03, 0x03, 4, .ro, 0, 0, 4294967295⟩]
/-- The tables of range 0x1500. -/
def objRows15 : List ObjRow := objRows15a

def objRows20a : List ObjRow := [
  ⟨1, 0x2000, 1, 0x00, 0x00, 1, .ro, 64, 0, 255⟩,
  ⟨1, 0x2001, 1, 0x00, 0x00, 8, .ro, 0, 0, 18446744073709551615⟩,
  ⟨1, 0x2002, 1, 0x00, 0x00, 8, .ro, 0, 0, 18446744073709551615⟩,
  ⟨1, 0x2003, 1, 0x00, 0x00, 2, .rw, 920, 800, 990⟩,
  ⟨1, 0x2040, 64, 0x00, 0x00, 1, .ro, 12, 0, 255⟩,
  ⟨1, 0x2040, 64, 0x01, 0x01, 1, .ro, 0, 0, 255⟩,
  ⟨1, 0x2040, 64, 0x02, 0x02, 1, .ro, 0, 0, 255⟩,
  ⟨1, 0x2040, 64, 0x03, 0x03, 4, .ro, 0, 0, 4294967295⟩,
  ⟨1, 0x2040, 64, 0x04, 0x04, 1, .ro, 0, 0, 255⟩,
  ⟨1, 0x2040, 64, 0x05, 0x05, 2, .rw, 0, 0, 65535⟩,
  ⟨1, 0x2040, 64, 0x06, 0x06, 1, .ro, 0, 0, 255⟩,
  ⟨1, 0x2040, 64, 0x07, 0x07, 2, .ro, 0, 0, 65535⟩,
  ⟨1, 0x2040, 64, 0x08, 0x08, 4, .ro, 0, 0, 4294967295⟩,
  ⟨1, 0x2040, 64, 0x09, 0x09, 4, .ro, 0, 0, 4294967295⟩,
  ⟨1, 0x2040, 64, 0x0A, 0x0A, 4, .ro, 0, 0, 4294967295⟩,
  ⟨1, 0x2040, 64, 0x0B, 0x0B, 2, .ro, 0, 0, 65535⟩,
  ⟨1, 0x2040, 64, 0x0C, 0x0C, 8, .ro, 0, 0, 18446744073709551615⟩,
  ⟨1, 0x2080, 8, 0x00, 0x00, 1, .ro, 6, 0, 255⟩,
  ⟨1, 0x2080, 8, 0x01, 0x01, 1, .ro, 0, 0, 255⟩,
  ⟨1, 0x2080, 8, 0x02, 0x02, 4, .ro, 0, 0, 4294967295⟩,
  ⟨1, 0x2080, 8, 0x03, 0x03, 1, .ro, 0, 0, 255⟩,
  ⟨1, 0x2080, 8, 0x04, 0x04, 4, .ro, 0, 0, 4294967295⟩,
  ⟨1, 0x2080, 8, 0x05, 0x05, 4, .ro, 0, 0, 4294967295⟩,
  ⟨1, 0x2080, 8, 0x06, 0x06, 1, .ro, 0, 0, 255⟩,
  ⟨15, 0x2010, 1, 0x00, 0x00, 1, .ro, 16, 0, 255⟩,
  ⟨4, 0x2020, 24, 0x00, 0x00, 1, .ro, 16, 0, 255⟩,
  ⟨1, 0x20C0, 64, 0x00, 0x00, 1, .ro, 16, 0, 255⟩,
  ⟨15, 0x2010, 1, 0x01, 0x01, 1, .ro, 0, 0, 255⟩,
  ⟨4, 0x2020, 24, 0x01, 0x01, 1, .ro, 0, 0, 255⟩,
  ⟨1, 0x20C0, 64, 0x01, 0x01, 1, .ro, 0, 0, 255⟩,
  ⟨15, 0x2010, 1, 0x02, 0x02, 1, .ro, 0, 0, 255⟩,
  ⟨4, 0x2020, 24, 0x02, 0x02, 1, .ro, 0, 0, 255⟩,
  ⟨1, 0x20C0, 64, 0x02, 0x02, 1, .ro, 0, 0, 255⟩,
  ⟨15, 0x2010, 1, 0x03, 0x03, 1, .wo, 0, 0, 255⟩,
  ⟨4, 0x2020, 24, 0x03, 0x03, 1, .wo, 0, 0, 255⟩,
  ⟨1, 0x20C0, 64, 0x03, 0x03, 1, .wo, 0, 0, 255⟩,
  ⟨15, 0x2010, 1, 0x04, 0x04, 2, .rw, 0, 0, 65535⟩,
  ⟨4, 0x2020, 24, 0x04, 0x04, 2, .rw, 0, 0, 65535⟩,
  ⟨1, 0x20C0, 64, 0x04, 0x04, 2, .rw, 0, 0, 65535⟩,
  ⟨15, 0x2010, 1, 0x05, 0x05, 2, .ro, 0, 0, 65535⟩]
def objRows20b : List ObjRow := [
  ⟨4, 0x2020, 24, 0x05, 0x05, 2, .ro, 0, 0, 65535⟩,
  ⟨1, 0x20C0, 64, 0x05, 0x05, 2, .ro, 0, 0, 65535⟩,
  ⟨15, 0x2010, 1, 0x06, 0x06, 2, .rw, 0, 0, 65535⟩,
  ⟨4, 0x2020, 24, 0x06, 0x06, 2, .rw, 0, 0, 65535⟩,
  ⟨1, 0x20C0, 64, 0x06, 0x06, 2, .rw, 0, 0, 65535⟩,
  ⟨15, 0x2010, 1, 0x07, 0x07, 2, .rw, 0, 0, 65535⟩,
  ⟨4, 0x2020, 24, 0x07, 0x07, 2, .rw, 0, 0, 65535⟩,
  ⟨1, 0x20C0, 64, 0x07, 0x07, 2, .rw, 0, 0, 65535⟩,
  ⟨15, 0x2010, 1, 0x08, 0x08, 4, .rw, 4294967295, 0, 4294967295⟩,
  ⟨4, 0x2020, 24, 0x08, 0x08, 4, .rw, 4294967295, 0, 4294967295⟩,
  ⟨1, 0x20C0, 64, 0x08, 0x08, 4, .rw, 4294967295, 0, 4294967295⟩,
  ⟨15, 0x2010, 1, 0x09, 0x09, 4, .ro, 0, 0, 4294967295⟩,
  ⟨4, 0x2020, 24, 0x09, 0x09, 4, .ro, 0, 0, 4294967295⟩,
  ⟨1, 0x20C0, 64, 0x09, 0x09, 4, .ro, 0, 0, 4294967295⟩,
  ⟨15, 0x2010, 1, 0x0A, 0x0A, 2, .ro, 0, 0, 65535⟩,
  ⟨4, 0x2020, 24, 0x0A, 0x0A, 2, .ro, 0, 0, 65535⟩,
  ⟨1, 0x20C0, 64, 0x0A, 0x0A, 2, .ro, 0, 0, 65535⟩,
  ⟨15, 0x2010, 1, 0x0B, 0x0B, 4, .ro, 0, 0, 4294967295⟩,
  ⟨4, 0x2020, 24, 0x0B, 0x0B, 4, .ro, 0, 0, 4294967295⟩,
  ⟨1, 0x20C0, 64, 0x0B, 0x0B, 4, .ro, 0, 0, 4294967295⟩,
  ⟨15, 0x2010, 1, 0x0C, 0x0C, 4, .ro, 0, 0, 4294967295⟩,
  ⟨4, 0x2020, 24, 0x0C, 0x0C, 4, .ro, 0, 0, 4294967295⟩,
  ⟨1, 0x20C0, 64, 0x0C, 0x0C, 4, .ro, 0, 0, 4294967295⟩,
  ⟨15, 0x2010, 1, 0x0D, 0x0D, 4, .ro, 0, 0, 4294967295⟩,
  ⟨4, 0x2020, 24, 0x0D, 0x0D, 4, .ro, 0, 0, 4294967295⟩,
  ⟨1, 0x20C0, 64, 0x0D, 0x0D, 4, .ro, 0, 0, 4294967295⟩,
  ⟨15, 0x2010, 1, 0x0E, 0x0E, 1, .ro, 0, 0, 255⟩,
  ⟨4, 0x2020, 24, 0x0E, 0x0E, 1, .ro, 0, 0, 255⟩,
  ⟨1, 0x20C0, 64, 0x0E, 0x0E, 1, .ro, 0, 0, 255⟩,
  ⟨15, 0x2010, 1, 0x0F, 0x0F, 2, .ro, 0, 0, 65535⟩,
  ⟨4, 0x2020, 24, 0x0F, 0x0F, 2, .ro, 0, 0, 65535⟩,
  ⟨1, 0x20C0, 64, 0x0F, 0x0F, 2, .ro, 0, 0, 65535⟩,
  ⟨15, 0x2010, 1, 0x10, 0x10, 8, .ro, 0, 0, 18446744073709551615⟩,
  ⟨4, 0x2020, 24, 0x10, 0x10, 8, .ro, 0, 0, 18446744073709551615⟩,
  ⟨1, 0x20C0, 64, 0x10, 0x10, 8, .ro, 0, 0, 18446744073709551615⟩,
  ⟨8, 0x2011, 1, 0x00, 0x00, 1, .rw, 0, 0, 64⟩,
  ⟨8, 0x2011, 1, 0x01, 0x40, 4, .rw, 0, 0, 4294967295⟩]
/-- The tables of range 0x2000. -/
def objRows20 : List ObjRow := objRows20a ++ objRows20b

def objRows21a : List ObjRow := [
  ⟨4, 0x2100, 1, 0x00, 0x00, 1, .ro, 18, 0, 255⟩,
  ⟨4, 0x2100, 1, 0x01, 0x01, 1, .ro, 0, 0, 255⟩,
  ⟨4, 0x2100, 1, 0x02, 0x02, 2, .rw, 16, 1, 160⟩,
  ⟨4, 0x2100, 1, 0x03, 0x03, 2, .rw, 16, 1, 160⟩,
  ⟨4, 0x2100, 1, 0x04, 0x04, 2, .rw, 0, 0, 1000⟩,
  ⟨4, 0x2100, 1, 0x05, 0x05, 4, .rw, 1000, 200, 100000⟩,
  ⟨4, 0x2100, 1, 0x06, 0x06, 2, .rw, 25, 5, 100⟩,
  ⟨4, 0x2100, 1, 0x07, 0x07, 4, .rw, 20000, 2000, 100000⟩,
  ⟨4, 0x2100, 1, 0x08, 0x08, 2, .rw, 16, 4, 1000⟩,
  ⟨4, 0x2100, 1, 0x09, 0x09, 2, .rw, 40, 10, 200⟩,
  ⟨4, 0x2100, 1, 0x0A, 0x0A, 4, .rw, 20000, 1000, 1000000⟩,
  ⟨4, 0x2100, 1, 0x0B, 0x0B, 2, .rw, 40, 8, 200⟩,
  ⟨4, 0x2100, 1, 0x0C, 0x0C, 4, .rw, 100000, 10000, 10000000⟩,
  ⟨4, 0x2100, 1, 0x0D, 0x0D, 2, .rw, 32, 16, 1000⟩,
  ⟨4, 0x2100, 1, 0x0E, 0x0E, 4, .rw, 40000, 10000, 200000⟩,
  ⟨4, 0x2100, 1, 0x0F, 0x0F, 4, .rw, 60000, 10000, 200000⟩,
  ⟨4, 0x2100, 1, 0x10, 0x10, 4, .rw, 500000, 10000, 100000000⟩,
  ⟨4, 0x2100, 1, 0x11, 0x11, 4, .rw, 2000, 500, 100000⟩,
  ⟨4, 0x2100, 1, 0x12, 0x12, 2, .rw, 25, 0, 50⟩,
  ⟨4, 0x2101, 1, 0x00, 0x00, 1, .ro, 16, 0, 255⟩,
  ⟨4, 0x2101, 1, 0x01, 0x01, 4, .ro, 0, 0, 4294967295⟩,
  ⟨4, 0x2101, 1, 0x02, 0x02, 2, .ro, 0, 0, 65535⟩,
  ⟨4, 0x2101, 1, 0x03, 0x03, 2, .ro, 0, 0, 65535⟩,
  ⟨4, 0x2101, 1, 0x04, 0x04, 2, .ro, 0, 0, 65535⟩,
  ⟨4, 0x2101, 1, 0x05, 0x05, 4, .ro, 0, 0, 4294967295⟩,
  ⟨4, 0x2101, 1, 0x06, 0x06, 4, .ro, 4294967295, 0, 4294967295⟩,
  ⟨4, 0x2101, 1, 0x07, 0x07, 2, .ro, 0, 0, 65535⟩,
  ⟨4, 0x2101, 1, 0x08, 0x08, 2, .ro, 0, 0, 65535⟩,
  ⟨4, 0x2101, 1, 0x09, 0x09, 4, .ro, 0, 0, 4294967295⟩,
  ⟨4, 0x2101, 1, 0x0A, 0x0A, 4, .ro, 0, 0, 4294967295⟩,
  ⟨4, 0x2101, 1, 0x0B, 0x0B, 1, .ro, 0, 0, 255⟩,
  ⟨4, 0x2101, 1, 0x0C, 0x0C, 2, .ro, 0, 0, 65535⟩,
  ⟨4, 0x2101, 1, 0x0D, 0x0D, 4, .ro, 0, 0, 4294967295⟩,
  ⟨4, 0x2101, 1, 0x0E, 0x0E, 4, .ro, 0, 0, 4294967295⟩,
  ⟨4, 0x2101, 1, 0x0F, 0x0F, 4, .ro, 0, 0, 4294967295⟩,
  ⟨4, 0x2101, 1, 0x10, 0x10, 0, .ro, 0, 0, 0⟩,
  ⟨4, 0x2102, 1, 0x00, 0x00, 1, .ro, 10, 0, 255⟩,
  ⟨4, 0x2102, 1, 0x01, 0x01, 1, .ro, 0, 0, 255⟩,
  ⟨4, 0x2102, 1, 0x02, 0x02, 8, .ro, 0, 0, 18446744073709551615⟩,
  ⟨4, 0x2102, 1, 0x03, 0x03, 8, .ro, 0, 0, 18446744073709551615⟩]
def objRows21b : List ObjRow := [
  ⟨4, 0x2102, 1, 0x04, 0x04, 8, .ro, 0, 0, 18446744073709551615⟩,
  ⟨4, 0x2102, 1, 0x05, 0x05, 8, .ro, 0, 0, 18446744073709551615⟩,
  ⟨4, 0x2102, 1, 0x06, 0x06, 8, .ro, 0, 0, 18446744073709551615⟩,
  ⟨4, 0x2102, 1, 0x07, 0x07, 8, .ro, 0, 0, 18446744073709551615⟩,
  ⟨4, 0x2102, 1, 0x08, 0x08, 4, .ro, 0, 0, 4294967295⟩,
  ⟨4, 0x2102, 1, 0x09, 0x09, 8, .ro, 0, 0, 18446744073709551615⟩,
  ⟨4, 0x2102, 1, 0x0A, 0x0A, 1, .wo, 0, 0, 255⟩]
/-- The tables of range 0x2100. -/
def objRows21 : List ObjRow := objRows21a ++ objRows21b

def objRows22a : List ObjRow := [
  ⟨4, 0x2200, 1, 0x00, 0x00, 1, .ro, 18, 0, 255⟩,
  ⟨4, 0x2200, 1, 0x01, 0x01, 1, .ro, 0, 0, 255⟩,
  ⟨4, 0x2200, 1, 0x02, 0x02, 1, .ro, 0, 0, 255⟩,
  ⟨4, 0x2200, 1, 0x03, 0x03, 4, .ro, 0, 0, 4294967295⟩,
  ⟨4, 0x2200, 1, 0x04, 0x04, 4, .rws, 0, 0, 4294967295⟩,
  ⟨4, 0x2200, 1, 0x05, 0x05, 4, .rw, 10000, 5000, 10000⟩,
  ⟨4, 0x2200, 1, 0x06, 0x06, 2, .rw, 64, 8, 1024⟩,
  ⟨4, 0x2200, 1, 0x07, 0x07, 4, .rw, 10000, 2000, 1000000⟩,
  ⟨4, 0x2200, 1, 0x08, 0x08, 1, .rw, 4, 2, 16⟩,
  ⟨4, 0x2200, 1, 0x09, 0x09, 4, .rw, 1000000, 100000, 100000000⟩,
  ⟨4, 0x2200, 1, 0x0A, 0x0A, 1, .rw, 10, 5, 50⟩,
  ⟨4, 0x2200, 1, 0x0B, 0x0B, 2, .rw, 4096, 256, 65535⟩,
  ⟨4, 0x2200, 1, 0x0C, 0x0C, 2, .rw, 1024, 0, 65535⟩,
  ⟨4, 0x2200, 1, 0x0D, 0x0D, 2, .rw, 30, 10, 100⟩,
  ⟨4, 0x2200, 1, 0x0E, 0x0E, 2, .rw, 1434, 1024, 1843⟩,
  ⟨4, 0x2200, 1, 0x0F, 0x0F, 1, .rw, 75, 50, 100⟩,
  ⟨4, 0x2200, 1, 0x10, 0x10, 2, .ro, 256, 0, 65535⟩,
  ⟨4, 0x2200, 1, 0x11, 0x11, 4, .ro, 0, 0, 4294967295⟩,
  ⟨4, 0x2200, 1, 0x12, 0x12, 1, .ro, 0, 0, 255⟩,
  ⟨4, 0x2210, 24, 0x00, 0x00, 1, .ro, 8, 0, 255⟩,
  ⟨4, 0x2210, 24, 0x01, 0x01, 4, .ro, 0, 0, 4294967295⟩,
  ⟨4, 0x2210, 24, 0x02, 0x02, 4, .ro, 0, 0, 4294967295⟩,
  ⟨4, 0x2210, 24, 0x03, 0x03, 4, .ro, 0, 0, 4294967295⟩,
  ⟨4, 0x2210, 24, 0x04, 0x04, 2, .ro, 0, 0, 65535⟩,
  ⟨4, 0x2210, 24, 0x05, 0x05, 4, .ro, 0, 0, 4294967295⟩,
  ⟨4, 0x2210, 24, 0x06, 0x06, 4, .ro, 0, 0, 4294967295⟩,
  ⟨4, 0x2210, 24, 0x07, 0x07, 8, .ro, 0, 0, 18446744073709551615⟩,
  ⟨4, 0x2210, 24, 0x08, 0x08, 2, .ro, 0, 0, 65535⟩]
/-- The tables of range 0x2200. -/
def objRows22 : List ObjRow := objRows22a

def objRows23a : List ObjRow := [
  ⟨4, 0x2300, 1, 0x00, 0x00, 1, .ro, 9, 0, 255⟩,
  ⟨4, 0x2300, 1, 0x01, 0x01, 1, .ro, 0, 0, 255⟩,
  ⟨4, 0x2300, 1, 0x02, 0x02, 4, .rw, 0, 0, 4294967295⟩,
  ⟨4, 0x2300, 1, 0x03, 0x03, 4, .ro, 0, 0, 4294967295⟩,
  ⟨4, 0x2300, 1, 0x04, 0x04, 2, .ro, 0, 0, 65535⟩,
  ⟨4, 0x2300, 1, 0x05, 0x05, 1, .ro, 0, 0, 255⟩,
  ⟨4, 0x2300, 1, 0x06, 0x06, 2, .ro, 0, 0, 65535⟩,
  ⟨4, 0x2300, 1, 0x07, 0x07, 1, .ro, 0, 0, 255⟩,
  ⟨4, 0x2300, 1, 0x08, 0x08, 2, .rw, 60, 20, 200⟩,
  ⟨4, 0x2300, 1, 0x09, 0x09, 1, .wo, 0, 0, 255⟩,
  ⟨4, 0x2310, 32, 0x00, 0x00, 1, .ro, 6, 0, 255⟩,
  ⟨4, 0x2310, 32, 0x01, 0x01, 1, .ro, 0, 0, 255⟩,
  ⟨4, 0x2310, 32, 0x02, 0x02, 2, .ro, 0, 0, 65535⟩,
  ⟨4, 0x2310, 32, 0x03, 0x03, 2, .ro, 0, 0, 65535⟩,
  ⟨4, 0x2310, 32, 0x04, 0x04, 2, .ro, 0, 0, 65535⟩,
  ⟨4, 0x2310, 32, 0x05, 0x05, 4, .ro, 0, 0, 4294967295⟩,
  ⟨4, 0x2310, 32, 0x06, 0x06, 2, .ro, 0, 0, 65535⟩]
/-- The tables of range 0x2300. -/
def objRows23 : List ObjRow := objRows23a

def objRows24a : List ObjRow := [
  ⟨7, 0x2400, 1, 0x00, 0x00, 1, .ro, 8, 0, 255⟩,
  ⟨7, 0x2400, 1, 0x01, 0x01, 1, .ro, 0, 0, 255⟩,
  ⟨7, 0x2400, 1, 0x02, 0x02, 1, .ro, 0, 0, 255⟩,
  ⟨7, 0x2400, 1, 0x03, 0x03, 1, .ro, 0, 0, 255⟩,
  ⟨7, 0x2400, 1, 0x04, 0x04, 1, .ro, 255, 0, 255⟩,
  ⟨7, 0x2400, 1, 0x05, 0x05, 4, .ro, 0, 0, 4294967295⟩,
  ⟨7, 0x2400, 1, 0x06, 0x06, 1, .rw, 1, 0, 1⟩,
  ⟨7, 0x2400, 1, 0x07, 0x07, 4, .ro, 0, 0, 4294967295⟩,
  ⟨7, 0x2400, 1, 0x08, 0x08, 1, .wo, 0, 0, 255⟩,
  ⟨7, 0x2410, 16, 0x00, 0x00, 1, .ro, 9, 0, 255⟩,
  ⟨7, 0x2410, 16, 0x01, 0x01, 4, .ro, 0, 0, 4294967295⟩,
  ⟨7, 0x2410, 16, 0x02, 0x02, 8, .ro, 0, 0, 18446744073709551615⟩,
  ⟨7, 0x2410, 16, 0x03, 0x03, 4, .ro, 0, 0, 4294967295⟩,
  ⟨7, 0x2410, 16, 0x04, 0x04, 2, .w1c, 0, 0, 65535⟩,
  ⟨7, 0x2410, 16, 0x05, 0x05, 2, .ro, 0, 0, 65535⟩,
  ⟨7, 0x2410, 16, 0x06, 0x06, 2, .ro, 0, 0, 65535⟩,
  ⟨7, 0x2410, 16, 0x07, 0x07, 4, .ro, 0, 0, 4294967295⟩,
  ⟨7, 0x2410, 16, 0x08, 0x08, 1, .ro, 0, 0, 255⟩,
  ⟨7, 0x2410, 16, 0x09, 0x09, 8, .ro, 0, 0, 18446744073709551615⟩,
  ⟨7, 0x2440, 16, 0x00, 0x00, 1, .ro, 10, 0, 255⟩,
  ⟨7, 0x2440, 16, 0x01, 0x01, 1, .rw, 0, 0, 7⟩,
  ⟨7, 0x2440, 16, 0x02, 0x02, 0, .wo, 0, 0, 0⟩,
  ⟨7, 0x2440, 16, 0x03, 0x03, 1, .ro, 0, 0, 255⟩,
  ⟨7, 0x2440, 16, 0x04, 0x04, 1, .wo, 0, 0, 255⟩,
  ⟨7, 0x2440, 16, 0x05, 0x05, 1, .ro, 0, 0, 255⟩,
  ⟨7, 0x2440, 16, 0x06, 0x06, 1, .wo, 0, 0, 255⟩,
  ⟨7, 0x2440, 16, 0x07, 0x07, 4, .ro, 0, 0, 4294967295⟩,
  ⟨7, 0x2440, 16, 0x08, 0x08, 2, .ro, 0, 0, 65535⟩,
  ⟨7, 0x2440, 16, 0x09, 0x09, 8, .ro, 0, 0, 18446744073709551615⟩,
  ⟨7, 0x2440, 16, 0x0A, 0x0A, 4, .ro, 0, 0, 4294967295⟩,
  ⟨7, 0x2480, 128, 0x00, 0x00, 1, .ro, 10, 0, 255⟩,
  ⟨7, 0x2480, 128, 0x01, 0x01, 1, .ro, 0, 0, 255⟩,
  ⟨7, 0x2480, 128, 0x02, 0x02, 1, .wo, 0, 0, 255⟩,
  ⟨7, 0x2480, 128, 0x03, 0x03, 1, .rw, 3, 0, 3⟩,
  ⟨7, 0x2480, 128, 0x04, 0x04, 4, .rw, 1000000, 100, 10000000⟩,
  ⟨7, 0x2480, 128, 0x05, 0x05, 4, .rw, 0, 0, 4294967295⟩,
  ⟨7, 0x2480, 128, 0x06, 0x06, 4, .rw, 1000000, 0, 4294967295⟩,
  ⟨7, 0x2480, 128, 0x07, 0x07, 4, .ro, 0, 0, 4294967295⟩,
  ⟨7, 0x2480, 128, 0x08, 0x08, 2, .ro, 0, 0, 65535⟩,
  ⟨7, 0x2480, 128, 0x09, 0x09, 4, .ro, 0, 0, 4294967295⟩]
def objRows24b : List ObjRow := [
  ⟨7, 0x2480, 128, 0x0A, 0x0A, 4, .ro, 0, 0, 4294967295⟩,
  ⟨7, 0x2460, 1, 0x00, 0x00, 1, .ro, 11, 0, 255⟩,
  ⟨7, 0x2460, 1, 0x01, 0x01, 1, .ro, 0, 0, 255⟩,
  ⟨7, 0x2460, 1, 0x02, 0x02, 1, .wo, 0, 0, 255⟩,
  ⟨7, 0x2460, 1, 0x03, 0x03, 4, .rw, 0, 0, 4294967295⟩,
  ⟨7, 0x2460, 1, 0x04, 0x04, 1, .rw, 0, 0, 255⟩,
  ⟨7, 0x2460, 1, 0x05, 0x05, 2, .rw, 0, 0, 65535⟩,
  ⟨7, 0x2460, 1, 0x06, 0x06, 2, .rw, 4096, 0, 65535⟩,
  ⟨7, 0x2460, 1, 0x07, 0x07, 2, .ro, 0, 0, 65535⟩,
  ⟨7, 0x2460, 1, 0x08, 0x08, 2, .ro, 0, 0, 65535⟩,
  ⟨7, 0x2460, 1, 0x09, 0x09, 4, .ro, 0, 0, 4294967295⟩,
  ⟨7, 0x2460, 1, 0x0A, 0x0A, 8, .ro, 0, 0, 18446744073709551615⟩,
  ⟨7, 0x2460, 1, 0x0B, 0x0B, 0, .ro, 0, 0, 0⟩,
  ⟨7, 0x2461, 1, 0x00, 0x00, 1, .rw, 0, 0, 7⟩,
  ⟨7, 0x2461, 1, 0x01, 0x07, 4, .rw, 0, 0, 4294967295⟩]
/-- The tables of range 0x2400. -/
def objRows24 : List ObjRow := objRows24a ++ objRows24b

def objRows25a : List ObjRow := [
  ⟨1, 0x2500, 1, 0x00, 0x00, 1, .ro, 3, 0, 255⟩,
  ⟨1, 0x2500, 1, 0x01, 0x01, 1, .ro, 16, 0, 255⟩,
  ⟨1, 0x2500, 1, 0x02, 0x02, 2, .ro, 0, 0, 65535⟩,
  ⟨1, 0x2500, 1, 0x03, 0x03, 2, .ro, 800, 0, 65535⟩,
  ⟨1, 0x2510, 16, 0x00, 0x00, 1, .ro, 22, 0, 255⟩,
  ⟨1, 0x2510, 16, 0x01, 0x01, 1, .ro, 0, 0, 255⟩,
  ⟨1, 0x2510, 16, 0x02, 0x02, 1, .ro, 0, 0, 255⟩,
  ⟨1, 0x2510, 16, 0x03, 0x03, 2, .rw, 2000, 1000, 4000⟩,
  ⟨1, 0x2510, 16, 0x04, 0x04, 2, .rw, 120, 60, 500⟩,
  ⟨1, 0x2510, 16, 0x05, 0x05, 2, .rw, 0, 2, 50⟩,
  ⟨1, 0x2510, 16, 0x06, 0x06, 2, .rw, 15, 10, 100⟩,
  ⟨1, 0x2510, 16, 0x07, 0x07, 4, .rw, 60000, 30000, 60000⟩,
  ⟨1, 0x2510, 16, 0x08, 0x08, 4, .rw, 500, 0, 5000⟩,
  ⟨1, 0x2510, 16, 0x09, 0x09, 2, .rw, 1800, 100, 10000⟩,
  ⟨1, 0x2510, 16, 0x0A, 0x0A, 4, .rw, 5000000, 1000000, 50000000⟩,
  ⟨1, 0x2510, 16, 0x0B, 0x0B, 2, .rw, 256, 16, 4096⟩,
  ⟨1, 0x2510, 16, 0x0C, 0x0C, 1, .rw, 20, 5, 50⟩,
  ⟨1, 0x2510, 16, 0x0D, 0x0D, 2, .rw, 64, 16, 1024⟩,
  ⟨1, 0x2510, 16, 0x0E, 0x0E, 4, .rw, 4000, 1000, 20000⟩,
  ⟨1, 0x2510, 16, 0x0F, 0x0F, 4, .rw, 2000, 500, 10000⟩,
  ⟨1, 0x2510, 16, 0x10, 0x10, 1, .rw, 8, 2, 100⟩,
  ⟨1, 0x2510, 16, 0x11, 0x11, 4, .rw, 2000000, 100000, 100000000⟩,
  ⟨1, 0x2510, 16, 0x12, 0x12, 1, .rw, 3, 1, 16⟩,
  ⟨1, 0x2510, 16, 0x13, 0x13, 4, .rw, 1000000000, 10000000, 4000000000⟩,
  ⟨1, 0x2510, 16, 0x14, 0x14, 2, .rw, 40, 20, 150⟩,
  ⟨1, 0x2510, 16, 0x15, 0x15, 2, .rw, 15, 5, 100⟩,
  ⟨1, 0x2510, 16, 0x16, 0x16, 2, .wo, 0, 0, 65535⟩,
  ⟨1, 0x2520, 16, 0x00, 0x00, 1, .ro, 18, 0, 255⟩,
  ⟨1, 0x2520, 16, 0x01, 0x01, 1, .ro, 0, 0, 255⟩,
  ⟨1, 0x2520, 16, 0x02, 0x02, 2, .ro, 0, 0, 65535⟩,
  ⟨1, 0x2520, 16, 0x03, 0x03, 2, .ro, 0, 0, 65535⟩,
  ⟨1, 0x2520, 16, 0x04, 0x04, 2, .ro, 0, 0, 65535⟩,
  ⟨1, 0x2520, 16, 0x05, 0x05, 4, .ro, 0, 0, 4294967295⟩,
  ⟨1, 0x2520, 16, 0x06, 0x06, 2, .ro, 0, 0, 65535⟩,
  ⟨1, 0x2520, 16, 0x07, 0x07, 1, .ro, 0, 0, 255⟩,
  ⟨1, 0x2520, 16, 0x08, 0x08, 1, .ro, 0, 0, 255⟩,
  ⟨1, 0x2520, 16, 0x09, 0x09, 1, .ro, 0, 0, 255⟩,
  ⟨1, 0x2520, 16, 0x0A, 0x0A, 4, .ro, 0, 0, 4294967295⟩,
  ⟨1, 0x2520, 16, 0x0B, 0x0B, 2, .ro, 0, 0, 65535⟩,
  ⟨1, 0x2520, 16, 0x0C, 0x0C, 2, .ro, 0, 0, 65535⟩]
def objRows25b : List ObjRow := [
  ⟨1, 0x2520, 16, 0x0D, 0x0D, 2, .ro, 0, 0, 65535⟩,
  ⟨1, 0x2520, 16, 0x0E, 0x0E, 1, .ro, 0, 0, 255⟩,
  ⟨1, 0x2520, 16, 0x0F, 0x0F, 4, .ro, 0, 0, 4294967295⟩,
  ⟨1, 0x2520, 16, 0x10, 0x10, 4, .ro, 0, 0, 4294967295⟩,
  ⟨1, 0x2520, 16, 0x11, 0x11, 4, .ro, 0, 0, 4294967295⟩,
  ⟨1, 0x2520, 16, 0x12, 0x12, 4, .ro, 0, 0, 4294967295⟩,
  ⟨1, 0x2580, 16, 0x00, 0x00, 1, .ro, 0, 0, 255⟩,
  ⟨1, 0x2580, 16, 0x01, 0x20, 4, .ro, 0, 0, 4294967295⟩,
  ⟨1, 0x25A0, 16, 0x00, 0x00, 1, .ro, 0, 0, 255⟩,
  ⟨1, 0x25A0, 16, 0x01, 0x20, 4, .ro, 0, 0, 4294967295⟩]
/-- The tables of range 0x2500. -/
def objRows25 : List ObjRow := objRows25a ++ objRows25b

def objRows26a : List ObjRow := [
  ⟨1, 0x2600, 1, 0x00, 0x00, 1, .ro, 7, 0, 255⟩,
  ⟨1, 0x2600, 1, 0x01, 0x01, 1, .rw, 0, 0, 1⟩,
  ⟨1, 0x2600, 1, 0x02, 0x02, 1, .rw, 0, 0, 1⟩,
  ⟨1, 0x2600, 1, 0x03, 0x03, 1, .rw, 1, 0, 1⟩,
  ⟨1, 0x2600, 1, 0x04, 0x04, 4, .rw, 10000000, 2000000, 1000000000⟩,
  ⟨1, 0x2600, 1, 0x05, 0x05, 1, .ro, 0, 0, 255⟩,
  ⟨1, 0x2600, 1, 0x06, 0x06, 1, .ro, 0, 0, 255⟩,
  ⟨1, 0x2600, 1, 0x07, 0x07, 4, .ro, 0, 0, 4294967295⟩,
  ⟨1, 0x2610, 16, 0x00, 0x00, 1, .ro, 18, 0, 255⟩,
  ⟨1, 0x2610, 16, 0x01, 0x01, 1, .rw, 0, 8, 119⟩,
  ⟨1, 0x2610, 16, 0x02, 0x02, 1, .ro, 0, 0, 255⟩,
  ⟨1, 0x2610, 16, 0x03, 0x03, 1, .wo, 0, 0, 255⟩,
  ⟨1, 0x2610, 16, 0x04, 0x04, 4, .rw, 20000000, 5000000, 200000000⟩,
  ⟨1, 0x2610, 16, 0x05, 0x05, 2, .ro, 0, 0, 65535⟩,
  ⟨1, 0x2610, 16, 0x06, 0x06, 4, .ro, 0, 0, 4294967295⟩,
  ⟨1, 0x2610, 16, 0x07, 0x07, 2, .ro, 0, 0, 65535⟩,
  ⟨1, 0x2610, 16, 0x08, 0x08, 4, .ro, 0, 0, 4294967295⟩,
  ⟨1, 0x2610, 16, 0x09, 0x09, 2, .ro, 0, 0, 65535⟩,
  ⟨1, 0x2610, 16, 0x0A, 0x0A, 4, .ro, 0, 0, 4294967295⟩,
  ⟨1, 0x2610, 16, 0x0B, 0x0B, 4, .ro, 0, 0, 4294967295⟩,
  ⟨1, 0x2610, 16, 0x0C, 0x0C, 2, .ro, 0, 0, 65535⟩,
  ⟨1, 0x2610, 16, 0x0D, 0x0D, 2, .ro, 0, 0, 65535⟩,
  ⟨1, 0x2610, 16, 0x0E, 0x0E, 4, .ro, 0, 0, 4294967295⟩,
  ⟨1, 0x2610, 16, 0x0F, 0x0F, 8, .ro, 0, 0, 18446744073709551615⟩,
  ⟨1, 0x2610, 16, 0x10, 0x10, 0, .ro, 0, 0, 0⟩,
  ⟨1, 0x2610, 16, 0x11, 0x11, 0, .ro, 0, 0, 0⟩,
  ⟨1, 0x2610, 16, 0x12, 0x12, 1, .ro, 0, 0, 255⟩,
  ⟨1, 0x2620, 1, 0x00, 0x00, 1, .ro, 3, 0, 255⟩,
  ⟨1, 0x2620, 1, 0x01, 0x01, 0, .wo, 0, 0, 0⟩,
  ⟨1, 0x2620, 1, 0x02, 0x02, 1, .ro, 0, 0, 255⟩,
  ⟨1, 0x2620, 1, 0x03, 0x03, 0, .ro, 0, 0, 0⟩]
/-- The tables of range 0x2600. -/
def objRows26 : List ObjRow := objRows26a

def objRows27a : List ObjRow := [
  ⟨2, 0x2700, 1, 0x00, 0x00, 1, .ro, 2, 0, 255⟩,
  ⟨2, 0x2700, 1, 0x01, 0x01, 1, .ro, 5, 0, 255⟩,
  ⟨2, 0x2700, 1, 0x02, 0x02, 0, .ro, 0, 0, 0⟩,
  ⟨2, 0x2710, 5, 0x00, 0x00, 1, .ro, 21, 0, 255⟩,
  ⟨2, 0x2710, 5, 0x01, 0x01, 1, .ro, 0, 0, 255⟩,
  ⟨2, 0x2710, 5, 0x02, 0x02, 1, .rw, 1, 0, 1⟩,
  ⟨2, 0x2710, 5, 0x03, 0x03, 1, .ro, 1, 0, 255⟩,
  ⟨2, 0x2710, 5, 0x04, 0x04, 8, .ro, 0, 0, 18446744073709551615⟩,
  ⟨2, 0x2710, 5, 0x05, 0x05, 4, .rw, 1000, 250, 10000000⟩,
  ⟨2, 0x2710, 5, 0x06, 0x06, 4, .rw, 0, 0, 4294967295⟩,
  ⟨2, 0x2710, 5, 0x07, 0x07, 4, .rw, 10000, 250, 10000000⟩,
  ⟨2, 0x2710, 5, 0x08, 0x08, 4, .rw, 0, 0, 4294967295⟩,
  ⟨2, 0x2710, 5, 0x09, 0x09, 4, .wo, 0, 0, 4294967295⟩,
  ⟨2, 0x2710, 5, 0x0A, 0x0A, 4, .rw, 1000000, 0, 4294967295⟩,
  ⟨2, 0x2710, 5, 0x0B, 0x0B, 1, .ro, 31, 0, 255⟩,
  ⟨2, 0x2710, 5, 0x0C, 0x0C, 1, .ro, 4, 0, 255⟩,
  ⟨2, 0x2710, 5, 0x0D, 0x0D, 8, .ro, 0, 0, 18446744073709551615⟩,
  ⟨2, 0x2710, 5, 0x0E, 0x0E, 4, .ro, 0, 0, 4294967295⟩,
  ⟨2, 0x2710, 5, 0x0F, 0x0F, 4, .ro, 0, 0, 4294967295⟩,
  ⟨2, 0x2710, 5, 0x10, 0x10, 4, .ro, 0, 0, 4294967295⟩,
  ⟨2, 0x2710, 5, 0x11, 0x11, 4, .ro, 0, 0, 4294967295⟩,
  ⟨2, 0x2710, 5, 0x12, 0x12, 4, .ro, 0, 0, 4294967295⟩,
  ⟨2, 0x2710, 5, 0x13, 0x13, 1, .ro, 0, 0, 255⟩,
  ⟨2, 0x2710, 5, 0x14, 0x14, 2, .ro, 0, 0, 65535⟩,
  ⟨2, 0x2710, 5, 0x15, 0x15, 2, .ro, 0, 0, 65535⟩,
  ⟨2, 0x2720, 5, 0x00, 0x00, 1, .ro, 24, 0, 255⟩,
  ⟨2, 0x2720, 5, 0x01, 0x18, 4, .rw, 0, 0, 4294967295⟩,
  ⟨2, 0x2730, 5, 0x00, 0x00, 1, .ro, 32, 0, 255⟩,
  ⟨2, 0x2730, 5, 0x01, 0x20, 1, .rw, 0, 0, 255⟩,
  ⟨2, 0x2740, 5, 0x00, 0x00, 1, .ro, 32, 0, 255⟩,
  ⟨2, 0x2740, 5, 0x01, 0x20, 4, .ro, 0, 0, 4294967295⟩,
  ⟨2, 0x2750, 5, 0x00, 0x00, 1, .ro, 32, 0, 255⟩,
  ⟨2, 0x2750, 5, 0x01, 0x20, 8, .ro, 0, 0, 18446744073709551615⟩,
  ⟨2, 0x2760, 5, 0x00, 0x00, 1, .ro, 13, 0, 255⟩,
  ⟨2, 0x2760, 5, 0x01, 0x04, 4, .rw, 0, 0, 4294967295⟩,
  ⟨2, 0x2760, 5, 0x05, 0x08, 4, .ro, 0, 0, 4294967295⟩,
  ⟨2, 0x2760, 5, 0x09, 0x09, 2, .rw, 8, 0, 255⟩,
  ⟨2, 0x2760, 5, 0x0A, 0x0D, 8, .ro, 0, 0, 18446744073709551615⟩]
/-- The tables of range 0x2700. -/
def objRows27 : List ObjRow := objRows27a

def objRows28a : List ObjRow := [
  ⟨2, 0x2801, 1, 0x00, 0x00, 1, .ro, 11, 0, 255⟩,
  ⟨2, 0x2801, 1, 0x01, 0x01, 2, .ro, 0, 0, 65535⟩,
  ⟨2, 0x2801, 1, 0x02, 0x02, 2, .ro, 0, 0, 65535⟩,
  ⟨2, 0x2801, 1, 0x03, 0x03, 2, .ro, 0, 0, 65535⟩,
  ⟨2, 0x2801, 1, 0x04, 0x04, 2, .ro, 0, 0, 65535⟩,
  ⟨2, 0x2801, 1, 0x05, 0x05, 2, .ro, 0, 0, 65535⟩,
  ⟨2, 0x2801, 1, 0x06, 0x06, 2, .ro, 32768, 0, 65535⟩,
  ⟨2, 0x2801, 1, 0x07, 0x07, 2, .ro, 0, 0, 65535⟩,
  ⟨2, 0x2801, 1, 0x08, 0x08, 2, .ro, 0, 0, 65535⟩,
  ⟨2, 0x2801, 1, 0x09, 0x09, 2, .ro, 0, 0, 65535⟩,
  ⟨2, 0x2801, 1, 0x0A, 0x0A, 2, .ro, 0, 0, 65535⟩,
  ⟨2, 0x2801, 1, 0x0B, 0x0B, 1, .wo, 0, 0, 255⟩,
  ⟨1, 0x2810, 1, 0x00, 0x00, 1, .ro, 3, 0, 255⟩,
  ⟨1, 0x2810, 1, 0x01, 0x01, 0, .ro, 0, 0, 0⟩,
  ⟨1, 0x2810, 1, 0x02, 0x02, 0, .ro, 0, 0, 0⟩,
  ⟨1, 0x2810, 1, 0x03, 0x03, 0, .ro, 0, 0, 0⟩,
  ⟨15, 0x2800, 1, 0x00, 0x00, 1, .ro, 25, 0, 255⟩,
  ⟨15, 0x2800, 1, 0x01, 0x01, 2, .ro, 0, 0, 65535⟩,
  ⟨15, 0x2800, 1, 0x02, 0x02, 2, .ro, 0, 0, 65535⟩,
  ⟨15, 0x2800, 1, 0x03, 0x03, 4, .ro, 0, 0, 4294967295⟩,
  ⟨15, 0x2800, 1, 0x04, 0x04, 4, .ro, 0, 0, 4294967295⟩,
  ⟨15, 0x2800, 1, 0x05, 0x05, 4, .ro, 0, 0, 4294967295⟩,
  ⟨15, 0x2800, 1, 0x06, 0x06, 4, .ro, 0, 0, 4294967295⟩,
  ⟨15, 0x2800, 1, 0x07, 0x07, 2, .ro, 0, 0, 65535⟩,
  ⟨15, 0x2800, 1, 0x08, 0x08, 2, .ro, 0, 0, 65535⟩,
  ⟨15, 0x2800, 1, 0x09, 0x09, 4, .ro, 0, 0, 4294967295⟩,
  ⟨15, 0x2800, 1, 0x0A, 0x0A, 4, .ro, 0, 0, 4294967295⟩,
  ⟨15, 0x2800, 1, 0x0B, 0x0B, 4, .ro, 0, 0, 4294967295⟩,
  ⟨15, 0x2800, 1, 0x0C, 0x0C, 4, .ro, 0, 0, 4294967295⟩,
  ⟨15, 0x2800, 1, 0x0D, 0x0D, 2, .ro, 0, 0, 65535⟩,
  ⟨15, 0x2800, 1, 0x0E, 0x0E, 2, .ro, 0, 0, 65535⟩,
  ⟨15, 0x2800, 1, 0x0F, 0x0F, 4, .ro, 0, 0, 4294967295⟩,
  ⟨15, 0x2800, 1, 0x10, 0x10, 4, .ro, 0, 0, 4294967295⟩,
  ⟨15, 0x2800, 1, 0x11, 0x11, 4, .ro, 0, 0, 4294967295⟩,
  ⟨15, 0x2800, 1, 0x12, 0x12, 4, .ro, 0, 0, 4294967295⟩,
  ⟨15, 0x2800, 1, 0x13, 0x13, 2, .ro, 65535, 0, 65535⟩,
  ⟨15, 0x2800, 1, 0x14, 0x14, 4, .ro, 0, 0, 4294967295⟩,
  ⟨15, 0x2800, 1, 0x15, 0x15, 4, .ro, 0, 0, 4294967295⟩,
  ⟨15, 0x2800, 1, 0x16, 0x16, 1, .wo, 0, 0, 255⟩,
  ⟨15, 0x2800, 1, 0x17, 0x17, 8, .ro, 0, 0, 18446744073709551615⟩]
def objRows28b : List ObjRow := [
  ⟨15, 0x2800, 1, 0x18, 0x18, 8, .ro, 0, 0, 18446744073709551615⟩,
  ⟨15, 0x2800, 1, 0x19, 0x19, 1, .ro, 7, 0, 255⟩,
  ⟨1, 0x2840, 64, 0x00, 0x00, 1, .ro, 25, 0, 255⟩,
  ⟨1, 0x2840, 64, 0x01, 0x01, 2, .ro, 0, 0, 65535⟩,
  ⟨1, 0x2840, 64, 0x02, 0x02, 2, .ro, 0, 0, 65535⟩,
  ⟨1, 0x2840, 64, 0x03, 0x03, 4, .ro, 0, 0, 4294967295⟩,
  ⟨1, 0x2840, 64, 0x04, 0x04, 4, .ro, 0, 0, 4294967295⟩,
  ⟨1, 0x2840, 64, 0x05, 0x05, 4, .ro, 0, 0, 4294967295⟩,
  ⟨1, 0x2840, 64, 0x06, 0x06, 4, .ro, 0, 0, 4294967295⟩,
  ⟨1, 0x2840, 64, 0x07, 0x07, 2, .ro, 0, 0, 65535⟩,
  ⟨1, 0x2840, 64, 0x08, 0x08, 2, .ro, 0, 0, 65535⟩,
  ⟨1, 0x2840, 64, 0x09, 0x09, 4, .ro, 0, 0, 4294967295⟩,
  ⟨1, 0x2840, 64, 0x0A, 0x0A, 4, .ro, 0, 0, 4294967295⟩,
  ⟨1, 0x2840, 64, 0x0B, 0x0B, 4, .ro, 0, 0, 4294967295⟩,
  ⟨1, 0x2840, 64, 0x0C, 0x0C, 4, .ro, 0, 0, 4294967295⟩,
  ⟨1, 0x2840, 64, 0x0D, 0x0D, 2, .ro, 0, 0, 65535⟩,
  ⟨1, 0x2840, 64, 0x0E, 0x0E, 2, .ro, 0, 0, 65535⟩,
  ⟨1, 0x2840, 64, 0x0F, 0x0F, 4, .ro, 0, 0, 4294967295⟩,
  ⟨1, 0x2840, 64, 0x10, 0x10, 4, .ro, 0, 0, 4294967295⟩,
  ⟨1, 0x2840, 64, 0x11, 0x11, 4, .ro, 0, 0, 4294967295⟩,
  ⟨1, 0x2840, 64, 0x12, 0x12, 4, .ro, 0, 0, 4294967295⟩,
  ⟨1, 0x2840, 64, 0x13, 0x13, 2, .ro, 65535, 0, 65535⟩,
  ⟨1, 0x2840, 64, 0x14, 0x14, 4, .ro, 0, 0, 4294967295⟩,
  ⟨1, 0x2840, 64, 0x15, 0x15, 4, .ro, 0, 0, 4294967295⟩,
  ⟨1, 0x2840, 64, 0x16, 0x16, 1, .wo, 0, 0, 255⟩,
  ⟨1, 0x2840, 64, 0x17, 0x17, 8, .ro, 0, 0, 18446744073709551615⟩,
  ⟨1, 0x2840, 64, 0x18, 0x18, 8, .ro, 0, 0, 18446744073709551615⟩,
  ⟨1, 0x2840, 64, 0x19, 0x19, 1, .ro, 7, 0, 255⟩,
  ⟨1, 0x2880, 16, 0x00, 0x00, 1, .ro, 25, 0, 255⟩,
  ⟨1, 0x2880, 16, 0x01, 0x01, 2, .ro, 0, 0, 65535⟩,
  ⟨1, 0x2880, 16, 0x02, 0x02, 2, .ro, 0, 0, 65535⟩,
  ⟨1, 0x2880, 16, 0x03, 0x03, 4, .ro, 0, 0, 4294967295⟩,
  ⟨1, 0x2880, 16, 0x04, 0x04, 4, .ro, 0, 0, 4294967295⟩,
  ⟨1, 0x2880, 16, 0x05, 0x05, 4, .ro, 0, 0, 4294967295⟩,
  ⟨1, 0x2880, 16, 0x06, 0x06, 4, .ro, 0, 0, 4294967295⟩,
  ⟨1, 0x2880, 16, 0x07, 0x07, 2, .ro, 0, 0, 65535⟩,
  ⟨1, 0x2880, 16, 0x08, 0x08, 2, .ro, 0, 0, 65535⟩,
  ⟨1, 0x2880, 16, 0x09, 0x09, 4, .ro, 0, 0, 4294967295⟩,
  ⟨1, 0x2880, 16, 0x0A, 0x0A, 4, .ro, 0, 0, 4294967295⟩,
  ⟨1, 0x2880, 16, 0x0B, 0x0B, 4, .ro, 0, 0, 4294967295⟩]
def objRows28c : List ObjRow := [
  ⟨1, 0x2880, 16, 0x0C, 0x0C, 4, .ro, 0, 0, 4294967295⟩,
  ⟨1, 0x2880, 16, 0x0D, 0x0D, 2, .ro, 0, 0, 65535⟩,
  ⟨1, 0x2880, 16, 0x0E, 0x0E, 2, .ro, 0, 0, 65535⟩,
  ⟨1, 0x2880, 16, 0x0F, 0x0F, 4, .ro, 0, 0, 4294967295⟩,
  ⟨1, 0x2880, 16, 0x10, 0x10, 4, .ro, 0, 0, 4294967295⟩,
  ⟨1, 0x2880, 16, 0x11, 0x11, 4, .ro, 0, 0, 4294967295⟩,
  ⟨1, 0x2880, 16, 0x12, 0x12, 4, .ro, 0, 0, 4294967295⟩,
  ⟨1, 0x2880, 16, 0x13, 0x13, 2, .ro, 65535, 0, 65535⟩,
  ⟨1, 0x2880, 16, 0x14, 0x14, 4, .ro, 0, 0, 4294967295⟩,
  ⟨1, 0x2880, 16, 0x15, 0x15, 4, .ro, 0, 0, 4294967295⟩,
  ⟨1, 0x2880, 16, 0x16, 0x16, 1, .wo, 0, 0, 255⟩,
  ⟨1, 0x2880, 16, 0x17, 0x17, 8, .ro, 0, 0, 18446744073709551615⟩,
  ⟨1, 0x2880, 16, 0x18, 0x18, 8, .ro, 0, 0, 18446744073709551615⟩,
  ⟨1, 0x2880, 16, 0x19, 0x19, 1, .ro, 7, 0, 255⟩]
/-- The tables of range 0x2800. -/
def objRows28 : List ObjRow := objRows28a ++ objRows28b ++ objRows28c

def objRows29a : List ObjRow := [
  ⟨2, 0x2900, 1, 0x00, 0x00, 1, .ro, 12, 0, 255⟩,
  ⟨2, 0x2900, 1, 0x01, 0x01, 1, .rw, 15, 5, 50⟩,
  ⟨2, 0x2900, 1, 0x02, 0x02, 4, .rw, 5000, 1000, 50000⟩,
  ⟨2, 0x2900, 1, 0x03, 0x03, 2, .rw, 10, 2, 1000⟩,
  ⟨2, 0x2900, 1, 0x04, 0x04, 2, .rw, 100, 10, 10000⟩,
  ⟨2, 0x2900, 1, 0x05, 0x05, 2, .rw, 100, 10, 10000⟩,
  ⟨2, 0x2900, 1, 0x06, 0x06, 2, .rw, 1100, 1000, 1500⟩,
  ⟨2, 0x2900, 1, 0x07, 0x07, 1, .rw, 1, 0, 1⟩,
  ⟨2, 0x2900, 1, 0x08, 0x08, 4, .rw, 100000, 10000, 1000000⟩,
  ⟨2, 0x2900, 1, 0x09, 0x09, 2, .ro, 0, 0, 65535⟩,
  ⟨2, 0x2900, 1, 0x0A, 0x0A, 4, .wo, 0, 0, 4294967295⟩,
  ⟨2, 0x2900, 1, 0x0B, 0x0B, 8, .ro, 0, 0, 18446744073709551615⟩,
  ⟨2, 0x2900, 1, 0x0C, 0x0C, 4, .ro, 0, 0, 4294967295⟩,
  ⟨2, 0x2904, 4, 0x00, 0x00, 0, .rw, 0, 0, 0⟩,
  ⟨2, 0x2910, 16, 0x00, 0x00, 1, .ro, 16, 0, 255⟩,
  ⟨2, 0x2910, 16, 0x01, 0x01, 1, .ro, 4, 0, 255⟩,
  ⟨2, 0x2910, 16, 0x02, 0x02, 4, .ro, 0, 0, 4294967295⟩,
  ⟨2, 0x2910, 16, 0x03, 0x03, 4, .ro, 0, 0, 4294967295⟩,
  ⟨2, 0x2910, 16, 0x04, 0x04, 4, .ro, 0, 0, 4294967295⟩,
  ⟨2, 0x2910, 16, 0x05, 0x05, 4, .ro, 500, 0, 4294967295⟩,
  ⟨2, 0x2910, 16, 0x06, 0x06, 4, .ro, 0, 0, 4294967295⟩,
  ⟨2, 0x2910, 16, 0x07, 0x07, 4, .ro, 0, 0, 4294967295⟩,
  ⟨2, 0x2910, 16, 0x08, 0x08, 2, .ro, 0, 0, 65535⟩,
  ⟨2, 0x2910, 16, 0x09, 0x09, 4, .ro, 0, 0, 4294967295⟩,
  ⟨2, 0x2910, 16, 0x0A, 0x0A, 8, .ro, 0, 0, 18446744073709551615⟩,
  ⟨2, 0x2910, 16, 0x0B, 0x0B, 8, .ro, 0, 0, 18446744073709551615⟩,
  ⟨2, 0x2910, 16, 0x0C, 0x0C, 8, .ro, 0, 0, 18446744073709551615⟩,
  ⟨2, 0x2910, 16, 0x0D, 0x0D, 0, .ro, 0, 0, 0⟩,
  ⟨2, 0x2910, 16, 0x0E, 0x0E, 8, .ro, 0, 0, 18446744073709551615⟩,
  ⟨2, 0x2910, 16, 0x0F, 0x0F, 8, .ro, 0, 0, 18446744073709551615⟩,
  ⟨2, 0x2910, 16, 0x10, 0x10, 0, .ro, 0, 0, 0⟩]
/-- The tables of range 0x2900. -/
def objRows29 : List ObjRow := objRows29a

def objRows2Aa : List ObjRow := [
  ⟨1, 0x2A00, 1, 0x00, 0x00, 1, .ro, 8, 0, 255⟩,
  ⟨1, 0x2A00, 1, 0x01, 0x01, 2, .ro, 0, 0, 65535⟩,
  ⟨1, 0x2A00, 1, 0x02, 0x02, 2, .ro, 0, 0, 65535⟩,
  ⟨1, 0x2A00, 1, 0x03, 0x03, 4, .ro, 0, 0, 4294967295⟩,
  ⟨1, 0x2A00, 1, 0x04, 0x04, 4, .ro, 0, 0, 4294967295⟩,
  ⟨1, 0x2A00, 1, 0x05, 0x05, 8, .ro, 0, 0, 18446744073709551615⟩,
  ⟨1, 0x2A00, 1, 0x06, 0x06, 8, .ro, 0, 0, 18446744073709551615⟩,
  ⟨1, 0x2A00, 1, 0x07, 0x07, 8, .ro, 0, 0, 18446744073709551615⟩,
  ⟨1, 0x2A00, 1, 0x08, 0x08, 4, .ro, 0, 0, 4294967295⟩,
  ⟨1, 0x2A10, 1, 0x00, 0x00, 1, .ro, 5, 0, 255⟩,
  ⟨1, 0x2A10, 1, 0x01, 0x01, 8, .wo, 0, 0, 18446744073709551615⟩,
  ⟨1, 0x2A10, 1, 0x02, 0x02, 8, .wo, 0, 0, 18446744073709551615⟩,
  ⟨1, 0x2A10, 1, 0x03, 0x03, 2, .wo, 0, 0, 65535⟩,
  ⟨1, 0x2A10, 1, 0x04, 0x04, 8, .wo, 0, 0, 18446744073709551615⟩,
  ⟨1, 0x2A10, 1, 0x05, 0x05, 4, .ro, 0, 0, 4294967295⟩,
  ⟨1, 0x2A20, 1, 0x00, 0x00, 1, .ro, 3, 0, 255⟩,
  ⟨1, 0x2A20, 1, 0x01, 0x01, 2, .ro, 0, 0, 65535⟩,
  ⟨1, 0x2A20, 1, 0x02, 0x02, 0, .ro, 0, 0, 0⟩,
  ⟨1, 0x2A20, 1, 0x03, 0x03, 2, .wo, 0, 0, 65535⟩,
  ⟨1, 0x2A40, 8, 0x00, 0x00, 1, .ro, 128, 0, 255⟩,
  ⟨1, 0x2A40, 8, 0x01, 0x80, 0, .rw, 0, 0, 0⟩,
  ⟨1, 0x2A80, 32, 0x00, 0x00, 1, .ro, 128, 0, 255⟩,
  ⟨1, 0x2A80, 32, 0x01, 0x80, 0, .ro, 0, 0, 0⟩]
/-- The tables of range 0x2A00. -/
def objRows2A : List ObjRow := objRows2Aa

def objRows2Ba : List ObjRow := [
  ⟨1, 0x2B00, 1, 0x00, 0x00, 1, .ro, 28, 0, 255⟩,
  ⟨1, 0x2B00, 1, 0x01, 0x01, 4, .rw, 11000000, 1000000, 20000000⟩,
  ⟨1, 0x2B00, 1, 0x02, 0x02, 2, .rw, 4000, 1000, 16000⟩,
  ⟨1, 0x2B00, 1, 0x03, 0x03, 2, .rw, 1000, 0, 2000⟩,
  ⟨1, 0x2B00, 1, 0x04, 0x04, 4, .ro, 11000000, 0, 4294967295⟩,
  ⟨1, 0x2B00, 1, 0x05, 0x05, 4, .ro, 0, 0, 4294967295⟩,
  ⟨1, 0x2B00, 1, 0x06, 0x06, 4, .rw, 11000000, 0, 20000000⟩,
  ⟨1, 0x2B00, 1, 0x07, 0x07, 4, .rw, 10000000, 0, 4294967295⟩,
  ⟨1, 0x2B00, 1, 0x08, 0x08, 4, .rw, 14000000, 0, 4294967295⟩,
  ⟨1, 0x2B00, 1, 0x09, 0x09, 4, .rw, 100000, 0, 100000⟩,
  ⟨1, 0x2B00, 1, 0x0A, 0x0A, 4, .ro, 100000, 0, 4294967295⟩,
  ⟨1, 0x2B00, 1, 0x0B, 0x0B, 2, .rw, 8, 1, 256⟩,
  ⟨1, 0x2B00, 1, 0x0C, 0x0C, 2, .rw, 8, 1, 256⟩,
  ⟨1, 0x2B00, 1, 0x0D, 0x0D, 2, .rw, 500, 50, 1000⟩,
  ⟨1, 0x2B00, 1, 0x0E, 0x0E, 2, .rw, 256, 0, 256⟩,
  ⟨1, 0x2B00, 1, 0x0F, 0x0F, 2, .rw, 920, 800, 990⟩,
  ⟨1, 0x2B00, 1, 0x10, 0x10, 2, .rw, 4096, 1, 65535⟩,
  ⟨1, 0x2B00, 1, 0x11, 0x11, 2, .rw, 6400, 0, 65535⟩,
  ⟨1, 0x2B00, 1, 0x12, 0x12, 1, .rw, 4, 1, 32⟩,
  ⟨1, 0x2B00, 1, 0x13, 0x13, 4, .rw, 10000000, 1000000, 4000000000⟩,
  ⟨1, 0x2B00, 1, 0x14, 0x14, 4, .rw, 2000000, 0, 100000000⟩,
  ⟨1, 0x2B00, 1, 0x15, 0x15, 1, .rw, 1, 0, 1⟩,
  ⟨1, 0x2B00, 1, 0x16, 0x16, 1, .rw, 1, 0, 1⟩,
  ⟨1, 0x2B00, 1, 0x17, 0x17, 4, .rw, 10000, 1000, 100000⟩,
  ⟨1, 0x2B00, 1, 0x18, 0x18, 4, .rw, 5000, 0, 255000⟩,
  ⟨1, 0x2B00, 1, 0x19, 0x19, 2, .rw, 25, 0, 50⟩,
  ⟨1, 0x2B00, 1, 0x1A, 0x1A, 4, .rw, 100000, 0, 1000000⟩,
  ⟨1, 0x2B00, 1, 0x1B, 0x1B, 4, .ro, 0, 0, 4294967295⟩,
  ⟨1, 0x2B00, 1, 0x1C, 0x1C, 2, .ro, 256, 0, 65535⟩,
  ⟨1, 0x2B10, 1, 0x00, 0x00, 1, .ro, 4, 0, 255⟩,
  ⟨1, 0x2B10, 1, 0x01, 0x01, 0, .wo, 0, 0, 0⟩,
  ⟨1, 0x2B10, 1, 0x02, 0x02, 2, .wo, 0, 0, 65535⟩,
  ⟨1, 0x2B10, 1, 0x03, 0x03, 4, .ro, 0, 0, 4294967295⟩,
  ⟨1, 0x2B10, 1, 0x04, 0x04, 2, .ro, 0, 0, 65535⟩,
  ⟨1, 0x2B20, 8, 0x00, 0x00, 1, .ro, 128, 0, 255⟩,
  ⟨1, 0x2B20, 8, 0x01, 0x80, 0, .ro, 0, 0, 0⟩,
  ⟨1, 0x2B28, 8, 0x00, 0x00, 1, .ro, 128, 0, 255⟩,
  ⟨1, 0x2B28, 8, 0x01, 0x80, 2, .rw, 256, 0, 256⟩,
  ⟨1, 0x2B30, 8, 0x00, 0x00, 1, .ro, 128, 0, 255⟩,
  ⟨1, 0x2B30, 8, 0x01, 0x80, 0, .ro, 0, 0, 0⟩,
  ⟨1, 0x2B40, 1, 0x00, 0x00, 1, .ro, 7, 0, 255⟩,
  ⟨1, 0x2B40, 1, 0x01, 0x01, 2, .ro, 0, 0, 65535⟩,
  ⟨1, 0x2B40, 1, 0x02, 0x02, 8, .ro, 0, 0, 18446744073709551615⟩]
def objRows2Bb : List ObjRow := [
  ⟨1, 0x2B40, 1, 0x03, 0x03, 8, .ro, 0, 0, 18446744073709551615⟩,
  ⟨1, 0x2B40, 1, 0x04, 0x04, 8, .ro, 0, 0, 18446744073709551615⟩,
  ⟨1, 0x2B40, 1, 0x05, 0x05, 1, .wo, 0, 0, 255⟩,
  ⟨1, 0x2B40, 1, 0x06, 0x06, 2, .rw, 0, 0, 2047⟩,
  ⟨1, 0x2B40, 1, 0x07, 0x07, 0, .ro, 0, 0, 0⟩,
  ⟨2, 0x2B80, 1, 0x00, 0x00, 1, .ro, 18, 0, 255⟩,
  ⟨2, 0x2B80, 1, 0x01, 0x01, 4, .ro, 0, 0, 4294967295⟩,
  ⟨2, 0x2B80, 1, 0x02, 0x02, 4, .ro, 0, 0, 4294967295⟩,
  ⟨2, 0x2B80, 1, 0x03, 0x03, 4, .ro, 0, 0, 4294967295⟩,
  ⟨2, 0x2B80, 1, 0x04, 0x04, 1, .ro, 0, 0, 255⟩,
  ⟨2, 0x2B80, 1, 0x05, 0x05, 2, .ro, 256, 0, 65535⟩,
  ⟨2, 0x2B80, 1, 0x06, 0x06, 2, .ro, 256, 0, 65535⟩,
  ⟨2, 0x2B80, 1, 0x07, 0x07, 2, .ro, 256, 0, 65535⟩,
  ⟨2, 0x2B80, 1, 0x08, 0x08, 4, .ro, 100000, 0, 4294967295⟩,
  ⟨2, 0x2B80, 1, 0x09, 0x09, 8, .ro, 0, 0, 18446744073709551615⟩,
  ⟨2, 0x2B80, 1, 0x0A, 0x0A, 1, .ro, 0, 0, 255⟩,
  ⟨2, 0x2B80, 1, 0x0B, 0x0B, 4, .ro, 0, 0, 4294967295⟩,
  ⟨2, 0x2B80, 1, 0x0C, 0x0C, 4, .ro, 0, 0, 4294967295⟩,
  ⟨2, 0x2B80, 1, 0x0D, 0x0D, 2, .ro, 0, 0, 65535⟩,
  ⟨2, 0x2B80, 1, 0x0E, 0x0E, 2, .ro, 0, 0, 65535⟩,
  ⟨2, 0x2B80, 1, 0x0F, 0x0F, 4, .ro, 0, 0, 4294967295⟩,
  ⟨2, 0x2B80, 1, 0x10, 0x10, 4, .rw, 48000, 0, 500000⟩,
  ⟨2, 0x2B80, 1, 0x11, 0x11, 4, .rw, 40000, 0, 500000⟩,
  ⟨2, 0x2B80, 1, 0x12, 0x12, 4, .rw, 20000, 0, 500000⟩,
  ⟨2, 0x2B90, 16, 0x00, 0x00, 1, .ro, 20, 0, 255⟩,
  ⟨2, 0x2B90, 16, 0x01, 0x01, 4, .ro, 2952790016, 0, 4294967295⟩,
  ⟨2, 0x2B90, 16, 0x02, 0x02, 0, .ro, 0, 0, 0⟩,
  ⟨2, 0x2B90, 16, 0x03, 0x0D, 8, .ro, 0, 0, 18446744073709551615⟩,
  ⟨2, 0x2B90, 16, 0x0E, 0x0E, 1, .wo, 0, 0, 255⟩,
  ⟨2, 0x2B90, 16, 0x0F, 0x0F, 4, .ro, 0, 0, 4294967295⟩,
  ⟨2, 0x2B90, 16, 0x10, 0x10, 4, .ro, 0, 0, 4294967295⟩,
  ⟨2, 0x2B90, 16, 0x11, 0x11, 1, .ro, 0, 0, 255⟩,
  ⟨2, 0x2B90, 16, 0x12, 0x12, 2, .ro, 0, 0, 65535⟩,
  ⟨2, 0x2B90, 16, 0x13, 0x13, 4, .ro, 0, 0, 4294967295⟩,
  ⟨2, 0x2B90, 16, 0x14, 0x14, 1, .ro, 0, 0, 255⟩]
/-- The tables of range 0x2B00. -/
def objRows2B : List ObjRow := objRows2Ba ++ objRows2Bb

def objRows2Ca : List ObjRow := [
  ⟨2, 0x2C00, 1, 0x00, 0x00, 1, .ro, 16, 0, 255⟩,
  ⟨2, 0x2C00, 1, 0x01, 0x01, 1, .ro, 0, 0, 255⟩,
  ⟨2, 0x2C00, 1, 0x02, 0x02, 2, .ro, 0, 0, 65535⟩,
  ⟨2, 0x2C00, 1, 0x03, 0x03, 2, .rw, 250, 0, 1000⟩,
  ⟨2, 0x2C00, 1, 0x04, 0x04, 2, .rw, 16, 1, 64⟩,
  ⟨2, 0x2C00, 1, 0x05, 0x05, 2, .rw, 640, 64, 1280⟩,
  ⟨2, 0x2C00, 1, 0x06, 0x06, 2, .rw, 100, 10, 10000⟩,
  ⟨2, 0x2C00, 1, 0x07, 0x07, 2, .rw, 512, 128, 1920⟩,
  ⟨2, 0x2C00, 1, 0x08, 0x08, 2, .rw, 6720, 0, 65535⟩,
  ⟨2, 0x2C00, 1, 0x09, 0x09, 2, .ro, 0, 0, 65535⟩,
  ⟨2, 0x2C00, 1, 0x0A, 0x0A, 2, .ro, 0, 0, 65535⟩,
  ⟨2, 0x2C00, 1, 0x0B, 0x0B, 1, .ro, 0, 0, 255⟩,
  ⟨2, 0x2C00, 1, 0x0C, 0x0C, 2, .ro, 0, 0, 65535⟩,
  ⟨2, 0x2C00, 1, 0x0D, 0x0D, 2, .ro, 0, 0, 65535⟩,
  ⟨2, 0x2C00, 1, 0x0E, 0x0E, 4, .ro, 0, 0, 4294967295⟩,
  ⟨2, 0x2C00, 1, 0x0F, 0x0F, 8, .ro, 0, 0, 18446744073709551615⟩,
  ⟨2, 0x2C00, 1, 0x10, 0x10, 2, .ro, 0, 0, 65535⟩,
  ⟨2, 0x2C10, 1, 0x00, 0x00, 0, .rw, 0, 0, 0⟩,
  ⟨2, 0x2C20, 19, 0x00, 0x00, 1, .ro, 5, 0, 255⟩,
  ⟨2, 0x2C20, 19, 0x01, 0x01, 2, .ro, 0, 0, 65535⟩,
  ⟨2, 0x2C20, 19, 0x02, 0x02, 2, .ro, 0, 0, 65535⟩,
  ⟨2, 0x2C20, 19, 0x03, 0x03, 2, .ro, 0, 0, 65535⟩,
  ⟨2, 0x2C20, 19, 0x04, 0x04, 4, .ro, 0, 0, 4294967295⟩,
  ⟨2, 0x2C20, 19, 0x05, 0x05, 4, .ro, 4294967295, 0, 4294967295⟩,
  ⟨1, 0x2C80, 1, 0x00, 0x00, 1, .ro, 13, 0, 255⟩,
  ⟨1, 0x2C80, 1, 0x01, 0x01, 2, .rw, 7040, 0, 65535⟩,
  ⟨1, 0x2C80, 1, 0x02, 0x02, 2, .ro, 0, 0, 65535⟩,
  ⟨1, 0x2C80, 1, 0x03, 0x03, 2, .rw, 2560, 0, 5120⟩,
  ⟨1, 0x2C80, 1, 0x04, 0x04, 2, .rw, 5440, 3840, 5440⟩,
  ⟨1, 0x2C80, 1, 0x05, 0x05, 4, .rw, 5000, 5000, 3600000⟩,
  ⟨1, 0x2C80, 1, 0x06, 0x06, 4, .ro, 0, 0, 4294967295⟩,
  ⟨1, 0x2C80, 1, 0x07, 0x07, 8, .ro, 0, 0, 18446744073709551615⟩,
  ⟨1, 0x2C80, 1, 0x08, 0x08, 2, .ro, 0, 0, 65535⟩,
  ⟨1, 0x2C80, 1, 0x09, 0x09, 1, .wo, 0, 0, 255⟩,
  ⟨1, 0x2C80, 1, 0x0A, 0x0A, 4, .ro, 0, 0, 4294967295⟩,
  ⟨1, 0x2C80, 1, 0x0B, 0x0B, 1, .ro, 0, 0, 255⟩,
  ⟨1, 0x2C80, 1, 0x0C, 0x0C, 4, .ro, 0, 0, 4294967295⟩,
  ⟨1, 0x2C80, 1, 0x0D, 0x0D, 1, .rw, 1, 0, 1⟩]
/-- The tables of range 0x2C00. -/
def objRows2C : List ObjRow := objRows2Ca

def objRows2Da : List ObjRow := [
  ⟨1, 0x2D00, 1, 0x00, 0x00, 1, .ro, 16, 0, 255⟩,
  ⟨1, 0x2D00, 1, 0x01, 0x01, 1, .ro, 0, 0, 255⟩,
  ⟨1, 0x2D00, 1, 0x02, 0x02, 1, .wo, 0, 0, 255⟩,
  ⟨1, 0x2D00, 1, 0x03, 0x03, 0, .rw, 0, 0, 0⟩,
  ⟨1, 0x2D00, 1, 0x04, 0x04, 8, .rw, 18446744073709551615, 0, 18446744073709551615⟩,
  ⟨1, 0x2D00, 1, 0x05, 0x05, 1, .rw, 4, 1, 8⟩,
  ⟨1, 0x2D00, 1, 0x06, 0x06, 1, .rw, 0, 0, 255⟩,
  ⟨1, 0x2D00, 1, 0x07, 0x07, 2, .rw, 4, 1, 160⟩,
  ⟨1, 0x2D00, 1, 0x08, 0x08, 4, .rw, 2000000, 2000000, 100000000⟩,
  ⟨1, 0x2D00, 1, 0x09, 0x09, 2, .rw, 30, 10, 100⟩,
  ⟨1, 0x2D00, 1, 0x0A, 0x0A, 4, .rw, 2000, 0, 1000000⟩,
  ⟨1, 0x2D00, 1, 0x0B, 0x0B, 4, .wo, 0, 0, 4294967295⟩,
  ⟨1, 0x2D00, 1, 0x0C, 0x0C, 4, .ro, 0, 0, 4294967295⟩,
  ⟨1, 0x2D00, 1, 0x0D, 0x0D, 1, .ro, 0, 0, 255⟩,
  ⟨1, 0x2D00, 1, 0x0E, 0x0E, 1, .ro, 0, 0, 255⟩,
  ⟨1, 0x2D00, 1, 0x0F, 0x0F, 4, .ro, 0, 0, 4294967295⟩,
  ⟨1, 0x2D00, 1, 0x10, 0x10, 4, .ro, 0, 0, 4294967295⟩]
/-- The tables of range 0x2D00. -/
def objRows2D : List ObjRow := objRows2Da

/-- The rows of the 0x100-index range that holds `index` (R10). -/
def objPage (index : Nat) : List ObjRow :=
  match index / 0x100 with
  | 0x10 => objRows10
  | 0x11 => objRows11
  | 0x12 => objRows12
  | 0x13 => objRows13
  | 0x14 => objRows14
  | 0x15 => objRows15
  | 0x20 => objRows20
  | 0x21 => objRows21
  | 0x22 => objRows22
  | 0x23 => objRows23
  | 0x24 => objRows24
  | 0x25 => objRows25
  | 0x26 => objRows26
  | 0x27 => objRows27
  | 0x28 => objRows28
  | 0x29 => objRows29
  | 0x2A => objRows2A
  | 0x2B => objRows2B
  | 0x2C => objRows2C
  | 0x2D => objRows2D
  | _ => []

end Sys2Proof.Machine
end

