-- ==== Sys2Proof/Machine/Units.lean ====
section
/-!
DEFINITION. Stations, fields, clusters, domains, rails and Wheels: which holds which (R7-R9, R17-R31).
-/
namespace Sys2Proof

/-! ### Stations and units -/

/-- The station at an address, where R8 assigns one (R9). -/
def addrStation (a : Nat) : Option Station :=
  if a = 0 then some .hub
  else if 0x0010 ≤ a ∧ a < 0x0018 then some (.field (Fin.ofNat 8 (a - 0x0010)))
  else if 0x0100 ≤ a ∧ a < 0x0200 ∧ a % 0x20 < 19 then
    some (.cluster (Fin.ofNat 8 ((a - 0x0100) / 0x20)) (Fin.ofNat 19 (a % 0x20)))
  else none

/-- The field of a station; none at the hub. -/
def Station.fieldOf : Station → Option FieldId
  | .hub => none
  | .field f => some f
  | .cluster f _ => some f

/-- The address of a cluster station (R8). -/
def clSt (f : FieldId) (c : ClusterId) : Nat := (Station.cluster f c).addr
/-- The address of a field station (R8). -/
def fSt (f : FieldId) : Nat := (Station.field f).addr
/-- The hub's address (R8). -/
def hubSt : Nat := 0
/-- The global cluster id (R7). -/
def gid (f : FieldId) (c : ClusterId) : Nat := f.val * 19 + c.val
/-- Whether a cluster is a compute cluster, C00-C15. -/
def isCompute (c : ClusterId) : Bool := c.val < 16
/-- MRs of a cluster. -/
def mrCount (c : ClusterId) : Nat := if isCompute c then 24 else 16
/-- Droop sensors of a cluster. -/
def sensorCount (c : ClusterId) : Nat := if isCompute c then 32 else 16
/-- The compute cluster that serves a tile (R7). -/
def tileCluster (t : TileId) : ClusterId := ⟨t.val, by omega⟩
/-- The tile that a compute cluster serves. -/
def clusterTile (c : ClusterId) : TileId := Fin.ofNat 16 c.val
/-- The domain of a cluster (R25). -/
def clusterDomain (f : FieldId) (c : ClusterId) : DomId :=
  Fin.ofNat 64 (f.val * 7 + (if c.val < 16 then c.val / 4 else c.val - 12))
/-- Whether a domain is an auxiliary rail, D56-D63. -/
def isAux (d : DomId) : Bool := 56 ≤ d.val
/-- The field of a domain; an auxiliary domain lies beside its field (R25). -/
def domField (d : DomId) : FieldId := Fin.ofNat 8 (if 56 ≤ d.val then d.val - 56 else d.val / 7)
/-- k of a switched domain: 0-3 quadrants, 4 fabric, 5 memory interface, 6 field I/O, 7 auxiliary (R29). -/
def domKind (d : DomId) : Nat := if 56 ≤ d.val then 7 else d.val % 7
/-- The domain of kind k in field f; k = 7 is the auxiliary domain beside it. -/
def fieldDomain (f : FieldId) (k : Nat) : DomId := Fin.ofNat 64 (if k = 7 then 56 + f.val else f.val * 7 + k)
/-- The clusters of a domain, ascending (R25). -/
def domClusters (d : DomId) : List ClusterId :=
  if 56 ≤ d.val then []
  else if d.val % 7 < 4 then (List.range 4).map (fun j => Fin.ofNat 19 (4 * (d.val % 7) + j))
  else [Fin.ofNat 19 (d.val % 7 + 12)]
/-- CLUSTER_MASK of a domain record (R29). -/
def domClusterMask (d : DomId) : Nat := (domClusters d).foldl (fun m c => m + 2 ^ c.val) 0
/-- The rail a domain takes its power from (R25). -/
def domRail (d : DomId) : RailId := Fin.ofNat 16 (if 56 ≤ d.val then d.val - 48 else d.val / 7)
/-- Whether a rail is a field rail. -/
def isFR (r : RailId) : Bool := r.val < 8
/-- The field a rail belongs to. -/
def railField (r : RailId) : FieldId := Fin.ofNat 8 r.val
/-- Phases of a rail (R20, R21). -/
def phaseCount (r : RailId) : Nat := if isFR r then 32 else 4
/-- The rail FR of a field. -/
def frRail (f : FieldId) : RailId := Fin.ofNat 16 f.val
/-- The rail AX beside a field. -/
def axRail (f : FieldId) : RailId := Fin.ofNat 16 (8 + f.val)
/-- The field a converter feeds (R17). -/
def convField (n : ConvId) : FieldId := Fin.ofNat 8 (n.val / 2)
/-- Every field, every cluster number, every domain. -/
def allFields : List FieldId := List.finRange 8
def allClusters : List ClusterId := List.finRange 19
def allTiles : List TileId := List.finRange 16
def allDomains : List DomId := List.finRange 64

/-- The key of a Wheel in the Wheel table. -/
def WheelRef.key : WheelRef → Nat
  | .cluster f c => gid f c
  | .domain d => 0x1000 + d.val
  | .field f => 0x2000 + f.val
  | .die => 0x3000
  | .group a => 0x8000 + a.val
  | .mr f c m => 0x100000 + gid f c * 0x20 + m.val

/-- The station that holds a Wheel's record (R31). -/
def WheelRef.station : WheelRef → Nat
  | .cluster f c => clSt f c
  | .domain _ => hubSt
  | .field f => fSt f
  | .die => hubSt
  | .group a => 0x8000 + a.val
  | .mr f c _ => clSt f c

/-- The index of a Wheel's record (R31). -/
def WheelRef.index : WheelRef → Nat
  | .domain d => 0x20C0 + d.val
  | .mr _ _ m => 0x2020 + m.val
  | _ => 0x2010

/-- An object of a Wheel's record, by its subindex (R33). -/
def WheelRef.obj (w : WheelRef) (sub : Nat) : Machine.Obj := ⟨w.index, sub⟩

/-- The station that watches a link's flits, and raises its failure: the one nearer the hub (assumption 18). -/
def LinkRef.watch : LinkRef → Nat
  | .cl f _ => fSt f
  | .fh _ _ => hubSt
/-- The key of a link in the link table. -/
def LinkRef.key : LinkRef → Nat
  | .cl f c => gid f c
  | .fh f l => 0x1000 + 2 * f.val + l.val

end Sys2Proof
end

