-- ==== Sys2Proof/Machine/Ops.lean ====
section
/-!
DEFINITION. The named operations over the state: addresses, registers, Wheels, sessions, free values, and raising a
fault.
-/
namespace Sys2Proof.Machine
open Sys2Proof

/-- What a meaning answers. -/
abbrev Out := Host.Outcome State Fault Refusal

/-! ### Registers -/

/-- The key of an object's value in the register table. -/
def rkey (st idx sub : Nat) : Nat := (st * 0x10000 + idx) * 0x100 + sub

/-- The class bit of a station address in `ObjRow.own`: hub 1, field station 2, cluster station 4, group 8. -/
def ownBit (st : Nat) : Nat :=
  match addrStation st with
  | some .hub => 1
  | some (.field _) => 2
  | some (.cluster _ _) => 4
  | none => if 0x8000 ≤ st then 8 else 0

/-- Whether a table line covers an index and subindex at a class of station. -/
def ObjRow.covers (r : ObjRow) (own idx sub : Nat) : Bool :=
  r.own / own % 2 == 1 && r.base ≤ idx && idx < r.base + r.count && r.subLo ≤ sub && sub ≤ r.subHi

/-- Defaults at the hub that the tables give by rule, not by one number. -/
def hubDefault (idx sub : Nat) : Option Nat :=
  let d := Fin.ofNat 64 (idx % 0x40)
  if idx / 0x40 = 0x81 then
    match sub with
    | 1 => some (domKind d)
    | 2 => some (domField d).val
    | 3 => some (domClusterMask d)
    | 4 => some (domRail d).val
    | 5 => some (if isAux d then 1100 else 750)
    | _ => none
  else if idx / 0x40 = 0x83 then
    match sub with
    | 1 => some 2
    | 6 => some (if isAux d then 800 else 550)
    | 7 => some (if isAux d then 1400 else 950)
    | 0xF => some (domClusters d).length
    | _ => none
  else if 0x2510 ≤ idx ∧ idx < 0x2520 then
    match sub with
    | 1 => some (if idx < 0x2518 then 0 else 1)
    | 2 => some (if idx < 0x2518 then 32 else 4)
    | 5 => some (if idx < 0x2518 then 12 else 8)
    | _ => none
  else if 0x2520 ≤ idx ∧ idx < 0x2530 then
    match sub with
    | 0xC => some (if idx < 0x2528 then 12 else 8)
    | 0xD => some 2000
    | _ => none
  else if (0x2580 ≤ idx ∧ idx < 0x2590 ∨ 0x25A0 ≤ idx ∧ idx < 0x25B0) ∧ sub = 0 then
    some (if idx % 0x10 < 8 then 32 else 4)
  else if 0x1310 < idx ∧ idx ≤ 0x1320 then
    if sub = 0 then some (faultGroupMax (idx - 0x1310))
    else some (faultDefaultSev ((idx - 0x1310) * 0x100 + sub) * 2 ^ 29)
  else
    match idx, sub with
    | 0x2010, 1 => some 4
    | 0x2C80, 2 => some 7360
    | 0x2010, 0xF => some 8
    | 0x1000, 3 => some 0xFF
    | 0x1000, 4 => some 0xFF
    | 0x2400, 1 => some 16
    | 0x2400, 2 => some 2
    | 0x2400, 3 => some 0xFF
    | 0x2460, 7 => some 32768
    | 0x1400, 1 => some 64
    | 0x1400, 2 => some 32768
    | 0x1400, 3 => some 0xF
    | 0x1410, 0 => some 10
    | 0x1410, 1 => some 1048576
    | 0x1500, 1 => some 0
    | _, _ =>
      if 0x2610 ≤ idx ∧ idx < 0x2620 ∧ sub = 1 then some (0x40 + (idx - 0x2610) % 8)
      else if 0x1440 ≤ idx ∧ idx < 0x1480 ∧ sub = 1 then
        let b := idx - 0x1440
        some (if b < 4 then 0x3000 else if b < 22 then 0x2000 else if b < 24 then 0x100F else if b < 56 then 0x5000 else 0x4000)
      else if 0x1440 ≤ idx ∧ idx < 0x1480 ∧ sub = 6 then some max32
      else none

/-- A sequence descriptor (R206). -/
def seqWordOf (en urgent : Bool) (trig phase delay first count : Nat) : Nat :=
  flagAt en 31 + flagAt urgent 30 + trig * 2 ^ 28 + phase * 2 ^ 23 + delay * 2 ^ 12 + first * 2 ^ 6 + count
/-- The descriptor of SEQ n of converter q after power-on reset (R210). -/
def seqDefault (q n : Nat) : Nat :=
  let ph := if q = 4 then n % 8 else 8 * q + n % 8
  if n < 16 then
    if q = 4 ∧ 4 ≤ n % 8 then 0
    else if n < 8 then seqWordOf true true 2 ph 0 n 1
    else seqWordOf true true 3 ph 20 n 1
  else if n = 16 then seqWordOf true false 0 0 (if q = 4 then 0 else 250 * q) 16 3
  else if n = 17 then seqWordOf true false 1 0 0 19 (if q < 2 then 5 else 4)
  else 0
/-- The channel of entry e of converter q after power-on reset (R210). -/
def entryDefault (q e : Nat) : Nat :=
  if e < 16 then (if q = 4 ∧ 4 ≤ e % 8 then 0 else e % 8)
  else if e < 19 then e - 8
  else if q < 2 then (if e < 24 then e - 8 else 0)
  else if e < 23 then e - 7 else 0

/-- Defaults at a field station that the tables give by rule. -/
def fieldDefault (f : FieldId) (idx sub : Nat) : Option Nat :=
  if 0x2710 ≤ idx ∧ idx < 0x2715 ∧ sub = 1 then some (if idx = 0x2714 then 8 + f.val else f.val)
  else if idx = 0x2714 ∧ sub = 5 then some 500
  else if 0x2720 ≤ idx ∧ idx < 0x2725 ∧ 1 ≤ sub ∧ sub ≤ 24 then some (seqDefault (idx - 0x2720) (sub - 1))
  else if 0x2730 ≤ idx ∧ idx < 0x2735 ∧ 1 ≤ sub ∧ sub ≤ 32 then some (entryDefault (idx - 0x2730) (sub - 1))
  else if 0x1440 ≤ idx ∧ idx < 0x1460 ∧ sub = 1 then
    some (if idx < 0x1442 then 0x3000 else if idx < 0x145E then 0x5000 else 0x4000)
  else if 0x1440 ≤ idx ∧ idx < 0x1460 ∧ sub = 6 then some max32
  else
  match idx, sub with
  | 0x2C00, 0xE => some 1712861359
  | 0x2010, 1 => some 3
  | 0x2010, 4 => some 1800
  | 0x2010, 6 => some 1780
  | 0x2010, 7 => some 1820
  | 0x2010, 0xF => some 8
  | 0x1000, 1 => some (fSt f)
  | 0x1000, 2 => some 1
  | 0x1000, 3 => some f.val
  | 0x1000, 4 => some 0xFF
  | 0x2400, 1 => some 8
  | 0x2400, 2 => some 1
  | 0x2400, 3 => some 7
  | 0x2460, 7 => some 8192
  | 0x1400, 1 => some 32
  | 0x1400, 2 => some 16384
  | 0x1400, 3 => some 0x3
  | 0x1410, 0 => some 6
  | 0x1410, 1 => some 458752
  | _, _ => none

/-- Defaults at a cluster station that the tables give by rule. -/
def clusterDefault (f : FieldId) (c : ClusterId) (idx sub : Nat) : Option Nat :=
  if 0x2020 ≤ idx ∧ idx < 0x2038 then
    match sub with
    | 1 => some 0
    | 6 => some 550
    | 7 => some 950
    | 9 => some 7000
    | 0xF => some 0
    | _ => none
  else
    match idx, sub with
    | 0x2010, 1 => some 1
    | 0x2010, 4 => some 750
    | 0x2010, 6 => some 550
    | 0x2010, 7 => some 950
    | 0x2010, 0xF => some (mrCount c)
    | 0x1000, 1 => some (clSt f c)
    | 0x1000, 2 => some 2
    | 0x1000, 3 => some f.val
    | 0x1000, 4 => some c.val
    | 0x2200, 1 => some (mrCount c)
    | 0x2300, 1 => some (sensorCount c)
    | 0x2300, 2 => some (2 ^ sensorCount c - 1)
    | 0x2100, 1 => some (if isCompute c then 5 else 3)
    | 0x2100, 4 => some (if isCompute c then 800 else 0)
    | 0x2400, 1 => some 1
    | 0x2400, 2 => some 0
    | 0x2400, 3 => some 0xFF
    | 0x2480, 3 => some 0
    | 0x2480, 4 => some 100
    | 0x2480, 6 => some 64
    | _, _ => none

/-- Defaults at a group address (R31, R33). SETPOINT of a group, for which the spec gives no default, reads 0 before its first write
(assumption 51, the model's choice). -/
def groupDefault (idx sub : Nat) : Option Nat :=
  match idx, sub with
  | 0x2010, 1 => some 5
  | 0x2010, 6 => some 550
  | 0x2010, 7 => some 950
  | _, _ => none

/-- The default of an object (R13): by rule where the table says so, else the table's number. -/
def objDefault (st idx sub : Nat) : Nat :=
  let special :=
    match addrStation st with
    | some .hub => hubDefault idx sub
    | some (.field f) => fieldDefault f idx sub
    | some (.cluster f c) => clusterDefault f c idx sub
    | none => groupDefault idx sub
  match special with
  | some v => v
  | none => ((objPage idx).find? (fun r => r.covers (ownBit st) idx sub)).elim 0 ObjRow.dflt

/-- The value of an object at a raw address: the stored one, else its default. -/
def State.rdRaw (s : State) (st idx sub : Nat) : Nat := tblGet (objDefault st idx sub) s.regs (rkey st idx sub)
/-- Storing an object's value at a raw address. -/
def State.wrRaw (s : State) (st idx sub v : Nat) : State :=
  { s with regs := tblSet (objDefault st idx sub) s.regs (rkey st idx sub) v }
/-- The value of an object of a station. -/
def State.rd (s : State) (st : Nat) (o : Obj) : Nat := s.rdRaw st o.index o.sub
/-- Storing an object's value. -/
def State.wr (s : State) (st : Nat) (o : Obj) (v : Nat) : State := s.wrRaw st o.index o.sub v
/-- A counter raised by `n`, saturating at `m`. -/
def State.inc (s : State) (st : Nat) (o : Obj) (m n : Nat) : State := s.wr st o (satAdd m (s.rd st o) n)
/-- A 16-bit, 32-bit or 64-bit counter raised by one, saturating. -/
def State.inc16 (s : State) (st : Nat) (o : Obj) : State := s.inc st o max16 1
def State.inc32 (s : State) (st : Nat) (o : Obj) : State := s.inc st o max32 1
/-- A 64-bit count raised by `n`, wrapping at 2^64. -/
def State.inc64 (s : State) (st : Nat) (o : Obj) (n : Nat) : State := s.wr st o ((s.rd st o + n) % 2 ^ 64)

/-- The objects at the addresses that meet `p` (station, index, subindex) return to their defaults. -/
def State.clearRegs (s : State) (p : Nat → Nat → Nat → Bool) : State :=
  let keep (k : Nat) : Bool := !p (k / 0x1000000) (k / 0x100 % 0x10000) (k % 0x100)
  { s with regs := tblKeep keep s.regs, blobs := tblKeep keep s.blobs }

/-- The key of a station's own count: the hub holds the records of groups (R40). -/
def clockKey (st : Nat) : Nat := if 0x8000 ≤ st then hubSt else st
/-- The count of a station (R6, R54): the nanoseconds that have passed and what its own oscillator has gained or lost. -/
def State.time (s : State) (st : Nat) : Nat :=
  (((s.now * 1000000 : Nat) + tblGet 0 s.skew (clockKey st)) / 1000000).toNat % 2 ^ 64

/-- A periodic event of a station is due: its count, less a phase, is a multiple of the period, and the event has not been taken at
this count. -/
def State.periodic (s : State) (key st period phase : Nat) : Bool :=
  (s.time st + period - phase % period) % period == 0 && tblGet 0 s.marks key != s.time st + 1
/-- The key of a periodic event: its kind and the unit it belongs to. -/
def markKey (kind unit : Nat) : Nat := kind * 2 ^ 32 + unit
/-- The event has been taken at this count. -/
def State.mark (s : State) (key st : Nat) : State := { s with marks := tblSet 0 s.marks key (s.time st + 1) }

/-- A condition has held since a count, where it does hold, and for `len` ns. -/
def heldFor (since : Option Nat) (len now : Nat) : Bool := since.any (fun t => decide (t + len ≤ now))

/-- The pins are served: their supplies are present and no power-on or system reset stands (R439). -/
def State.pinsLive (s : State) : Bool := s.supply.vio18 && s.supply.vstby && s.rst.held.isNone
/-- The supplies that a driven output needs are present (R318-R320, R439). -/
def State.driven (s : State) : Bool := s.supply.vio18 && s.supply.vstby

/-- Drawing a free value: the value, and the state whose counter has moved on. -/
def State.draw (s : State) : Nat × State := (Config.freeValue s.free, { s with free := s.free + 1 })

/-! ### Wheels -/

/-- STATE's code (R35). -/
def WState.code : WState → Nat
  | .stopped => 0 | .starting => 1 | .running => 2 | .derated => 3
  | .holding => 4 | .stopping => 5 | .parked => 6 | .latched => 7

/-- What the state holds of a Wheel. -/
def State.wheel (s : State) (w : WheelRef) : WheelRec := tblGet {} s.wheels w.key
/-- Storing a Wheel's record. -/
def State.putWheel (s : State) (w : WheelRef) (r : WheelRec) : State := { s with wheels := tblSet {} s.wheels w.key r }
/-- STATE of a Wheel other than a group. -/
def State.wstate (s : State) (w : WheelRef) : WState := (s.wheel w).state
/-- STATE of a cluster's Wheel. -/
def State.cstate (s : State) (f : FieldId) (c : ClusterId) : WState := s.wstate (.cluster f c)
/-- STATE of a domain's Wheel. -/
def State.dstate (s : State) (d : DomId) : WState := s.wstate (.domain d)

/-- An MR cell's record. -/
def mrKey (f : FieldId) (c : ClusterId) (m : MrId) : Nat := gid f c * 0x20 + m.val
def State.mr (s : State) (f : FieldId) (c : ClusterId) (m : MrId) : MrRec := tblGet {} s.mrs (mrKey f c m)
/-- STATE of an MR: PARKED or LATCHED where its Wheel is, else as its cell and its cluster stand (R35, R72). -/
def State.mrState (s : State) (f : FieldId) (c : ClusterId) (m : MrId) : WState :=
  match s.wstate (.mr f c m) with
  | .parked => .parked
  | .latched => .latched
  | _ =>
    match (s.mr f c m).cell with
    | .retired => .parked
    | .off => .stopped
    | .starting => .starting
    | .restartRamp => if (s.mr f c m).released then .starting else if s.cstate f c = .stopping then .stopping else .running
    | _ => if s.cstate f c = .stopping then .stopping else .running

/-- The member word of a Wheel (R41). -/
def wheelWord : WheelRef → Nat
  | .mr f c m => clSt f c * 0x10000 + 0x1000 + m.val
  | .cluster f c => clSt f c * 0x10000
  | .domain d => 0x2000 + d.val
  | .field f => fSt f * 0x10000
  | .die => 0
  | .group a => (0x8000 + a.val) * 0x10000

/-- The Wheel a member word names, if its station and item exist (R41, R42); a group is looked up by its address. -/
def wordWheel (w : Nat) : Option WheelRef :=
  let st := w / 0x10000
  let kind := bits w 15 12
  let item := bits w 7 0
  if kind = 0 ∧ item = 0 then
    match addrStation st with
    | some .hub => some .die
    | some (.field f) => some (.field f)
    | some (.cluster f c) => some (.cluster f c)
    | none => if 0x8000 ≤ st then some (.group (Fin.ofNat 0x8000 (st - 0x8000))) else none
  else if kind = 1 then
    match addrStation st with
    | some (.cluster f c) => if item < mrCount c then some (.mr f c (Fin.ofNat 24 item)) else none
    | _ => none
  else if kind = 2 ∧ st = 0 ∧ item < 64 then some (.domain (Fin.ofNat 64 item))
  else none

/-- The members of an existing group, in member order. -/
def State.groupMembers (s : State) (a : Nat) : List WheelRef :=
  ((s.groups.find? (fun g => g.addr == a)).elim [] GroupRec.members).filterMap wordWheel
/-- The states in the order of R46. -/
def groupOrder : List WState := [.latched, .holding, .starting, .stopping, .derated, .running, .parked, .stopped]
/-- STATE of a Wheel as its object reads: an MR's from its cell, a group's from its members (R35, R46). `fuel` bounds the
nesting of groups, of which at most 256 exist (R42). -/
def State.shownN (s : State) (fuel : Nat) (w : WheelRef) : WState :=
  match w, fuel with
  | .mr f c m, _ => s.mrState f c m
  | .group a, n + 1 =>
    let l := (s.groupMembers (0x8000 + a.val)).map (s.shownN n)
    (groupOrder.find? (fun x => l.contains x)).getD .stopped
  | w, _ => s.wstate w
def State.shown (s : State) (w : WheelRef) : WState := s.shownN 257 w
/-- Every existing group's Wheel. -/
def State.groupWheels (s : State) : List WheelRef := s.groups.map (fun g => .group (Fin.ofNat 0x8000 (g.addr - 0x8000)))
/-- STATE_TIME of the Wheels of a list, and of every group, whose STATE is no longer what it was in `old` (R33, R46). -/
def State.restamp (s old : State) (l : List WheelRef) : State :=
  (l ++ s.groupWheels).foldl (fun t w => if s.shown w = old.shown w then t else t.wr w.station (w.obj 0x10) (s.time w.station)) s
/-- The Wheels whose STATE may follow a Wheel's: a cluster's MRs leave STOPPING with it. -/
def followers : WheelRef → List WheelRef
  | .cluster f c => .cluster f c :: ((List.finRange 24).filter (fun m => m.val < mrCount c)).map (fun m => .mr f c m)
  | w => [w]
/-- The states in which a sensor window is judged (R83). -/
def WState.judges : WState → Bool
  | .running | .derated | .holding => true
  | _ => false
/-- A cluster in a state in which sensor windows are not judged spoils the open one (R83). -/
def State.spoilWindow (s : State) (w : WheelRef) (st : WState) : State :=
  match w with
  | .cluster f c =>
    if st.judges then s
    else { s with cells := tblSet {} s.cells (gid f c) { (tblGet {} s.cells (gid f c) : CellsRec) with judged := false } }
  | _ => s
/-- The states of LIVE (R231). -/
def WState.isLive : WState → Bool
  | .starting | .running | .derated | .holding => true
  | _ => false
/-- The figures of the tile of a compute cluster that is not LIVE are 0 (R233). -/
def State.leaveLive (s : State) (w : WheelRef) (st : WState) : State :=
  match w with
  | .cluster f c =>
    if st.isLive ∨ !isCompute c then s
    else (s.wr (fSt f) (O.P_EST.at (clusterTile c).val) 0).wr (fSt f) (O.I_EST.at (clusterTile c).val) 0
  | _ => s
/-- A change of STATE; STATE_TIME takes the station's count when it changes (R33). -/
def State.setWState (s : State) (w : WheelRef) (st : WState) : State :=
  if s.wstate w = st then s
  else (((s.putWheel w { s.wheel w with state := st }).spoilWindow w st).leaveLive w st).restamp s (followers w)
/-- A new record of an MR cell. -/
def State.putMr (s : State) (f : FieldId) (c : ClusterId) (m : MrId) (r : MrRec) : State :=
  let t := { s with mrs := tblSet {} s.mrs (mrKey f c m) r }
  if r.cell = (s.mr f c m).cell ∧ r.released = (s.mr f c m).released then t else t.restamp s [.mr f c m]

/-- Outputs on (R35). -/
def WState.isOn : WState → Bool
  | .starting | .running | .derated | .holding | .stopping => true
  | _ => false
/-- RUNNING or DERATED. -/
def WState.isUp : WState → Bool
  | .running | .derated => true
  | _ => false
/-- The stopped state of R12 (R36). -/
def WState.isStopped : WState → Bool
  | .stopped | .parked | .latched => true
  | _ => false

/-! ### Sessions -/

/-- A session slot before its first use: slot 0 is open with NOTE_SEV 2, slots 1-4 are the window's (R401, R420). -/
def sessionDefault (n : Nat) : Session :=
  if n = 0 then { isOpen := true, noteSev := 2 } else if n ≤ 4 then { carrier := 3, peer := n - 1 } else {}
/-- The session of a slot. -/
def State.session (s : State) (n : Slot) : Session := tblGet (sessionDefault n.val) s.tr.sessions n.val
/-- Storing a session. -/
def State.putSession (s : State) (n : Slot) (x : Session) : State :=
  { s with tr := { s.tr with sessions := tblSet (sessionDefault n.val) s.tr.sessions n.val x } }
/-- The window channel's registers. -/
def State.channel (s : State) (k : ChanId) : WinChan := tblGet {} s.tr.channels k.val
def State.putChannel (s : State) (k : ChanId) (x : WinChan) : State :=
  { s with tr := { s.tr with channels := tblSet {} s.tr.channels k.val x } }
/-- An MCTP binding: 0 I3C, 1 PCIe. -/
def State.binding (s : State) (b : Fin 2) : Binding := tblGet {} s.tr.bindings b.val
def State.putBinding (s : State) (b : Fin 2) (x : Binding) : State :=
  { s with tr := { s.tr with bindings := tblSet {} s.tr.bindings b.val x } }
/-- The session slot of a window channel (R401). -/
def chanSlot (k : ChanId) : Slot := ⟨k.val + 1, by omega⟩
/-- Every session slot. -/
def allSlots : List Slot := List.finRange 32

/-! ### Faults at the raising station -/

/-- The station of a trace unit (R150). -/
def traceSt (x : TraceId) : Nat := if x.val < 8 then 0x0010 + x.val else hubSt
def State.trace (s : State) (x : TraceId) : TraceRec := tblGet {} s.traces x.val
def State.putTrace (s : State) (x : TraceId) (r : TraceRec) : State := { s with traces := tblSet {} s.traces x.val r }
/-- The trigger source of an armed trace unit fires; TRACE_TRIGGER acts on it (R150). -/
def State.traceFired (s : State) (x : TraceId) : State :=
  if s.rd (traceSt x) O.TRACE_STATE = 1 then s.putTrace x { s.trace x with fired := true } else s
/-- A fault is trigger source 1 of the units that trace its station, where TRIG_ARG is its code (R150). -/
def State.traceFault (s : State) (code st : Nat) : State :=
  { s with traces := s.traces.map (fun p =>
      let u := traceSt (Fin.ofNat 9 p.1)
      if s.rd u O.TRIG_SRC = 1 ∧ s.rd u O.TRIG_ARG = code ∧ s.rd u O.SOURCE / 2 ^ 16 = st ∧ s.rd u O.TRACE_STATE = 1 then
        (p.1, { p.2 with fired := true })
      else p) }

/-- A station of a field. -/
def inField (f : FieldId) (a : Nat) : Bool := (addrStation a).any (fun t => t.fieldOf == some f)
/-- A field station's pair is outstanding at the hub (R372): a message of the field's stations not acknowledged, or a wire fault. -/
def State.pairOut (s : State) (f : FieldId) : Bool :=
  s.flt.outbox.any (fun m => inField f m.id.station) || s.flt.wires.any (fun w => w.field == f.val)
/-- The pairs' times at the hub when a station's pair is about to be outstanding (R373). -/
def State.pairTimes (s : State) (st : Nat) : Tbl Nat :=
  match (addrStation st).bind Station.fieldOf with
  | some f => if s.pairOut f then s.flt.pairAt else tblSet 0 s.flt.pairAt f.val (s.time hubSt)
  | none => s.flt.pairAt
/-- A station raises a fault: its message goes to the collector and its dual-rail pair shows outstanding until the
acknowledgement (R368, R372). A report of the end of the same condition that is still on its way no longer holds (R362). -/
def State.raise (s : State) (code st item data : Nat) : State :=
  { s.traceFault code st with flt := { s.flt with ends := s.flt.ends.filter (· != ⟨code, st, item⟩), pairAt := s.pairTimes st, outbox := s.flt.outbox ++ [{ id := ⟨code, st, item⟩, data := data, time := s.time st, injected := s.flt.injected.isSome }] } }
/-- A station reports the end of a condition fault (R362). -/
def State.endCondition (s : State) (code st item : Nat) : State :=
  { s with flt := { s.flt with ends := s.flt.ends ++ [⟨code, st, item⟩] } }
/-- CFG_RANGE of a rejected write, raised by the holding station with INST 0 (R15, R457). -/
def State.cfgRange (s : State) (st : Nat) : State := s.raise F.CFG_RANGE st 0 0

/-- Every uncleared record: the set, the overflow records and the single record (R367). -/
def State.records (s : State) : List FltRec :=
  s.flt.set ++ s.flt.overflow.map OvfRec.body ++ s.flt.single.toList.map OvfRec.body
/-- Whether a fault of this identity is raised, on its way, or uncleared. -/
def State.hasRecord (s : State) (code st item : Nat) : Bool :=
  s.flt.set.any (fun r => r.id == ⟨code, st, item⟩) || s.flt.outbox.any (fun m => m.id == ⟨code, st, item⟩)

/-- An entry of the Moult log, a ring of 64 (R432, R437). -/
def State.mltLog (s : State) (kind result station item value : Nat) : State :=
  let seq := s.rd hubSt O.MLOG_NEXT
  let e : MltEntry := ⟨seq, kind, result, station, item, value, s.time station, s.time hubSt⟩
  let s := s.wr hubSt O.MLOG_NEXT ((seq + 1) % 2 ^ 32)
  { s with moult := { s.moult with log := (if s.moult.log.length < 64 then s.moult.log else s.moult.log.drop 1) ++ [e] } }

/-- A link, and storing it. -/
def State.link (s : State) (l : LinkRef) : LinkRec := tblGet {} s.net.links l.key
def State.putLink (s : State) (l : LinkRef) (r : LinkRec) : State :=
  { s with net := { s.net with links := tblSet {} s.net.links l.key r } }
/-- Whether both links of a field station are failed. -/
def State.fieldCut (s : State) (f : FieldId) : Bool := (s.link (.fh f 0)).failed && (s.link (.fh f 1)).failed
/-- Whether the hub cannot reach a station (R53, R406). -/
def State.unreachable (s : State) : Station → Bool
  | .hub => false
  | .field f => s.fieldCut f
  | .cluster f c => s.fieldCut f || (s.link (.cl f c)).failed

end Sys2Proof.Machine
end

