-- ==== Sys2Proof/Machine/Dict.lean ====
section
/-!
DEFINITION. The dictionary server's checks, in the order of R406, and how a request ends.
-/
namespace Sys2Proof.Machine
open Sys2Proof

/-- The abort codes of R406. -/
inductive Abort
  | protocol | unknownStation | denied | unreachable | blockReset | busy | unknownObject | readOnly | writeOnly
  | length | state | value | exhaustion | timeout
deriving DecidableEq, Repr

/-- The code of an abort (R406). -/
def abortCode : Abort → Nat
  | .protocol => 0x000C | .unknownStation => 0x0001 | .denied => 0x000B | .unreachable => 0x000E
  | .blockReset => 0x000A | .busy => 0x0009 | .unknownObject => 0x0002 | .readOnly => 0x0003
  | .writeOnly => 0x0004 | .length => 0x0007 | .state => 0x0005 | .value => 0x0006
  | .exhaustion => 0x0008 | .timeout => 0x000D

/-- The effect of a write once it is admitted: a new state, or the refusal of its own rule. -/
abbrev Effect := State → Except Abort State

/-- Whether a group exists at an address (R40). -/
def State.groupExists (s : State) (a : Nat) : Bool := s.groups.any (fun g => g.addr == a)

/-- How many units of a record, or subindices of an array, a station has (R7, R122, R154, R381). -/
def unitLimit (st base : Nat) : Nat :=
  match addrStation st with
  | some .hub => if base = 0x1440 then 64 else if base = 0x2410 ∨ base = 0x2440 then 16 else 0x10000
  | some (.field _) =>
    if base = 0x1440 then 32 else if base = 0x2410 ∨ base = 0x2440 then 8 else if base = 0x2480 then 64 else 0x10000
  | some (.cluster _ c) =>
    if base = 0x2020 ∨ base = 0x2210 then mrCount c
    else if base = 0x2310 then sensorCount c
    else if base = 0x2410 ∨ base = 0x2440 ∨ base = 0x2480 then 1
    else 0x10000
  | none => 0x10000

/-- Objects at a station that hold no more than its kind has: an auxiliary rail has 4 phases, the paging record of a field
station has 6 subindices, and only a field station and the hub have a trace unit (R156, R196, R398). -/
def subExists (st idx sub : Nat) : Bool :=
  match addrStation st with
  | some .hub =>
    if (0x2588 ≤ idx ∧ idx < 0x2590) ∨ (0x25A8 ≤ idx ∧ idx < 0x25B0) then sub ≤ 4
    else true
  | some (.field _) => if idx = 0x1410 then sub ≤ 6 else true
  | some (.cluster _ _) => !(idx == 0x2460 || idx == 0x2461)
  | none => true

/-- The table line of an object at a station, where it exists. -/
def objRow (st idx sub : Nat) : Option ObjRow :=
  if 0x1310 < idx ∧ idx ≤ 0x1320 ∧ st = 0 then
    if sub = 0 then some ⟨1, 0x1310, 17, 0, 0, 1, .ro, 0, 0, 255⟩
    else if sub ≤ faultGroupMax (idx - 0x1310) then some ⟨1, 0x1310, 17, 1, 0xFF, 4, .rw, 0, 0, max32⟩
    else none
  else
    ((objPage idx).find? (fun r => r.covers (ownBit st) idx sub)).filter
      (fun r => decide (idx - r.base < unitLimit st r.base) && subExists st idx sub)

/-- The Wheel whose record holds an object (R31, R32). -/
def recordWheel (st idx sub : Nat) : Option WheelRef :=
  match addrStation st with
  | some .hub =>
    if idx = 0x2010 then some .die
    else if idx / 0x40 = 0x83 then some (.domain (Fin.ofNat 64 (idx % 0x40)))
    else if idx / 0x40 = 0x81 ∧ sub = 5 then some (.domain (Fin.ofNat 64 (idx % 0x40)))
    else none
  | some (.field f) => if idx = 0x2010 then some (.field f) else none
  | some (.cluster f c) =>
    if idx = 0x2010 then some (.cluster f c)
    else if 0x2020 ≤ idx ∧ idx < 0x2020 + mrCount c then some (.mr f c (Fin.ofNat 24 (idx - 0x2020)))
    else none
  | none => if 0x8000 ≤ st ∧ idx = 0x2010 then some (.group (Fin.ofNat 0x8000 (st - 0x8000))) else none

/-- Objects of a Wheel record that its level makes read-only (R33, R43), and those of a cluster task (R154). -/
def levelReadOnly (s : State) (st idx sub : Nat) : Bool :=
  (ownBit st == 4 && idx == 0x2480 && (sub == 3 || sub == 4 || sub == 6)) ||
  match recordWheel st idx sub with
  | some (.mr _ _ _) => sub == 4 || sub == 6 || sub == 7 || sub == 8
  | some .die => sub == 4
  | _ => false

/-- The carriers whose writes R416 limits: MCTP on PCIe and the window. -/
def hostCarrier (x : Session) : Bool := x.carrier == 2 || x.carrier == 3

/-- The writes R416 leaves to a host carrier. -/
def hostMayWrite (slot st idx sub : Nat) : Bool :=
  (st == 0 &&
    ((idx == 0x2A10 && 1 ≤ sub && sub ≤ 4) || (0x2A40 ≤ idx && idx ≤ 0x2A47 && 1 ≤ sub && sub ≤ 0x80) || (idx == 0x2B10 && 1 ≤ sub && sub ≤ 2)
      || (0x2B28 ≤ idx && idx ≤ 0x2B2F && 1 ≤ sub && sub ≤ 0x80) || (idx == 0x1410 && (sub == 7 || sub == 8 || sub == 0x0A))
      || (idx == 0x1120 + slot && sub == 4)))
    || (ownBit st == 2 && 0x2B90 ≤ idx && idx < 0x2BA0 && sub == 0x0E)
    || (ownBit st == 4 && idx == 0x2102 && sub == 0x0A)

/-- Whether a session lacks the right to a write (R416). -/
def State.denies (s : State) (slot : Slot) (st idx sub : Nat) : Bool :=
  hostCarrier (s.session slot)
    && (decide (s.rd hubSt O.HOST_WRITE ≠ 1) && !hostMayWrite slot.val st idx sub || (st == 0 && idx == 0x1110 && sub == 1))

/-- Whether the objects at an address lie inside a closed Rind (R346): those of a closed station, and of a cluster station
behind a closed field station; the load and task records of a closed engine, which a cluster engine serves again once its
self-test has passed (R148); the records of a closed converter or trace unit; the speed of a closed PMBus segment. An engine's own record, whose STATE shows the
block reset, and a segment's state lie outside (assumption 82). -/
def State.rindClosed (s : State) (st idx sub : Nat) : Bool :=
  let engShut (e : Nat) : Bool := let r : EngRec := tblGet {} s.engines e; r.closed && !(e < 152 && r.tested)
  let engine : Option Nat := if idx / 0x10 = 0x244 then some (idx % 0x10) else if 0x2480 ≤ idx ∧ idx < 0x2500 then some ((idx - 0x2480) / 8) else none
  let traced : Bool := idx == 0x2460 || idx == 0x2461
  s.rst.closedSt.contains st ||
  match addrStation st with
  | some .hub => (idx == 0x2600 && (sub == 1 || sub == 2) && (tblGet {} s.segs (sub - 1) : SegRec).closed)
    || engine.any (fun n => engShut (216 + n)) || (traced && (tblGet {} s.traces 8 : TraceRec).closed)
  | some (.field f) =>
    engine.any (fun n => engShut (152 + 8 * f.val + n)) || (traced && (tblGet {} s.traces f.val : TraceRec).closed)
      || (0x2710 ≤ idx && idx < 0x2770 && (tblGet {} s.adcs (f.val * 8 + idx % 0x10) : AdcRec).closed)
  | some (.cluster f c) => s.rst.closedSt.contains (fSt f) || engine.any (fun _ => engShut (gid f c))
  | none => false

/-- The objects that firmware serves: those of the in-service images, and FW_VERSION (R400). -/
def firmwareServed (st idx sub : Nat) : Bool :=
  st == 0 && (idx == 0x1500 || idx == 0x1510 || idx == 0x1520 || (idx == 0x1001 && sub == 6))
/-- Whether a request draws busy while the core is not up (R339); in BOOT_STATUS stage 5 the boot ROM serves 0x1500 and 0x1510 to
I3C sessions, and nothing else to any session (R434). -/
def State.coreBusy (s : State) (slot : Slot) (st idx sub : Nat) : Bool :=
  if s.rst.coreUp then false
  else if s.rst.boot.stage = 5 then !((s.session slot).carrier == 1 && st == 0 && (idx == 0x1500 || idx == 0x1510))
  else firmwareServed st idx sub

/-- The checks of R406 before the object is looked up. -/
def State.admitStation (s : State) (slot : Slot) (st idx sub : Nat) : Option Abort :=
  match addrStation st with
  | none =>
    if 0x8000 ≤ st ∧ (idx = 0x2011 ∨ s.groupExists st) then (if s.coreBusy slot st idx sub then some .busy else none)
    else some .unknownStation
  | some t =>
    if s.unreachable t then some .unreachable
    else if s.rindClosed st idx sub then some .blockReset
    else if s.coreBusy slot st idx sub then some .busy
    else none

/-- The stopped state that an RWS object asks of its owning Wheel (R12, R36). -/
def State.ownerStopped (s : State) (st : Nat) : Bool :=
  match addrStation st with
  | some (.cluster f c) => (s.cstate f c).isStopped
  | some (.field f) => (s.wstate (.field f)).isStopped
  | _ => (s.wstate .die).isStopped

/-- The checks of a write before its own rule, in the order of R406; `len` is the length written. -/
def State.admitWrite (s : State) (slot : Slot) (st idx sub len : Nat) : Option Abort :=
  if addrStation st = none ∧ ¬ (0x8000 ≤ st ∧ (idx = 0x2011 ∨ s.groupExists st)) then some .unknownStation
  else if s.denies slot st idx sub then some .denied
  else
    match s.admitStation slot st idx sub with
    | some a => some a
    | none =>
      match objRow st idx sub with
      | none => some .unknownObject
      | some r =>
        if r.access = .ro ∨ levelReadOnly s st idx sub then some .readOnly
        else if r.size ≠ 0 ∧ len ≠ r.size then some .length
        else if r.access = .rws ∧ !s.ownerStopped st then some .state
        else none

/-- The checks of a read, in the order of R406. -/
def State.admitRead (s : State) (slot : Slot) (st idx sub : Nat) : Option Abort :=
  match s.admitStation slot st idx sub with
  | some a => some a
  | none =>
    match objRow st idx sub with
    | none => some .unknownObject
    | some r => if r.access = .wo then some .writeOnly else none

/-- Storing a session's response. -/
def State.respond (s : State) (slot : Slot) (r : Response) : State :=
  s.putSession slot { s.session slot with resp := r }

/-- A refused request: its abort code in the response, every object as it was (R406). A denied write raises PHO_DENIED
(R417); a value refused whole logs CFG_RANGE at the holding station and sets REJECT in its Wheel record (R15, R34). -/
def State.refuse (s : State) (slot : Slot) (op st idx sub : Nat) (a : Abort) : State :=
  let s := s.respond slot { op := op, abort := abortCode a }
  match a with
  | .denied => s.raise F.PHO_DENIED hubSt 0 0
  | .value =>
    let holder := if 0x8000 ≤ st then hubSt else st
    let s := s.cfgRange holder
    match recordWheel st idx sub with
    | some w => s.putWheel w { s.wheel w with reject := true }
    | none => s
  | _ => s

/-- A request of a session is noted in LAST_ACTIVE (R420). -/
def State.touch (s : State) (slot : Slot) : State :=
  s.putSession slot { s.session slot with lastActive := (s.time hubSt) }

/-- What a request does once it is admitted: its state, and the abort it ends with, if any. -/
abbrev Action := State → State × Option Abort
/-- An effect as an action: a refusal by its own rule changes nothing. -/
def Effect.act (e : Effect) : Action := fun s =>
  match e s with
  | .ok t => (t, none)
  | .error a => (s, some a)

/-- Whether a session's requests reach the dictionary server: its slot is open (R401), no power-on or system reset stands, and an
MCTP session's endpoint runs (R408: on firmware, or for I3C on the boot ROM in stage 5). -/
def State.hears (s : State) (slot : Slot) : Bool :=
  let x := s.session slot
  x.isOpen && s.rst.held.isNone
    && (s.rst.coreUp || x.carrier == 0 || x.carrier == 3 || (x.carrier == 1 && s.rst.boot.stage == 5))
/-- The end of a request: its response, but for a write of RESET_CTRL that has reset the block. -/
def State.answer (s : State) (slot : Slot) (op st idx sub : Nat) (a : Option Abort) : State :=
  if idx = 0x1200 ∧ sub = 7 ∧ s.rst.held.isSome then s
  else
    match a with
    | none => s.respond slot { op := op }
    | some a => s.refuse slot op st idx sub a
/-- A request with its admission and its action; one that does not reach the server has no effect. -/
def State.requestA (s : State) (slot : Slot) (op st idx sub : Nat) (chk : State → Option Abort) (act : Action) : State :=
  if s.hears slot then
    let s := s.touch slot
    match chk s with
    | some a => s.refuse slot op st idx sub a
    | none => (act s).1.answer slot op st idx sub (act s).2
  else s
/-- A session's transfer in progress is completed with an abort; a window channel shows it in DICT_STATUS. -/
def State.abortXfer (s : State) (k : Slot) (a : Abort) : State :=
  let x := s.session k
  match x.xfer with
  | none => s
  | some t =>
    let p : Nat × Nat := match t with | .read _ _ => (0x04, 3) | .write _ _ _ => (0x06, 4)
    let s := s.putSession k { x with xfer := none, resp := { op := p.1, abort := abortCode a } }
    if h : 1 ≤ k.val ∧ k.val ≤ 4 then
      let ch : ChanId := ⟨k.val - 1, by omega⟩
      s.putChannel ch { s.channel ch with dictStatus := 3 * 2 ^ 28 + p.2 * 2 ^ 24 + abortCode a }
    else s
/-- Every transfer in progress to an address that `hit` names is completed with an abort. -/
def State.abortXfers (s : State) (hit : DictAddr → Bool) (a : Abort) : State :=
  allSlots.foldl (fun s k =>
    match (s.session k).xfer with
    | some (.read x _) => if hit x then s.abortXfer k a else s
    | some (.write x _ _) => if hit x then s.abortXfer k a else s
    | none => s) s
/-- Transfers in flight into a closed Rind end with the block-reset abort (R346 event 2). -/
def State.endClosed (s : State) : State :=
  s.abortXfers (fun x => s.rindClosed x.station.toNat x.index.toNat x.sub.toNat) .blockReset
/-- The block reset of a unit begins: its self-test is still to come (R346). -/
def State.beginTest (s : State) (u : BlkUnit) : State :=
  ({ s with rst := { s.rst with testing := s.rst.testing.filter (· != u) ++ [u] } }).endClosed
/-- A request with its effect. -/
def State.request (s : State) (slot : Slot) (op st idx sub : Nat) (chk : State → Option Abort) (eff : Effect) : State :=
  s.requestA slot op st idx sub chk eff.act

/-- A write of one object with its own effect (OP 0x02 of R403). -/
def State.writeReq (s : State) (slot : Slot) (st : Nat) (o : Obj) (len : Nat) (eff : Effect) : State :=
  s.request slot 0x02 st o.index o.sub (fun s => s.admitWrite slot st o.index o.sub len) eff
/-- FAST_ABORT of a window channel: the abort code of its last BIND_GO or PACE write (R413). -/
def State.noteFast (s : State) (slot : Slot) : State :=
  let x := s.session slot
  if s.hears slot ∧ x.carrier = 3 then s.putSession slot { x with fastAbort := x.resp.abort } else s

end Sys2Proof.Machine
end

