-- ==== Sys2Proof/Machine/Collector.lean ====
section
/-!
DEFINITION. The fault collector (chapter Fault Collection and Reaction): records, log, notifications, escalation,
clearing, and the target of an action.
-/
namespace Sys2Proof.Machine
open Sys2Proof

/-- A target of R364. -/
inductive Target
  | none
  | mr (f : FieldId) (c : ClusterId) (m : MrId)
  | cluster (f : FieldId) (c : ClusterId)
  | domain (d : DomId)
  | field (f : FieldId)
  | fieldAux (f : FieldId)
  | rail (r : RailId)
  | phase (r : RailId) (p : PhaseId)
  | converter (n : ConvId)
  | segment (k : SegId)
  | adc (f : FieldId) (q : AdcId)
  | engine (e : EngId)
deriving DecidableEq, Repr

/-- The engine of number `g` at a station (R122). -/
def stationEngine (st : Station) (g : Nat) : EngId :=
  match st with
  | .cluster f c => Fin.ofNat 232 (gid f c)
  | .field f => Fin.ofNat 232 (152 + 8 * f.val + g % 8)
  | .hub => Fin.ofNat 232 (216 + g % 16)

/-- The unit that a fault's identity names as contained (R361, R364, R367). A fault that a field station or the hub
raises about a cluster names it by its number in the field, or by its global cluster id. The fault of a cluster engine
contains its cluster. -/
def targetOf (id : FltId) : Target :=
  match addrStation id.station with
  | none => .none
  | some st =>
    let f : FieldId := st.fieldOf.getD 0
    match faultContained id.code with
    | .none => .none
    | .mr => match st with | .cluster f c => .mr f c (Fin.ofNat 24 id.item) | _ => .none
    | .cluster =>
      match st with
      | .cluster f c => .cluster f c
      | .field f => .cluster f (Fin.ofNat 19 id.item)
      | .hub => .cluster (Fin.ofNat 8 (id.item / 19)) (Fin.ofNat 19 (id.item % 19))
    | .domain => .domain (Fin.ofNat 64 id.item)
    | .field => .field (if st = .hub then Fin.ofNat 8 id.item else f)
    | .fieldAux => .fieldAux (if st = .hub then Fin.ofNat 8 id.item else f)
    | .rail => .rail (Fin.ofNat 16 id.item)
    | .phase => .phase (Fin.ofNat 16 (id.item / 256)) (Fin.ofNat 32 (id.item % 256))
    | .converter => .converter (Fin.ofNat 16 id.item)
    | .segment => .segment (Fin.ofNat 2 id.item)
    | .adc => .adc f (Fin.ofNat 5 id.item)
    | .engine => match st with | .cluster f c => .cluster f c | _ => .engine (stationEngine st id.item)

/-- The field that STOP shuts down, or none for the die (R365). -/
def stopScope (id : FltId) : Option FieldId :=
  match addrStation id.station with
  | some (.field f) => some f
  | some (.cluster f _) => some f
  | _ =>
    match targetOf id with
    | .mr f _ _ => some f
    | .cluster f _ => some f
    | .domain d => some (domField d)
    | .field f => some f
    | .fieldAux f => some f
    | .rail r => some (railField r)
    | .phase r _ => some (railField r)
    | .converter n => some (convField n)
    | .adc f _ => some f
    | .engine _ => none
    | .segment _ => none
    | .none =>
      if id.code = F.SEQ_DEP_OFF then some (domField (Fin.ofNat 64 id.item))
      else if id.code = F.DX_WARN then some (convField (Fin.ofNat 16 id.item))
      else if id.code = F.FLT_MSG_LOST then (addrStation id.item).bind Station.fieldOf
      else none

/-- A cluster is latched by the CONTAIN action (R259, R364). -/
def State.containedCl (s : State) (f : FieldId) (c : ClusterId) : Bool :=
  s.cstate f c == .latched && (s.wheel (.cluster f c)).contained
/-- Whether CONTAIN or STOP would find a target already isolated (R368 event 7, When faults meet). -/
def State.isolated (s : State) : Target → Bool
  | .mr f c m => s.wstate (.mr f c m) == .latched
  | .cluster f c => s.cstate f c == .latched && (isCompute c || s.containedCl f c)
  | .domain d => s.dstate d == .latched
  | .field f => s.wstate (.field f) == .latched
  | .fieldAux f => s.wstate (.field f) == .latched && s.dstate (fieldDomain f 7) == .latched
  | .rail r => if isFR r then s.wstate (.field (railField r)) == .latched else s.dstate (fieldDomain (railField r) 7) == .latched
  | .none => true
  | .phase r p => (tblGet {} s.phases (r.val * 0x20 + p.val) : PhaseRec).dropped != 0
  | .converter n => s.rd hubSt (O.DX_STATE.at n.val) == 4
  | .segment k => s.rst.contained.contains (.segment k)
  | .adc f q => (tblGet {} s.adcs (f.val * 8 + q.val) : AdcRec).failed
  | .engine e => s.rst.contained.contains (.engine e)

/-- Whether an action at a severity has anything to do (R363, R376 ACTED). -/
def State.actsOn (s : State) (id : FltId) (sev : Nat) : Bool :=
  if sev = 4 then !s.isolated (targetOf id)
  else if sev = 5 then
    match stopScope id with
    | some f => s.wstate (.field f) != .latched
    | none => allFields.any (fun f => s.wstate (.field f) != .latched)
  else false

/-! ### Log and notifications -/

/-- One entry of the log ring (R376). -/
def State.logEntry (s : State) (id : FltId) (kind sev data stnTime : Nat) : State :=
  let seq := s.rd hubSt O.LOG_NEXT
  let e : LogEntry := ⟨seq, id, kind, sev, data, stnTime, (s.time hubSt)⟩
  let s := s.wr hubSt O.LOG_NEXT ((seq + 1) % 2 ^ 32)
  if s.flt.log.length < 512 then { s with flt := { s.flt with log := s.flt.log ++ [e] } }
  else
    let s := s.inc32 hubSt O.LOG_LOST
    { s with flt := { s.flt with log := s.flt.log.drop 1 ++ [e] } }

/-- A record joins a session's queue; a full queue loses its oldest record (R407). -/
def noteQueue (x : Session) (n : Note) : Session :=
  if x.notes.length < 64 then { x with notes := x.notes ++ [n] }
  else { x with notes := x.notes.drop 1 ++ [n], noteLost := satAdd max32 x.noteLost 1, lostSince := satAdd max32 x.lostSince 1 }

/-- A notification for every open session whose NOTE_SEV admits the severity (R363, R407). -/
def State.notify (s : State) (kind sev : Nat) (id : FltId) (value stnTime : Nat) : State :=
  let n : Note := ⟨kind, sev, id.code, id.station, id.item, 0, value, stnTime, (s.time hubSt)⟩
  allSlots.foldl (fun s k =>
    let x := s.session k
    if x.isOpen ∧ x.noteSev ≠ 0 ∧ x.noteSev ≤ sev then s.putSession k (noteQueue x n) else s) s

/-- A record leaves a queue; when records were lost, one KIND 4 record then gives their number and PHO_NOTE_LOST is
raised (R407, R417). -/
def State.takeNote (s : State) (k : Slot) : State :=
  let x := s.session k
  let rest := x.notes.drop 1
  if x.lostSince = 0 ∨ x.notes = [] then s.putSession k { x with notes := rest }
  else
    let lost : Note := ⟨4, 0, 0, 0, 0, 0, x.lostSince, (s.time hubSt), (s.time hubSt)⟩
    (s.putSession k { x with notes := rest ++ [lost], lostSince := 0 }).raise F.PHO_NOTE_LOST hubSt 0 0

/-! ### Entering a raise -/

/-- SEV and WINDOW of a code's severity table (R379). -/
def State.sevOf (s : State) (code : Nat) : Nat := s.rdRaw hubSt (0x1310 + code / 256) (code % 256) / 2 ^ 29
def State.windowOf (s : State) (code : Nat) : Nat := s.rdRaw hubSt (0x1310 + code / 256) (code % 256) % 2 ^ 16

/-- An action is sent for a record at CONTAIN or STOP (R363). -/
def State.sendAction (s : State) (id : FltId) (sev : Nat) (body : FltId) (seq : Option Nat) : State :=
  if 4 ≤ sev ∧ ¬(sev = 4 ∧ targetOf id = .none) then
    { s with flt := { s.flt with actions := s.flt.actions ++ [⟨id, sev, body, seq⟩] } }
  else s

/-- The lowest slot of the set that holds no record. -/
def freeFltSlot (l : List FltRec) : Nat :=
  ((List.range 1024).find? (fun n => !l.any (fun r => r.slot == n))).getD 0

/-- The byte SEV of a log entry (R376). -/
def logSev (sev : Nat) (inj acted : Bool) : Nat := sev + flagAt inj 3 + flagAt acted 4

/-- A new record for a raise (R367, R370, R376). -/
def newRecord (s : State) (id : FltId) (slot sev window : Nat) (present inj : Bool) : FltRec :=
  { slot := slot, id := id, sev := sev, present := present, injected := inj, acted := false, count := 1,
    entryTime := (s.time hubSt), escDue := if window = 0 then 0 else ((s.time hubSt) + window * 1000000) % 2 ^ 64, window := window }

/-- The effects beside the record itself: log, notification, action. -/
def State.announce (s : State) (r : FltRec) (raised : FltId) (data stnTime : Nat) : State :=
  let seq := s.rd hubSt O.LOG_NEXT
  let s := s.logEntry r.id 0 (logSev r.sev r.injected r.acted) data stnTime
  let s := s.notify 1 r.sev r.id seq stnTime
  s.sendAction raised r.sev r.id (some seq)

/-- A raise joins an existing overflow record or the single record. -/
def joinOverflow (o : OvfRec) (id : FltId) (sev : Nat) : OvfRec :=
  { o with body := { o.body with sev := max o.body.sev sev, count := satAdd max32 o.body.count 1 }, raises := o.raises ++ [id] }
/-- A raise that joins a record is acted on at its own severity, or at that of a record that has escalated where it is higher (R367). -/
def State.joined (s : State) (o : OvfRec) (id : FltId) (sev stnTime : Nat) : State :=
  let sev := if o.up then max sev o.body.sev else sev
  (s.notify 1 sev o.body.id o.seq stnTime).sendAction id sev o.body.id none

/-- A raise with the set full: the overflow record of its code and station, a new one while fewer than 64 exist, else
the single record (R367). -/
def State.enterOverflow (s : State) (id : FltId) (data stnTime : Nat) (inj : Bool) : State :=
  let sev := s.sevOf id.code
  let oid : FltId := { id with item := 0xFFFE }
  let seq := s.rd hubSt O.LOG_NEXT
  match s.flt.overflow.find? (fun o => o.body.id == oid) with
  | some o =>
    let ovf := s.flt.overflow.map (fun (p : OvfRec) => if p.body.id = oid then joinOverflow p id sev else p)
    let s := { s with flt := { s.flt with overflow := ovf } }
    s.joined o id sev stnTime
  | none =>
    if s.flt.overflow.length < 64 then
      let n := ((List.range 64).find? (fun n => !s.flt.overflow.any (fun o => o.body.slot == 1024 + n))).getD 0
      let r := { newRecord s id (1024 + n) sev (s.windowOf id.code) false inj with id := oid }
      let o : OvfRec := { body := r, raises := [id], seq := seq }
      let s := { s with flt := { s.flt with overflow := s.flt.overflow ++ [o] } }
      s.announce r id data stnTime
    else
      match s.flt.single with
      | some o =>
        let s := { s with flt := { s.flt with single := some (joinOverflow o id sev) } }
        s.joined o id sev stnTime
      | none =>
        let r := { newRecord s id 1088 sev (s.windowOf id.code) false inj with id := ⟨0, 0, 0xFFFE⟩ }
        let o : OvfRec := { body := r, raises := [id], seq := seq }
        let s := { s with flt := { s.flt with single := some o } }
        s.announce r id data stnTime

/-- A raise enters a record of its own, or adds one to the record of its identity (R367). -/
def State.enterRaise (s : State) (id : FltId) (data stnTime : Nat) (inj : Bool) : State :=
  if s.flt.set.any (fun r => r.id == id) then
    { s with flt := { s.flt with set := s.flt.set.map (fun r =>
        if r.id = id then { r with count := satAdd max32 r.count 1, present := faultIsCondition id.code } else r) } }
  else if s.flt.set.length < 1024 then
    let r := newRecord s id (freeFltSlot s.flt.set) (s.sevOf id.code) (s.windowOf id.code) (faultIsCondition id.code) inj
    let s := { s with flt := { s.flt with set := s.flt.set ++ [r] } }
    s.announce r id data stnTime
  else s.enterOverflow id data stnTime inj

/-- Whether the collector holds a record that a raise of this identity would match (R367, R373). -/
def State.matched (s : State) (id : FltId) : Bool :=
  s.flt.set.any (fun r => r.id == id)
    || s.flt.overflow.any (fun o => o.raises.any (· == id)) || s.flt.single.any (fun o => o.raises.any (· == id))

/-! ### Clearing -/

/-- Whether a field of FLT_CLEAR matches (R371). -/
def clearMatches (want have_ : Nat) : Bool := want == 0xFFFF || want == have_
/-- Whether FLT_CLEAR names a record. -/
def clearNames (code st item : Nat) (r : FltRec) : Bool :=
  clearMatches code r.id.code && clearMatches st r.id.station && clearMatches item r.id.item
/-- Whether a named record may be cleared: an event always, a condition once it has ended (R371). -/
def clearable (r : FltRec) : Bool := !r.present

/-- Clearing a CFG_RANGE record ends REJECT at the station's Wheels, and at groups for the hub's (R457). -/
def State.endReject (s : State) (id : FltId) : State :=
  if id.code = F.CFG_RANGE then
    { s with wheels := (s.wheels.map (fun e =>
        let held : Bool :=
          if e.1 < 152 then id.station == 0x0100 + e.1 / 19 * 0x20 + e.1 % 19
          else if 0x100000 ≤ e.1 then id.station == 0x0100 + (e.1 - 0x100000) / 0x20 / 19 * 0x20 + (e.1 - 0x100000) / 0x20 % 19
          else if 0x2000 ≤ e.1 ∧ e.1 < 0x2008 then id.station == 0x0010 + (e.1 - 0x2000)
          else id.station == 0
        if held then (e.1, { e.2 with reject := false, refused := false }) else e)).filter (fun e => decide (e.2 ≠ ({} : WheelRec))) }
  else s

/-- A clear that names a cluster's station ends LATE at its Wheel (R34). -/
def State.clearLate (s : State) (st : Nat) : State :=
  s.regs.foldl (fun s e =>
    match addrStation (e.1 / 0x1000000) with
    | some (.cluster f c) =>
      if e.1 % 0x1000000 = rkey 0 O.LATE_COUNT.index O.LATE_COUNT.sub ∧ clearMatches st (clSt f c) then
        { s with loops := tblSet {} s.loops (gid f c) { (tblGet {} s.loops (gid f c) : LoopRec) with lateBase := e.2 } }
      else s
    | _ => s) s

/-- Clearing the named records (R371): each cleared record is logged with kind 2, and the session's FLT_RESULT says how
many were cleared and refused (R380). A CFG_RANGE that stands in the single record ends REJECT with that record's clear (R457). -/
def State.clearFaults (s : State) (slot : Slot) (code st item : Nat) : State :=
  let named := s.records.filter (clearNames code st item)
  let gone := named.filter clearable
  let kept := named.filter (fun r => !clearable r)
  let goes (r : FltRec) : Bool := clearNames code st item r && clearable r
  let inside := (s.flt.single.toList.filter (fun o => goes o.body)).flatMap OvfRec.raises
  let s := { s with flt := { s.flt with
    set := s.flt.set.filter (fun r => !goes r)
    overflow := s.flt.overflow.filter (fun o => !goes o.body)
    single := s.flt.single.filter (fun o => !goes o.body) } }
  let s := inside.foldl State.endReject s
  let s := gone.foldl (fun s r => (s.logEntry r.id 2 (logSev r.sev r.injected r.acted) 0 (s.time hubSt)).endReject r.id) s
  let res := (if named = [] then 1 else if kept = [] then 0 else 2) * 2 ^ 28 + gone.length % 4096 * 2 ^ 12 + kept.length % 4096
  (s.clearLate st).putSession slot { s.session slot with fltResult := res }

/-- Whether every record that names a target has been cleared (R38, R371). -/
def State.targetClear (s : State) (t : Target) : Bool :=
  !(s.flt.set.any (fun r => targetOf r.id == t)
    || s.flt.overflow.any (fun o => o.raises.any (fun i => targetOf i == t))
    || s.flt.single.any (fun o => o.raises.any (fun i => targetOf i == t)))

/-! ### ERR_N -/

/-- Whether ERR_N is low for a record at or above ERR_THRESH (R375). -/
def State.errDue (s : State) : Bool := s.records.any (fun r => s.rd hubSt O.ERR_THRESH ≤ r.sev)

end Sys2Proof.Machine
end

