-- ==== Sys2Proof/Machine/Power.lean ====
section
/-!
DEFINITION. What the chapters share of the power tree: unit records, capacities and limits (R19, R23, R44), the derating
of Wheels (R454), forced zeros (R259-R261), and a cluster's start, stop, park and latch.
-/
namespace Sys2Proof.Machine
open Sys2Proof

/-! ### Unit records -/

def State.cellsOf (s : State) (f : FieldId) (c : ClusterId) : CellsRec := tblGet {} s.cells (gid f c)
def State.putCells (s : State) (f : FieldId) (c : ClusterId) (r : CellsRec) : State :=
  { s with cells := tblSet {} s.cells (gid f c) r }
def sensorKey (f : FieldId) (c : ClusterId) (n : SensorId) : Nat := gid f c * 0x20 + n.val
def State.sensor (s : State) (f : FieldId) (c : ClusterId) (n : SensorId) : SensorRec := tblGet {} s.sensors (sensorKey f c n)
def State.putSensor (s : State) (f : FieldId) (c : ClusterId) (n : SensorId) (r : SensorRec) : State :=
  { s with sensors := tblSet {} s.sensors (sensorKey f c n) r }
def State.loop (s : State) (f : FieldId) (c : ClusterId) : LoopRec := tblGet {} s.loops (gid f c)
def State.putLoop (s : State) (f : FieldId) (c : ClusterId) (r : LoopRec) : State :=
  { s with loops := tblSet {} s.loops (gid f c) r }
def tileKey (f : FieldId) (t : TileId) : Nat := f.val * 16 + t.val
def State.tile (s : State) (f : FieldId) (t : TileId) : TileRec := tblGet {} s.tiles (tileKey f t)
def State.putTile (s : State) (f : FieldId) (t : TileId) (r : TileRec) : State :=
  { s with tiles := tblSet {} s.tiles (tileKey f t) r }
def State.rail (s : State) (r : RailId) : RailRec := tblGet {} s.rails r.val
def State.putRail (s : State) (r : RailId) (x : RailRec) : State := { s with rails := tblSet {} s.rails r.val x }
def phaseKey (r : RailId) (p : PhaseId) : Nat := r.val * 0x20 + p.val
def State.phase (s : State) (r : RailId) (p : PhaseId) : PhaseRec := tblGet {} s.phases (phaseKey r p)
def State.putPhase (s : State) (r : RailId) (p : PhaseId) (x : PhaseRec) : State :=
  { s with phases := tblSet {} s.phases (phaseKey r p) x }
def State.conv (s : State) (n : ConvId) : ConvRec := tblGet {} s.convs n.val
def State.putConv (s : State) (n : ConvId) (x : ConvRec) : State := { s with convs := tblSet {} s.convs n.val x }
def State.seg (s : State) (k : SegId) : SegRec := tblGet {} s.segs k.val
def State.putSeg (s : State) (k : SegId) (x : SegRec) : State := { s with segs := tblSet {} s.segs k.val x }
def State.arb (s : State) (f : FieldId) : ArbRec := tblGet {} s.arbs f.val
def State.putArb (s : State) (f : FieldId) (x : ArbRec) : State := { s with arbs := tblSet {} s.arbs f.val x }

/-- The MRs of a cluster. -/
def mrsOf (c : ClusterId) : List MrId := (List.finRange 24).filter (fun m => m.val < mrCount c)
/-- The sensors of a cluster. -/
def sensorsOf (c : ClusterId) : List SensorId := (List.finRange 32).filter (fun n => n.val < sensorCount c)
/-- The phases of a rail. -/
def phasesOf (r : RailId) : List PhaseId := (List.finRange 32).filter (fun p => p.val < phaseCount r)
/-- The service clusters C16-C18. -/
def serviceClusters : List ClusterId := [16, 17, 18]

/-! ### Capacities -/

/-- A fault has changed a field's capacity (R23, R28, R176, R190): CAPDROP at the field (R260), and the next die shares may
be marked (R269). -/
def State.capLost (s : State) (f : FieldId) : State :=
  let s : State := { s with budget := { s.budget with capFault := true } }
  s.putArb f { s.arb f with capDrop := true }

/-- An MR that counts as not retired: no CAUSE, and not LATCHED (R23, R364). -/
def State.mrLive (s : State) (f : FieldId) (c : ClusterId) (m : MrId) : Bool :=
  (s.mr f c m).cause == 0 && s.wstate (.mr f c m) != .latched
/-- n of R73: the MRs of a cluster not retired. -/
def State.activeMrs (s : State) (f : FieldId) (c : ClusterId) : Nat := ((mrsOf c).filter (s.mrLive f c)).length
/-- Whether a cluster is PARKED or LATCHED. -/
def State.clusterOut (s : State) (f : FieldId) (c : ClusterId) : Bool :=
  s.cstate f c == .parked || s.cstate f c == .latched
/-- Continuous capacity of a cluster as a member of its domain (R23). -/
def State.clusterCap (s : State) (f : FieldId) (c : ClusterId) : Nat :=
  if s.clusterOut f c then 0 else s.activeMrs f c * 7000
/-- Phases of a rail in the rotation: not dropped (R23, R167). -/
def State.railPhases (s : State) (r : RailId) : Nat := ((phasesOf r).filter (fun p => (s.phase r p).dropped == 0)).length
/-- ACTIVE_MR of a domain (R29). -/
def State.domActiveMr (s : State) (d : DomId) : Nat :=
  (domClusters d).foldl (fun a c => a + (if s.clusterOut (domField d) c then 0 else s.activeMrs (domField d) c)) 0
/-- ICAP_CONT of a domain (R23, R29). -/
def State.domCapCont (s : State) (d : DomId) : Nat :=
  if isAux d then s.railPhases (domRail d) * 40000 else s.domActiveMr d * 7000
/-- ICAP_PEAK of a domain (R23, R29). -/
def State.domCapPeak (s : State) (d : DomId) : Nat :=
  if isAux d then s.railPhases (domRail d) * 60000 else s.domActiveMr d * 10000
/-- PARKED_MASK of a domain (R29). -/
def State.domParkedMask (s : State) (d : DomId) : Nat :=
  (domClusters d).foldl (fun a c => a + (if s.clusterOut (domField d) c then 2 ^ c.val else 0)) 0

/-- The PMBus segment of a converter (R187). -/
def convSeg (n : ConvId) : SegId := Fin.ofNat 2 (n.val / 8)
/-- Whether a segment is stuck: PB0_STATE or PB1_STATE (R187), or held in reset for want of clock-good (R356). -/
def State.segStuck (s : State) (k : SegId) : Bool :=
  s.rd hubSt (if k = 0 then O.PB0_STATE else O.PB1_STATE) == 2 || bit s.rst.clkStuck (2 + k.val)
/-- Whether a converter counts as available under R19: DX_STATE 2 on a segment that is not stuck. -/
def State.convAvailable (s : State) (n : ConvId) : Bool :=
  s.rd hubSt (O.DX_STATE.at n.val) == 2 && !s.segStuck (convSeg n)
/-- The two converters of IBf (R17). -/
def fieldConvs (f : FieldId) : List ConvId := [Fin.ofNat 16 (2 * f.val), Fin.ofNat 16 (2 * f.val + 1)]
/-- DX_ACTIVE (R19, R29). -/
def State.dxActive (s : State) (f : FieldId) : Nat := ((fieldConvs f).filter s.convAvailable).length
/-- BUS_PMAX (R29). -/
def State.busPmax (s : State) (f : FieldId) : Nat := s.dxActive f * 1200000 * s.rd hubSt O.STAGE_EFF / 1000

/-! ### Groups and limits -/

/-- The groups that hold a Wheel as a direct member (PARENTS of R33). -/
def State.parents (s : State) (w : WheelRef) : List GroupRec := s.groups.filter (fun g => g.members.contains (wheelWord w))

/-- A member that gives its group no capacity: PARKED or LATCHED (R45). -/
def State.wheelOut (s : State) (w : WheelRef) : Bool := s.wstate w == .parked || s.wstate w == .latched

/-- Continuous capacity of a Wheel (R23, R44): `fuel` bounds the nesting of groups. -/
def State.wheelCap (s : State) (fuel : Nat) : WheelRef → Nat
  | .mr f c m => if s.mrLive f c m then 7000 else 0
  | .cluster f c => s.clusterCap f c
  | .domain d => s.domCapCont d
  | .field f => sumOf 8 (fun k => s.domCapCont (fieldDomain f k))
  | .die => sumOf 8 (fun f => sumOf 8 (fun k => s.domCapCont (fieldDomain (Fin.ofNat 8 f) k)))
  | .group a =>
    match fuel with
    | 0 => 0
    | n + 1 => (s.groupMembers (0x8000 + a.val)).foldl (fun acc w => acc + (if s.wheelOut w then 0 else s.wheelCap n w)) 0

/-- ILIMIT of a Wheel (R33). -/
def State.ilimit (s : State) (w : WheelRef) : Nat := s.rdRaw w.station w.index 8

/-- ILIMIT_EFF of a Wheel: the lowest of its own limit, its capacity, and the share of each group that holds it (R44,
R45). `fuel` bounds the nesting of groups, of which at most 256 exist (R42). -/
def State.limitEff (s : State) (fuel : Nat) (w : WheelRef) : Nat :=
  let own := min (s.ilimit w) (s.wheelCap 257 w)
  match fuel with
  | 0 => own
  | n + 1 =>
    (s.parents w).foldl (fun acc g =>
      let gw : WheelRef := .group (Fin.ofNat 0x8000 (g.addr - 0x8000))
      let total := s.wheelCap 257 gw
      let share := if total = 0 then 0 else if s.wheelOut w then 0 else s.limitEff n gw * s.wheelCap 257 w / total
      min acc share) own

/-- ILIMIT_EFF as its object reads: 7,000 at an MR (R33). -/
def State.ilimitEff (s : State) (w : WheelRef) : Nat :=
  match w with
  | .mr _ _ _ => 7000
  | _ => s.limitEff 257 w

/-! ### Derating (R454) -/

/-- The ceiling of R73 that a cluster sets. -/
def State.ceiling (s : State) (f : FieldId) (c : ClusterId) : Nat := s.rd (clSt f c) O.CEILING
/-- The lowest derate ceiling that acts on a tile (R73). -/
def State.derateCeiling (s : State) (f : FieldId) (t : TileId) : Nat :=
  serviceClusters.foldl (fun a c => min a (s.ceiling f c)) (s.ceiling f (tileCluster t))
/-- The hold ceiling that acts on a tile: 128 while its cluster or a service cluster of the field is HOLDING (R109). -/
def State.holdCeiling (s : State) (f : FieldId) (t : TileId) : Nat :=
  if s.cstate f (tileCluster t) == .holding || serviceClusters.any (fun c => s.cstate f c == .holding) then 128 else 256

/-- Whether a condition of R454 holds for a cluster. -/
def State.clusterReduced (s : State) (f : FieldId) (c : ClusterId) : Bool :=
  decide (s.activeMrs f c < mrCount c) || decide (s.ceiling f c < 256)

/-- Whether a condition of R454 holds for a domain. -/
def State.domainReduced (s : State) (d : DomId) : Bool :=
  let f := domField d
  if isAux d then (phasesOf (domRail d)).any (fun p => (s.phase (domRail d) p).dropped != 0 || (s.phase (domRail d) p).fallback)
  else
    (domClusters d).any (fun c =>
      (match s.cstate f c with | .derated | .holding | .parked | .latched => true | _ => false)
        || decide (s.activeMrs f c < mrCount c) || decide (s.ceiling f c < 256)
        || (isCompute c && decide (min (s.derateCeiling f (clusterTile c)) (s.holdCeiling f (clusterTile c)) < 256)))

/-- Whether a condition of R454 holds for a field. -/
def State.fieldReduced (s : State) (f : FieldId) : Bool :=
  decide (s.dxActive f < 2) || decide (s.railPhases (frRail f) < 32)
    || (phasesOf (frRail f)).any (fun p => (s.phase (frRail f) p).fallback)
    || (List.range 8).any (fun k => s.dstate (fieldDomain f k) == .derated)

/-- RUNNING and DERATED as R37 and R454 judge them; no other state moves. -/
def State.judge (s : State) (w : WheelRef) (reduced : Bool) : State :=
  match s.wstate w with
  | .running => if reduced then s.setWState w .derated else s
  | .derated => if reduced then s else s.setWState w .running
  | _ => s
def State.judgeDie (s : State) : State :=
  s.judge .die (allFields.any (fun f => s.wstate (.field f) == .derated))
def State.judgeField (s : State) (f : FieldId) : State := (s.judge (.field f) (s.fieldReduced f)).judgeDie
def State.judgeDomain (s : State) (d : DomId) : State :=
  (s.judge (.domain d) (s.domainReduced d)).judgeField (domField d)
/-- The judgements that follow a change at a cluster: itself, every domain of its field, the field and the die. -/
def State.judgeCluster (s : State) (f : FieldId) (c : ClusterId) : State :=
  let s := s.judge (.cluster f c) (s.clusterReduced f c)
  let s := if isCompute c then s.judge (.domain (clusterDomain f c)) (s.domainReduced (clusterDomain f c))
    else (List.range 7).foldl (fun s k => s.judge (.domain (fieldDomain f k)) (s.domainReduced (fieldDomain f k))) s
  s.judgeField f

/-! ### Forced zeros -/

/-- RAIL_STATE of a rail (R195). -/
def State.railState (s : State) (r : RailId) : Nat := s.rd hubSt (O.RAIL_STATE.at r.val)
/-- SHORT_STATE of a cluster (R86). -/
def State.shortState (s : State) (f : FieldId) (c : ClusterId) : Nat := s.rd (clSt f c) O.SHORT_STATE

/-- Reason 9 of R259 holds for the tiles of a cluster's field, or for its own tile. -/
def State.forced9 (s : State) (f : FieldId) (t : TileId) : Bool :=
  s.trip.state == 1 || s.trip.state == 2 || s.trip.state == 4
    || s.shortState f (tileCluster t) == 1 || serviceClusters.any (fun c => s.shortState f c == 1)
    || s.railState (frRail f) == 3 || s.railState (frRail f) == 4
    || (s.link (.cl f (tileCluster t))).failed || s.fieldCut f
    || (s.flt.stops.contains f.val && s.wstate (.field f) == .latched) || serviceClusters.any (s.containedCl f)
/-- Reason 10 of R259: the tile is fenced by the host or by the controller, or its cluster station has taken a block reset
(R346). -/
def State.forced10 (s : State) (f : FieldId) (t : TileId) : Bool :=
  (s.tile f t).fence || bit (s.rd (fSt f) O.FENCE_CTRL) t.val || (s.loop f (tileCluster t)).parkFor != .none
    || (s.wheel (.cluster f (tileCluster t))).parkCause == .blockReset
/-- Reason 11 of R259: the quadrant's domain is off, or the compute cluster does not regulate. -/
def State.forced11 (s : State) (f : FieldId) (t : TileId) : Bool :=
  let d := clusterDomain f (tileCluster t)
  (match s.dstate d with | .running | .derated | .holding => false | _ => true)
    || (match s.cstate f (tileCluster t) with | .running | .derated | .holding => false | _ => true)

/-- The lowest of the forced reasons that hold (R260). -/
def State.forcedReason (s : State) (f : FieldId) (t : TileId) : Option Nat :=
  if s.forced9 f t then some 9 else if s.forced10 f t then some 10 else if s.forced11 f t then some 11 else none

/-- The token word of R257. -/
def tokenWord (seq reason : Nat) (forced slowed : Bool) (code : Nat) : Nat :=
  seq % 256 * 2 ^ 24 + reason % 16 * 2 ^ 20 + flagAt forced 19 + flagAt slowed 18 + code % 512

/-- A word enters a tile's crossing (R56): into a free place; over the last word when the crossing is full and its code is
not higher; else it waits, and a later word supersedes it. -/
def pushWord (r : TileRec) (w : Nat) : TileRec :=
  if r.words.length < 4 then { r with words := r.words ++ [w], waiting := none }
  else if w % 512 ≤ (r.words.getLast?.getD 0) % 512 then { r with words := r.words.dropLast ++ [w], waiting := none }
  else { r with waiting := some w }

/-- The number of a field station's window in progress (R256). -/
def State.window (s : State) (f : FieldId) : Nat := (s.time (fSt f)) / 1000

/-- A forced cause sets a tile's code to 0 at once (R261): the code-0 word enters the crossing with FORCED set, and the
code restarts from 0. -/
def State.zeroTile (s : State) (f : FieldId) (t : TileId) : State :=
  match s.forcedReason f t with
  | none => s
  | some r =>
    let x := s.tile f t
    s.putTile f t { pushWord x (tokenWord (s.window f) r true false 0) with prev := 0, next := tokenWord 0 r false false 0, low := true }

/-- Forced zeros for every tile of a field. -/
def State.zeroField (s : State) (f : FieldId) : State := allTiles.foldl (fun s t => s.zeroTile f t) s
/-- Forced zeros that a cluster's event brings: its tile, or the field's tiles for a service cluster. -/
def State.zeroCluster (s : State) (f : FieldId) (c : ClusterId) : State :=
  if isCompute c then s.zeroTile f (clusterTile c) else s.zeroField f

/-! ### A cluster's target, cells and states -/

/-- LOOP_STATUS (R120), the DATA of group 0x04 (R376). -/
def State.loopStatus (s : State) (f : FieldId) (c : ClusterId) : Nat :=
  let x := s.loop f c
  let on := (s.cstate f c).isOn
  s.rd (clSt f c) O.WINNER % 8 * 2 ^ 29 + flagAt (s.cstate f c == .holding) 28 + flagAt (x.loss == 1) 27
    + flagAt (x.loss == 2) 26 + flagAt (x.loss == 3) 25
    + flagAt (on && decide (x.setNow ≠ 16 * s.rdRaw (clSt f c) 0x2010 4)) 24 + flagAt x.slot.isSome 23
    + flagAt x.parking.isSome 22 + flagAt x.uv 21 + flagAt (decide (0 < x.feTimer)) 20 + flagAt x.late 19 + x.uPrev % 2048
/-- A fault of group 0x04, which carries LOOP_STATUS. -/
def State.raiseLoop (s : State) (code : Nat) (f : FieldId) (c : ClusterId) : State :=
  s.raise code (clSt f c) 0 (s.loopStatus f c)

/-- A note of kind 3 for a session (R407). -/
def slewNote (s : State) (f : FieldId) (c : ClusterId) (w : Nat) : Note :=
  ⟨3, 0, 0, clSt f c, 0x2101, 0x0D, w, (s.time (clSt f c)), (s.time hubSt)⟩

/-- A target ends (R101): SLEW_ACK is written and queued to every session that wrote the Wheel since the previous end. -/
def State.endTarget (s : State) (f : FieldId) (c : ClusterId) (outcome : Nat) (extra : List Nat) : State :=
  let x := s.loop f c
  if x.open_ then
    let v := if outcome = 1 then s.rdRaw (clSt f c) 0x2010 4 else x.setNow / 16
    let w := outcome * 2 ^ 30 + x.targetSeq % 16384 * 2 ^ 16 + v % 2 ^ 16
    let s := s.wr (clSt f c) O.SLEW_ACK w
    let s := allSlots.foldl (fun s k =>
      if (s.session k).isOpen && (x.writers.contains k.val || extra.contains k.val) then
        s.putSession k (noteQueue (s.session k) (slewNote s f c w)) else s) s
    s.putLoop f c { x with open_ := false, writers := [] }
  else s

/-- The slot's contents become SETPOINT with no acknowledgement, for the next start (R103, R111). -/
def State.dropSlot (s : State) (f : FieldId) (c : ClusterId) : State :=
  match (s.loop f c).slot with
  | none => s
  | some w => (s.wrRaw (clSt f c) 0x2010 4 w.value).putLoop f c { s.loop f c with slot := none, targetSeq := w.seq }

/-- Every cell of a cluster turns off (R67); POS_NOW is 0 while the cells do not switch (R102). -/
def State.cellsOff (s : State) (f : FieldId) (c : ClusterId) : State :=
  let s := (mrsOf c).foldl (fun s m =>
    let r := s.mr f c m
    s.putMr f c m { r with cell := if r.cause = 0 then .off else .retired, limRun := 0, limAt := none, slot := 0, duty := 0, released := false }) s
  s.putLoop f c { s.loop f c with posNow := 0 }

/-- The cells of a cluster start in diode emulation with TRIM 0 (R61, R67). -/
def State.cellsStart (s : State) (f : FieldId) (c : ClusterId) : State :=
  let s := (mrsOf c).foldl (fun s m =>
    if s.mrLive f c m then (s.putMr f c m { s.mr f c m with cell := .starting, limRun := 0 }).wr (clSt f c) (O.MR_TRIM.at m.val) 0 else s) s
  s.putCells f c { s.cellsOf f c with rebuild := true }

/-- A cluster hiccup episode ends with the cells off: SHORT_STATE returns to 0 and the MRs' own counts are discarded
(R79). -/
def State.endEpisode (s : State) (f : FieldId) (c : ClusterId) : State :=
  let s := (mrsOf c).foldl (fun s m => s.putMr f c m { s.mr f c m with hiccups := 0, windowOpen := false, limRun := 0 }) s
  s.wr (clSt f c) O.SHORT_STATE 0

/-- FENCE_CTRL and FENCE_CAUSE of a tile whose cluster the controller parks (R289). -/
def State.fenceCtrl (s : State) (f : FieldId) (t : TileId) (cause : Nat) : State :=
  let m := s.rd (fSt f) O.FENCE_CTRL
  let s := s.wr (fSt f) O.FENCE_CTRL (if bit m t.val then m else m + 2 ^ t.val)
  s.wr (fSt f) (O.FENCE_CAUSE.at t.val) cause
/-- A controller fence is cleared when the cluster leaves PARKED or LATCHED (R289). -/
def State.unfenceCtrl (s : State) (f : FieldId) (c : ClusterId) : State :=
  if isCompute c then
    let t := clusterTile c
    let m := s.rd (fSt f) O.FENCE_CTRL
    let s := s.wr (fSt f) O.FENCE_CTRL (if bit m t.val then m - 2 ^ t.val else m)
    s.wr (fSt f) (O.FENCE_CAUSE.at t.val) (if (s.tile f t).fence then 1 else 0)
  else s

/-- FENCE_CAUSE of a park (R289). -/
def parkFence : ParkCause → Option Nat
  | .exhaust => some 2
  | .holdExpire => some 3
  | .implausible => some 4
  | .noSpare => some 5
  | _ => none

/-- A cluster enters PARKED: its ramp ends with OUTCOME 3, the cells turn off, its tile's code goes to 0 and its capacity
leaves its domain (R114, R101, R23). One that is LATCHED stays so: R37 lets only a Clear end it. -/
def State.parkCluster (s : State) (f : FieldId) (c : ClusterId) (cause : ParkCause) : State :=
  let s := (s.endTarget f c 3 []).dropSlot f c
  let s := s.cellsOff f c
  let s := if s.cstate f c = .latched then s else
    let s := s.setWState (.cluster f c) .parked
    s.putWheel (.cluster f c) { s.wheel (.cluster f c) with parkCause := cause }
  let s := s.putLoop f c { s.loop f c with parking := none, parkFor := .none, setNow := 0 }
  let s := if isCompute c then
      match parkFence cause with | some n => s.fenceCtrl f (clusterTile c) n | none => s
    else s
  let s := if cause = .command ∨ cause = .fence ∨ cause = .blockReset then s else s.capLost f
  (s.zeroCluster f c).judgeCluster f c

/-- The tile of a compute cluster is fenced by the host (R58). -/
def State.fenced (s : State) (f : FieldId) (c : ClusterId) : Bool := isCompute c && (s.tile f (clusterTile c)).fence
/-- A cluster that does not switch is parked for its tile's fence at once (R26, R112). -/
def State.fencePark (s : State) (f : FieldId) (c : ClusterId) : State := (s.parkCluster f c .fence).raiseLoop F.CL_FENCE f c
/-- A cluster reaches STOPPED (R37, R79, R331); one whose tile is fenced goes on to PARKED (R26, assumption 23). -/
def State.clusterStopped (s : State) (f : FieldId) (c : ClusterId) : State :=
  let s := (s.endTarget f c 3 []).dropSlot f c
  let s := s.cellsOff f c
  let s := if s.shortState f c = 1 then s.endEpisode f c else s
  let s := s.putLoop f c { s.loop f c with setNow := 0, parking := none, parkFor := .none, tripFall := false }
  let s := s.setWState (.cluster f c) .stopped
  if s.fenced f c then s.fencePark f c else s

/-- A cluster enters LATCHED with its cells off (R37, R109, R364). -/
def State.latchCluster (s : State) (f : FieldId) (c : ClusterId) : State :=
  let s := (s.endTarget f c 3 []).dropSlot f c
  let s := s.cellsOff f c
  let s := (s.setWState (.cluster f c) .latched).capLost f
  let s := s.putLoop f c { s.loop f c with parking := none, parkFor := .none, setNow := 0 }
  (s.zeroCluster f c).judgeCluster f c

/-! ### Retirement and derating -/

/-- CONTAIN at a cluster (R364). -/
def State.containCluster (s : State) (f : FieldId) (c : ClusterId) : State :=
  (s.putWheel (.cluster f c) { s.wheel (.cluster f c) with contained := true }).latchCluster f c
/-- The row of R73 for n MRs: 0 none, 1 ceiling, 2 exhausted. -/
def derateRow (c : ClusterId) (n : Nat) : Nat :=
  if isCompute c then (if 22 ≤ n then 0 else if 18 ≤ n then 1 else 2)
  else (if 14 ≤ n then 0 else if 10 ≤ n then 1 else 2)
/-- The ceiling of R73 for n MRs. -/
def derateCode (c : ClusterId) (n : Nat) : Nat :=
  match derateRow c n with
  | 0 => 256
  | 1 => 256 * n / (if isCompute c then 22 else 14)
  | _ => 0

/-- The ceiling and faults of R73 after a retirement or release, `before` being n before it. The park at exhaustion is
the caller's. The condition of CL_MR_DERATE holds until n is back in the row of 0 to 2 failures (assumption 51, the model's choice). -/
def State.applyCeiling (s : State) (f : FieldId) (c : ClusterId) (before : Nat) : State :=
  let n := s.activeMrs f c
  let s := s.wr (clSt f c) O.CEILING (derateCode c n)
  let s := if derateRow c n = 1 ∧ derateRow c before ≠ 1 then s.raise F.CL_MR_DERATE (clSt f c) 0 0 else s
  let s := if derateRow c n = 0 ∧ derateRow c before ≠ 0 then s.endCondition F.CL_MR_DERATE (clSt f c) 0 else s
  let s := if derateRow c n = 2 ∧ derateRow c before ≠ 2 then s.raise F.CL_MR_EXHAUST (clSt f c) 0 0 else s
  s.judgeCluster f c

/-- CELL's code (R87). -/
def Cell.code : Cell → Nat
  | .off => 0 | .starting => 1 | .switching => 2 | .hiccupOff => 3 | .restartRamp => 4 | .retired => 5 | .clusterHiccup => 6

/-- LIMNOW at a count: the last completed period was limited; a period lasts 7.107 ns to 7.179 ns (R59, R87). -/
def MrRec.limNow (r : MrRec) (now : Nat) : Bool := r.limAt.any (fun t => decide (now ≤ t + 7))
/-- A cell that issues pulses: it switches, with a code of 40 or more (R60, R64). -/
def MrRec.pulses (r : MrRec) : Bool :=
  (r.cell == .starting || r.cell == .switching || r.cell == .restartRamp) && decide (40 ≤ r.duty)
/-- The MR status word at a count of its station (R87). -/
def mrStatus (r : MrRec) (now : Nat) : Nat :=
  Cell.code r.cell * 2 ^ 29 + r.cause * 2 ^ 26 + flagAt (r.limNow now) 25 + flagAt r.trunc 24 + r.hiccups % 256 * 2 ^ 16
    + r.slot % 32 * 2 ^ 11 + r.duty % 2048

/-- An MR is retired (R72): its cell goes off, its Wheel enters PARKED, the map waits for a rebuild, and for CAUSE 1 and 2
its fault is raised with the status word as DATA (R376). -/
def State.retireMr (s : State) (f : FieldId) (c : ClusterId) (m : MrId) (cause : Nat) : State :=
  let before := s.activeMrs f c
  let code := if cause = 1 then F.MR_OC_RETIRE else if cause = 2 then F.MR_OPEN_RETIRE else 0
  let r := { s.mr f c m with cause := cause, cell := Cell.retired, limAt := none, limRun := 0, slot := 0, duty := 0, released := false }
  let s := s.putMr f c m r
  let s := s.setWState (.mr f c m) .parked
  let s := s.wr (clSt f c) (O.RETIRE_TIME.at m.val) (s.time (clSt f c))
  let s := s.wr (clSt f c) (O.RETIRE_FAULT.at m.val) code
  let s := if code = 0 then s else (s.raise code (clSt f c) m.val (mrStatus r (s.time (clSt f c)))).capLost f
  let s := s.putCells f c { s.cellsOf f c with rebuild := true }
  s.applyCeiling f c before

/-- Whether a cluster has to be parked for MR exhaustion (R73, R74). -/
def State.exhausted (s : State) (f : FieldId) (c : ClusterId) : Bool :=
  derateRow c (s.activeMrs f c) == 2 && !s.clusterOut f c

/-! ### A cluster's start -/

/-- A cluster enters STARTING (R328 steps 2 to 4): PRESET_MASK is retired from STOPPED, SET_NOW starts at the lower of MIN
and SETPOINT, POS_NOW at 0, and the cells start in diode emulation. From STOPPING the cells go on as they are. A cluster whose tile is
fenced is PARKED instead (R26). The code applied in the previous sample is 0 where the cells were off (the model's choice, assumption
100). -/
def State.clusterStart (s : State) (f : FieldId) (c : ClusterId) : State :=
  let st := s.cstate f c
  if s.fenced f c then s.fencePark f c else
  let s := s.setWState (.cluster f c) .starting
  let preset := s.rd (clSt f c) O.PRESET_MASK
  let s := if st = .stopped then
      (mrsOf c).foldl (fun s m => if bit preset m.val && s.mrLive f c m then s.retireMr f c m 4 else s) s
    else s
  let sp := s.rdRaw (clSt f c) 0x2010 4
  let x := s.loop f c
  let low := min (s.rd (clSt f c) O.MIN_NOW) sp * 16
  let s := s.putLoop f c { x with setNow := low, posNow := 0, open_ := true, tripFall := false, reseed := true,
                                  uPrev := if st = .stopping then x.uPrev else 0 }
  let s := if st = .stopping then s else s.cellsStart f c
  if s.exhausted f c then s.parkCluster f c .exhaust else s

end Sys2Proof.Machine
end

