-- ==== Sys2Proof/Machine/Sequencer.lean ====
section
/-!
DEFINITION. The sequencer (chapter Supplies, Start-Up and Domain Sequencing): requests and their checks, the order of
turn-on and turn-off, dependants, and the rails it starts and stops (R158-R185).
-/
namespace Sys2Proof.Machine
open Sys2Proof

/-! ### The reference of a rail -/

/-- Whether a rail switches: RAIL_STATE starting, regulating or hiccup restart (R195). -/
def State.railSwitching (s : State) (r : RailId) : Bool :=
  s.railState r == 1 || s.railState r == 2 || s.railState r == 4
/-- Whether a rail has been started and not been turned off or latched: also in hiccup off time and held by IBUS_UV (R195). -/
def State.railLive (s : State) (r : RailId) : Bool := s.railSwitching r || s.railState r == 3 || s.railState r == 6
/-- In regulation (R168). -/
def State.railUp (s : State) (r : RailId) : Bool := s.railState r == 2
/-- The Wheel of a rail: the field Wheel, or domain D(56 + a) (R170). -/
def railWheel (r : RailId) : WheelRef :=
  if isFR r then .field (railField r) else .domain (fieldDomain (railField r) 7)
/-- The rail's target (R168). -/
def State.railTarget (s : State) (r : RailId) : Nat :=
  if isFR r then s.rd (fSt (railField r)) O.W_SETPOINT else s.rd hubSt (O.VSET.at (56 + (railField r).val))
/-- V_FB in pV: the last remote reading, or on local sense the last local one less R_DROP × the rail current (R162, R184). -/
def State.vFb (s : State) (r : RailId) : Int :=
  let x := s.rail r
  if s.rd hubSt (O.SENSE_SRC.at r.val) = 0 then x.vfb * 500000000
  else x.vloc * 500000000 - s.rd hubSt (O.R_DROP.at r.val) * s.rd hubSt (O.I_RAIL.at r.val)
/-- The overvoltage threshold in pV (R168, R180): 1,980 mV, or 110 % of VSET. -/
def State.ovLevel (s : State) (r : RailId) : Int := if isFR r then 1980000000000 else s.railTarget r * 1100000000
/-- The reference without REF_TRIM, moving at SS_SLEW since its last change (R168, R169, R309). -/
def State.refNow (s : State) (r : RailId) : Nat :=
  let x := s.rail r
  let slew := s.rd hubSt (O.SS_SLEW.at r.val)
  let goal := if x.tripFall then 0 else s.railTarget r
  let moved := (if x.tripFall then max slew 1800 else slew) * ((s.time hubSt) - x.refAt) / 1000000
  if x.refFrom ≤ goal then min goal (x.refFrom + moved) else max goal (x.refFrom - moved)
/-- V_REFNOW (R168): the reference plus REF_TRIM within its limits, on an auxiliary rail about VSET as it moves to its new value (R169);
below its lower limit only on the ramp of a start and on the fall of a trip (assumption 79). The trim is added throughout a start too (the
model's choice, assumption 103). 0 while the rail does not switch. -/
def State.vRefNow (s : State) (r : RailId) : Nat :=
  if s.railSwitching r then
    let base := s.refNow r
    let trim := ofBits 16 (s.rd hubSt (O.REF_TRIM.at r.val))
    let lo : Int := if isFR r then 1780 else max 800 ((base : Int) - 20)
    let hi : Int := if isFR r then 1820 else min 1400 ((base : Int) + 20)
    if (s.railState r == 2 && !(s.rail r).tripFall) || base == s.railTarget r then (clampInt lo hi (base + trim)).toNat
    else (min hi (base + trim)).toNat
  else 0
/-- The reference starts again from its present value: before a new target or a new slew takes effect (R169). -/
def State.reanchor (s : State) (r : RailId) : State :=
  s.putRail r { s.rail r with refFrom := s.refNow r, refAt := (s.time hubSt) }

/-! ### Outputs of a rail -/

/-- Every PWM output of a rail at one level. -/
def State.pwmAll (s : State) (r : RailId) (l : Pwm) : State :=
  (phasesOf r).foldl (fun s p => s.putPhase r p { s.phase r p with pwm := l }) s
/-- A rail turns off or latches (R161, R331): PWM at mid level, and STG_EN falls 10 µs later. -/
def State.railOff (s : State) (r : RailId) (code : Nat) : State :=
  let s := (s.pwmAll r .mid).wr hubSt (O.RAIL_STATE.at r.val) code
  let x := s.rail r
  s.putRail r { x with
    lead := false, stgDrop := x.stgEn, refFrom := 0, refAt := s.time hubSt, tripFall := false, discharge := false
    held := 0, injNum := 0, injDen := 1, offAt := s.time hubSt, uvFrom := none, regFrom := none, snsFrom := none, ocPh := [], ocRun := 0 }
/-- The code of a rail's short, overvoltage and so on that differs by kind. -/
def railCode (r : RailId) (fr ax : Nat) : Nat := if isFR r then fr else ax

/-! ### Requirements and the edge check -/

/-- What a domain requires under R27, beside its supply. -/
def requires (d : DomId) : Option DomId :=
  if domKind d < 4 then some (fieldDomain (domField d) 4)
  else if domKind d = 5 then some (fieldDomain (domField d) 7)
  else none
/-- The domains that require a domain (R27). -/
def dependants (d : DomId) : List DomId :=
  if domKind d = 4 then (List.range 4).map (fun k => fieldDomain (domField d) k)
  else if domKind d = 7 then [fieldDomain (domField d) 5]
  else []
/-- The order of R325 in a field. -/
def fieldOrderOf (f : FieldId) : List DomId := [4, 7, 5, 6, 0, 1, 2, 3].map (fieldDomain f)
/-- The stages of a field turn-off (R332): the domains turned off together. -/
def offStage (f : FieldId) (n : Nat) : List DomId :=
  match n with
  | 0 => (List.range 4).map (fieldDomain f)
  | 1 => [fieldDomain f 6]
  | 2 => [fieldDomain f 5]
  | 3 => [fieldDomain f 7]
  | _ => [fieldDomain f 4]
/-- The edge neighbour of an inner field (R326). -/
def edgeOf (f : FieldId) : Option FieldId :=
  match f.val with | 1 => some 0 | 2 => some 3 | 5 => some 4 | 6 => some 7 | _ => none
/-- The edge condition of R326, or its waiver. -/
def State.edgeOk (s : State) (f : FieldId) : Bool :=
  match edgeOf f with
  | none => true
  | some e => bit (s.rd hubSt O.EDGE_WAIVE) f.val || (s.railUp (frRail e) && (s.dstate (fieldDomain e 4)).isUp)
/-- Every cluster of a domain is PARKED or LATCHED (code 8 of R323). -/
def State.allOut (s : State) (d : DomId) : Bool :=
  !isAux d && (domClusters d).all (fun c => s.clusterOut (domField d) c)
/-- The domains of a field that START_MASK sets (R325). -/
def State.startedDomains (s : State) (f : FieldId) : List DomId :=
  (fieldOrderOf f).filter (fun d => bit (s.rd hubSt O.START_MASK) d.val)
/-- A field that is on as a field turn-on leaves it. -/
def State.fieldOn (s : State) (f : FieldId) : Bool :=
  (s.wstate (.field f)).isUp && s.railUp (frRail f) && (s.startedDomains f).all (fun d => (s.dstate d).isUp)

/-! ### Jobs -/

/-- OP and TARGET of a request (R336). -/
def seqOp (t : SeqTarget) (on : Bool) : Nat :=
  (match t with | .domain _ => 1 | .field _ => 3 | .die => 5 | .restart => 0) + (if on then 0 else 1)
def seqNum : SeqTarget → Nat
  | .domain d => d.val
  | .field f => f.val
  | .die => 0
  | .restart => 0
/-- The result word of R337. -/
def seqWord (t : SeqTarget) (on : Bool) (code phase : Nat) : Nat :=
  code * 2 ^ 28 + seqOp t on * 2 ^ 24 + phase * 2 ^ 20 + seqNum t

/-- A result reaches SEQ_RESULT of the session that asked, while that request is its last (R335, R337). -/
def State.seqReport (s : State) (t : SeqTarget) (on : Bool) (o : SeqOrigin) (code phase : Nat) (first : Bool) : State :=
  match o with
  | .session n =>
    let old := (s.session n).seqResult
    let same := bits old 27 24 == seqOp t on && bits old 7 0 == seqNum t && 1 ≤ bits old 23 20 && bits old 23 20 ≤ 3
    if first || same then s.putSession n { s.session n with seqResult := seqWord t on code phase } else s
  | .parent => s
/-- REFUSALS counts requests refused or ending with codes 1 to 11 or 14 (R335). -/
def State.seqCount (s : State) (code : Nat) : State :=
  if (1 ≤ code ∧ code ≤ 11) ∨ code = 14 then s.inc32 hubSt O.REFUSALS else s

/-- The request in progress for a target. -/
def State.job (s : State) (t : SeqTarget) : Option SeqJob := s.seq.jobs.find? (fun j => j.target == t)
/-- Whether a turn-on of a domain is in progress. -/
def State.turningOn (s : State) (d : DomId) : Bool := (s.job (.domain d)).any SeqJob.on
/-- Replacing the request in progress of the same target. -/
def State.setJob (s : State) (j : SeqJob) : State :=
  { s with seq := { s.seq with jobs := s.seq.jobs.map (fun x => if x.target = j.target then j else x) } }
/-- A new request in progress. -/
def State.addJob (s : State) (j : SeqJob) : State := { s with seq := { s.seq with jobs := s.seq.jobs ++ [j] } }

/-- Whether a job runs a target as one of its parts. -/
def partOf (t : SeqTarget) (j : SeqJob) : Bool :=
  match t, j.target with
  | .domain d, .field _ => j.run.contains d.val
  | .domain d, .restart => j.run.contains d.val
  | .domain d, .domain _ => j.run.contains d.val
  | .field f, .die => j.run.contains f.val
  | _, _ => false
/-- A part of a job ends with a code (R325): the first failure is kept. -/
def partDone (n code : Nat) (j : SeqJob) : SeqJob :=
  let bad := !(code == 0 || code == 13)
  { j with run := j.run.filter (· != n), failed := if bad then j.failed ++ [n] else j.failed,
           fail := if bad && j.fail == 0 then code else j.fail }

/-- When the head of a field's new queue reached that place (R277). -/
def State.headSince (s : State) (f : FieldId) (q : List Nat) : Nat :=
  if q.head? = (s.arb f).queue.head? then (s.arb f).headAt else s.time (fSt f)
/-- A domain's reservation leaves the field's queue or its granted reservations (R276). -/
def State.unreserve (s : State) (d : DomId) : State :=
  let f := domField d
  let x := s.arb f
  let room := x.roomOn && x.queue.head? != some d.val
  let q := x.queue.filter (· != d.val)
  let at' := s.headSince f q
  let s := if x.roomOn && !room then s.wr (fSt f) O.C_ROOM 256 else s
  s.putArb f { x with
    queue := q, headAt := at', granted := x.granted.filter (· != d.val), amounts := tblErase x.amounts d.val
    roomOn := room }

/-- A request in progress ends with a code (R323): its result, its reservation on failure, and its parents. -/
def State.closeJob (s : State) (j : SeqJob) (code : Nat) : State :=
  let s : State := { s with seq := { s.seq with jobs := (s.seq.jobs.filter (fun (x : SeqJob) => x.target != j.target)).map (fun (x : SeqJob) =>
    if partOf j.target x then partDone (seqNum j.target) code x else x) } }
  let s := (s.seqReport j.target j.on j.origin code (if code = 0 ∨ code = 13 then 4 else 5) false).seqCount code
  match j.target with
  | .domain d => if j.on ∧ code ≠ 0 then s.unreserve d else s
  | _ => s
/-- Closing the turn-on of a domain where one is in progress. -/
def State.closeOn (s : State) (d : DomId) (code : Nat) : State :=
  match s.job (.domain d) with
  | some j => if j.on then s.closeJob j code else s
  | none => s
/-- A pending request ends. -/
def State.dropWaiting (s : State) (t : SeqTarget) (code : Nat) : State :=
  match s.seq.waiting.find? (fun j => j.target == t) with
  | none => s
  | some j =>
    let s := { s with seq := { s.seq with waiting := s.seq.waiting.filter (fun (x : SeqJob) => x.target != t) } }
    (s.seqReport t j.on j.origin code 5 false).seqCount code

/-! ### Domains falling -/

/-- A cluster enters STOPPING from its present SET_NOW, with any ramp ended by OUTCOME 3 (R37, R101, R331). -/
def State.clusterStop (s : State) (f : FieldId) (c : ClusterId) : State :=
  match s.cstate f c with
  | .starting | .running | .derated | .holding => ((s.endTarget f c 3 []).dropSlot f c).setWState (.cluster f c) .stopping
  | _ => s
/-- Every cluster of a domain enters STOPPING (R331 step 2). -/
def State.clustersStop (s : State) (d : DomId) : State :=
  (domClusters d).foldl (fun s c => s.clusterStop (domField d) c) s
/-- The tiles of a quadrant take a forced cause (R331 step 1). -/
def State.zeroDomain (s : State) (d : DomId) : State :=
  (domClusters d).foldl (fun s c => if isCompute c then s.zeroTile (domField d) (clusterTile c) else s) s
/-- A domain that is STOPPING is STOPPED when all its clusters are (R331 step 3). -/
def State.domainSettle (s : State) (d : DomId) : State :=
  if s.dstate d == .stopping && !isAux d && (domClusters d).all (fun c => (s.cstate (domField d) c).isStopped) then
    s.setWState (.domain d) .stopped
  else s
/-- The wait of a domain's turn-off, for STOP_DRAIN or for an auxiliary domain's dependants, begins or ends (R331). -/
def State.drainFrom (s : State) (d : DomId) : State :=
  { s with seq := { s.seq with drains := s.seq.drains.filter (·.1 != d.val) ++ [(d.val, s.time hubSt)] } }
def State.drainOver (s : State) (d : DomId) : State :=
  { s with seq := { s.seq with drains := s.seq.drains.filter (·.1 != d.val) } }
/-- A domain begins to fall: STOPPING, its tiles at code 0, its clusters falling or its rail off. -/
def State.domainFall (s : State) (d : DomId) : State :=
  let s := s.drainOver d
  let s := if (s.dstate d).isOn then s.setWState (.domain d) .stopping else s
  let s := s.zeroDomain d
  let s := if isAux d then (if s.railLive (domRail d) then s.railOff (domRail d) 0 else s) else s.clustersStop d
  (s.domainSettle d).judgeField (domField d)
/-- A domain turned off without a Stop request of its own (R333). -/
def State.dependantOff (s : State) (d : DomId) : State :=
  let s := s.closeOn d 5
  let s := match s.job (.domain d) with
    | some j => if j.on then s else s.setJob { j with step := .falling }
    | none => s
  if (s.dstate d).isOn then
    let s := if s.dstate d == .stopping then s else (s.raise F.SEQ_DEP_OFF hubSt d.val 0).inc32 hubSt O.DEP_OFFS
    s.domainFall d
  else s
/-- Every domain that requires a fallen one is turned off at once (R333). -/
def State.dependantsOff (s : State) (d : DomId) : State := (dependants d).foldl State.dependantOff s
/-- A domain turned off by a rule of the controller (R74, R111), its dependants first under R333. -/
def State.domainDown (s : State) (d : DomId) : State :=
  let s := (s.dependantsOff d).closeOn d 5
  if (s.dstate d).isOn then s.domainFall d else s
/-- A cluster starts under R328; a service cluster that its presets exhaust is parked, which turns its domain off (R73, R74). -/
def State.clusterBegin (s : State) (f : FieldId) (c : ClusterId) : State :=
  let s := s.clusterStart f c
  if s.cstate f c = .parked ∧ !isCompute c then s.domainDown (clusterDomain f c) else s
/-- A domain is latched off by a fault (R80, R328, R364): LATCH_CAUSE, its clusters turn off as in R331 with STOP_DRAIN
taken as 0, and its dependants follow R333. -/
def State.latchDomain (s : State) (d : DomId) (code : Nat) : State :=
  let s := s.closeOn d 11
  let s := s.domainFall d
  let s := (s.setWState (.domain d) .latched).wr hubSt (O.LATCH_CAUSE.at d.val) code
  let s := if isAux d then s.wr hubSt (O.RAIL_STATE.at (domRail d).val) 5 else s
  let s := (s.zeroDomain d).dependantsOff d
  s.judgeField (domField d)
/-- The loss of a field rail counts as the fall of every domain of the field (R333). -/
def State.fieldRailLost (s : State) (f : FieldId) : State := (fieldOrderOf f).foldl State.dependantOff s

/-! ### Rails latching and starting -/

/-- A rail's Wheel is latched for a fault, with what R170 and R333 take down. -/
def State.latchRail (s : State) (r : RailId) (code : Nat) : State :=
  if isFR r then
    let f := railField r
    let s := (s.setWState (.field f) .latched).fieldRailLost f
    (s.zeroField f).judgeDie
  else s.latchDomain (fieldDomain (railField r) 7) code
/-- An overvoltage (R180): every PWM output low for 100 µs, FR_OV or AX_OV, and the Wheel latched. -/
def State.railOv (s : State) (r : RailId) : State :=
  let code := railCode r F.FR_OV F.AX_OV
  let s := (s.latchRail r code).railOff r 5
  let s := s.pwmAll r .low
  let x := s.rail r
  let s := s.putRail r { x with discharge := true, stgDrop := false, ovAt := s.time hubSt }
  s.raise code hubSt r.val 0
/-- A rail starts (R168): STG_EN high, and V_REFNOW at the lower of V_FB and the target; refused at or above the
overvoltage threshold, and held while the condition of IBUS_UV stands (R182). `code` is RAIL_STATE 1, or 4 after a hiccup. -/
def State.railStart (s : State) (r : RailId) (code : Nat) : State :=
  let v := s.vFb r
  if (s.rail r).ibLow then s.wr hubSt (O.RAIL_STATE.at r.val) 6
  else if s.ovLevel r ≤ v then s.railOv r
  else
    let s := s.wr hubSt (O.RAIL_STATE.at r.val) code
    let x := s.rail r
    s.putRail r { x with
      stgEn := true, stgDrop := false, lead := x.stgEn && x.lead, stgAt := if x.stgEn then x.stgAt else s.time hubSt
      refFrom := min (v / 1000000000).toNat (s.railTarget r), refAt := s.time hubSt, startAt := s.time hubSt
      tripFall := false, discharge := false, stgFlt := false, uvFrom := none, regFrom := none, snsFrom := none, ocPh := [], ocRun := 0 }

/-! ### Checks of R323 -/

/-- The checks that every turn-on meets: codes 1 to 3. -/
def State.checkCommon (s : State) : Nat :=
  if !s.seq.armed then 1
  else if s.trip.state = 1 ∨ s.trip.state = 2 ∨ s.trip.state = 4 ∨ s.trip.pending ∨ s.trip.locked then 2
  else if !s.supply.vio18 then 3
  else 0
/-- The checks of a turn-on, in the order of the table of R323. -/
def State.checkOn (s : State) (t : SeqTarget) : Nat :=
  let common := s.checkCommon
  if common ≠ 0 then common
  else
    match t with
    | .domain d =>
      let f := domField d
      if !s.railUp (frRail f) || s.dxActive f == 0 then 4
      else if (requires d).any (fun e => !(s.dstate e).isUp) then 5
      else if !s.edgeOk f then 6
      else if s.dstate d == .latched then 7
      else if s.allOut d then 8
      else if (s.dstate d).isUp then 13
      else 0
    | .field f =>
      if !s.edgeOk f then 6
      else if s.wstate (.field f) == .latched then 7
      else if s.fieldOn f then 13
      else 0
    | .die => if s.wstate .die == .latched then 7 else if allFields.all s.fieldOn then 13 else 0
    | .restart => 0
/-- Whether a field's converters are driven: DX_STATE 1, 2 or 3. -/
def State.dxDriven (s : State) (f : FieldId) : Bool :=
  (fieldConvs f).any (fun n => let x := s.rd hubSt (O.DX_STATE.at n.val); x == 1 || x == 2 || x == 3)
/-- Whether nothing of a field is left for a turn-off. -/
def State.fieldIsOff (s : State) (f : FieldId) : Bool :=
  (s.wstate (.field f)).isStopped && (fieldOrderOf f).all (fun d => (s.dstate d).isStopped && !s.turningOn d)
    && !s.railLive (frRail f) && !s.dxDriven f
/-- The check of a turn-off: before the first configured state every request is refused (R322); already in the requested state, or
accepted. -/
def State.checkOff (s : State) (t : SeqTarget) : Nat :=
  if !s.rst.configured then 1 else
  match t with
  | .domain d => if (s.dstate d).isStopped && !s.turningOn d then 13 else 0
  | .field f => if s.fieldIsOff f && (s.job (.field f)).isNone then 13 else 0
  | .die => if allFields.all s.fieldIsOff then 13 else 0
  | .restart => 0

/-! ### Beginning a request -/

/-- The enable of a converter rises (R186): DX_STATE 1; without first contact, one is made after START_TIME (R456). -/
def State.dxRaise (s : State) (n : ConvId) : State :=
  let x := s.conv n
  (s.wr hubSt (O.DX_STATE.at n.val) 1).putConv n { x with
    enable := true, enAt := s.time hubSt, contactDue := !x.contacted, due := [], polling := false, restoring := false, failRun := 0 }
/-- A converter that may be enabled is (R186, R198). -/
def State.dxEnable (s : State) (n : ConvId) : State :=
  let st := s.rd hubSt (O.DX_STATE.at n.val)
  if st = 0 ∨ st = 5 then s.dxRaise n else s
/-- The transaction in progress on a segment has ended or is dropped, and a pass-through that waits for it is next (R193). -/
def State.passNext (s : State) (k : SegId) : State :=
  { s with pass := s.pass.map (fun q => if convSeg (Fin.ofNat 16 q.conv) = k then { q with behind := false } else q) }
/-- The enable of a converter falls, with a new DX_STATE; nothing more is read from it (R456). -/
def State.dxDisable (s : State) (n : ConvId) (st : Nat) : State :=
  let s := if (s.conv n).due = [] then s else s.passNext (convSeg n)
  (s.wr hubSt (O.DX_STATE.at n.val) st).putConv n { s.conv n with enable := false, contactDue := false, due := [], polling := false }

/-- Where a new request starts. -/
def firstStep (t : SeqTarget) (on : Bool) : SeqStep :=
  match t, on with
  | .domain _, true => .reserving
  | .domain _, false => .dependants
  | .field _, true => .converters
  | .field _, false => .domains
  | .die, _ => .fields
  | .restart, _ => .domains
/-- A request becomes the one in progress. -/
def State.beginJob (s : State) (t : SeqTarget) (on : Bool) (o : SeqOrigin) (keepDx first : Bool) : State :=
  let j : SeqJob := { target := t, on := on, origin := o, step := firstStep t on, keepDx := keepDx }
  match t with
  | .domain d =>
    if on then (s.addJob j).seqReport t on o 0 2 first
    else
      let deps := (dependants d).filter (fun e => !(s.dstate e).isStopped || s.turningOn e)
      let s := ((s.addJob { j with rest := deps.map Fin.val }).seqReport t on o 0 3 first).drainFrom d
      if (s.dstate d).isOn then ((s.setWState (.domain d) .stopping).zeroDomain d).judgeField (domField d) else s
  | .field f =>
    let s := s.seqReport t on o 0 3 first
    if on then
      let s := s.addJob { j with rest := (s.startedDomains f).map Fin.val }
      let s := match s.wstate (.field f) with
        | .stopped | .stopping => s.setWState (.field f) .starting
        | _ => s
      let s := { s with seq := { s.seq with dxDrop := s.seq.dxDrop.filter (· != f.val) } }
      (fieldConvs f).foldl State.dxEnable s
    else
      let s := s.addJob { j with rest := [0, 1, 2, 3, 4] }
      if (s.wstate (.field f)).isOn then (s.setWState (.field f) .stopping).judgeDie else s
  | .die =>
    let s := s.seqReport t on o 0 3 first
    let s := s.addJob { j with rest := if on then s.seq.fieldOrder else List.range 8 }
    if on then
      match s.wstate .die with
      | .stopped | .stopping => s.setWState .die .starting
      | _ => s
    else if (s.wstate .die).isOn then s.setWState .die .stopping else s
  | .restart => s.addJob j

/-- A request reaches the sequencer (R323, R324): refused with its code; pending behind one of the same direction; or in
progress at once, an opposite one ending with code 12. `first` for a new request, whose result is the session's last (R335). -/
def State.submitAs (s : State) (t : SeqTarget) (on : Bool) (o : SeqOrigin) (keepDx first : Bool) : State × Nat :=
  let code := if on then s.checkOn t else s.checkOff t
  if code ≠ 0 then ((s.seqReport t on o code (if code = 13 then 4 else 5) first).seqCount code, code)
  else
    let s := s.dropWaiting t 12
    match s.job t with
    | none => (s.beginJob t on o keepDx first, 0)
    | some j =>
      if j.on = on then
        let w : SeqJob := { target := t, on := on, origin := o, step := firstStep t on, keepDx := keepDx }
        let s := { s with seq := { s.seq with waiting := s.seq.waiting ++ [w] } }
        (s.seqReport t on o 0 1 first, 0)
      else ((s.closeJob j 12).beginJob t on o keepDx first, 0)
/-- A new request. -/
def State.submit (s : State) (t : SeqTarget) (on : Bool) (o : SeqOrigin) (keepDx : Bool) : State × Nat := s.submitAs t on o keepDx true
/-- A part of a sequence is requested: it is in progress, or its code is the part's end. -/
def State.startPart (s : State) (j : SeqJob) (t : SeqTarget) (n : Nat) : State :=
  let j := { j with rest := j.rest.filter (· != n), run := j.run ++ [n] }
  let s := s.setJob j
  let r := s.submit t j.on .parent j.keepDx
  if r.2 = 0 then r.1 else r.1.setJob (partDone n r.2 j)
/-- The next domain of a field turn-on or a restart (R325): one that requires a failed domain is skipped. -/
def State.nextDomain (s : State) (j : SeqJob) (n : Nat) : State :=
  let d : DomId := Fin.ofNat 64 n
  if (requires d).any (fun e => j.failed.contains e.val) then
    s.setJob { j with rest := j.rest.filter (· != n), failed := j.failed ++ [n] }
  else s.startPart j (.domain d) n
/-- The next stage of a field turn-off (R332). -/
def State.nextStage (s : State) (f : FieldId) (j : SeqJob) (n : Nat) : State :=
  let s := s.setJob { j with rest := j.rest.filter (· != n) }
  (offStage f n).foldl (fun s d =>
    match s.job (.field f) with
    | some k => s.startPart k (.domain d) d.val
    | none => s) s
/-- The end of a field turn-off: the rail goes to mid level, and the enables follow (R332 steps 3 and 4). -/
def State.fieldRailDown (s : State) (f : FieldId) (j : SeqJob) : State :=
  let r := frRail f
  let s := s.fieldRailLost f
  let s := if s.railLive r then s.railOff r (if s.wstate (.field f) = .latched then 5 else 0)
    else if s.wstate (.field f) == .stopping then s.setWState (.field f) .stopped else s
  let s := if j.keepDx ∨ !s.dxDriven f then s else { s with seq := { s.seq with dxDrop := s.seq.dxDrop ++ [f.val] } }
  s.setJob { j with step := .falling }

/-- One advance of a request in progress, or none where it waits for an event. -/
def State.driveJob (s : State) (j : SeqJob) : Option State :=
  match j.target, j.on, j.step with
  | .domain d, false, .dependants =>
    match j.rest with
    | n :: _ => some (s.startPart j (.domain (Fin.ofNat 64 n)) n)
    | [] =>
      if j.run ≠ [] then none
      else if (s.dstate d).isStopped then some (s.closeJob j 0)
      else if isAux d then some ((s.setJob { j with step := .falling }).domainFall d)
      else some (s.setJob { j with step := .draining })
  | .domain d, false, .falling => if (s.dstate d).isStopped then some (s.closeJob j 0) else none
  | .domain d, true, .ramping =>
    if isAux d ∧ s.railState (domRail d) = 5 then some (s.closeJob j 11) else none
  | .field f, true, .converters =>
    if s.railUp (frRail f) then some (s.setJob { j with step := .rail })
    else if 0 < s.dxActive f then
      if s.railLive (frRail f) then some (s.setJob { j with step := .rail })
      else some ((s.setJob { j with step := .rail }).railStart (frRail f) 1)
    else if (fieldConvs f).any (fun n => s.rd hubSt (O.DX_STATE.at n.val) == 1) then none
    else
      let s := if s.wstate (.field f) == .starting then s.setWState (.field f) .stopped else s
      some (s.closeJob j 14)
  | .field f, true, .rail =>
    if s.railUp (frRail f) then
      let s := if s.wstate (.field f) == .starting then (s.setWState (.field f) .running).judgeField f else s
      some (s.setJob { j with step := .domains })
    else if s.railLive (frRail f) then none
    else some (s.closeJob j 11)
  | .field _, true, .domains =>
    if j.run ≠ [] then none
    else match j.rest with
      | n :: _ => some (s.nextDomain j n)
      | [] => some (s.closeJob j j.fail)
  | .field f, false, .domains =>
    if j.run ≠ [] then none
    else match j.rest with
      | n :: _ => some (s.nextStage f j n)
      | [] => some (s.fieldRailDown f j)
  | .field f, false, .falling =>
    if (s.wstate (.field f)).isStopped && !s.railSwitching (frRail f) && !s.seq.dxDrop.contains f.val then
      some (s.closeJob j 0)
    else none
  | .die, true, .fields =>
    match j.rest with
    | n :: _ =>
      let f : FieldId := Fin.ofNat 8 n
      let held : Bool := match edgeOf f with
        | none => false
        | some e => !bit (s.rd hubSt O.EDGE_WAIVE) n && (j.rest.contains e.val || j.run.contains e.val)
      if held ∨ s.rd hubSt O.SEQ_PARALLEL ≤ j.run.length then none else some (s.startPart j (.field f) n)
    | [] =>
      if j.run ≠ [] then none
      else
        let s := if s.wstate .die == .starting then
            (if allFields.any (fun f => (s.wstate (.field f)).isUp) then (s.setWState .die .running).judgeDie
             else s.setWState .die .stopped)
          else s
        some (s.closeJob j j.fail)
  | .die, false, .fields =>
    match j.rest with
    | n :: _ => some (s.startPart j (.field (Fin.ofNat 8 n)) n)
    | [] =>
      if j.run ≠ [] then none
      else
        let s := if s.wstate .die == .stopping then s.setWState .die .stopped else s
        some (s.closeJob j 0)
  | .restart, _, _ =>
    if j.run ≠ [] then none
    else match j.rest with
      | n :: _ => some (s.nextDomain j n)
      | [] => some (s.closeJob j j.fail)
  | _, _, _ => none

/-- A pending request whose target has none in progress is checked again and begins (R324). -/
def State.promote (s : State) : Option State :=
  match s.seq.waiting.find? (fun j => (s.job j.target).isNone) with
  | none => none
  | some j =>
    let s := { s with seq := { s.seq with waiting := s.seq.waiting.filter (fun x => x.target != j.target) } }
    some (s.submitAs j.target j.on j.origin j.keepDx false).1

/-- The first job of a list that advances. -/
def State.driveFirst (s : State) (l : List SeqJob) : Option State :=
  match l with
  | [] => none
  | j :: r => match s.driveJob j with | some t => some t | none => s.driveFirst r

/-- An auxiliary domain whose Stop was accepted, and withdrawn by a Start while its dependants were falling, falls once they are off
(R331): the Start waits for its reservation meanwhile. -/
def State.auxDue (s : State) : Option DomId :=
  ((s.seq.drains.map (fun x => (Fin.ofNat 64 x.1 : DomId))).filter isAux).find? (fun d =>
    s.dstate d == .stopping && (s.job (.domain d)).all SeqJob.on
      && (dependants d).all (fun e => (s.dstate e).isStopped && !s.turningOn e))
/-- The requests in progress advance as far as the state lets them: at most `fuel` advances. -/
def State.driveN (s : State) (fuel : Nat) : State :=
  match fuel with
  | 0 => s
  | n + 1 =>
    match s.driveFirst s.seq.jobs with
    | some t => t.driveN n
    | none =>
      match s.auxDue with
      | some d => (s.domainFall d).driveN n
      | none =>
        match s.promote with
        | some t => t.driveN n
        | none => s
/-- The sequencer after an event. One command moves at most 8 fields through a few stages each. -/
def State.drive (s : State) : State := s.driveN 400

/-- A domain's turn-on completes (R328, R329): its Wheel is up, ON_TIME is taken, and the request ends with code 0. -/
def State.domainDone (s : State) (d : DomId) : State :=
  match s.job (.domain d) with
  | none => s
  | some j =>
    if j.on && j.step == .ramping then
      let s := (s.setWState (.domain d) .running).wr hubSt (O.ON_TIME.at d.val) (s.time hubSt)
      (s.judgeDomain d).closeJob j 0
    else s

/-- R179's bound on the retry window of a rail: too short for the hiccups it may hold. -/
def railRetryBad (limit off slew window target : Nat) : Bool :=
  window * slew < limit * ((off + 10000) * slew + target * 1000000)
/-- The bound with the rail's own figures and a target. -/
def State.railRetryFails (s : State) (r : RailId) (target : Nat) : Bool :=
  railRetryBad (s.rd hubSt (O.RAIL_HICCUP_LIMIT.at r.val)) (s.rd hubSt (O.RAIL_HICCUP_OFF.at r.val))
    (s.rd hubSt (O.SS_SLEW.at r.val)) (s.rd hubSt (O.RAIL_RETRY_WINDOW.at r.val)) target

/-! ### Stops of a field or the die -/

/-- CONTAIN of a field, or STOP (R364, R365): the field Wheel is latched, and its domains turn off in the order of
R332. -/
def State.containField (s : State) (f : FieldId) (keepDx : Bool) : State :=
  let s := s.setWState (.field f) .latched
  let s := (s.submit (.field f) false .parent keepDx).1
  (s.zeroField f).judgeDie

end Sys2Proof.Machine
end

