-- ==== Sys2Proof/Machine/Loss.lean ====
section
/-!
DEFINITION. Sensors in use and the loss of a cluster's feedback: the entry to HOLDING, or LATCHED from STARTING (R84,
R109), and the beginning of a park under R114.
-/
namespace Sys2Proof.Machine
open Sys2Proof

/-- Whether a cell issues pulses (R64, R68). -/
def Cell.switches : Cell → Bool
  | .starting | .switching | .restartRamp => true
  | _ => false

/-- A sensor is unmasked: enabled and not masked automatically (R82). -/
def State.sensorLive (s : State) (f : FieldId) (c : ClusterId) (n : SensorId) : Bool :=
  bit (s.rd (clSt f c) O.ENABLE_MASK) n.val && !bit (s.rd (clSt f c) O.MASKED_MASK) n.val
/-- More than one quarter of the sensors are masked (R84). -/
def State.sensorsMany (s : State) (f : FieldId) (c : ClusterId) : Bool :=
  decide (sensorCount c / 4 < countOf (sensorCount c) (bit (s.rd (clSt f c) O.MASKED_MASK)))
/-- Fewer unmasked sensors than R84 asks: 4 in a compute cluster, 2 in a service cluster. -/
def State.sensorsFew (s : State) (f : FieldId) (c : ClusterId) : Bool :=
  decide (((sensorsOf c).filter (s.sensorLive f c)).length < (if isCompute c then 4 else 2))

/-- H before clipping: the mean of the codes applied in the 16 samples before detection, to the nearest code (R109). -/
def holdMeanOf (w : List Nat) : Nat :=
  if w = [] then 0 else divRound (w.foldl (· + ·) 0) w.length

/-- Feedback is lost or frozen (R109): HOLDING from RUNNING or DERATED, LATCHED from STARTING. `cause` is 1 frozen,
2 a check of R104, 3 sensors. -/
def State.feedbackLost (s : State) (f : FieldId) (c : ClusterId) (cause : Nat) : State :=
  let st := clSt f c
  let code := if cause = 1 then F.CL_FB_FROZEN else F.CL_FB_LOST
  match s.cstate f c with
  | .running | .derated =>
    let x := s.loop f c
    let prior := s.cstate f c
    let s := s.putLoop f c { x with holdMean := holdMeanOf x.codes, loss := cause, goodRun := 0, holdAt := s.time st,
                                    heldWriters := if x.open_ then x.writers else [] }
    let s := s.endTarget f c 3 []
    let s := s.putWheel (.cluster f c) { s.wheel (.cluster f c) with prior := prior }
    let s := s.setWState (.cluster f c) .holding
    let s := (s.inc32 st O.HOLD_COUNT).raiseLoop code f c
    s.judgeCluster f c
  | .starting => ((s.raiseLoop code f c).latchCluster f c).drive
  | _ => s

/-- What a change of the masks brings (R84): DS_MASK_MANY and DS_FEW as their conditions begin and end, and lost
feedback with too few sensors. `many` and `few` are the conditions before. -/
def State.masksChanged (s : State) (f : FieldId) (c : ClusterId) (many few : Bool) : State :=
  let st := clSt f c
  let many' := s.sensorsMany f c
  let few' := s.sensorsFew f c
  let s := if many' && !many then s.raise F.DS_MASK_MANY st 0 0
    else if many && !many' then s.endCondition F.DS_MASK_MANY st 0 else s
  let s := if few' && !few then s.raise F.DS_FEW st 0 0
    else if few && !few' then s.endCondition F.DS_FEW st 0 else s
  if few' then s.feedbackLost f c 3 else s

/-- A park under R114 begins: the tile's code goes to 0 until the cluster is PARKED. -/
def State.parkBegin (s : State) (f : FieldId) (c : ClusterId) (why : ParkCause) : State :=
  let x := s.loop f c
  if x.parkFor = .none then
    let s := s.putLoop f c { x with parkFor := why, parkInj := s.flt.injected }
    if isCompute c then s.zeroTile f (clusterTile c) else s
  else s

/-- The fault of a park under R114, raised once the cells have stopped (event 5). -/
def parkFault : ParkCause → Nat
  | .fence => F.CL_FENCE
  | .holdExpire => F.CL_HOLD_EXPIRE
  | .implausible => F.CL_TILE_IMPL
  | .noSpare => F.ENG_NO_SPARE
  | _ => 0

/-- A cluster station takes its block reset (R346): its Rind is closed, the cells are off, the Wheel is PARKED until a Release (a LATCHED one stays LATCHED, R37),
and its registers, retirement map and loop return to their reset values (R75). The engine is a unit of its own. -/
def State.resetCluster (s : State) (f : FieldId) (c : ClusterId) : State :=
  let st := clSt f c
  let g := gid f c
  let s := s.parkCluster f c .blockReset
  let s := s.clearRegs (fun a idx _ => a == st && !(0x2400 ≤ idx && idx < 0x2500))
  let own (k : Nat) : Bool := k / 0x20 != g
  let s := { s with
    mrs := tblKeep own s.mrs
    sensors := tblKeep own s.sensors
    wheels := tblKeep (fun k => k < 0x100000 || own (k - 0x100000)) s.wheels
    cells := tblErase s.cells g
    loops := tblErase s.loops g
    tels := tblKeep (fun k => k / 0x10000 != st) s.tels
    rst := { s.rst with closedSt := if s.rst.closedSt.contains st then s.rst.closedSt else s.rst.closedSt ++ [st] } }
  let s := (s.wr st ((WheelRef.cluster f c).obj 0x10) (s.time st)).inc32 hubSt O.BLK_COUNT
  (s.beginTest (.cluster f c)).judgeCluster f c

/-- A cluster reaches STOPPED, and a block reset of its station that waited for that follows (R345). -/
def State.clusterHalted (s : State) (f : FieldId) (c : ClusterId) : State :=
  let due := (s.loop f c).resetDue
  let s := s.clusterStopped f c
  if due then s.resetCluster f c else s
/-- A park under R114 completes: PARKED, a block reset of the station that waited for it (R345), its fault, and for a service cluster the turn-off of its domain (R111). -/
def State.parkEnd (s : State) (f : FieldId) (c : ClusterId) (why : ParkCause) : State :=
  let was := s.flt.injected
  let s := { s with flt := { s.flt with injected := was <|> (s.loop f c).parkInj } }
  let due := why == .blockReset || (s.loop f c).resetDue
  let s := if why = .blockReset then s else s.parkCluster f c why
  let s := if due then s.resetCluster f c else s
  let s := if parkFault why = 0 then s else if why = .noSpare then s.raise F.ENG_NO_SPARE (clSt f c) 0 0 else s.raiseLoop (parkFault why) f c
  let s := { s with flt := { s.flt with injected := was } }
  if isCompute c then s else s.domainDown (clusterDomain f c)

end Sys2Proof.Machine
end

