-- ==== Sys2Proof/Machine/AdcCore.lean ====
section
/-!
DEFINITION. Converters, first half (chapter Telemetry Conversion and Reporting): records, descriptors, triggers.
-/
namespace Sys2Proof.Machine
open Sys2Proof

/-- The key of a converter, and its record. -/
def adcKey (f : FieldId) (q : AdcId) : Nat := f.val * 8 + q.val
def State.adc (s : State) (f : FieldId) (q : AdcId) : AdcRec := tblGet {} s.adcs (adcKey f q)
def State.putAdc (s : State) (f : FieldId) (q : AdcId) (x : AdcRec) : State := { s with adcs := tblSet {} s.adcs (adcKey f q) x }

/-- The rail a converter serves (R199). -/
def adcRail (f : FieldId) (q : AdcId) : RailId := if q.val = 4 then axRail f else frRail f
/-- The phase on a converter's channel 0-7 (R200). -/
def chanPhase (q : AdcId) (ch : Nat) : PhaseId := Fin.ofNat 32 (if q.val = 4 then ch else 8 * q.val + ch)
/-- The converter that serves a phase (R200). -/
def phaseAdc (r : RailId) (p : PhaseId) : AdcId := if isFR r then Fin.ofNat 5 (p.val / 8) else 4
/-- A channel that no entry may name (R200). -/
def chanReserved (q ch : Nat) : Bool := 16 ≤ ch || (ch == 11 && 2 ≤ q) || (q == 4 && 4 ≤ ch && ch < 8)

/-- The descriptor of a sequence (R206) and its fields. -/
def State.adcSeq (s : State) (f : FieldId) (q : AdcId) (n : Nat) : Nat := s.rd (fSt f) ((O.SEQ.at q.val).nth n)
def seqEn (w : Nat) : Bool := bit w 31
def seqUrgent (w : Nat) : Bool := bit w 30
def seqTrig (w : Nat) : Nat := bits w 29 28
def seqPhase (w : Nat) : Nat := bits w 27 23
def seqDelay (w : Nat) : Nat := bits w 22 12
def seqFirst (w : Nat) : Nat := bits w 10 6
def seqLen (w : Nat) : Nat := bits w 5 0
/-- The channel of an entry. -/
def State.entryCh (s : State) (f : FieldId) (q : AdcId) (e : Nat) : Nat := s.rd (fSt f) ((O.ENTRY_CH.at q.val).nth e)

/-- A channel of an IMON, LSP and LSN, or IBS pin, which is not converted while VIO18 is absent (R200, R439). -/
def pinChannel (c : Nat) : Bool := c < 8 || c == 9 || c == 10
/-- VIO18 leaves: what waits of those channels is not converted (R439). -/
def AdcRec.pinsOff (x : AdcRec) : AdcRec :=
  { x with
    runs := x.runs.map (fun r => { r with entries := r.entries.filter (fun e => !pinChannel e.2) })
    holds := x.holds.filter (fun h => !pinChannel h.channel), flight := x.flight.filter (fun h => !pinChannel h.channel) }
/-- A trigger of a sequence (R207, R208): an enabled one starts a run; a sequence that is not urgent ignores a trigger
while its previous run has a hold to close, and counts it in OVERRUN. -/
def State.adcTrigger (s : State) (f : FieldId) (q : AdcId) (n : Nat) : State :=
  let w := s.adcSeq f q n
  let x := s.adc f q
  if !seqEn w || x.failed || x.closed || s.rst.held.isSome then s
  else if !seqUrgent w && x.runs.any (fun r => r.seq == n) then s.inc32 (fSt f) (O.OVERRUN.at q.val)
  else
    let es := (List.range (seqLen w)).map (fun k => (seqFirst w + k, s.entryCh f q (seqFirst w + k)))
    let es := if s.supply.vio18 then es else es.filter (fun e => !pinChannel e.2)
    let tr := if seqTrig w < 2 then none else some (seqPhase w, seqTrig w == 3)
    let per := tr.elim 0 (fun t => (s.phase (adcRail f q) (Fin.ofNat 32 t.1)).onAt.getD 0)
    s.putAdc f q { x with runs := x.runs ++ [{
      seq := n, urgent := seqUrgent w, trig := tr, entries := es, firedAt := s.time (fSt f), delay := seqDelay w, period := per }] }

/-- Every sequence of a converter that a trigger names. -/
def State.adcTriggers (s : State) (f : FieldId) (q : AdcId) (p : Nat → Bool) : State :=
  (List.range 24).foldl (fun s n => if p (s.adcSeq f q n) then s.adcTrigger f q n else s) s

/-- The converters of a rail (R199). -/
def railAdcs (r : RailId) : List AdcId := if isFR r then (List.range 4).map (Fin.ofNat 5) else [4]
/-- The modulator's trigger events (R207): a pulse assigned to a phase (2), the end of its on-time (3), at every converter of the rail. -/
def State.adcPhase (s : State) (r : RailId) (p : PhaseId) (kind : Nat) : State :=
  (railAdcs r).foldl (fun s q => s.adcTriggers (railField r) q (fun w => seqTrig w == kind && seqPhase w == p.val)) s
/-- A conversion of a phase for the period that began at a count is still on its way. -/
def State.sampleDue (s : State) (r : RailId) (p : PhaseId) (start : Nat) : Bool :=
  let x := s.adc (railField r) (phaseAdc r p)
  let mine (t : Option (Nat × Bool)) (per : Nat) : Bool := t.any (fun t => t.1 == p.val) && per == start
  x.runs.any (fun y => mine y.trig y.period) || x.holds.any (fun y => mine y.trig y.period) || x.flight.any (fun y => mine y.trig y.period)

end Sys2Proof.Machine
end

