-- ==== Sys2Proof/Machine/Tele.lean ====
section
/-!
DEFINITION. Samples, averages and peaks of telemetry windows (R215-R218), and the records they fill.
-/
namespace Sys2Proof.Machine
open Sys2Proof

/-- One more sample of a window. -/
def Samp.add (x : Samp) (v : Int) : Samp :=
  if x.n = 0 then ⟨1, v, v, v⟩ else ⟨x.n + 1, x.sum + v, min x.lo v, max x.hi v⟩
/-- A window's average: its sum over its number, to nearest with ties to even (R217). -/
def Samp.avg (x : Samp) : Int := divRne x.sum x.n
/-- A finer window's average enters a coarser one, with the finer samples' extremes (R217, R218). -/
def Samp.roll (x w : Samp) : Samp :=
  if w.n = 0 then x
  else if x.n = 0 then ⟨1, w.avg, w.lo, w.hi⟩
  else ⟨x.n + 1, x.sum + w.avg, min x.lo w.lo, max x.hi w.hi⟩

/-- The key of a telemetry record: its station and index (R225). -/
def telKey (st idx : Nat) : Nat := st * 0x10000 + idx
def State.tel (s : State) (st idx : Nat) : TelRec := tblGet {} s.tels (telKey st idx)
def State.putTel (s : State) (st idx : Nat) (r : TelRec) : State := { s with tels := tblSet {} s.tels (telKey st idx) r }
/-- A voltage, current and power sample taken at one instant. -/
def State.telAdd (s : State) (st idx : Nat) (v i p : Int) : State :=
  let r := s.tel st idx
  s.putTel st idx { r with v := r.v.add v, i := r.i.add i, p := r.p.add p }

/-- A value held to an unsigned type of `n` bits (R217). -/
def satU (n : Nat) (x : Int) : Nat := min (2 ^ n - 1) x.toNat

end Sys2Proof.Machine
end

