-- ==== Sys2Proof/Machine/Rails.lean ====
section
/-!
DEFINITION. Package stages (chapter Package Stages and Bus Converters): the modulator, phases, and the protection of a
phase and of a rail.
-/
namespace Sys2Proof.Machine
open Sys2Proof

/-! ### The phase status word and the ring -/

/-- A byte of two's complement. -/
def s8 (x : Int) : Nat := toBits 8 x
/-- STATE of a phase (R197). -/
def State.phaseState (s : State) (r : RailId) (p : PhaseId) : Nat :=
  let x := s.phase r p
  if x.dropped ≠ 0 then x.dropped
  else if (s.rail r).stgFlt then 6
  else if !s.railSwitching r then 0
  else if x.fallback then 2 else 1
/-- The phase status word (R197), the DATA of PH_OC, PH_OPEN and PH_SNS_FAIL (R376). -/
def State.phaseStatus (s : State) (r : RailId) (p : PhaseId) : Nat :=
  let x := s.phase r p
  s.phaseState r p * 2 ^ 29 + flagAt x.limNow 28 + flagAt x.dcm 27 + x.snsCause % 8 * 2 ^ 24 + s8 x.trim * 2 ^ 16 + x.ton % 2 ^ 16
/-- The level of a phase's PWM output (R159): not driven while VIO18 is absent. -/
def State.pwmOut (s : State) (r : RailId) (p : PhaseId) : Pwm := if s.driven then (s.phase r p).pwm else .undriven
/-- INST of a phase fault (R367). -/
def phaseInst (r : RailId) (p : PhaseId) : Nat := r.val * 256 + p.val

/-- A phase is a member of the ring (R167). -/
def State.phaseIn (s : State) (r : RailId) (p : PhaseId) : Bool := (s.phase r p).dropped == 0
/-- The phases with a valid sense (R177). -/
def State.sensed (s : State) (r : RailId) : List PhaseId :=
  (phasesOf r).filter (fun p => s.phaseIn r p && !(s.phase r p).fallback)
/-- RAIL_SNS_FEW as its condition begins and ends (R177). -/
def State.judgeSense (s : State) (r : RailId) : State :=
  let few := decide ((s.sensed r).length < (if isFR r then 8 else 2))
  let x := s.rail r
  if few ∧ !x.snsFew then (s.putRail r { x with snsFew := true }).raise F.RAIL_SNS_FEW hubSt r.val 0
  else if !few ∧ x.snsFew then (s.putRail r { x with snsFew := false }).endCondition F.RAIL_SNS_FEW hubSt r.val
  else s
/-- DERATED is judged again after a phase has changed (R454). -/
def State.judgeRail (s : State) (r : RailId) : State :=
  if isFR r then s.judgeField (railField r) else s.judgeDomain (fieldDomain (railField r) 7)

/-- The number `n` with its low `w` bits reversed. -/
def revBits (w n : Nat) : Nat := (List.range w).foldl (fun a k => a + flagAt (bit n k) (w - 1 - k)) 0
/-- The phase at a ring position (R167). -/
def ringPhase (r : RailId) (j : Nat) : PhaseId := Fin.ofNat 32 (revBits (if isFR r then 5 else 2) j)

/-- A phase is eligible for a trip (R167). -/
def State.eligible (s : State) (r : RailId) (p : PhaseId) : Bool :=
  let x := s.phase r p
  s.phaseIn r p && x.pwm != .high && x.offAt.all (fun t => decide (t + s.rd hubSt (O.TOFF_MIN.at r.val) ≤ (s.time hubSt)))
/-- The first ring position at or after the pointer whose phase is eligible. -/
def State.nextRing (s : State) (r : RailId) : Option Nat :=
  let n := phaseCount r
  ((List.range n).map (fun k => ((s.rail r).ptr + k) % n)).find? (fun j => s.eligible r (ringPhase r j))

/-! ### The modulator -/

/-- The bounds of R168, R195 and R163 for an outer-loop output: REF_TRIM, RIPPLE_AMP, TON_K, and a trim. -/
def State.refTrimBounds (s : State) (r : RailId) : Int × Int :=
  let t : Int := s.railTarget r
  if isFR r then (1780 - t, 1820 - t) else (max (-20) (800 - t), min 20 (1400 - t))
def State.rippleBounds (s : State) (r : RailId) : Int × Int :=
  let n := s.rd hubSt (O.RIPPLE_NOM.at r.val)
  ((max 2 (divCeil n 2) : Nat), (min 50 (2 * n) : Nat))
def State.tonKBounds (s : State) (r : RailId) : Int × Int :=
  let n := s.rd hubSt (O.TON_K_NOM.at r.val)
  ((divCeil (9 * n) 10 : Nat), (11 * n / 10 : Nat))
/-- An output held to its bounds, counted in OL_CLAMPS where that changes it (R172). -/
def State.clampOut (s : State) (r : RailId) (b : Int × Int) (v : Int) : State × Int :=
  let w := clampInt b.1 b.2 v
  (if w = v then s else s.inc32 hubSt (O.OL_CLAMPS.at r.val), w)
/-- V_INJ at an instant, as a fraction of mV (R164): it falls at RIPPLE_AMP / T_NOM, between 0 and four times RIPPLE_AMP. -/
def State.injNow (s : State) (r : RailId) : Nat × Nat :=
  let x := s.rail r
  let k := s.rd hubSt (O.TON_K.at r.val)
  let amp := s.rd hubSt (O.RIPPLE_AMP.at r.val)
  let n := x.injNum * k - amp * s.railPhases r * (s.time hubSt - x.injAt) * x.injDen
  (min n (4 * amp * (x.injDen * k)), x.injDen * k)
/-- V_INJ at this instant becomes `n / d`. -/
def State.putInj (s : State) (r : RailId) (n d : Nat) : State :=
  let g := Nat.gcd n d
  s.putRail r { s.rail r with injNum := n / g, injDen := d / g, injAt := s.time hubSt }
/-- V_INJ goes on from its present value: before RIPPLE_AMP, TON_K or N_ROT changes (R164, R167). -/
def State.injHold (s : State) (r : RailId) : State := s.putInj r (s.injNow r).1 (s.injNow r).2
/-- The modulator takes the outer-loop outputs that wait (R172); a trim of a phase not in rotation is ignored. -/
def State.takeOutputs (s : State) (r : RailId) : State :=
  let x := s.rail r
  let s := if x.olRipple.isSome || x.olTonK.isSome then s.injHold r else s
  let s := match x.olRef with
    | none => s
    | some v => let q := s.clampOut r (s.refTrimBounds r) v; q.1.wr hubSt (O.REF_TRIM.at r.val) (toBits 16 q.2)
  let s := match x.olRipple with
    | none => s
    | some v => let q := s.clampOut r (s.rippleBounds r) v; q.1.wr hubSt (O.RIPPLE_AMP.at r.val) q.2.toNat
  let s := match x.olTonK with
    | none => s
    | some v => let q := s.clampOut r (s.tonKBounds r) v; q.1.wr hubSt (O.TON_K.at r.val) q.2.toNat
  let s := x.olTrim.foldl (fun s e =>
    let p : PhaseId := Fin.ofNat 32 e.1
    if s.phaseIn r p then
      let q := s.clampOut r (-125, 125) e.2
      q.1.putPhase r p { q.1.phase r p with trim := q.2 }
    else s) s
  s.putRail r { s.rail r with olRef := none, olRipple := none, olTonK := none, olTrim := [] }

/-- V_INJ rises by RIPPLE_AMP at an issued pulse, to at most four times RIPPLE_AMP (R164). -/
def State.injPulse (s : State) (r : RailId) : State :=
  let q := s.injNow r
  let amp := s.rd hubSt (O.RIPPLE_AMP.at r.val)
  s.putInj r (min (q.1 + amp * q.2) (4 * amp * q.2)) q.2
/-- The trip condition of R162 for an input of the comparator in µV: the remote difference, or on local sense the local one, less R_DROP
× the rail current (R184). V_FB + V_INJ − RIPPLE_AMP / 2 is at or below V_REFNOW. -/
def State.tripMet (s : State) (r : RailId) (uv : Nat) : Bool :=
  let fb : Int := if s.rd hubSt (O.SENSE_SRC.at r.val) = 0 then uv * 1000000
    else uv * 1000000 - s.rd hubSt (O.R_DROP.at r.val) * s.rd hubSt (O.I_RAIL.at r.val)
  let q := s.injNow r
  decide ((fb - s.vRefNow r * 1000000000 - s.rd hubSt (O.RIPPLE_AMP.at r.val) * 500000000) * q.2 + q.1 * 1000000000 ≤ 0)

/-- T_ON of a phase in units of 250 ps (R163). -/
def State.onTime (s : State) (r : RailId) (p : PhaseId) : Nat :=
  let x := s.phase r p
  let vib := s.rd hubSt (O.V_IB.at r.val)
  let f := if x.fallback then 3 else 4
  let num : Int := s.rd hubSt (O.TON_K.at r.val) * s.vRefNow r * f * (1000 + x.trim)
  if vib = 0 then 4800 else (clampInt 160 4800 (divRne num (1000 * vib))).toNat

/-- The mean current of a period (R216): half of peak and valley in continuous conduction; in a period that ended at mid level the charge of
the triangle over the period. -/
def periodMean (x : PhPeriod) : Option Int :=
  match x.peak with
  | none => none
  | some pk =>
    match x.mid, x.off with
    | some m, some t1 =>
      if x.stop = x.start then none
      else some (divRne (pk * (x.ton + 4 * (m - t1) : Nat)) (8 * (x.stop - x.start)))
    | _, _ => x.valley.map (fun v => divRne (pk + v) 2)
/-- The estimate of a phase in fallback (R177): the mean current of the phases with a valid sense, times its T_ON over
theirs. -/
def State.fallbackMean (s : State) (r : RailId) (p : PhaseId) : Int :=
  let l := s.sensed r
  let i := l.foldl (fun a q => a + ((s.phase r q).mean.getD 0)) 0
  let t := l.foldl (fun a q => a + (s.phase r q).ton) 0
  if t = 0 then 0 else divRne (i * (s.phase r p).ton) t
/-- PH_I of a phase from a window's charge (R196, R216). -/
def State.putPhaseI (s : State) (r : RailId) (p : PhaseId) (charge : Int) (span : Nat) : State :=
  if span = 0 then s else s.wr hubSt ((O.PH_I.at r.val).nth p.val) (satU 32 (divRne charge span))
/-- The open-phase check of R175 as a period ends: its mean against the mean of the phases that have a valid sense. -/
def State.openCheck (s : State) (r : RailId) (p : PhaseId) (mean : Int) : State :=
  let x := s.phase r p
  let l := s.sensed r
  let t := l.foldl (fun (a : Int) q => a + ((s.phase r q).mean.getD 0)) 0
  let low := s.railState r == 2 && !x.fallback
    && decide (mean * 100 * l.length < s.rd hubSt (O.OPEN_PCT.at r.val) * t ∧ (s.rd hubSt (O.OPEN_IMIN.at r.val) * l.length : Int) ≤ t)
  s.putPhase r p { x with openRun := if low then x.openRun + 1 else 0 }
/-- The mean of a period of a phase is known: its charge is shared among the open 10 µs window and the one before, whose figure takes its
share then (R216). -/
def State.periodCharge (s : State) (r : RailId) (p : PhaseId) (start stop : Nat) (v : Int) : State :=
  let x := s.phase r p
  let w := s.rdRaw hubSt (0x2880 + r.val) 0x18
  let d := stop - max start w
  let e := min stop w - max start (w - 10000)
  let s := s.putPhase r p { x with
    mean := some v, charge := x.charge + v * d, span := x.span + d, lastCharge := x.lastCharge + v * e, lastSpan := x.lastSpan + e }
  let s := if e = 0 then s else s.putPhaseI r p (x.lastCharge + v * e) (x.lastSpan + e)
  s.openCheck r p v
/-- A period of a phase ends as its next on-time starts (R216); one whose peak or valley is still on its way waits for it. -/
def State.endPeriod (s : State) (r : RailId) (p : PhaseId) : State :=
  let x := s.phase r p
  match x.onAt with
  | none => s
  | some t0 =>
    let y : PhPeriod := ⟨t0, s.time hubSt, x.ton, x.offAt, x.midAt, x.valley, x.peak⟩
    let s := s.putPhase r p { x with late := x.late.filter (fun z => s.sampleDue r p z.start) }
    match if x.fallback then some (s.fallbackMean r p) else periodMean y with
    | some v => s.periodCharge r p t0 y.stop v
    | none => if s.sampleDue r p t0 then s.putPhase r p { s.phase r p with late := (s.phase r p).late ++ [y] } else s

/-- An on-time is assigned to a phase (R159, R163, R167). -/
def State.assign (s : State) (r : RailId) (j : Nat) : State :=
  let p := ringPhase r j
  let s := s.endPeriod r p
  let ton := s.onTime r p
  let x := s.phase r p
  let s := s.putPhase r p { x with
    pwm := .high, ton := ton, dcm := x.crossed, crossed := false, limNow := false, issued := true
    onAt := some (s.time hubSt), offAt := none, midAt := none, peak := none, valley := none }
  let s := s.putRail r { s.rail r with ptr := (j + 1) % phaseCount r }
  (s.injPulse r).adcPhase r p 2

/-- MODULATOR_TRIP (R162, R167, R172): at the comparator's input in µV, outside the blanking of the last trip and once STG_EN has
led by 50 µs, a rail that switches issues an on-time to the next eligible phase, or holds the trip. -/
def execModulatorTrip (v : RailReading) (s : State) : Out :=
  let r := v.rail
  let x := s.rail r
  let blank := x.lastTrip.any (fun t => decide (s.time hubSt < t + s.rd hubSt (O.TBLANK.at r.val)))
  .next (if !s.railSwitching r || !x.lead || x.discharge || blank || !s.tripMet r v.uv.toNat then s
  else
    let s := (s.putRail r { x with lastTrip := some (s.time hubSt) }).takeOutputs r
    match s.nextRing r with
    | some j => s.assign r j
    | none => (s.putRail r { s.rail r with held := (s.rail r).held + 1 }).inc32 hubSt (O.RING_HELD.at r.val))

/-- HELD_TRIP_ASSIGN (R167): a held trip is assigned once a phase is eligible. -/
def execHeldTripAssign (r : RailId) (s : State) : Out :=
  let x := s.rail r
  .next (if s.railSwitching r && x.lead && decide (0 < x.held) then
    match s.nextRing r with
    | some j => (s.putRail r { x with held := x.held - 1 }).assign r j
    | none => s
  else s)

/-- A command about a phase acts where the phase exists. -/
def onPhase (r : RailId) (p : PhaseId) (t : State) : Out := if p.val < phaseCount r then .next t else .refused .noSuchUnit

/-- ON_TIME_END (R163, R165, R442): T_ON after the on-time's start the PWM goes low; the pulse was not limited. T_ON is in 250 ps and the
hub's count in whole ns: the end is taken from the count in which it falls. -/
def execOnTimeEnd (r : RailId) (p : PhaseId) (s : State) : Out :=
  let x := s.phase r p
  onPhase r p (if x.pwm = .high ∧ x.onAt.all (fun t => decide (4 * t + x.ton ≤ 4 * s.time hubSt + 3)) then
    (s.putPhase r p { x with pwm := .low, offAt := some (s.time hubSt), limNow := false, limRun := 0 }).adcPhase r p 3 else s)

/-- V_IREF in µV as a phase's comparators take it (R166): the latest valid read-back of its converter; before the first, the 800 mV that
the controller drives (assumption 77). -/
def State.irefUv (s : State) (r : RailId) (p : PhaseId) : Nat :=
  (s.adc (railField r) (phaseAdc r p)).iref.elim 800000 (· * 500)
/-- A comparator threshold in µV: V_IREF + 10 mV/A × a current in mA (R166). -/
def State.imonAt (s : State) (r : RailId) (p : PhaseId) (ma : Nat) : Nat := s.irefUv r p + 10 * ma

/-- ZERO_CROSSING (R165, R166): IMON in µV has fallen to the ZCD threshold; armed from the end of the on-time until mid level; not used
in fallback. -/
def execZeroCrossing (r : RailId) (v : PhaseReading) (s : State) : Out :=
  let p := v.phase
  let x := s.phase r p
  onPhase r p (if x.pwm = .low ∧ !x.fallback ∧ s.railSwitching r ∧ v.uv.toNat ≤ s.imonAt r p (s.rd hubSt (O.ZCD.at r.val)) then
    s.putPhase r p { x with pwm := .mid, crossed := true, midAt := some (s.time hubSt) } else s)

/-- 90 % of the computed fall time of a phase in fallback has passed since its on-time ended (R166). -/
def State.fallTimeOver (s : State) (r : RailId) (p : PhaseId) : Bool :=
  let x := s.phase r p
  x.offAt.any (fun t => decide (9 * x.ton * (s.rd hubSt (O.V_IB.at r.val) - s.vRefNow r) ≤ 40 * (s.time hubSt - t) * s.vRefNow r))
/-- FALLBACK_MID_TIMER (R166): a phase in fallback goes to mid level after its computed fall time. -/
def execFallbackMidTimer (r : RailId) (p : PhaseId) (s : State) : Out :=
  let x := s.phase r p
  onPhase r p (if x.pwm = .low ∧ x.fallback ∧ s.railSwitching r ∧ s.fallTimeOver r p then
    s.putPhase r p { x with pwm := .mid, midAt := some (s.time hubSt) } else s)

/-! ### Protection at the phase -/

/-- A rail is out of regulation (R170): PWM at mid level, STG_EN low, its Wheel latched, RAIL_UV. -/
def State.railUv (s : State) (r : RailId) : State :=
  let s := ((s.latchRail r F.RAIL_UV).railOff r 5).raise F.RAIL_UV hubSt r.val 0
  if isFR r then s else s.judgeField (railField r)

/-- A phase is dropped (R176) with its STATE; a rail left with no phase in rotation is out of regulation, whatever its
state (R170). TRIM stays as it was: R176 sets it to 0 at the return. -/
def State.dropPhase (s : State) (r : RailId) (p : PhaseId) (why : Nat) : State :=
  let x := s.phase r p
  let s := s.injHold r
  let s := s.putPhase r p { x with dropped := why, pwm := .mid, fallback := false, snsCause := 0, limRun := 0 }
  let s := if why = 5 then s else s.capLost (railField r)
  let s := (s.judgeSense r).judgeRail r
  if s.railPhases r = 0 then s.railUv r else s

/-- The count of R178 brought to the 1 µs interval in progress: an interval qualifies where at least half of the phases in rotation have
issued a limited pulse in it. -/
def State.ocRoll (s : State) (r : RailId) : State :=
  let x := s.rail r
  let w := s.time hubSt / 1000
  if w = x.ocWin then s
  else
    let met := decide (s.railPhases r ≤ 2 * x.ocPh.length ∧ 0 < x.ocPh.length)
    s.putRail r { x with ocWin := w, ocPh := [], ocRun := if w = x.ocWin + 1 ∧ met then x.ocRun + 1 else 0 }
/-- The rail is in over-current (R178). -/
def State.ocMet (s : State) (r : RailId) : Bool := decide (s.rd hubSt (O.RAIL_OC_RUN.at r.val) ≤ (s.rail r).ocRun)
/-- A limited pulse of a phase enters the interval in progress. -/
def State.ocCount (s : State) (r : RailId) (p : PhaseId) : State :=
  let s := s.ocRoll r
  let x := s.rail r
  if x.ocPh.contains p.val then s else s.putRail r { x with ocPh := x.ocPh ++ [p.val] }

/-- PHASE_CYCLE_LIMIT (R166, R175): from 25 ns after the on-time started the comparator ends it as IMON, in µV, reaches the ICYC_PH
threshold: a limited pulse; not for a phase in fallback. PH_LIM_RUN limited pulses in a row drop the phase while its rail regulates and
is not in over-current. -/
def execPhaseCycleLimit (r : RailId) (v : PhaseReading) (s : State) : Out :=
  let p := v.phase
  let x := s.phase r p
  let armed := x.pwm == .high && !x.fallback && s.railSwitching r && x.onAt.all (fun t => decide (t + 25 ≤ s.time hubSt))
    && decide (s.imonAt r p (s.rd hubSt (O.ICYC_PH.at r.val)) ≤ v.uv.toNat)
  onPhase r p (if armed then
    let s := s.ocCount r p
    let run := if s.railState r = 2 ∧ !s.ocMet r then x.limRun + 1 else 0
    let s := (s.putPhase r p { x with pwm := .low, offAt := some (s.time hubSt), limNow := true, limRun := run }).adcPhase r p 3
    if s.rd hubSt (O.PH_LIM_RUN.at r.val) ≤ run then
      let w := s.phaseStatus r p
      ((s.dropPhase r p 4).raise F.PH_OC hubSt (phaseInst r p) w).drive
    else s
  else s)

/-- PHASE_OPEN_DETECT (R175, R176): OPEN_RUN periods in a row with a low mean, while the rail regulates. -/
def execPhaseOpenDetect (r : RailId) (p : PhaseId) (s : State) : Out :=
  onPhase r p (if s.railState r = 2 ∧ s.phaseIn r p ∧ s.rd hubSt (O.RL_OPEN_RUN.at r.val) ≤ (s.phase r p).openRun then
    let w := s.phaseStatus r p
    ((s.dropPhase r p 3).raise F.PH_OPEN hubSt (phaseInst r p) w).drive
  else s)

/-- A phase enters sense fallback (R175, R177), with PH_SNS_FAIL unless its converter has failed (R204). Its run counts start again from 0,
also where a condition is met in fallback (the model's choice, assumption 103). -/
def State.senseFail (s : State) (r : RailId) (p : PhaseId) (cause : Nat) (adc : Bool) : State :=
  let x := s.phase r p
  if x.dropped ≠ 0 then s
  else
    let again := x.fallback
    let s := s.putPhase r p { x with fallback := true, snsCause := cause, snsAt := s.time hubSt, adcLost := x.adcLost || adc, outRun := 0, sameRun := 0, flatRun := 0, openRun := 0 }
    let s := if adc || again then s else s.raise F.PH_SNS_FAIL hubSt (phaseInst r p) (s.phaseStatus r p)
    (s.judgeSense r).judgeRail r

/-- A record of a fault that names a phase. -/
def State.phaseFault (s : State) (code : Nat) (r : RailId) (p : PhaseId) : Bool :=
  s.hasRecord code hubSt (phaseInst r p) || s.matched ⟨code, hubSt, phaseInst r p⟩

/-- A phase returns to the ring (R176): TRIM 0 and its check counts at 0, its last pulse and period as they were (R197); without a valid sense where its converter has failed (R204). -/
def State.restorePhase (s : State) (r : RailId) (p : PhaseId) : State :=
  let lost := (s.adc (railField r) (phaseAdc r p)).failed
  let s := (s.injHold r).putPhase r p { s.phase r p with
    dropped := 0, pwm := .mid, trim := 0, fallback := lost, adcLost := lost, snsCause := 0, limRun := 0, outRun := 0, lastCode := none
    sameRun := 0, flatRun := 0, openRun := 0, issued := false, onAt := none, offAt := none, midAt := none, valley := none, peak := none
    late := [], mean := none }
  (s.judgeSense r).judgeRail r
/-- Whether the fault that dropped a phase has been cleared. -/
def State.phaseFree (s : State) (r : RailId) (p : PhaseId) : Bool :=
  match (s.phase r p).dropped with
  | 3 => !s.phaseFault F.PH_OPEN r p
  | 4 => !s.phaseFault F.PH_OC r p
  | 5 => true
  | 6 => s.targetClear (.phase r p)
  | _ => false

/-- A write of PH_CTRL (R195). -/
def effPhCtrl (r : RailId) (word : Nat) : Effect := fun s =>
  let cmd := bits word 15 8
  let n := bits word 7 0
  let p : PhaseId := Fin.ofNat 32 n
  if cmd = 0 ∨ 2 < cmd ∨ phaseCount r ≤ n then .error .value
  else if cmd = 1 then .ok (if s.phaseIn r p then (s.dropPhase r p 5).drive else s)
  else if s.phaseFree r p then .ok (s.restorePhase r p) else .error .state
/-- PHASE_DROP_CMD (R195). -/
def execPhaseDropCmd (slot : Slot) (r : RailId) (p : PhaseId) (s : State) : Out :=
  .next (s.writeReq slot hubSt (O.PH_CTRL.at r.val) 2 (effPhCtrl r (0x100 + p.val)))
/-- PHASE_RESTORE (R176). -/
def execPhaseRestore (slot : Slot) (r : RailId) (p : PhaseId) (s : State) : Out :=
  .next (s.writeReq slot hubSt (O.PH_CTRL.at r.val) 2 (effPhCtrl r (0x200 + p.val)))

/-- SENSE_FALLBACK_EXIT (R177): 1 ms without a condition, after PH_SNS_FAIL has been cleared, on a converter that delivers (R204). -/
def execSenseFallbackExit (r : RailId) (p : PhaseId) (s : State) : Out :=
  let x := s.phase r p
  let q := s.adc (railField r) (phaseAdc r p)
  onPhase r p (if x.fallback ∧ x.snsAt + 1000000 ≤ s.time hubSt ∧ !q.failed ∧ !q.closed ∧ !s.phaseFault F.PH_SNS_FAIL r p then
    let s := s.putPhase r p { x with fallback := false, adcLost := false, snsCause := 0, outRun := 0, sameRun := 0, flatRun := 0 }
    (s.judgeSense r).judgeRail r
  else s)

/-! ### The rail -/

/-- STG_EN_LEAD_EXPIRE (R161): STG_EN has been high for 50 µs. -/
def execStgEnLeadExpire (r : RailId) (s : State) : Out :=
  let x := s.rail r
  .next (if x.stgEn ∧ x.stgAt + 50000 ≤ s.time hubSt then s.putRail r { x with lead := true } else s)
/-- STG_EN_DROP (R161): 10 µs after every PWM output of the rail has reached mid level. -/
def execStgEnDrop (r : RailId) (s : State) : Out :=
  let x := s.rail r
  .next (if x.stgDrop ∧ x.offAt + 10000 ≤ s.time hubSt then s.putRail r { x with stgEn := false, lead := false, stgDrop := false } else s)

/-- RAIL_IN_REGULATION (R168): V_FB has stayed within ±3 % of the target for 100 µs; the rail regulates, and the turn-on that waits for
it goes on. -/
def execRailInRegulation (r : RailId) (s : State) : Out :=
  .next (if (s.railState r = 1 ∨ s.railState r = 4) ∧ heldFor (s.rail r).regFrom 100000 (s.time hubSt) then
    let s := s.wr hubSt (O.RAIL_STATE.at r.val) 2
    let s := if isFR r then s else s.domainDone (fieldDomain (railField r) 7)
    s.drive
  else s)

/-- RAIL_START_TIMEOUT (R168): SS_TIMEOUT after the start the rail goes off with RAIL_START_FAIL; a Wheel that is STARTING is latched (R37, R329). -/
def execRailStartTimeout (r : RailId) (s : State) : Out :=
  .next (if (s.railState r = 1 ∨ s.railState r = 4) ∧ (s.rail r).startAt + s.rd hubSt (O.SS_TIMEOUT.at r.val) ≤ s.time hubSt then
    let s := if s.wstate (railWheel r) = .starting then (s.latchRail r F.RAIL_START_FAIL).railOff r 5 else s.railOff r 0
    (s.raise F.RAIL_START_FAIL hubSt r.val 0).drive
  else s)

/-- RAIL_UNDERVOLTAGE (R170): V_FB below 90 % of V_REFNOW for 10 µs while the rail regulates. -/
def execRailUndervoltage (r : RailId) (s : State) : Out :=
  .next (if s.railState r = 2 ∧ heldFor (s.rail r).uvFrom 10000 (s.time hubSt) then (s.railUv r).drive else s)

/-- AX_ILIMIT_TIMER (R174): AXEXCESS above 0 for 100 µs. -/
def execAxIlimitTimer (r : RailId) (s : State) : Out :=
  let x := s.rail r
  .next (if !isFR r ∧ !x.axLimit ∧ heldFor x.axFrom 100000 (s.time hubSt) then
    (s.putRail r { x with axLimit := true }).raise F.AX_ILIMIT hubSt r.val 0 else s)

/-- A rail falls without being latched: its domains go off with their dependants (R178, R182, R333); an
auxiliary one is STOPPED when its rail is below 50 mV (R37, R331). -/
def State.railDomainsOff (s : State) (r : RailId) : State :=
  if isFR r then (s.zeroField (railField r)).fieldRailLost (railField r)
  else
    let d := fieldDomain (railField r) 7
    let s := s.closeOn d 11
    let s := if (s.dstate d).isOn then s.setWState (.domain d) .stopping else s
    (s.dependantsOff d).judgeField (domField d)

/-- RAIL_OVERCURRENT (R178, R179): after RAIL_OC_RUN qualifying intervals in a row the rail enters hiccup with RAIL_OC, and is declared shorted at the RAIL_HICCUP_LIMIT-th. -/
def execRailOvercurrent (r : RailId) (s : State) : Out :=
  let s := s.ocRoll r
  .next (if s.railSwitching r ∧ s.ocMet r then
    let n := s.rd hubSt (O.HICCUPS.at r.val) + 1
    let x := s.rail r
    let s := s.putRail r { x with
      held := 0, ocPh := [], ocRun := 0, uvFrom := none, regFrom := none, snsFrom := none, hicAt := s.time hubSt
      retryAt := if n = 1 then s.time hubSt else x.retryAt }
    let s := ((s.wr hubSt (O.HICCUPS.at r.val) (min max8 n)).inc32 hubSt (O.RT_HICCUP_TOTAL.at r.val)).pwmAll r .mid
    let s := (s.wr hubSt (O.RAIL_STATE.at r.val) 3).raise F.RAIL_OC hubSt r.val 0
    if s.rd hubSt (O.RAIL_HICCUP_LIMIT.at r.val) ≤ n then
      let code := railCode r F.FR_SHORT F.AX_SHORT
      (((s.latchRail r code).railOff r 5).raise code hubSt r.val 0).drive
    else (s.railDomainsOff r).drive
  else s)

/-- RAIL_HICCUP_RESTART (R178): after RAIL_HICCUP_OFF the rail restarts from its present V_FB. -/
def execRailHiccupRestart (r : RailId) (s : State) : Out :=
  .next (if s.railState r = 3 ∧ (s.rail r).hicAt + s.rd hubSt (O.RAIL_HICCUP_OFF.at r.val) ≤ s.time hubSt then (s.railStart r 4).drive
    else s)
/-- RAIL_RETRY_WINDOW_CLOSE (R179): the window expires with fewer than RAIL_HICCUP_LIMIT hiccups. -/
def execRailRetryWindowClose (r : RailId) (s : State) : Out :=
  .next (if s.rd hubSt (O.HICCUPS.at r.val) < s.rd hubSt (O.RAIL_HICCUP_LIMIT.at r.val)
      ∧ (s.rail r).retryAt + s.rd hubSt (O.RAIL_RETRY_WINDOW.at r.val) ≤ s.time hubSt then s.wr hubSt (O.HICCUPS.at r.val) 0 else s)

/-- RAIL_OVERVOLTAGE (R180): at or above the threshold for 1 µs. -/
def execRailOvervoltage (r : RailId) (s : State) : Out :=
  .next (if (s.rail r).discharge ∨ !heldFor (s.rail r).ovFrom 1000 (s.time hubSt) then s else (s.railOv r).drive)
/-- The low-side discharge ends: the outputs go to mid level, and STG_EN follows (R180, R181, R182). -/
def State.dischargeEnd (s : State) (r : RailId) : State :=
  let s := s.pwmAll r .mid
  let x := s.rail r
  s.putRail r { x with discharge := false, stgDrop := x.stgEn, offAt := s.time hubSt }
/-- OV_DISCHARGE_END (R180): 100 µs after it began. -/
def execOvDischargeEnd (r : RailId) (s : State) : Out :=
  .next (if (s.rail r).discharge ∧ (s.rail r).ovAt + 100000 ≤ s.time hubSt then s.dischargeEnd r else s)

/-- STAGE_FAULT (R181): STG_FLT_N low for 200 ns sets every output to mid level and latches the rail; the pin is ignored without its
supplies and in a reset (R439). -/
def execStageFault (r : RailId) (s : State) : Out :=
  let live := s.pinsLive
  let s := if live then s.raise F.STG_FAULT hubSt r.val 0 else s
  .next (if !live then s
  else if s.railState r = 5 then (if (s.rail r).discharge then s.dischargeEnd r else s)
  else
    let s := (s.latchRail r F.STG_FAULT).railOff r 5
    (s.putRail r { s.rail r with stgFlt := true }).drive)

/-- A bus below 4.5 V at a rail (R182): its outputs go to mid level, a rail that is live is held, and a discharge ends. -/
def State.holdRail (s : State) (r : RailId) : State :=
  let s := s.putRail r { s.rail r with ibLow := true }
  if s.railSwitching r || s.railState r == 3 then
    let s := (s.pwmAll r .mid).wr hubSt (O.RAIL_STATE.at r.val) 6
    let s := s.putRail r { s.rail r with held := 0, uvFrom := none, regFrom := none, snsFrom := none, ocPh := [], ocRun := 0 }
    s.railDomainsOff r
  else if (s.rail r).discharge then s.dischargeEnd r
  else s
/-- IBUS_UNDERVOLTAGE (R182): IBf below 4.5 V. -/
def execIbusUndervoltage (f : FieldId) (s : State) : Out :=
  let s := (s.holdRail (axRail f)).holdRail (frRail f)
  .next ((s.raise F.IBUS_UV hubSt f.val 0).drive)
/-- IBUS_RECOVER (R182): IBf at or above 4.8 V for 1 ms ends the condition; below CONTAIN both rails restart. -/
def execIbusRecover (f : FieldId) (s : State) : Out :=
  let s := s.endCondition F.IBUS_UV hubSt f.val
  let up (s : State) (r : RailId) : State :=
    let s := s.putRail r { s.rail r with ibLow := false }
    if s.railState r = 6 ∧ s.sevOf F.IBUS_UV < 4 then s.railStart r 1 else s
  .next ((up (up s (frRail f)) (axRail f)).drive)

/-! ### Remote sense -/

/-- Some converter of a rail delivers the sense channels (R204). -/
def State.senses (s : State) (r : RailId) : Bool :=
  (railAdcs r).any (fun q => let x := s.adc (railField r) q; !x.failed && !x.closed)
/-- The learned drop in pV at the present rail current (R184). -/
def State.dropPv (s : State) (r : RailId) : Nat := s.rd hubSt (O.R_DROP.at r.val) * s.rd hubSt (O.I_RAIL.at r.val)
/-- REMOTE_SENSE_LOST (R184, R204, R212): every pair of valid readings for 4 µs has lain more than SNS_WIN apart. -/
def execRemoteSenseLost (r : RailId) (s : State) : Out :=
  .next (if s.railSwitching r ∧ s.senses r ∧ s.rd hubSt (O.SENSE_SRC.at r.val) = 0 ∧ heldFor (s.rail r).snsFrom 4000 (s.time hubSt) then
    (s.wr hubSt (O.SENSE_SRC.at r.val) 1).raise F.SENSE_LOST hubSt r.val 0 else s)
/-- The last 10 µs averages: the remote reading lies within 20 mV of the local one less the drop (R184). -/
def State.senseAgrees (s : State) (r : RailId) : Bool :=
  !bit (s.rdRaw hubSt (0x2880 + r.val) 0x19) 0
    && decide (((s.rdRaw hubSt (0x2880 + r.val) 1 * 1000000000 + s.dropPv r : Int) - s.rd hubSt (O.V_LOCAL.at r.val) * 1000000000).natAbs
      ≤ 20000000000)
/-- REMOTE_SENSE_RETURN (R184): the first agreeing 10 µs average after SENSE_LOST has been cleared. -/
def execRemoteSenseReturn (r : RailId) (s : State) : Out :=
  .next (if s.hasRecord F.SENSE_LOST hubSt r.val || s.matched ⟨F.SENSE_LOST, hubSt, r.val⟩ || !s.senseAgrees r then s
    else (s.putRail r { s.rail r with snsFrom := none }).wr hubSt (O.SENSE_SRC.at r.val) 0)
/-- R_DROP after a 1 ms window (R185), from the sums and numbers of the local and remote codes and of the rail currents: rounded to the
nearest nΩ with ties to even, and limited. -/
def rDropNext (old : Nat) (loc rem cur : Samp) : Nat :=
  let d : Int := loc.n * rem.n * cur.sum
  let e : Int := 500000000 * (loc.sum * rem.n - rem.sum * loc.n) * cur.n
  if d ≤ 0 then old else (clampInt 0 500000 (divRne (15 * old * d + e) (16 * d).toNat)).toNat
/-- R_DROP_LEARN (R185): at the end of the 1 ms window from `start` to `stop`, counts of the hub, on remote sense, with at least 10 % of
the continuous capacity. -/
def execRDropLearn (r : RailId) (start stop : BitVec 64) (s : State) : Out :=
  .next (if start.toNat + 1000000 = stop.toNat ∧ stop.toNat = s.time hubSt ∧ s.periodic (markKey 1 r.val) hubSt 1000000 0 then
    let x := s.rail r
    let s := (s.mark (markKey 1 r.val) hubSt).putRail r { x with remMs := {}, locMs := {}, curMs := {} }
    if s.rd hubSt (O.SENSE_SRC.at r.val) = 0 ∧ s.railSwitching r ∧ (s.railPhases r * 4000 * x.curMs.n : Int) ≤ x.curMs.sum then
      s.wr hubSt (O.R_DROP.at r.val) (rDropNext (s.rd hubSt (O.R_DROP.at r.val)) x.locMs x.remMs x.curMs)
    else s
  else s)

end Sys2Proof.Machine
end

