-- ==== Sys2Proof/Machine/Images.lean ====
section
/-!
DEFINITION. Engine images (R142): their layout, CRC, table time (R138), and the checks that need the image alone.
-/
namespace Sys2Proof.Machine
open Sys2Proof

/-! ### CRC-32 (IEEE 802.3) -/

/-- One bit of the reflected CRC-32. -/
def crcBit (c : Nat) : Nat := if c % 2 = 1 then (c / 2) ^^^ 0xEDB88320 else c / 2
/-- One byte. -/
def crcByte (c b : Nat) : Nat := crcBit (crcBit (crcBit (crcBit (crcBit (crcBit (crcBit (crcBit (c ^^^ b))))))))
/-- The CRC-32 of bytes. -/
def crc32 (l : List Nat) : Nat := (l.foldl crcByte 0xFFFFFFFF) ^^^ 0xFFFFFFFF

/-! ### Layout -/

/-- A little-endian number of `n` bytes at an offset. -/
def leAt (l : List Nat) (off n : Nat) : Nat := ((l.drop off).take n).foldr (fun b a => b + 256 * a) 0
/-- A signed byte at an offset. -/
def s8At (l : List Nat) (off : Nat) : Int := ofBits 8 (l.getD off 0)

/-- The words of an instruction section. -/
def wordsAt (l : List Nat) (off n : Nat) : List Nat := (List.range n).map (fun i => leAt l (off + 4 * i) 4)

/-- The image that some bytes spell (R142); the checks of R138 are apart. -/
def parseImage (l : List Nat) : Image :=
  let n := leAt l 4 2
  let cl := l.getD 7 0
  let wi := l.getD 10 0
  let c0 := 96 + 4 * n
  let w0 := c0 + 16 * cl
  { kind := leAt l 0 2, order := l.getD 3 0, cbase := l.getD 6 0, wbase := l.getD 8 0, wlines := l.getD 9 0,
    flags := l.getD 11 0, xline0 := l.getD 12 0, xline1 := l.getD 13 0,
    regfmt := (List.range 16).map (fun i => leAt l (0x10 + 2 * i) 2),
    ps := (List.range 32).map (fun i => s8At l (0x30 + i)),
    xscale := (List.range 8).map (fun i => s8At l (0x50 + i)),
    words := wordsAt l 96 n, consts := (l.drop c0).take (16 * cl), init := (l.drop w0).take (16 * wi),
    id := leAt l (l.length - 4) 4, ttab := 0, bytes := l }

/-- The length that the header's sections add up to (R142). -/
def sectionLength (l : List Nat) : Nat := 96 + 4 * leAt l 4 2 + 16 * l.getD 7 0 + 16 * l.getD 10 0 + 4
/-- Constant lines of an image. -/
def Image.clines (x : Image) : Nat := linesOf x.consts.length
/-- The data memory as an image's constants and initial lines alone would fill it. -/
def Image.memory (x : Image) : Tbl Nat := memWrite (memWrite [] (x.cbase * 16) x.consts) (x.wbase * 16) x.init
/-- Whether a byte lies in one of the image's constant lines. -/
def Image.isConst (x : Image) (a : Nat) : Bool := 16 * x.cbase ≤ a && a < 16 * (x.cbase + x.clines)
/-- Whether a line is one of the image's own. -/
def Image.owns (x : Image) (line : Nat) : Bool :=
  (x.cbase ≤ line && line < x.cbase + x.clines) || (x.wbase ≤ line && line < x.wbase + x.wlines)
/-- PS of a port (R142): ports 32 to 63 take 0. -/
def Image.portScale (x : Image) (p : Nat) : Int := x.ps.getD p 0
/-- The format and exponent of a register at activation start (R139, R142). -/
def Image.reg (x : Image) (i : Nat) : Block := let w := x.regfmt.getD i 0; ⟨w / 2 ^ 14 % 4, ofBits 8 (w % 256), [0]⟩

/-! ### The instruction word (R131) -/

/-- The word of an instruction. -/
def insnWord (op : Nat) (fmt : BitVec 2) (d a b : Byte) : Nat :=
  op * 2 ^ 26 + fmt.toNat * 2 ^ 24 + d.toNat * 2 ^ 16 + a.toNat * 2 ^ 8 + b.toNat
def wOp (w : Nat) : Nat := bits w 31 26
def wFmt (w : Nat) : Nat := bits w 25 24
def wD (w : Nat) : Nat := bits w 23 16
def wA (w : Nat) : Nat := bits w 15 8
def wB (w : Nat) : Nat := bits w 7 0

/-- Opcodes of R133. -/
def isOpcode (o : Nat) : Bool := (o ≤ 0x06 || (0x08 ≤ o && o ≤ 0x1B) || o == 0x3F)
/-- A vector register operand (R132). -/
def isV (x : Nat) : Bool := x < 0x10
/-- An accumulator operand. -/
def isAcc (x : Nat) : Bool := 0x10 ≤ x && x < 0x14
/-- A condition operand (R136), with the station masks up to `m`. -/
def isCond (m x : Nat) : Bool := x < m || (8 ≤ x && x ≤ 0x0A)

/-- Whether the operand codes of a word are none that R132 to R137 reserve; `ins` and `outs` bound the ports, `m` the
station masks. -/
def operandsOk (ins outs m : Nat) (w : Nat) : Bool :=
  let d := wD w
  let a := wA w
  let b := wB w
  match wOp w with
  | 0x00 => d == 0 && a == 0 && b == 0
  | 0x3F => d == 0 && a == 0 && b == 0
  | 0x01 => isV d && 1 ≤ b && b ≤ 32 && a + b ≤ ins
  | 0x02 => d < outs && (isV a || a == 0x14)
  | 0x03 => isV d && b == 0
  | 0x04 => isV a && b == 0
  | 0x05 => isV d && a == 0
  | 0x06 => isV d && isV a && b == 0
  | 0x08 => (isV d || isAcc d) && isV b
  | 0x09 => isAcc d && isV b
  | 0x0A => isV d && isAcc a && b == 0
  | 0x0C => isV d && isV a
  | 0x10 => isV d && isV a
  | 0x13 => isV d && isV a && b == 0
  | 0x15 => isV d && isV a && 1 ≤ b && b ≤ 16
  | 0x16 => isV d && isV a && isCond m b
  | 0x17 => isV d && isV a && isCond m b
  | 0x18 => isV d && isV a
  | 0x19 => isV d && isV a && b == 0
  | 0x1A => isV a && isV b
  | 0x1B => d < 4 && isV a && isV b
  | _ => isV d && isV a && isV b
/-- Whether FMT is 0b11 where R133 marks it unused, and no reserved rounding code is used (R131). -/
def fmtOk (w : Nat) : Bool :=
  match wOp w with
  | 0x00 | 0x02 | 0x03 | 0x04 | 0x09 | 0x1B | 0x3F => wFmt w == 3
  | 0x08 => if isAcc (wD w) then wFmt w == 3 else true
  | 0x1A => wFmt w ≤ 1
  | _ => true

/-! ### Lengths and table time (R129, R138) -/

/-- What a program is known to keep at a line: its length and format, where the text fixes them. -/
structure Shape where
  len : Option Nat := none
  fmt : Option Nat := none
deriving DecidableEq, Repr

/-- What the text of a program fixes of its data lines: the vectors that it stores, and the matrices that its RLS blocks hold. -/
structure Lines where
  vec : Tbl Shape := []
  mat : Tbl (Option (Nat × Nat)) := []
deriving DecidableEq, Repr

/-- What the check of an image has found so far: the shapes of the vector registers, of its data lines, and the lengths of the
accumulators. -/
structure Scan where
  v : List Shape
  a : List (Option Nat)
  lines : Lines := {}
  /-- Lines that an LDV reads. -/
  loads : List Nat := []
  time : Nat := 0
  longest : Nat := 0
  badLen : Bool := false
  out0 : Nat := 0
  out1 : Nat := 0
  /-- An OUT to port 1 that is from WIDX with no later MINS. -/
  out1Good : Bool := false
  supv : List Nat := []
deriving DecidableEq, Repr

/-- Two elementwise lengths (R129): the length of the result, and whether they break the rule. -/
def pairLen (x y : Option Nat) : Option Nat × Bool :=
  match x, y with
  | some n, some m => if n = m then (some n, false) else if n = 1 then (some m, false) else if m = 1 then (some n, false) else (none, true)
  | some n, none => (if n = 1 then none else some n, false)
  | none, some m => (if m = 1 then none else some m, false)
  | none, none => (none, false)

/-- The shape of the vector at a line: what the image supplies, else what the program itself stores there. -/
def storedShape (x : Image) (known : Lines) (line : Nat) : Shape :=
  match loadVec x.memory line with
  | some b => ⟨some b.m.length, some b.fmt⟩
  | none => tblGet {} known.vec line
/-- Rows and columns of the matrix at a line. -/
def storedMat (x : Image) (known : Lines) (line : Nat) : Option (Nat × Nat) :=
  match loadMat x.memory line with
  | some m => some (m.rows, m.cols)
  | none => tblGet none known.mat line

def Scan.vlen (s : Scan) (i : Nat) : Option Nat := (s.v.getD i {}).len
/-- A destination: its length, and the format where FMT names one. -/
def Scan.setV (s : Scan) (w : Nat) (n : Option Nat) : Scan :=
  { s with v := s.v.set (wD w) ⟨n, if wFmt w = 3 then (s.v.getD (wD w) {}).fmt else some (wFmt w)⟩ }

/-- The bytes of a stored vector of a shape; the longest that it may be where the text does not fix it. -/
def Shape.bytes (z : Shape) : Nat :=
  let n := z.len.getD 32
  match z.fmt with
  | some 1 => 2 + 3 * (n / 2) + 2 * (n % 2)
  | some 2 => 2 + n
  | _ => 2 + 2 * n
/-- Whether the image supplies a working line. -/
def Image.supplies (x : Image) (line : Nat) : Bool := x.wbase ≤ line && line < x.wbase + linesOf x.init.length
/-- The n of an RLS block: from its header where the image supplies it, else the length of the regressor. -/
def rlsOrder (x : Image) (line : Nat) (phi : Option Nat) : Option Nat :=
  if x.supplies line then some (memByte x.memory (line * 16)) else phi
/-- The lines of w and of P in a block of order n, each on a new line, with BM16 w and P (R134), and the lines of the whole block. -/
def rlsWLine (line : Nat) : Nat := line + 1
def rlsPLine (line n : Nat) : Nat := line + 1 + linesOf (2 + 2 * n)
def rlsLines (n : Nat) : Nat := 1 + linesOf (2 + 2 * n) + linesOf (4 + 2 * n * n)
/-- What breaks R134 at an RLS block of order n: n itself, a w or a P that the image supplies with another length, a regressor of another
length, or a block that leaves the working lines. -/
def rlsBad (x : Image) (line n : Nat) (phi : Option Nat) : Bool :=
  n == 0 || decide (32 < n) || phi.any (fun k => k != n && k != 1)
    || (x.supplies (rlsWLine line) && (loadVec x.memory (rlsWLine line)).all (fun b => b.m.length != n))
    || (x.supplies (rlsPLine line n) && (loadMat x.memory (rlsPLine line n)).all (fun m => m.rows != n || m.cols != n))
    || !(x.wbase ≤ line && decide (line + rlsLines n ≤ x.wbase + x.wlines))

/-- The time of one instruction in 100 ps (R138). -/
def opTime (x : Image) (known : Lines) (s : Scan) (w : Nat) : Nat :=
  match wOp w with
  | 0x00 | 0x3F => 2
  | 0x01 => 8
  | 0x02 => 6
  | 0x03 => 6 + 2 * linesOf (storedShape x known (wA w)).bytes
  | 0x04 => 6 + 2 * linesOf (s.v.getD (wA w) {}).bytes
  | 0x08 | 0x09 => 6 + 28 * ((storedMat x known (wA w)).elim 1 (fun m => (m.1 * m.2 + 63) / 64))
  | 0x13 => 10
  | 0x06 => 12
  | 0x18 => 16
  | 0x1A =>
    let n := (rlsOrder x (wD w) (s.vlen (wA w))).getD 32
    72 + 28 * ((3 * n * n + 63) / 64)
  | _ => 6

/-- Lines an instruction names outside the image's own (R138 error 8). -/
def lineBad (x : Image) (w : Nat) : Bool :=
  match wOp w with
  | 0x03 | 0x08 | 0x09 => !x.owns (wA w)
  | 0x04 => !x.owns (wD w)
  | 0x18 => (List.range 9).any (fun i => !x.owns (wB w + i))
  | _ => false

/-- One word of the check: lengths, time, and what R138 counts. -/
def scanWord (x : Image) (known : Lines) (s : Scan) (w : Nat) : Scan :=
  let t := opTime x known s w
  let s := { s with time := s.time + t, longest := max s.longest t, badLen := s.badLen || lineBad x w }
  let d := wD w
  let a := wA w
  let b := wB w
  let la := s.vlen a
  let lb := s.vlen b
  let paired (p : Option Nat × Bool) : Scan := { s.setV w p.1 with badLen := s.badLen || p.2 }
  match wOp w with
  | 0x01 => s.setV w (some b)
  | 0x02 =>
    let n := if a = 0x14 then some 1 else la
    let s := { s with badLen := s.badLen || n.any (fun k => decide (k ≤ b)) }
    if d = 0 then { s with out0 := s.out0 + 1 }
    else if d = 1 then { s with out1 := s.out1 + 1, out1Good := a == 0x14 }
    else s
  | 0x03 => { s with v := s.v.set d (storedShape x known a), loads := if s.loads.contains a then s.loads else s.loads ++ [a] }
  | 0x04 => { s with lines := { s.lines with vec := tblSet {} s.lines.vec d (s.v.getD a {}) } }
  | 0x06 | 0x10 | 0x15 | 0x19 | 0x18 => s.setV w la
  | 0x08 | 0x09 =>
    let m := storedMat x known a
    let r := m.map (fun (m : Nat × Nat) => m.1)
    let s := { s with badLen := s.badLen || m.all (fun (m : Nat × Nat) => lb.any (fun n => n != m.2)) }
    if wOp w = 0x09 then
      let p := pairLen (s.a.getD (d - 0x10) none) r
      { s with a := s.a.set (d - 0x10) p.1, badLen := s.badLen || p.2 }
    else if isAcc d then { s with a := s.a.set (d - 0x10) r }
    else s.setV w r
  | 0x0A => s.setV w (s.a.getD (a - 0x10) none)
  | 0x0B =>
    match la, lb with
    | some n, some m => { s.setV w (some (n + m)) with badLen := s.badLen || decide (32 < n + m) }
    | _, _ => s.setV w none
  | 0x0C => { s.setV w (some 1) with badLen := s.badLen || la.any (fun n => decide (n ≤ b)) }
  | 0x0D | 0x0E | 0x0F | 0x11 | 0x12 => paired (pairLen la lb)
  | 0x13 => { s.setV w (some 1) with out1Good := false }
  | 0x14 => { s.setV w la with badLen := s.badLen || lb.any (· != 2) }
  | 0x16 | 0x17 => paired (pairLen la (s.vlen d))
  | 0x1A =>
    match rlsOrder x d la with
    | none => s
    | some n => { s with
        badLen := s.badLen || rlsBad x d n la
        lines := ⟨tblSet {} s.lines.vec (rlsWLine d) ⟨some n, some 0⟩, tblSet none s.lines.mat (rlsPLine d n) (some (n, n))⟩ }
  | 0x1B => { s with supv := s.supv ++ [d], badLen := s.badLen || (pairLen la lb).2 }
  | _ => s

/-- One pass over the program from the registers of R139. -/
def Image.pass (x : Image) (known : Lines) : Scan :=
  x.words.foldl (scanWord x known)
    { v := (List.range 16).map (fun i => ⟨some 1, some (x.reg i).fmt⟩), a := List.replicate 4 (some 1) }
/-- What a pass finds of the lines, over lengths taken for lines that it finds none of. -/
def Lines.over (k : Lines) (taken : Tbl Shape) : Lines :=
  { k with vec := taken.foldl (fun t p => if (tblGet {} t p.1).len.isSome then t else tblSet {} t p.1 p.2) k.vec }
/-- What the program fixes of its lines, each pass from what the one before has found; `fuel` bounds the passes. -/
def Image.settle (x : Image) (taken : Tbl Shape) (fuel : Nat) (known : Lines) : Lines :=
  match fuel with
  | 0 => known
  | n + 1 =>
    let next := (x.pass known).lines.over taken
    if next = known then known else x.settle taken n next
/-- A length that a program keeps at a line is one: what it loads is as long as what it stores there. -/
def Image.lineKept (x : Image) (known : Lines) (z : Scan) (line : Nat) : Bool :=
  (tblGet {} z.lines.vec line).len.all (fun n => (storedShape x known line).len == some n)
/-- The lines of a program with the shortest length, from 1 to 32, at each line that it loads and whose length only its own rules fix: the
line carries it from one activation to the next (R129: the lengths are fixed by the program text alone). -/
def Image.lines (x : Image) : Lines :=
  let fuel := x.words.length + 1
  let start := x.settle [] fuel {}
  ((x.pass start).loads.foldl (fun (acc : Tbl Shape × Lines) line =>
    if (storedShape x acc.2 line).len.isSome then acc
    else
      let try_ (n : Nat) : Tbl Shape × Lines :=
        let taken := tblSet {} acc.1 line { tblGet {} acc.2.vec line with len := some n }
        (taken, x.settle taken fuel (acc.2.over taken))
      let fits (p : Tbl Shape × Lines) : Bool := let z := x.pass p.2; !z.badLen && x.lineKept p.2 z line
      (((List.range 32).map (fun i => try_ (i + 1))).find? fits).getD (try_ 1)) ([], start)).2
/-- The whole program checked. A line that it loads and stores with two lengths, or a matrix that nothing supplies, leaves a length that the
text does not fix, and is refused (R129, assumption 101). -/
def Image.scan (x : Image) : Scan :=
  let k := x.lines
  let z := x.pass k
  let loose := x.words.any (fun w => (wOp w == 0x08 || wOp w == 0x09) && (storedMat x k (wA w)).isNone)
  { z with badLen := z.badLen || loose || z.loads.any (fun l => !x.lineKept k z l) }
/-- The length that the text gives the vector at a line; 1 where it gives none. -/
def Image.lineLen (x : Image) (line : Nat) : Nat := (storedShape x x.lines line).len.getD 1

/-! ### The checks of R138 that need the image alone -/

/-- The lowest error code of checks 1 to 9 that fails, 0 where none does. `cluster` is the ORDER of a cluster engine's
cluster, none for a general task, and `deadline` the time allowed in 100 ps. -/
def imageError (l : List Nat) (cluster : Option Nat) (deadline : Nat) : Nat :=
  let x := parseImage l
  let z := x.scan
  let ins := if cluster.isSome then 17 else 64
  let outs := if cluster.isSome then 2 else 64
  let m := if cluster.isSome then 4 else 8
  if l.length < 100 ∨ crc32 (l.take (l.length - 4)) ≠ x.id then 1
  else if l.getD 2 0 ≠ 1 ∨ x.kind ≠ (if cluster.isSome then 1 else 2) then 2
  else if sectionLength l ≠ l.length ∨ x.words = [] ∨ 256 < x.words.length ∨ 224 < x.cbase + l.getD 7 0
      ∨ 256 < x.wbase + x.wlines ∨ x.wlines < l.getD 10 0 then 3
  else if x.words.any (fun w => !isOpcode (wOp w) || !operandsOk ins outs m w) then 4
  else if x.words.any (fun w => !fmtOk w) then 5
  else if deadline < z.time then 6
  else if cluster.any (fun o => x.order != o || z.supv != [if 5 ≤ o then 1 else 0]) then 7
  else if z.badLen then 8
  else if cluster.isSome ∧ (z.out0 ≠ 1 ∨ z.out1 ≠ 1 ∨ !z.out1Good) then 9
  else 0

end Sys2Proof.Machine
end

