-- ==== Sys2Proof/Machine/EngineOps.lean ====
section
/-!
DEFINITION. Loop engines (chapter Loop Engines, Block Floating Point and Programs): stores, activations, scheduling,
admission and the trace unit.
-/
namespace Sys2Proof.Machine
open Sys2Proof

/-! ### Engines and their objects -/

/-- The station that holds an engine (R122). -/
def engStation (e : EngId) : Station :=
  if e.val < 152 then .cluster (Fin.ofNat 8 (e.val / 19)) (Fin.ofNat 19 (e.val % 19))
  else if e.val < 216 then .field (Fin.ofNat 8 ((e.val - 152) / 8))
  else .hub
/-- The engine's number within its station. -/
def engNum (e : EngId) : Nat := if e.val < 152 then 0 else if e.val < 216 then (e.val - 152) % 8 else e.val - 216
/-- Its station's address. -/
def engSt (e : EngId) : Nat := (engStation e).addr
/-- A cluster engine, CLE.f.c. -/
def isCle (e : EngId) : Bool := e.val < 152
/-- The spare engine of a field, GLE.f.7. -/
def spareOf (f : FieldId) : EngId := Fin.ofNat 232 (152 + 8 * f.val + 7)
def isSpare (e : EngId) : Bool := 152 ≤ e.val && e.val < 216 && engNum e == 7
/-- The cluster engine of a cluster. -/
def cle (f : FieldId) (c : ClusterId) : EngId := Fin.ofNat 232 (gid f c)
/-- The general engine g of a field, and of the hub. -/
def gle (f : FieldId) (g : Nat) : EngId := Fin.ofNat 232 (152 + 8 * f.val + g % 8)
def gleH (h : Nat) : EngId := Fin.ofNat 232 (216 + h % 16)

/-- An engine, load or engine-record object of an engine. -/
def engObj (o : Obj) (e : EngId) : Obj := o.at (engNum e)
/-- A task object of an engine (index 0x2480 + g × 8 + t). -/
def taskObj (o : Obj) (e : EngId) (t : TaskId) : Obj := o.at (engNum e * 8 + t.val)

def State.eng (s : State) (e : EngId) : EngRec := tblGet {} s.engines e.val
def State.putEng (s : State) (e : EngId) (r : EngRec) : State := { s with engines := tblSet {} s.engines e.val r }
/-- The active image of a task. -/
def EngRec.image (r : EngRec) (t : Nat) : Option Image := tblGet none r.images t
def EngRec.bank (r : EngRec) (c : Nat) : Option Bank := tblGet none r.banks c

/-- The cluster that the spare of a field carries: SPARE_FOR (R154). -/
def State.spareFor (s : State) (f : FieldId) : Option ClusterId :=
  let c := s.rd (fSt f) O.SPARE_FOR
  if h : c < 19 then some ⟨c, h⟩ else none
/-- The engine that runs a cluster's loop: its own, or the spare after a takeover (R146). -/
def State.loopEngine (s : State) (f : FieldId) (c : ClusterId) : EngId :=
  if s.spareFor f = some c then spareOf f else cle f c
/-- The cluster whose loop an engine runs. -/
def State.loopOf (s : State) (e : EngId) : Option (FieldId × ClusterId) :=
  match engStation e with
  | .cluster f c => some (f, c)
  | .field f => if isSpare e then (s.spareFor f).map (fun c => (f, c)) else none
  | .hub => none

/-! ### Sticky flags -/

/-- Sticky flags of an engine are set; ENG_SAT is raised when SAT or ACCSAT goes from 0 to 1 (R155, R157). -/
def State.stick (s : State) (e : EngId) (fl : Nat) : State :=
  let o := engObj O.STICKY e
  let old := s.rd (engSt e) o
  let s := s.wr (engSt e) o (old ||| fl)
  let new_ := fl &&& (flSAT ||| flACCSAT)
  if new_ &&& (old ^^^ 0xFFFF) ≠ 0 then s.raise F.ENG_SAT (engSt e) (engNum e) 0 else s

/-! ### The trace unit (R150-R152) -/

/-- The trace unit that covers an engine. -/
def traceOf (e : EngId) : TraceId := match (engStation e).fieldOf with | some f => Fin.ofNat 9 f.val | none => 8
/-- Entries its ring holds. -/
def traceCap (x : TraceId) : Nat := if x.val < 8 then 8192 else 32768

/-- The key of a scratchpad byte (R381). -/
def padKey (st a : Nat) : Nat := (if st = 0 then 0 else st - 0x000F) * 2 ^ 32 + a
/-- A byte of a scratchpad; one that nothing has written reads 0, as a power-on reset leaves every bank (14, Resets). -/
def State.pad (s : State) (st a : Nat) : Nat := (tblGet 0 s.mem (padKey st a)).toNat
def State.putBytes (s : State) (st a : Nat) (l : List Nat) : State :=
  match l with
  | [] => s
  | b :: r => { s with mem := tblSet 0 s.mem (padKey st a) (BitVec.ofNat 8 b) }.putBytes st (a + 1) r
/-- A write clears the poison of every word that it covers whole (R390). -/
def State.clearPoison (s : State) (st a n : Nat) : State :=
  { s with poison := s.poison.filter (fun w => !(decide (padKey st a ≤ 8 * w) && decide (8 * w + 8 ≤ padKey st a + n))) }
/-- Bytes are written from an address on. -/
def State.putPad (s : State) (st a : Nat) (l : List Nat) : State := (s.putBytes st a l).clearPoison st a l.length
/-- The scratchpads' canonical form: addresses rising, no listed byte equal to what an unlisted one reads as. -/
def Memory.wf (m : List Host.Cell) : Bool := tblWf (fun _ => 0) m

/-- Bytes of a bank (R381). -/
def bankSize (st : Nat) : Nat := if st = 0 then 0x8000 else 0x4000
/-- The owner word as a bank reads it: KIND 0x7 during a repair handover, 0 after a failure (R392). -/
def State.ownerWord (s : State) (st b : Nat) : Nat :=
  match s.rd st (O.BANK_STATE.at b) with
  | 2 => 0x7000
  | 3 => 0
  | _ => s.rd st (O.OWNER.at b)

/-- Whether a trace unit records: armed, or with entries left after its trigger (R150). -/
def State.traceOn (s : State) (x : TraceId) : Bool :=
  s.rd (traceSt x) O.TRACE_STATE == 1 || (s.rd (traceSt x) O.TRACE_STATE == 2 && decide (0 < (s.trace x).left))
/-- One entry of the ring. An entry whose bank is under repair cannot be written and adds to LOST (R392). -/
def State.traceEntry (s : State) (x : TraceId) (w : Nat) : State :=
  let st := traceSt x
  let r := s.trace x
  if s.traceOn x then
    let p := s.rd st O.WRITE_PTR
    let away := s.rd st (O.BANK_STATE.at (4 * p / bankSize st)) != 0
    let s := if away then s.inc32 st O.TR_LOST else s.putPad st (4 * p) ((leBytes 4 w).map BitVec.toNat)
    let s := s.wr st O.WRITE_PTR ((p + 1) % traceCap x)
    s.putTrace x { r with count := min (traceCap x) (r.count + 1), left := if s.rd st O.TRACE_STATE = 2 then r.left - 1 else r.left }
  else s
/-- A marker of R151 with a payload of 24 bits. -/
def traceMark (kind payload : Nat) : Nat := 7 * 2 ^ 29 + kind % 32 * 2 ^ 24 + payload % 2 ^ 24
/-- A data entry of R151. A tapped accumulator gives the low 16 bits of its 48-bit mantissa and the low 8 of its exponent (the model's
choice, assumption 102). -/
def traceData (tap elem : Nat) (exp m : Int) : Nat :=
  tap % 8 * 2 ^ 29 + elem % 32 * 2 ^ 24 + toBits 8 exp * 2 ^ 16 + toBits 16 m
/-- An entry of the traced engine (R152): a cluster station's goes into its buffer of 64 entries, or is lost and counted; another's goes
into the ring at once. -/
def State.traceFrom (s : State) (x : TraceId) (e : EngId) (w : Nat) : State :=
  let r := s.trace x
  if !isCle e then s.traceEntry x w
  else if !s.traceOn x then s
  else if r.buf.length < 64 then s.putTrace x { r with buf := r.buf ++ [w] }
  else (s.putTrace x { r with lost := r.lost + 1 }).inc32 (traceSt x) O.TR_LOST
/-- The oldest entry of a cluster station's buffer reaches the ring over a sound link (R152); one marker of kind 3 takes the space where
entries were lost. How fast they move the spec leaves open: one in a nanosecond (assumption 29). -/
def State.traceMove (s : State) (x : TraceId) : State :=
  let r := s.trace x
  match r.buf, addrStation (s.rd (traceSt x) O.SOURCE / 2 ^ 16) with
  | w :: rest, some (.cluster f c) =>
    if (s.link (.cl f c)).failed then s
    else
      let buf := if r.lost = 0 then rest else rest ++ [traceMark 3 r.lost]
      (s.putTrace x { r with buf := buf, lost := 0 }).traceEntry x w
  | _, _ => s
/-- Whether a trace unit follows a task of an engine: SOURCE (R156). -/
def State.traces? (s : State) (x : TraceId) (e : EngId) (t : Nat) : Bool :=
  s.rd (traceSt x) O.SOURCE == engSt e * 2 ^ 16 + engNum e * 2 ^ 8 + t
/-- A marker of the traced task. -/
def State.traceTask (s : State) (e : EngId) (t kind payload : Nat) : State :=
  let x := traceOf e
  if s.traces? x e t then s.traceFrom x e (traceMark kind payload) else s
/-- The marker of an activation start, after kind 5 where time [47:24] has moved on (R151). -/
def State.traceStart (s : State) (e : EngId) (t : Nat) : State :=
  let x := traceOf e
  if s.traces? x e t ∧ s.traceOn x then
    let now := s.time (engSt e)
    let hi := now / 2 ^ 24 % 2 ^ 24
    let s := if (s.trace x).lastTime = some hi then s else s.traceFrom x e (traceMark 5 hi)
    let s := s.putTrace x { s.trace x with lastTime := some hi }
    s.traceFrom x e (traceMark 0 now)
  else s
/-- The trace unit triggers (R150): its marker, and POST_COUNT entries still to record. -/
def State.traceFire (s : State) (x : TraceId) : State :=
  let st := traceSt x
  if s.rd st O.TRACE_STATE = 1 then
    let s := s.traceEntry x (traceMark 4 0)
    let s := (s.wr st O.TRACE_STATE 2).wr st O.TRIG_TIME (s.time st)
    s.putTrace x { s.trace x with left := s.rd st O.POST_COUNT, fired := false }
  else s
/-- A trigger source of the traced task fires (R150). -/
def State.traceSource (s : State) (e : EngId) (t src : Nat) : State :=
  let x := traceOf e
  if s.traces? x e t ∧ s.rd (traceSt x) O.TRIG_SRC = src then s.traceFired x else s
/-- The taps of an instruction word: the destination elements they name (R150, R156). -/
def State.traceTaps (s : State) (e : EngId) (t pc : Nat) (exp : Int) (m : List Int) : State :=
  let x := traceOf e
  let st := traceSt x
  if s.traces? x e t then
    (List.range (s.rd st O.TAP_COUNT)).foldl (fun s k =>
      let w := s.rd st (O.TAP.nth k)
      if bits w 23 16 = pc then
        (List.range (bits w 5 0)).foldl (fun s i =>
          let j := bits w 12 8 + i
          match m[j]? with
          | some y => s.traceFrom x e (traceData k j exp y)
          | none => s) s
      else s) s
  else s

/-! ### Activations and scheduling (R139, R140) -/

/-- The class, PERIOD and DEADLINE that a rule lays down for task 0 of an engine (assumption 30): an outer loop on each hub engine (R171),
an estimator on GLE.f.0 to GLE.f.3 (R231) with PHASE 0, and learning on GLE.f.4 (R237), for which it gives no DEADLINE. -/
def taskRule (e : EngId) (t : TaskId) : Option (Nat × Nat × Option Nat) :=
  if t ≠ 0 ∨ isCle e then none
  else if 216 ≤ e.val then some (0, 10000, some 8000)
  else if engNum e < 4 then some (2, 2000, some 1500)
  else if engNum e = 4 then some (3, 62500, none)
  else none
/-- The class of a task: 0 for a cluster loop, what a rule lays down, else its CLASS. -/
def State.taskClass (s : State) (e : EngId) (t : TaskId) : Nat :=
  if isCle e then 0 else if isSpare e ∧ (s.loopOf e).isSome ∧ t = 0 then 0
  else (taskRule e t).elim (s.rd (engSt e) (taskObj O.CLASS e t)) (fun x => x.1)
/-- PERIOD, PHASE and DEADLINE of a task, as a rule lays them down, else its objects. -/
def State.taskPeriod (s : State) (e : EngId) (t : TaskId) : Nat :=
  (taskRule e t).elim (s.rd (engSt e) (taskObj O.PERIOD e t)) (fun x => x.2.1)
def State.taskPhase (s : State) (e : EngId) (t : TaskId) : Nat :=
  if (taskRule e t).any (fun x => x.1 == 2) then 0 else s.rd (engSt e) (taskObj O.PHASE e t)
def State.taskDeadline (s : State) (e : EngId) (t : TaskId) : Nat :=
  ((taskRule e t).bind (fun x => x.2.2)).getD (s.rd (engSt e) (taskObj O.DEADLINE e t))

/-- A bank as an activation starts (R139). -/
def freshBank (x : Image) (t due : Nat) (first : Bool) (ports : Tbl Int) (masks : Tbl Nat) : Bank :=
  { task := t, due := due, v := (List.range 16).map x.reg, a := List.replicate 4 {}, first := first, ports := ports, masks := masks }

/-- The ready task that runs next within the classes below `c`: lowest class, earliest deadline, lowest number. -/
def pickReady (l : List Ready) (c : Nat) : Option Ready :=
  l.foldl (fun best r =>
    if c ≤ r.cls then best
    else match best with
      | none => some r
      | some b =>
        if r.cls < b.cls ∨ (r.cls = b.cls ∧ (r.due < b.due ∨ (r.due = b.due ∧ r.task < b.task))) then some r else best) none

/-- The ports and masks that an activation of a general task sees: none but those of the task's own rule. -/
abbrev PortFn := State → EngId → TaskId → Tbl Int × Tbl Nat

/-- The lowest class with a bank in use. -/
def EngRec.lowestBank (r : EngRec) : Option Nat := (List.range 4).find? (fun c => (r.bank c).isSome)

/-- Whether an activation of a task is released or running. -/
def EngRec.busy (r : EngRec) (t : Nat) : Bool :=
  r.ready.any (fun q => q.task == t) || (List.range 4).any (fun k => (r.bank k).any (fun b => b.task == t))
/-- The finished activation of a task, where one waits for its latch instant. -/
def EngRec.finished (r : EngRec) (t : Nat) : Option Done := r.done.find? (fun d => d.task == t)

/-! ### Admission (R141) -/

/-- A task of the admission test: class, PERIOD, DEADLINE, TTAB in 100 ps, longest instruction. -/
structure Admit where
  task : Nat
  cls : Nat
  period : Nat
  deadline : Nat
  ttab : Nat
  longest : Nat
deriving DecidableEq, Repr

/-- The line of a task for the admission test. -/
def State.admitLine (s : State) (e : EngId) (t : TaskId) (x : Image) : Admit :=
  ⟨t.val, s.taskClass e t, s.taskPeriod e t * 10, s.taskDeadline e t * 10, x.ttab, x.scan.longest⟩
/-- The enabled tasks of an engine but one. -/
def State.admitted (s : State) (e : EngId) (but : Nat) : List Admit :=
  (List.finRange 8).filterMap (fun t =>
    if t.val = but ∨ s.rd (engSt e) (taskObj O.TASK_STATE e t) ≠ 2 then none
    else ((s.eng e).image t.val).map (s.admitLine e t))
/-- ΣTTAB / PERIOD, exact, as a quotient. -/
def loadOf (l : List Admit) : Nat × Nat := l.foldl (fun a t => (a.1 * t.period + t.ttab * a.2, a.2 * t.period)) (0, 1)
/-- Both conditions of R141 over a set of tasks. -/
def admits (l : List Admit) : Bool :=
  decide (100 * (loadOf l).1 ≤ 80 * (loadOf l).2) && l.all (fun i =>
    let b := (l.filter (fun j => j.cls == i.cls && j.task != i.task)).foldl (fun a j => max a j.ttab) 0
      + (l.filter (fun j => i.cls < j.cls)).foldl (fun a j => max a j.longest) 0
    let above := (l.filter (fun j => j.cls < i.cls)).foldl (fun a j => a + divCeil i.deadline j.period * j.ttab) 0
    decide (i.ttab + b + above ≤ i.deadline))
/-- UTIL of an engine (R154). -/
def State.setUtil (s : State) (e : EngId) : State :=
  let q := loadOf (s.admitted e 8)
  s.wr (engSt e) (engObj O.UTIL e) (q.1 * 1000 / q.2)

/-! ### Unloading and abandoning (R139, R154) -/

/-- A task loses its program: it is empty (R154). -/
def State.unloadNow (s : State) (e : EngId) (t : TaskId) : State :=
  let st := engSt e
  let r := s.eng e
  let s := s.putEng e { r with images := tblSet none r.images t.val none, unload := r.unload.filter (· != t.val) }
  (((s.wr st (taskObj O.TASK_STATE e t) 0).wr st (taskObj O.ACTIVE_ID e t) 0).wr st (taskObj O.TTAB e t) 0).setUtil e
/-- An unload that waited for the end of the task's activation. -/
def State.settleUnload (s : State) (e : EngId) (t : TaskId) : State :=
  if (s.eng e).unload.contains t.val then s.unloadNow e t else s

/-- An activation of a task is abandoned (R139): none of its effects take effect. MISSES counts those abandoned at their deadline
(R154); class 0, which a cluster loop has, and class 1 raise ENG_DEADLINE_CTL, class 2 ENG_DEADLINE_EST, at the station that holds the engine
(R157). -/
def State.abandon (s : State) (e : EngId) (t : TaskId) (missed : Bool) : State :=
  let r := s.eng e
  let c := s.taskClass e t
  if r.busy t.val then
    let banks := (List.range 4).foldl (fun b k => if (r.bank k).any (fun y => y.task == t.val) then tblSet none b k none else b) r.banks
    let r' : EngRec := { r with banks := banks, ready := r.ready.filter (fun q => q.task != t.val) }
    let s := s.putEng e { r' with running := r'.lowestBank }
    let s := (s.inc32 (engSt e) (engObj O.ABANDONED e)).stick e flDEADLINE
    let s := if missed then s.inc32 (engSt e) (taskObj O.MISSES e t) else s
    let s := ((s.traceTask e t.val 1 0).traceSource e t.val 4).settleUnload e t
    if c ≤ 1 then s.raise F.ENG_DEADLINE_CTL (engSt e) (engNum e) 0
    else if c = 2 then s.raise F.ENG_DEADLINE_EST (engSt e) (engNum e) 0
    else s
  else s

/-! ### Exchanging programs (R123, R144) -/

/-- The two arrays of data memory with the selection bits of some bytes flipped. -/
def flipLines (p : Nat → Bool) (a b : Tbl Nat) : Tbl Nat × Tbl Nat :=
  let mix (x y : Tbl Nat) : Tbl Nat := (tblKeep p y).foldl (fun t e => tblInsert t e.1 e.2) (tblKeep (fun k => !p k) x)
  (mix a b, mix b a)
/-- A program and the shadow change places (R144): the selection bits of their constant lines flip, and the working lines are written
where `init` says so. -/
def EngRec.exchange (r : EngRec) (t : Nat) (init : Bool) : EngRec :=
  let old := r.image t
  let m := flipLines (fun a => old.any (fun x => x.isConst a) || r.shadowImg.any (fun x => x.isConst a)) r.mem r.alt
  { r with
    mem := match r.shadowImg with
      | some x => if init then memWrite m.1 (x.wbase * 16) x.init else m.1
      | none => m.1
    alt := m.2
    images := tblSet none r.images t r.shadowImg
    shadowImg := old
    shadow := old.elim [] (fun x => x.bytes.map (BitVec.ofNat 8))
    shadowTask := t
    swapDue := 0
    written := false
    firsts := if r.firsts.contains t then r.firsts else r.firsts ++ [t] }
/-- An image enters the shadow arrays for a task (R143). -/
def EngRec.loadShadow (r : EngRec) (t : Nat) (l : List Byte) : EngRec :=
  let x := parseImage (l.map BitVec.toNat)
  { r with shadow := l, shadowImg := none, shadowTask := t, written := true, alt := memWrite r.alt (x.cbase * 16) x.consts }
/-- The objects of the load and task records after an exchange (R144, R154): a task that had no program becomes disabled, a cluster's task
enabled, and one that has none is empty. The spare's task 0 stays disabled (1) while it carries a loop: the port bus activates it and no
TASK_CTRL has enabled it (the model's choice, assumption 102). -/
def State.showExchange (s : State) (e : EngId) (t : TaskId) : State :=
  let r := s.eng e
  let st := engSt e
  let s := s.wr st (engObj O.LOAD_STATE e) 5
  let s := s.wr st (engObj O.IMAGE_ID e) (r.shadowImg.elim 0 Image.id)
  let s := s.wr st (engObj O.SHADOW_TTAB e) (min max16 (r.shadowImg.elim 0 Image.ttab))
  let s := s.wr st (taskObj O.ACTIVE_ID e t) ((r.image t.val).elim 0 Image.id)
  let s := s.wr st (taskObj O.TTAB e t) (min max16 ((r.image t.val).elim 0 Image.ttab))
  let s := if (r.image t.val).isNone then s.wr st (taskObj O.TASK_STATE e t) 0
    else if isCle e then s.wr st (taskObj O.TASK_STATE e t) 2
    else if s.rd st (taskObj O.TASK_STATE e t) = 0 then s.wr st (taskObj O.TASK_STATE e t) 1 else s
  s.setUtil e

/-! ### Stopping an engine -/

/-- Every task of an engine is disabled. -/
def State.disableTasks (s : State) (e : EngId) (mask : Nat) : State :=
  ((List.finRange 8).foldl (fun s t =>
    if bit mask t.val && s.rd (engSt e) (taskObj O.TASK_STATE e t) == 2 then s.wr (engSt e) (taskObj O.TASK_STATE e t) 1 else s) s).setUtil e
/-- Every activation of an engine stops with none of its effects. -/
def State.stopEngine (s : State) (e : EngId) : State :=
  s.putEng e { s.eng e with banks := [], running := none, ready := [], done := [] }
/-- The spare returns to standby (R148): the loop's image goes back into its shadow where that has not been written since the takeover, else
it is dropped and SPARE_IMAGE reads 0. -/
def State.stopSpare (s : State) (f : FieldId) : State :=
  let e := spareOf f
  let s := s.stopEngine e
  let r := { s.eng e with handback := false }
  if r.written then (s.putEng e r).unloadNow e 0 |>.wr (fSt f) O.SPARE_IMAGE 0
  else ((s.putEng e (r.exchange 0 false)).showExchange e 0).wr (fSt f) (engObj O.LOAD_STATE e) 3

end Sys2Proof.Machine
end

