-- ==== Sys2Proof/Machine/Est.lean ====
section
/-!
DEFINITION. Tile estimators (chapter Power Estimation, Learning and the Energy Ledger): descriptors, the last layer w, the
RLS block, freezes, and the figures of R232.
-/
namespace Sys2Proof.Machine
open Sys2Proof

def State.estr (s : State) (f : FieldId) : EstRec := tblGet {} s.ests f.val
def State.putEstr (s : State) (f : FieldId) (r : EstRec) : State := { s with ests := tblSet {} s.ests f.val r }
/-- A stored BLOB or STR object; empty where it has never been written. -/
def State.blob (s : State) (st : Nat) (o : Obj) : List Byte := tblGet [] s.blobs (rkey st o.index o.sub)
def State.putBlob (s : State) (st : Nat) (o : Obj) (l : List Byte) : State :=
  { s with blobs := tblSet [] s.blobs (rkey st o.index o.sub) l }

/-- The estimator engine of a tile (R231), and the tile's number k on it. -/
def estGroup (t : TileId) : Nat := t.val / 4
def estEngine (f : FieldId) (t : TileId) : EngId := gle f (estGroup t)
/-- The image of an engine's task 0, where the estimator and the learning step run (R231, R237). -/
def EngRec.firstImage (r : EngRec) : Option Image := r.image 0

/-! ### Descriptors (R234) -/

/-- A little-endian value in a descriptor. -/
def descNat (d : List Byte) (off n : Nat) : Nat := leNat ((d.drop off).take n)
/-- A BFV of BM16 mantissas in a descriptor (R11). -/
def descBfv (d : List Byte) (off n : Nat) : Block :=
  ⟨0, ofBits 8 (descNat d off 1), (List.range n).map (fun i => ofBits 16 (descNat d (off + 1 + 2 * i) 2))⟩
/-- The checks of a descriptor write (R234): its CRC, the version of the counter map, LAMBDA and the codes of SVC_MAP. A 1 in a reserved
bit is ignored (R16). -/
def descOk (d : List Byte) : Bool :=
  d.length == 256 && descNat d 0xFC 4 == crc32 ((d.take 0xFC).map BitVec.toNat)
    && descNat d 4 2 == 1 && decide (60000 ≤ descNat d 0x4E 2)
    && (List.range 4).all (fun k => let c := descNat d (0x60 + k) 1; 2 ≤ c && c ≤ 5)
/-- A descriptor as it is stored: its reserved bits read 0 (R16). -/
def descStored (d : List Byte) : List Byte :=
  d.zipIdx.map (fun p =>
    if p.2 = 7 then p.1 &&& 1
    else if p.2 = 0x29 ∨ p.2 = 0x4D ∨ p.2 = 0x5E ∨ p.2 = 0x5F ∨ (0x64 ≤ p.2 ∧ p.2 < 0xFC) then 0 else p.1)
/-- The descriptor of an estimator engine where it serves the image that runs (R235): the one written last, or the one that served the
image before the next image's was written (R430; the model's reading, assumption 104). -/
def State.descFor (s : State) (f : FieldId) (g : Nat) : Option (List Byte) :=
  let serves (x : Image) (d : List Byte) : Bool := d.length == 256 && descNat d 0 4 == x.id
  (s.eng (gle f g)).firstImage.bind (fun x =>
    ([s.blob (fSt f) (O.DESC.at g), tblGet [] (tblGet {} s.ests f.val : EstRec).descKept g]).find? (serves x))

/-- Learning is permitted for a tile: FLAGS bit 0 of a matching descriptor (R234). -/
def State.mayLearn (s : State) (f : FieldId) (t : TileId) : Bool := (s.descFor f (estGroup t)).any (fun d => bit (descNat d 7 1) 0)

/-! ### w, P0 and the RLS block -/

/-- A value rounded to a whole number of an unsigned 32-bit object. -/
def dyU32 (x : Dy) : Nat := satU 32 (roundAt x 0)
/-- w · [h; 1] (R230). -/
def lastLayer (w h : Block) : Dy :=
  dySum (List.zipWith Dy.mul w.vals (h.vals ++ [(⟨1, 0⟩ : Dy)]))
/-- A list of exact values as a BM16 vector at the smallest exponent that fits. -/
def normVec (xs : List Dy) : Block := (roundBlock 0 (normExp 0 1 xs) xs).1
/-- Bytes padded to whole lines. -/
def padLines (l : List Nat) : List Nat := l ++ List.replicate (linesOf l.length * 16 - l.length) 0
/-- The RLS block of R134 for n = 17: header, w and P = δI (R235). -/
def rlsBytes (w : Block) (lambda pinit : Nat) : List Nat :=
  let n := w.m.length
  let p := normVec ((List.range n).flatMap (fun i => (List.range n).map (fun j => (⟨if i = j then pinit else 0, -16⟩ : Dy))))
  padLines ([n, 0] ++ vecBytes (normVec [(⟨lambda, -16⟩ : Dy)])) ++ padLines (vecBytes w) ++ padLines (matBytes 0 p.exp n n p.m)
/-- w of an RLS block. -/
def rlsW (l : List Nat) : Block := (loadVec (memWrite [] 0 l) 1).getD {}

/-- The bytes of w in data memory: a 1 × 17 BM16 matrix (R230). -/
def wBytes (w : Block) : List Nat := matBytes 0 w.exp 1 w.m.length w.m
/-- w changes for a tile: the object and P0; the estimator engine's line takes it at its next activation start (R232, R237). -/
def State.setW (s : State) (f : FieldId) (t : TileId) (w : Block) : State :=
  let g := estGroup t
  let s := s.putTile f t { s.tile f t with w := w, wDue := true }
  let h0 := descBfv ((s.descFor f g).getD (s.blob (fSt f) (O.DESC.at g))) 8 16
  s.wr (fSt f) (O.P0.at t.val) (dyU32 (lastLayer w h0))

/-- Learning restarts from W_INIT and δI (R235, R253, R396): w, P and the snapshot. -/
def State.initTile (s : State) (f : FieldId) (t : TileId) (d : List Byte) : State :=
  let w := descBfv d 0x2A 17
  let b := rlsBytes w (descNat d 0x4E 2) (descNat d 0x50 4)
  let s := s.putTile f t { s.tile f t with rls := b, snap := b, goodRun := 0, thawRun := 0, learn := none }
  (s.setW f t w).wr (fSt f) (O.DIS_COUNT.at t.val) 0

/-- The four tiles of an estimator engine. -/
def groupTiles (g : Nat) : List TileId := (List.range 4).map (fun k => Fin.ofNat 16 (4 * g + k))

/-- A compute cluster is in a state of LIVE (R231). -/
def State.tileLive (s : State) (f : FieldId) (t : TileId) : Bool :=
  (s.cstate f (tileCluster t)).isLive

/-- A new P_EST, counted in the means of the interval and of R280 (R232, R239). -/
def State.putPest (s : State) (f : FieldId) (t : TileId) (v : Nat) : State :=
  let s := s.wr (fSt f) (O.P_EST.at t.val) v
  let x := s.tile f t
  s.putTile f t { x with estSum := x.estSum + v, estN := x.estN + 1, totSum := x.totSum + v, totN := x.totN + 1 }

/-- The guarded estimate of a frozen tile (R239): its measured 10 µs power × GUARD / 1,000. -/
def State.guardedP (s : State) (f : FieldId) (t : TileId) : Nat :=
  min max32 (divRne (s.rdRaw (clSt f (tileCluster t)) 0x2800 5 * s.rd (fSt f) O.GUARD : Nat) 1000).toNat
/-- A freeze of a tile: its time and number, w and P back to the snapshot, and P_EST guarded from now on (R239). -/
def State.freezeTile (s : State) (f : FieldId) (t : TileId) (cause : Nat) : State :=
  let st := fSt f
  let x := s.tile f t
  let s := s.putTile f t { x with frozen := x.frozen ||| 2 ^ cause, thawRun := 0, rls := x.snap }
  let s := if x.snap = [] then s else s.setW f t (rlsW x.snap)
  let s := if s.tileLive f t then s.putPest f t (s.guardedP f t) else s
  (s.wr st (O.FREEZE_TIME.at t.val) (s.time st)).inc32 st (O.FREEZES.at t.val)

/-- The tiles of an estimator engine follow its image and descriptor (R235): an image that none of them has been set up for sets them up
afresh with its descriptor and ends any freeze; an image without one freezes them and raises EST_NO_DESC; a matching descriptor thaws
that freeze. -/
def State.matchDesc (s : State) (f : FieldId) (g : Nat) : State :=
  match (s.eng (gle f g)).firstImage with
  | none => s
  | some x =>
    match s.descFor f g with
    | some d =>
      let lacked := (groupTiles g).any (fun t => bit (s.tile f t).frozen 2)
      let s := (groupTiles g).foldl (fun s t =>
        let y := s.tile f t
        if y.image = some x.id then s.putTile f t { y with frozen := y.frozen % 4 }
        else (s.putTile f t { y with image := some x.id, frozen := 0 }).initTile f t d) s
      if lacked then s.endCondition F.EST_NO_DESC (fSt f) g else s
    | none =>
      if (groupTiles g).all (fun t => bit (s.tile f t).frozen 2) then s
      else ((groupTiles g).foldl (fun s t => if bit (s.tile f t).frozen 2 then s else s.freezeTile f t 2) s).raise F.EST_NO_DESC (fSt f) g 0
/-- An estimator engine runs a new image (R235): its tiles have not been set up for it. -/
def State.newImage (s : State) (f : FieldId) (g : Nat) : State :=
  ((groupTiles g).foldl (fun s t => s.putTile f t { s.tile f t with image := none }) s).matchDesc f g
/-- An estimator's activation starts: its lines of w take what has changed since the last one (R230, R237). -/
def State.placeW (s : State) (f : FieldId) (g : Nat) : State :=
  let e := gle f g
  (groupTiles g).foldl (fun s t =>
    let y := s.tile f t
    if y.wDue then
      let r := s.eng e
      let line := Config.imageLine (r.firstImage.elim 0 Image.id) (t.val % 4)
      (s.putEng e { r with mem := memWrite r.mem (line * 16) (wBytes y.w) }).putTile f t { y with wDue := false }
    else s) s

/-! ### Liveness and P_EST -/

/-- EST_STATE (R253). -/
def State.estState (s : State) (f : FieldId) (t : TileId) : Nat :=
  let z := (s.tile f t).frozen
  if !s.tileLive f t then 4 else if bit z 2 then 3 else if bit z 1 then 2 else if bit z 0 then 1 else 0
/-- FROZEN_MASK (R253). -/
def State.frozenMask (s : State) (f : FieldId) : Nat :=
  maskOf 16 (fun k => (s.tile f (Fin.ofNat 16 k)).frozen != 0)


end Sys2Proof.Machine
end

