-- ==== Sys2Proof/Machine/Thermal.lean ====
section
/-!
DEFINITION. The thermal model unit (chapter Thermal Model, Compensation and Elytron Trip): model, diodes, correction, derate
figures and the trip lines.
-/
namespace Sys2Proof.Machine
open Sys2Proof

def State.therm (s : State) (f : FieldId) : ThermRec := tblGet {} s.therms f.val
def State.putTherm (s : State) (f : FieldId) (x : ThermRec) : State := { s with therms := tblSet {} s.therms f.val x }
/-- A signed 16-bit object, in 1/64 °C. -/
def State.rdS (s : State) (st : Nat) (o : Obj) : Int := ofBits 16 (s.rd st o)
def State.wrS (s : State) (st : Nat) (o : Obj) (v : Int) : State := s.wr st o (toBits 16 (clampInt (-32768) 32767 v))
/-- The limits and references of the hub in every field unit (R314). -/
def State.tcrit (s : State) : Int := s.rdS hubSt O.TCRIT
def State.tcool (s : State) : Int := s.rdS hubSt O.T_COOL

/-! ### The parameter block (R300) -/

/-- A block of 860 bytes from its contents before the CRC. -/
def thermBlock (l : List Byte) : List Byte := l ++ leBytes 4 (crc32 (l.map BitVec.toNat))
/-- The model's default block: R300 does not list Rinheco's, so every field is at the low end of its range, with no pair and
no loss (assumption 50). -/
def thermDefault : List Byte :=
  thermBlock (leBytes 16 1 ++ ((List.range 19).flatMap (fun _ =>
    leBytes 4 1 ++ leBytes 4 1 ++ leBytes 4 1 ++ leBytes 4 100 ++ leBytes 4 100 ++ leBytes 4 100)) ++ leBytes 384 0)
/-- The block in force. -/
def State.params (s : State) (f : FieldId) : List Byte :=
  let l := s.blob (fSt f) O.PARAMS
  if l = [] then thermDefault else l
/-- G1, G2, G3 (k = 0, 1, 2) and C1, C2, C3 (3, 4, 5) of a node. -/
def thermCoef (l : List Byte) (n k : Nat) : Nat := descNat l (0x10 + 24 * n + 4 * k) 4
/-- The lateral pairs in use: their nodes and conductance. -/
def thermPairs (l : List Byte) : List (Nat × Nat × Nat) :=
  (List.range (descNat l 1 1)).map (fun k =>
    (descNat l (0x1D8 + 8 * k) 1, descNat l (0x1D9 + 8 * k) 1, descNat l (0x1DC + 8 * k) 4))
/-- The lateral conductances at a node: the other node and G_AB. -/
def thermSides (l : List Byte) (n : Nat) : List (Nat × Nat) :=
  (thermPairs l).filterMap (fun p => if p.1 = n then some (p.2.1, p.2.2) else if p.2.1 = n then some (p.1, p.2.2) else none)
/-- Δt × the conductances on a state stays below half its capacity (R300): 2 × 10 µs × G in mW/K against C in µJ/K. -/
def thermStable (g c : Nat) : Bool := g < 50 * c
/-- The checks of a block (R300). -/
def paramsOk (l : List Byte) : Bool :=
  let np := descNat l 1 1
  let inR (v lo hi : Nat) : Bool := lo ≤ v && v ≤ hi
  let ps := thermPairs l
  descNat l 0x358 4 == crc32 ((l.take 0x358).map BitVec.toNat)
    && descNat l 0 1 == 1 && decide (np ≤ 48) && decide (descNat l 2 2 ≤ 300) && descNat l 8 8 == 0
    && (List.range 19).all (fun n =>
      (List.range 3).all (fun k => inR (thermCoef l n k) 1 1000000 && inR (thermCoef l n (3 + k)) 100 100000000)
        && thermStable (thermCoef l n 0 + ((thermSides l n).map Prod.snd).sum) (thermCoef l n 3)
        && thermStable (thermCoef l n 0 + thermCoef l n 1) (thermCoef l n 4)
        && thermStable (thermCoef l n 1 + thermCoef l n 2) (thermCoef l n 5))
    && ps.all (fun p => decide (p.1 < p.2.1) && decide (p.2.1 ≤ 18) && inR p.2.2 1 1000000)
    && (List.range np).all (fun k => descNat l (0x1DA + 8 * k) 2 == 0)
    && decide ((ps.map (fun p => p.1 * 32 + p.2.1)).Nodup)
/-- A write of the block: TH_PARAM_REJECT beside R15's rejection. -/
def effParams (f : FieldId) (l : List Byte) : Action := fun s =>
  if l.length ≠ 860 then (s, some .length)
  else if paramsOk l then (s.putBlob (fSt f) O.PARAMS l, none)
  else (s.raise F.TH_PARAM_REJECT (fSt f) 0 0, some .value)
/-- PARAMS (R300): takes effect at the start of the next update. -/
def execParams (slot : Slot) (f : FieldId) (data : List Byte) (s : State) : Out :=
  .next (s.requestA slot 0x02 (fSt f) O.PARAMS.index O.PARAMS.sub
    (fun s => s.admitWrite slot (fSt f) O.PARAMS.index O.PARAMS.sub data.length) (effParams f data))

/-! ### The trip lines (R308) -/

/-- A comparison joins the trip that the line's last rise fired and that has not been taken: the model before a diode, the lower field
before the higher. -/
def mergeFire (l : List TripFire) (x : TripFire) : List TripFire :=
  match l with
  | [] => []
  | y :: r =>
    if y.cause = 3 ∨ r.any (fun z => z.cause != 3) then y :: mergeFire r x
    else if x.field < y.field ∨ (x.field = y.field ∧ x.cause < y.cause) then x :: r else y :: r
/-- A field's trip line follows the latest comparisons of its nodes and diodes (R308); a rise of the die's line fires a trip of its own, and
a comparison above its limit while the line stands joins the trip that waits. -/
def State.tripLine (s : State) (f : FieldId) (x : Option TripFire) : State :=
  let r := s.therm f
  let t := s.trip
  if r.hot || r.d0.hot || r.d1.hot then
    { s with trip := { t with
        line := if t.line.contains f.val then t.line else t.line ++ [f.val]
        fires := match x with
          | none => t.fires
          | some v => if t.line.isEmpty then t.fires ++ [v] else mergeFire t.fires v } }
  else { s with trip := { t with line := t.line.filter (· != f.val) } }

/-! ### Diodes (R304, R305) -/

def ThermRec.diode (r : ThermRec) (i : Fin 2) : DiodeRec := if i = 0 then r.d0 else r.d1
def ThermRec.setDiode (r : ThermRec) (i : Fin 2) (d : DiodeRec) : ThermRec := if i = 0 then { r with d0 := d } else { r with d1 := d }
/-- T_D0 or T_D1. -/
def diodeObj (i : Fin 2) : Obj := if i = 0 then O.T_D0 else O.T_D1
/-- The node beside a diode (R302). -/
def diodeNode (i : Fin 2) : Nat := if i = 0 then 5 else 10
/-- The temperature of a channel-11 code in 1/64 °C (R304): ΔV_BE = code / 32 mV, and η is the fuse word / 16,384, or 1.008 where the
fuse is blank. -/
def diodeTemp (fuse code : Nat) : Int :=
  let e : Nat × Nat := if fuse = 0 then (1008, 1000) else (fuse, 16384)
  divRne ((code * (2 * e.2 * 10000000) : Nat) - 174816 * (e.1 * 198421) : Int) (e.1 * 1984210)
/-- DIODE_STATUS (R313). -/
def State.showDiodes (s : State) (f : FieldId) : State :=
  let r := s.therm f
  s.wr (fSt f) O.DIODE_STATUS (flagAt r.d0.valid 0 + flagAt r.d1.valid 1 + flagAt r.split 2)
/-- TH_DIODE_LOST and TH_BLIND follow the diodes (R305, R307). -/
def State.judgeDiodes (s : State) (f : FieldId) (wasAny : Bool) : State :=
  let r := s.therm f
  let any := r.d0.valid || r.d1.valid
  let s := if wasAny && !any then s.raise F.TH_DIODE_LOST (fSt f) 0 0
    else if !wasAny && any && (r.seen || r.startLost) then s.endCondition F.TH_DIODE_LOST (fSt f) 0 else s
  let s := if any then s.putTherm f { s.therm f with seen := true } else s
  let r := s.therm f
  let blind := s.rd (fSt f) O.UNIT_STATE == 2 && !any
  let s := if blind && !r.blind then s.raise F.TH_BLIND (fSt f) 0 0
    else if !blind && r.blind then s.endCondition F.TH_BLIND (fSt f) 0 else s
  (s.putTherm f { r with blind := blind }).showDiodes f
/-- A diode becomes invalid; its comparison no longer asserts the line. -/
def State.diodeLost (s : State) (f : FieldId) (i : Fin 2) : State :=
  let r := s.therm f
  let d := r.diode i
  if d.valid then
    let s := s.putTherm f (r.setDiode i { d with valid := false, run := 0, hot := false })
    (s.judgeDiodes f true).tripLine f none
  else s.putTherm f (r.setDiode i { d with run := 0 })
/-- A conversion of a diode that is not valid ends its run of valid ones (R304). -/
def State.diodeBad (s : State) (f : FieldId) (i : Fin 2) : State :=
  let r := s.therm f
  s.putTherm f (r.setDiode i { r.diode i with run := 0 })
/-- A channel-11 result that is valid under R212 (R304, R308). -/
def State.diodeTake (s : State) (f : FieldId) (i : Fin 2) (code : Nat) (ovr : Bool) : State :=
  let t := diodeTemp (tblGet 0 s.moult.eta (f.val * 2 + i.val)) code
  let r := s.therm f
  let d := r.diode i
  if ovr ∨ t < -2560 ∨ 9600 < t then s.diodeBad f i
  else
    let any := r.d0.valid || r.d1.valid
    let valid := d.valid || decide (10 ≤ d.run + 1)
    let tj := s.rdS (fSt f) (O.T_J.at (diodeNode i))
    let limit := s.tcrit + (if s.rd (fSt f) O.UNIT_STATE = 2 then 0 else 320)
    let hot := valid && decide (limit < t)
    let d := { d with
      valid := valid, run := min 10 (d.run + 1), last := (s.time (fSt f)), hot := hot
      resid := d.resid.add (t - tj), t0 := d.t0.add t }
    let s := (s.putTherm f (r.setDiode i d)).wrS (fSt f) (diodeObj i) t
    let s := s.judgeDiodes f any
    s.tripLine f (if hot then some ⟨2, f.val, 19 + i.val, toBits 16 t⟩ else none)
/-- DIODE_TIMEOUT (R304): no valid conversion for 1 ms. -/
def execDiodeTimeout (f : FieldId) (i : Fin 2) (s : State) : Out :=
  let d := (s.therm f).diode i
  .next (if d.valid ∧ d.last + 1000000 ≤ (s.time (fSt f)) then s.diodeLost f i else s)
/-- DIODE_START_TIMEOUT (R305): 10 ms after both converters of the diodes first reported their references ready, no diode has been
valid. -/
def execDiodeStartTimeout (f : FieldId) (s : State) : Out :=
  let r := s.therm f
  let ready := [0, 1].all (fun q => tblGet 0 r.readyAt q != 0 && decide (tblGet 0 r.readyAt q + 10000000 ≤ s.time (fSt f) + 1))
  .next (if ready && !r.seen && !r.startLost then
    (s.putTherm f { r with startLost := true }).raise F.TH_DIODE_LOST (fSt f) 0 0 else s)

/-! ### The correction (R302) -/

/-- The mean residual of a valid diode with conversions in the ms. -/
def DiodeRec.meanResid (d : DiodeRec) : Option Int := if d.valid && d.resid.n != 0 then some d.resid.avg else none
/-- R305's count of split ms. -/
def State.judgeSplit (s : State) (f : FieldId) (r0 r1 : Int) : State :=
  let r := s.therm f
  let apart := decide ((s.rd (fSt f) O.DIODE_SPLIT : Int) < (r0 - r1).natAbs)
  if !apart then s.putTherm f { r with splitRun := 0, split := false }
  else if r.split then s
  else if r.splitRun + 1 < 10 then s.putTherm f { r with splitRun := r.splitRun + 1 }
  else (s.putTherm f { r with splitRun := 10, split := true }).raise F.TH_DIODE_SPLIT (fSt f) 0 0
/-- The step of T_OFS for the sum of `n` residuals, and BOUND_MS (R302); a run at the bound raises TH_CORR_RANGE once. -/
def State.stepOffset (s : State) (f : FieldId) (sum : Int) (n : Nat) : State :=
  let st := fSt f
  let rate : Int := s.rd st O.CORR_RATE
  let cap : Int := s.rd st O.CORR_MAX
  let d := clampInt (-rate) rate (divRne (sum * s.rd st O.CORR_GAIN) (1000 * n))
  let want := s.rdS st O.T_OFS + d
  let got := clampInt (-cap) cap want
  let run := if want = got then 0 else satAdd max16 (s.rd st O.BOUND_MS) 1
  let r := s.therm f
  let fire := run != 0 && decide (s.rd st O.CORR_RUN ≤ run) && !r.ranged
  let s := s.putTherm f { r with ranged := run != 0 && (r.ranged || fire) }
  let s := (s.wrS st O.T_OFS got).wr st O.BOUND_MS run
  if fire then s.raise F.TH_CORR_RANGE st 0 0 else s
/-- One correction (R302, R305). -/
def State.correctDiodes (s : State) (f : FieldId) : State :=
  let st := fSt f
  let r := s.therm f
  let m0 := r.d0.meanResid
  let m1 := r.d1.meanResid
  let s := s.putTherm f { r with d0 := { r.d0 with resid := {} }, d1 := { r.d1 with resid := {} } }
  let s := match m0 with | some v => s.wrS st O.RESID_0 v | none => s
  let s := match m1 with | some v => s.wrS st O.RESID_1 v | none => s
  let s := match m0, m1 with | some a, some b => s.judgeSplit f a b | _, _ => s
  let s := s.showDiodes f
  let l := [m0, m1].filterMap id
  let held := s.hasRecord F.TH_DIODE_SPLIT st 0 || s.matched ⟨F.TH_DIODE_SPLIT, st, 0⟩
  if l = [] ∨ held ∨ s.rd st O.UNIT_STATE = 2 ∨ s.rd st O.CORR_GAIN = 0 then
    (s.wr st O.BOUND_MS 0).putTherm f { s.therm f with ranged := false }
  else s.stepOffset f l.sum l.length
/-- DIODE_CORRECTION (R302): once per 1 ms of the field station's count. -/
def execDiodeCorrection (f : FieldId) (s : State) : Out :=
  let key := markKey 15 f.val
  .next (if s.periodic key (fSt f) 1000000 0 then (s.mark key (fSt f)).correctDiodes f else s)

/-! ### The update (R299, R301, R303) -/

/-- P of a node: the core power with the MR loss; STALE10 keeps the last figure, and a cluster that is off has none. -/
def State.nodePower (s : State) (f : FieldId) (n : Nat) : Nat :=
  let c : ClusterId := Fin.ofNat 19 n
  match s.cstate f c with
  | .parked | .stopped | .latched => 0
  | _ => if bit (s.rdRaw (clSt f c) 0x2800 0x19) 0 then tblGet 0 (s.therm f).power n else s.rdRaw (clSt f c) 0x2800 5
/-- A state's new value in 1/4,096 °C: it rises by `num` / (100 C), to nearest, and never below 0. -/
def thermStep (x : Nat) (num : Int) (c : Nat) : Nat := ((x : Int) + divRne num (100 * c)).toNat
/-- One step of the model: every right-hand side uses the states before the update. -/
def State.stepModel (s : State) (f : FieldId) : State :=
  let l := s.params f
  let r := s.therm f
  let get (t : Tbl Nat) (n : Nat) : Int := ((tblGet 0 t n : Nat) : Int)
  (List.range 19).foldl (fun s n =>
    let core := s.nodePower f n
    let p : Int := divRne (core * (1000 + descNat l 2 2) : Nat) 1000
    let g (k : Nat) : Int := thermCoef l n k
    let up := g 0 * (get r.dj n - get r.ds n)
    let mid := g 1 * (get r.ds n - get r.dp n)
    let side := (thermSides l n).foldl (fun a q => a + (q.2 : Int) * (get r.dj n - get r.dj q.1)) (0 : Int)
    let x := s.therm f
    let s := s.putTherm f { x with
      dj := tblSet 0 x.dj n (thermStep (tblGet 0 r.dj n) (4096 * p - up - side) (thermCoef l n 3))
      ds := tblSet 0 x.ds n (thermStep (tblGet 0 r.ds n) (up - mid) (thermCoef l n 4))
      dp := tblSet 0 x.dp n (thermStep (tblGet 0 r.dp n) (mid - g 2 * get r.dp n) (thermCoef l n 5))
      power := tblSet 0 x.power n core }
    s.wr (fSt f) (O.P_IN.at n) (satU 32 p)) s
/-- The higher valid diode temperature. -/
def State.hotDiode (s : State) (f : FieldId) : Option Int :=
  let r := s.therm f
  let a := s.rdS (fSt f) O.T_D0
  let b := s.rdS (fSt f) O.T_D1
  match r.d0.valid, r.d1.valid with
  | true, true => some (max a b)
  | true, false => some a
  | false, true => some b
  | false, false => none
/-- The first update with a valid diode sets every state to the mean valid diode temperature less T_COOL (R301). -/
def State.initModel (s : State) (f : FieldId) : State :=
  let r := s.therm f
  let l := (if r.d0.valid then [s.rdS (fSt f) O.T_D0] else []) ++ (if r.d1.valid then [s.rdS (fSt f) O.T_D1] else [])
  let v := (divRne ((l.sum - l.length * s.tcool) * 64) l.length).toNat
  let t : Tbl Nat := (List.range 19).foldl (fun t n => tblSet 0 t n v) []
  (s.putTherm f { r with dj := t, ds := t, dp := t }).wr (fSt f) O.UNIT_STATE 1
/-- A state in 1/64 °C, to nearest (R298). -/
def thermOut (t : Tbl Nat) (n : Nat) : Int := divRne ((tblGet 0 t n : Nat) : Int) 64
/-- The node temperatures from the states (R298). -/
def State.showNodes (s : State) (f : FieldId) : State :=
  let r := s.therm f
  let base := s.tcool + s.rdS (fSt f) O.T_OFS
  (List.range 19).foldl (fun s n =>
    ((s.wrS (fSt f) (O.T_J.at n) (base + thermOut r.dj n)).wrS (fSt f) (O.T_S.at n) (base + thermOut r.ds n)).wrS
      (fSt f) (O.T_P.at n) (base + thermOut r.dp n)) s
/-- ITHERM of a node (R303), from the cluster's continuous capacity of R23, which is 0 in LATCHED. -/
def State.nodeItherm (s : State) (f : FieldId) (n : Nat) : Nat :=
  let t := s.rdS (fSt f) (O.T_J.at n)
  let lo := s.rdS (fSt f) O.DERATE_TEMP
  let hi := s.tcrit
  if t ≤ lo then max32
  else if hi ≤ t then 0
  else
    let c : ClusterId := Fin.ofNat 19 n
    let cap := if s.cstate f c = .latched then 0 else s.activeMrs f c * 7000
    (((cap : Int) * (hi - t)) / (hi - lo)).toNat
/-- T_J of every node, and the hottest. -/
def State.nodeTemps (s : State) (f : FieldId) : List Int := (List.range 19).map (fun n => s.rdS (fSt f) (O.T_J.at n))
/-- The end of an update (R299): the ITHERM figures, which are sent to the clusters, T_HOT and the count. -/
def State.endUpdate (s : State) (f : FieldId) : State :=
  let s := (List.range 19).foldl (fun (s : State) n =>
    let v := s.nodeItherm f n
    let r := s.therm f
    (s.putTherm f { r with sent := tblSet [] r.sent n (tblGet [] r.sent n ++ [v]) }).wr (fSt f) (O.TN_ITHERM.at n) v) s
  let hot := (s.nodeTemps f).foldl max (-32768)
  (s.wrS (fSt f) O.T_HOT_10US hot).inc64 (fSt f) O.UPDATES 1
/-- The model comparison of R308: the lowest node above TCRIT is the trip's node. -/
def State.modelTrip (s : State) (f : FieldId) : State :=
  let r := s.therm f
  match (List.range 19).find? (fun n => decide (s.tcrit < s.rdS (fSt f) (O.T_J.at n))) with
  | some n => (s.putTherm f { r with hot := true }).tripLine f (some ⟨1, f.val, n, s.rd (fSt f) (O.T_J.at n)⟩)
  | none => (s.putTherm f { r with hot := false }).tripLine f none
/-- The unit fails (R307). -/
def State.failUnit (s : State) (f : FieldId) : State :=
  let s := (s.wr (fSt f) O.UNIT_STATE 2).raise F.TH_UNIT_FAIL (fSt f) 0 0
  let s := s.putTherm f { s.therm f with hot := false }
  let any := (s.therm f).d0.valid || (s.therm f).d1.valid
  (s.judgeDiodes f any).tripLine f none
/-- One update (R299, R307): `mismatch` when the two datapaths differ. The block in force is the one written last. -/
def State.thermalUpdate (s : State) (f : FieldId) (mismatch : Bool) : State :=
  let s := s.wr (fSt f) O.PARAM_CRC (descNat (s.params f) 0x358 4)
  let s := if mismatch ∧ s.rd (fSt f) O.UNIT_STATE ≠ 2 then s.failUnit f else s
  let s := if s.rd (fSt f) O.UNIT_STATE = 2 then
    let s := match s.hotDiode f with
      | some t => (List.range 19).foldl (fun (s : State) n => s.wrS (fSt f) (O.T_J.at n) (t + 320)) s
      | none => s
    s.endUpdate f
  else
    let any := (s.therm f).d0.valid || (s.therm f).d1.valid
    let s := if s.rd (fSt f) O.UNIT_STATE = 0 ∧ any then s.initModel f else s.stepModel f
    let s := (s.showNodes f).endUpdate f
    if s.rd (fSt f) O.UNIT_STATE = 1 then s.modelTrip f else s
  s.putTherm f { s.therm f with fresh := true }
/-- THERMAL_UPDATE (R299): 2,500 ns after each multiple of 10,000 ns of the field station's count. -/
def execThermalUpdate (f : FieldId) (mismatch : Bool) (s : State) : Out :=
  let key := markKey 14 f.val
  .next (if s.periodic key (fSt f) 10000 2500 then (s.mark key (fSt f)).thermalUpdate f mismatch else s)

/-- COOL_OK (R310): every node and every valid diode of the die below RESTART_TEMP. -/
def State.coolOk (s : State) : Bool :=
  let lim := s.rdS hubSt O.RESTART_TEMP
  allFields.all (fun f => (s.nodeTemps f).all (fun t => decide (t < lim))
    && (s.hotDiode f).all (fun t => decide (t < lim)))

end Sys2Proof.Machine
end

