-- ==== Sys2Proof/Machine/Adc.lean ====
section
/-!
DEFINITION. Converters, second half (chapter Telemetry Conversion and Reporting): holds, slots, slices, references,
results and the units that take them, comparators, and the writes of the converter's objects.
-/
namespace Sys2Proof.Machine
open Sys2Proof

/-! ### Triggers and holds -/

/-- ADC_TIMER_TRIGGER (R207): TMR0 or TMR1 fires where the field station's count, less PHASE, is a multiple of PERIOD. -/
def execAdcTimerTrigger (f : FieldId) (q : AdcId) (tmr : Fin 2) (s : State) : Out :=
  let period := s.rd (fSt f) ((if tmr = 0 then O.TMR0_PERIOD else O.TMR1_PERIOD).at q.val)
  let phase := s.rd (fSt f) ((if tmr = 0 then O.TMR0_PHASE else O.TMR1_PHASE).at q.val)
  let key := markKey 2 (2 * adcKey f q + tmr.val)
  .next (if s.periodic key (fSt f) period phase then (s.mark key (fSt f)).adcTriggers f q (fun w => seqTrig w == tmr.val) else s)

/-- A write of SW_TRIG (R207, R222); ones in the reserved bits 31-24 are ignored (R16). -/
def effSwTrig (f : FieldId) (q : AdcId) (mask : Nat) : Effect := fun s =>
  .ok ((List.range 24).foldl (fun s n => if bit mask n then s.adcTrigger f q n else s) s)
/-- SW_TRIG (R207). -/
def execSwTrig (slot : Slot) (f : FieldId) (q : AdcId) (mask : BitVec 32) (s : State) : Out :=
  .next (s.writeReq slot (fSt f) (O.SW_TRIG.at q.val) 4 (effSwTrig f q mask.toNat))

/-- A channel's hold is occupied from its sample instant until its slot starts (R202). -/
def AdcRec.occupied (x : AdcRec) (ch : Nat) : Bool := x.holds.any (fun h => h.channel == ch)
/-- The value a hold takes now. -/
def holdOf (r : AdcRun) (now : Nat) (late : Bool) (e : Nat × Nat) : AdcHold :=
  { entry := e.1, channel := e.2, time := now, urgent := r.urgent, late := late, trig := r.trig, period := r.period }
/-- DROP in the result word of an entry (R209, R211). -/
def State.dropBit (s : State) (f : FieldId) (q : AdcId) (e : Nat) : State :=
  let o := (O.RESULT.at q.val).nth e
  let w := s.rd (fSt f) o
  s.wr (fSt f) o (if bit w 28 then w else w + 2 ^ 28)

/-- A run's sample instant: DELAY after its trigger, within 1 ns + 0.2 % of DELAY (R202). -/
def AdcRun.dueAt (r : AdcRun) (now : Nat) : Bool :=
  r.fresh && decide (((now : Int) - r.firedAt - r.delay).natAbs * 1000 ≤ 1000 + 2 * r.delay)
/-- The holds of a run close at its sample instant: all of them or none for an urgent run, the free ones for another (R208, R209). -/
def State.closeRun (s : State) (f : FieldId) (q : AdcId) (r : AdcRun) : State :=
  let x := s.adc f q
  let now := s.time (fSt f)
  let rest := x.runs.erase r
  if r.urgent then
    if r.entries.any (fun e => x.occupied e.2) then
      let s := (s.putAdc f q { x with runs := rest }).inc32 (fSt f) (O.URGENT_DROP.at q.val)
      r.entries.foldl (fun s e => s.dropBit f q e.1) s
    else s.putAdc f q { x with runs := rest, holds := x.holds ++ r.entries.map (holdOf r now false) }
  else
    let free := r.entries.filter (fun e => !x.occupied e.2)
    let late := r.entries.filter (fun e => x.occupied e.2)
    let runs := if late = [] then rest else rest ++ [{ r with entries := late, fresh := false }]
    s.putAdc f q { x with runs := runs, holds := x.holds ++ free.map (holdOf r now false) }
/-- The urgent runs that are taken before a run: due now, of lower sequence numbers, with events within 1 ns of its own (R209). -/
def AdcRec.before (x : AdcRec) (r : AdcRun) (now : Nat) : List AdcRun :=
  if r.urgent then
    (List.range r.seq).flatMap (fun n =>
      x.runs.filter (fun y => y.seq == n && y.urgent && y.dueAt now && decide (((y.firedAt : Int) - r.firedAt).natAbs ≤ 1)))
  else []
/-- HOLD_CLOSE (R208, R209): the sample instant of a sequence's run. -/
def execHoldClose (f : FieldId) (q : AdcId) (sq : Fin 24) (s : State) : Out :=
  let x := s.adc f q
  let now := s.time (fSt f)
  .next (match x.runs.find? (fun r => r.seq == sq.val && r.dueAt now) with
  | none => s
  | some r => (x.before r now ++ [r]).foldl (fun s r => s.closeRun f q r) s)

/-- A hold that has become free closes for the first run that waits for it, with LATE (R208). -/
def AdcRec.closeLate (x : AdcRec) (now ch : Nat) : AdcRec :=
  match x.runs.find? (fun r => !r.fresh && r.entries.any (fun e => e.2 == ch)) with
  | none => x
  | some r =>
    match r.entries.find? (fun e => e.2 == ch) with
    | none => x
    | some e =>
      let left := r.entries.erase e
      let runs := if left = [] then x.runs.erase r else x.runs.map (fun y => if y = r then { r with entries := left } else y)
      { x with runs := runs, holds := x.holds ++ [holdOf r now true e] }

/-- The order of R202: urgent before the rest, then the earlier sample instant, then the lower channel. -/
def holdBefore (a b : AdcHold) : Bool :=
  if a.urgent != b.urgent then a.urgent
  else if a.time ≠ b.time then decide (a.time < b.time) else decide (a.channel < b.channel)
/-- The value that the next slot passes. -/
def pickHold (l : List AdcHold) : Option AdcHold :=
  match l with
  | [] => none
  | x :: r => some (r.foldl (fun a b => if holdBefore b a then b else a) x)
/-- The free slice that has waited longest since its last slot; a slice is taken for 250 ns (R203). -/
def AdcRec.freeSlice (x : AdcRec) (now : Nat) : Option Nat :=
  match x.active.filter (fun k => (tblFind x.used k).all (fun t => decide (t + 250 ≤ now))) with
  | [] => none
  | k :: r =>
    let t (j : Nat) : Nat := (tblFind x.used j).elim 0 (· + 1)
    some (r.foldl (fun a j => if t j < t a then j else a) k)
/-- A swap that waits is made once the slice that leaves is not converting (R203). -/
def State.settleSwap (s : State) (f : FieldId) (q : AdcId) : State :=
  let x := s.adc f q
  let now := s.time (fSt f)
  let sp := s.rd (fSt f) (O.SPARE_SLICE.at q.val)
  match x.active with
  | a :: r =>
    if x.swapDue ∧ (tblFind x.used a).all (fun t => decide (t + 250 ≤ now)) then
      let act := if sp = 0xFF then r else r ++ [sp]
      (s.putAdc f q { x with active := act, calib := some a, calBack := sp == 0xFF, swapDue := false }).wr (fSt f) (O.SPARE_SLICE.at q.val) a
    else s
  | [] => s
/-- FRONTEND_SLOT_START (R202): one slot in 62.5 ns, and only with a free slice. -/
def execFrontendSlotStart (f : FieldId) (q : AdcId) (s : State) : Out :=
  let s := s.settleSwap f q
  let x := s.adc f q
  let due := x.lastSlot.all (fun t => decide (125 ≤ 2 * ((s.time (fSt f)) - t)))
  .next (if x.failed || x.closed || !due then s
  else
    match pickHold x.holds, x.freeSlice (s.time (fSt f)) with
    | some h, some k =>
      let rnr := s.rd (fSt f) (O.REF_STATE.at q.val) != 2
      let y := { x with
        holds := x.holds.erase h, flight := x.flight ++ [{ h with slice := k, slot := (s.time (fSt f)), rnr := rnr }]
        used := tblInsert x.used k (s.time (fSt f)), lastSlot := some (s.time (fSt f)), slots := x.slots + 1 }
      s.putAdc f q (y.closeLate (s.time (fSt f)) h.channel)
    | _, _ => s)

/-! ### Slices and the reference -/

/-- A phase whose converter has failed or been stopped enters fallback without PH_SNS_FAIL (R204). -/
def State.adcPhasesLost (s : State) (f : FieldId) (q : AdcId) : State :=
  let r := adcRail f q
  ((phasesOf r).filter (fun p => phaseAdc r p == q)).foldl (fun s p => s.senseFail r p 0 true) s
/-- The converter delivers no more results (R204, R364). -/
def State.stopAdc (s : State) (f : FieldId) (q : AdcId) : State :=
  let s := s.putAdc f q { s.adc f q with failed := true, runs := [], holds := [], flight := [] }
  let s := s.adcPhasesLost f q
  if q.val < 2 then s.diodeLost f (Fin.ofNat 2 q.val) else s
/-- ADC_FAIL (R204): cause 1 no usable slice, 2 check reference. -/
def State.failAdc (s : State) (f : FieldId) (q : AdcId) (cause data : Nat) : State :=
  let s := (s.wr (fSt f) (O.AD_FAIL_CAUSE.at q.val) cause).stopAdc f q
  s.raise F.ADC_FAIL (fSt f) q.val data

/-- SLICE_SWAP (R203): every CAL_PERIOD the slice active longest leaves for calibration, at once if it is idle, else when its conversion
ends. -/
def execSliceSwap (f : FieldId) (q : AdcId) (s : State) : Out :=
  let x := s.adc f q
  let per := s.rd (fSt f) (O.CAL_PERIOD.at q.val)
  let now := s.time (fSt f)
  .next (if x.failed || x.closed || x.calib.isSome || x.swapDue || per == 0 || decide (now < x.swapAt + per) then s
  else (s.putAdc f q { x with swapDue := true, swapAt := now }).settleSwap f q)
/-- SLICE_CALIBRATION_DONE (R203, R204): the slice becomes the spare, or active again where no spare has taken its place, or is
retired. -/
def execSliceCalibrationDone (f : FieldId) (q : AdcId) (ok : Bool) (s : State) : Out :=
  let x := s.adc f q
  .next (match x.calib with
  | none => s
  | some a =>
    if ok then
      if x.calBack then
        (s.putAdc f q { x with calib := none, calBack := false, active := x.active ++ [a] }).wr (fSt f) (O.SPARE_SLICE.at q.val) 0xFF
      else s.putAdc f q { x with calib := none }
    else
      let s := s.putAdc f q { x with calib := none, calBack := false }
      let m := s.rd (fSt f) (O.SLICES.at q.val)
      let s := (s.wr (fSt f) (O.SLICES.at q.val) (if bit m a then m - 2 ^ a else m)).wr (fSt f) (O.SPARE_SLICE.at q.val) 0xFF
      let s := s.raise F.ADC_SLICE_FAIL (fSt f) q.val 0
      if x.active = [] then (s.failAdc f q 1 0).drive else s)

/-- A write of REF_EN (R205). -/
def effRefEn (f : FieldId) (q : AdcId) (v : Nat) : Effect := fun s =>
  let st := s.railState (adcRail f q)
  let en := s.rd (fSt f) (O.REF_EN.at q.val)
  if 1 < v then .error .value
  else if v = 0 then
    if st = 0 ∨ st = 5 then .ok ((s.wr (fSt f) (O.REF_EN.at q.val) 0).wr (fSt f) (O.REF_STATE.at q.val) 0)
    else .error .state
  else if en = 1 then .ok s
  else .ok ((s.wr (fSt f) (O.REF_EN.at q.val) 1).wr (fSt f) (O.REF_STATE.at q.val) 1)
/-- REF_EN_WRITE (R205). -/
def execRefEnWrite (slot : Slot) (f : FieldId) (q : AdcId) (v : Byte) (s : State) : Out :=
  .next (s.writeReq slot (fSt f) (O.REF_EN.at q.val) 1 (effRefEn f q v.toNat))
/-- REF_READY (R205): 200 µs after the buffer was enabled. -/
def execRefReady (f : FieldId) (q : AdcId) (s : State) : Out :=
  .next (if s.rd (fSt f) (O.REF_STATE.at q.val) = 1 then
    let r := s.therm f
    let s := if tblGet 0 r.readyAt q.val = 0 then s.putTherm f { r with readyAt := tblSet 0 r.readyAt q.val (s.time (fSt f) + 1) } else s
    (s.wr (fSt f) (O.REF_STATE.at q.val) 2).wr (fSt f) (O.REF_READY_TIME.at q.val) (s.time (fSt f)) else s)

/-! ### Descriptors, entries, timers and comparators -/

/-- The checks of a descriptor (R206). -/
def State.seqOk (s : State) (f : FieldId) (q : AdcId) (n w : Nat) : Bool :=
  let es := (List.range (seqLen w)).map (fun k => seqFirst w + k)
  let others := (List.range 24).filter (fun m => m != n && seqEn (s.adcSeq f q m))
  !bit w 11
    && !(seqEn w && seqLen w == 0)
    && decide (seqFirst w + seqLen w ≤ 32)
    && decide ((es.map (s.entryCh f q)).Nodup)
    && others.all (fun m =>
      let v := s.adcSeq f q m
      decide (seqFirst v + seqLen v ≤ seqFirst w ∨ seqFirst w + seqLen w ≤ seqFirst v ∨ seqLen w = 0))
    && decide (seqPhase w < phaseCount (adcRail f q))
    && (decide (2 ≤ seqTrig w) || seqPhase w == 0)
def effSeq (f : FieldId) (q : AdcId) (n w : Nat) : Effect := fun s =>
  let w := w - flagAt (bit w 11) 11
  if s.seqOk f q n w then .ok (s.wr (fSt f) ((O.SEQ.at q.val).nth n) w) else .error .value
/-- SEQUENCE_WRITE (R206): takes effect at the next trigger. -/
def execSequenceWrite (slot : Slot) (f : FieldId) (q : AdcId) (n : Fin 24) (word : BitVec 32) (s : State) : Out :=
  .next (s.writeReq slot (fSt f) ((O.SEQ.at q.val).nth n.val) 4 (effSeq f q n.val word.toNat))
/-- A write of ENTRY_CH (R200, R206). -/
def effEntryCh (f : FieldId) (q : AdcId) (e v : Nat) : Effect := fun s =>
  if chanReserved q.val (v % 32) then .error .value else .ok (s.wr (fSt f) ((O.ENTRY_CH.at q.val).nth e) (v % 32))
/-- A write of a timer's PHASE: 0 to PERIOD − 1 (R222). -/
def effTmrPhase (f : FieldId) (q : AdcId) (tmr : Fin 2) (v : Nat) : Effect := fun s =>
  let per := s.rd (fSt f) ((if tmr = 0 then O.TMR0_PERIOD else O.TMR1_PERIOD).at q.val)
  if v < per then .ok (s.wr (fSt f) ((if tmr = 0 then O.TMR0_PHASE else O.TMR1_PHASE).at q.val) v) else .error .value
/-- A write of CAL_PERIOD: 0, or 100,000 to 1,000,000,000 (R222). -/
def effCalPeriod (f : FieldId) (q : AdcId) (v : Nat) : Effect := fun s =>
  if v = 0 ∨ (100000 ≤ v ∧ v ≤ 1000000000) then .ok (s.wr (fSt f) (O.CAL_PERIOD.at q.val) v) else .error .value

/-- LOW and HIGH of a comparator (R224). -/
def cmpLow (w : Nat) : Nat := bits w 11 0
def cmpHigh (w : Nat) : Nat := bits w 23 12
/-- The band of a comparator against HYST (R214). -/
def cmpOk (w hyst : Nat) : Bool := cmpLow w ≤ cmpHigh w && 2 * hyst ≤ cmpHigh w - cmpLow w
def State.cmpCfg (s : State) (f : FieldId) (q : AdcId) (n : Nat) : Nat := s.rd (fSt f) ((O.CMP_CFG.at q.val).nth n)
/-- A write of CMP_CFG (R214, R224): a 0-to-1 change of EN puts the comparator in band. -/
def effCmpCfg (f : FieldId) (q : AdcId) (n w : Nat) : Effect := fun s =>
  let w := w - bits w 30 29 * 2 ^ 29
  if !cmpOk w (s.rd (fSt f) (O.CMP_HYST.at q.val)) then .error .value
  else
    let rise := bit w 31 && !bit (s.cmpCfg f q n) 31
    let s := s.wr (fSt f) ((O.CMP_CFG.at q.val).nth n) w
    let o := (O.CMP_STAT.at q.val).nth n
    .ok (if rise then s.wr (fSt f) o (s.rd (fSt f) o % 2 ^ 31) else s)
/-- COMPARATOR_CONFIG_WRITE (R214). -/
def execComparatorConfigWrite (slot : Slot) (f : FieldId) (q : AdcId) (n : Fin 4) (word : BitVec 32) (s : State) : Out :=
  .next (s.writeReq slot (fSt f) ((O.CMP_CFG.at q.val).nth n.val) 4 (effCmpCfg f q n.val word.toNat))
/-- A write of CMP_HYST (R214, R223). -/
def effCmpHyst (f : FieldId) (q : AdcId) (v : Nat) : Effect := fun s =>
  if 255 < v ∨ (List.range 4).any (fun n => bit (s.cmpCfg f q n) 31 && !cmpOk (s.cmpCfg f q n) v) then .error .value
  else .ok (s.wr (fSt f) (O.CMP_HYST.at q.val) v)

/-- A valid result of an entry at one comparator (R214). -/
def State.compare (s : State) (f : FieldId) (q : AdcId) (e code word n : Nat) : State :=
  let w := s.cmpCfg f q n
  if !bit w 31 || bits w 28 24 != e then s
  else
    let o := (O.CMP_STAT.at q.val).nth n
    let st := s.rd (fSt f) o
    let h := s.rd (fSt f) (O.CMP_HYST.at q.val)
    if bit st 31 then
      if cmpLow w + h ≤ code ∧ code + h ≤ cmpHigh w then s.wr (fSt f) o (st % 2 ^ 31) else s
    else if code < cmpLow w ∨ cmpHigh w < code then
      let leaves := satAdd max16 (st % 2 ^ 16) 1
      let s := s.wr (fSt f) o (2 ^ 31 + flagAt (decide (cmpHigh w < code)) 30 + code * 2 ^ 16 + leaves)
      let s := s.wr (fSt f) ((O.CMP_TIME.at q.val).nth n) (s.time (fSt f))
      s.raise F.ADC_WINDOW (fSt f) (q.val + 256 * n) word
    else s

/-! ### Results and their users -/

/-- The sense checks of a phase (R175), while its rail regulates: an out-of-range reading first; then, unless its mean is low, which is an
open phase, a stuck one, counted while its on-times are issued, and one without ripple at each peak. `own` says that the conversion
was triggered by the phase's own on-time, `peak` that it is the peak of the period `y`. -/
def State.senseCheck (s : State) (r : RailId) (p : PhaseId) (code : Nat) (own peak : Bool) (y : PhPeriod) : State :=
  if s.railState r ≠ 2 ∨ !s.phaseIn r p then s
  else
    let x := s.phase r p
    let out := decide (code < 1200 ∨ 3400 < code)
    let outRun := if out then x.outRun + 1 else 0
    let sameRun := if own || x.issued then (if x.lastCode = some code then x.sameRun + 1 else 1) else x.sameRun
    let flat := match y.peak, y.valley with
      | some a, some b => decide (a - b < (s.rd hubSt (O.RIPPLE_MIN.at r.val) : Int))
      | _, _ => false
    let flatRun := if peak ∧ 400 ≤ y.ton then (if flat then x.flatRun + 1 else 0) else x.flatRun
    let s := s.putPhase r p { x with
      outRun := outRun, sameRun := sameRun, flatRun := flatRun, lastCode := some code, issued := false }
    if 4 ≤ outRun then s.senseFail r p 3 false
    else if 0 < x.openRun then s
    else if 64 ≤ sameRun then s.senseFail r p 1 false
    else if 64 ≤ flatRun then s.senseFail r p 2 false
    else s

/-- The period of a phase that a conversion belongs to (R216): the one that runs, or an ended one that waits for it. -/
def PhaseRec.periodOf (x : PhaseRec) (start now : Nat) : Option PhPeriod :=
  if x.onAt = some start then some ⟨start, now, x.ton, x.offAt, x.midAt, x.valley, x.peak⟩ else x.late.find? (fun y => y.start == start)
/-- A period of a phase with what a conversion has given it: in the phase's record while it runs; an ended one whose mean is known then is
charged (R216). -/
def State.putPeriod (s : State) (r : RailId) (p : PhaseId) (y : PhPeriod) : State :=
  let x := s.phase r p
  if x.onAt = some y.start then s.putPhase r p { x with valley := y.valley, peak := y.peak }
  else
    match periodMean y with
    | some v => (s.putPhase r p { x with late := x.late.filter (fun z => z.start != y.start) }).periodCharge r p y.start y.stop v
    | none => s.putPhase r p { x with late := x.late.map (fun z => if z.start = y.start then y else z) }
/-- A phase's conversion: its current (R201), taken as the valley or the peak of the period that it was triggered in (R216), and the sense
checks. -/
def State.takePhase (s : State) (f : FieldId) (q : AdcId) (h : AdcHold) (code : Nat) : State :=
  let r := adcRail f q
  let p := chanPhase q h.channel
  let own := h.trig.any (fun t => t.1 == p.val)
  let peak := h.trig.any (fun t => own && t.2)
  match if own then (s.phase r p).periodOf h.period (s.time hubSt) else none with
  | none => s.senseCheck r p code own false ⟨0, 0, 0, none, none, none, none⟩
  | some y =>
    match (s.adc f q).iref with
    | none => s.senseCheck r p code own peak y
    | some z =>
      let i : Int := ((code : Int) - z) * 50
      let y := if peak then { y with peak := some i } else { y with valley := some i }
      (s.putPeriod r p y).senseCheck r p code own peak y

/-- The rail current (R216): the phase currents of the last completed periods. -/
def State.railCurrent (s : State) (r : RailId) : Int :=
  if s.railSwitching r then
    ((phasesOf r).filter (s.phaseIn r)).foldl (fun a p => a + ((s.phase r p).mean.getD 0)) 0
  else 0
/-- The count from which a condition has held at every reading. -/
def sinceOf (met : Bool) (old : Option Nat) (now : Nat) : Option Nat := if met then some (old.getD now) else none
/-- A reading of V_FB at the protections of the rail: undervoltage, overvoltage, and regulation at the end of the ramp (R168, R170,
R180, R212). -/
def State.fbTaken (s : State) (r : RailId) : State :=
  let x := s.rail r
  let v := s.vFb r
  let now := s.time hubSt
  let st := s.railState r
  let t : Int := s.railTarget r * 1000000000
  s.putRail r { x with
    uvFrom := sinceOf (st == 2 && decide (10 * v < 9 * s.vRefNow r * 1000000000)) x.uvFrom now
    ovFrom := sinceOf (decide (s.ovLevel r ≤ v)) x.ovFrom now
    regFrom := sinceOf ((st == 1 || st == 4) && s.refNow r == s.railTarget r && decide ((v - t).natAbs * 100 ≤ 3 * t.natAbs)) x.regFrom now }
/-- A remote-sense reading: V_FB, and the rail's voltage, current and power samples, in 0.5 mV, mA and 0.5 µW (R216). -/
def State.takeRemote (s : State) (r : RailId) (q : AdcId) (at_ code : Nat) (ovr : Bool) : State :=
  let i := s.railCurrent r
  let x := s.rail r
  let s := s.putRail r { x with vfb := code, vfbAt := some (q.val, at_), remMs := x.remMs.add code, curMs := x.curMs.add i }
  let s := if s.rd hubSt (O.SENSE_SRC.at r.val) = 0 then s.fbTaken r else s
  let s := s.telAdd hubSt (0x2880 + r.val) code i (code * i)
  let t := s.tel hubSt (0x2880 + r.val)
  if ovr then s.putTel hubSt (0x2880 + r.val) { t with ovr := true } else s
/-- A local-sense reading; with the remote one of the same instant it is a pair of R184's check, in every state in which the rail
switches. -/
def State.takeLocal (s : State) (r : RailId) (q : AdcId) (at_ code : Nat) : State :=
  let x := s.rail r
  let apart := ((x.vfb * 500000000 + s.dropPv r : Int) - code * 500000000).natAbs
  let far := s.railSwitching r && s.rd hubSt (O.SENSE_SRC.at r.val) == 0 && decide (s.rd hubSt (O.SNS_WIN.at r.val) * 1000000000 < apart)
  let sns := if x.vfbAt = some (q.val, at_) then sinceOf far x.snsFrom (s.time hubSt) else x.snsFrom
  let s := s.putRail r { x with vloc := code, loc := x.loc.add code, locMs := x.locMs.add code, snsFrom := sns }
  if s.rd hubSt (O.SENSE_SRC.at r.val) = 1 then s.fbTaken r else s
/-- A reading of the intermediate bus: V_IBF is the average of the last completed 1 µs interval (R163). -/
def State.takeBus (s : State) (r : RailId) (mv : Nat) : State :=
  let x := s.rail r
  let w := (s.time hubSt) / 1000
  if x.ib.n = 0 ∨ x.ibWin = w then s.putRail r { x with ib := x.ib.add mv, ibWin := w }
  else (s.wr hubSt (O.V_IB.at r.val) (satU 16 x.ib.avg)).putRail r { x with ib := ({} : Samp).add mv, ibWin := w }
/-- The check reference (R204). -/
def State.takeCheck (s : State) (f : FieldId) (q : AdcId) (code word : Nat) : State :=
  let x := s.adc f q
  let bad := if code < 1960 ∨ 2040 < code then x.checkBad + 1 else 0
  let s := (s.putAdc f q { x with checkBad := bad }).wr (fSt f) (O.REF_CHECK.at q.val) (divRne code 2).toNat
  if 4 ≤ bad then s.failAdc f q 2 word else s

/-- A valid result and the unit that takes it (R199, R200, R212). -/
def State.takeResult (s : State) (f : FieldId) (q : AdcId) (h : AdcHold) (code word : Nat) (ovr : Bool) : State :=
  let r := adcRail f q
  let s := (List.range 4).foldl (fun s n => s.compare f q h.entry code word n) s
  match h.channel with
  | 8 => s.takeRemote r q h.time code ovr
  | 9 => s.takeLocal r q h.time code
  | 10 => s.takeBus r (4 * code)
  | 11 => if q.val < 2 then s.diodeTake f (Fin.ofNat 2 q.val) code ovr else s
  | 12 => s.takeCheck f q code word
  | 14 => s.putAdc f q { s.adc f q with iref := some code }
  | n =>
    if n < 8 then
      let s := s.takePhase f q h code
      let t := s.tel hubSt (0x2880 + r.val)
      if ovr then s.putTel hubSt (0x2880 + r.val) { t with ovr := true } else s
    else s

/-- SETTLE of a conversion by its slot start (R213), and the record after it. -/
def settle (x : AdcRec) (slot : Nat) (ovr : Bool) : Bool × AdcRec :=
  let inside := x.ovrAt.any (fun t => decide (slot ≤ t + 300))
  let first := !inside && x.ovrTail
  let y := if ovr then { x with ovrAt := some slot, ovrTail := true }
    else if inside then x else { x with ovrAt := none, ovrTail := false }
  (inside || first, y)

/-- CONVERSION_RESULT (R211-R213): the result of the oldest conversion in flight. -/
def execConversionResult (f : FieldId) (q : AdcId) (code : BitVec 12) (ovr : Bool) (s : State) : Out :=
  let s := s.settleSwap f q
  let x := s.adc f q
  .next (match x.flight with
  | [] => s
  | h :: rest =>
    if x.failed || x.closed then s
    else
      let st := fSt f
      let c := if ovr then (if code.toNat = 0 then 0 else 0xFFF) else code.toNat
      let z := settle { x with flight := rest } h.slot ovr
      let s := s.putAdc f q z.2
      let o := (O.RESULT.at q.val).nth h.entry
      let seqn := (bits (s.rd st o) 23 16 + 1) % 256
      let word := flagAt ovr 31 + flagAt z.1 30 + flagAt h.rnr 29 + flagAt h.late 27 + h.slice * 2 ^ 24 + seqn * 2 ^ 16 + c
      let s := (s.wr st o word).wr st ((O.RESULT_TIME.at q.val).nth h.entry) h.time
      let s := s.inc64 st (O.CONV_COUNT.at q.val) 1
      let s := if ovr then s.inc32 st (O.OVR_COUNT.at q.val) else s
      let s := if z.1 then s.inc32 st (O.SETTLE_COUNT.at q.val) else s
      let s := if h.rnr then s.inc32 st (O.RNR_COUNT.at q.val) else s
      let clean := (s.adc f q).clean.contains h.entry
      let s := if ovr ∧ clean then
          (s.putAdc f q { s.adc f q with clean := (s.adc f q).clean.erase h.entry }).raise F.ADC_OVR st q.val word
        else s
      if z.1 || h.rnr then (if h.channel = 11 ∧ q.val < 2 then s.diodeBad f (Fin.ofNat 2 q.val) else s)
      else
        let y := s.adc f q
        let s := if ovr ∨ clean then s else s.putAdc f q { y with clean := y.clean ++ [h.entry] }
        (s.takeResult f q h c word ovr).drive)

end Sys2Proof.Machine
end

