-- ==== Sys2Proof/Machine/Ledger.lean ====
section
/-!
DEFINITION. The energy ledger (chapter Power Estimation, Learning and the Energy Ledger): entries in the hub's banks, job
operations, the flush ring and bindings.
-/
namespace Sys2Proof.Machine
open Sys2Proof

/-! ### Banks and entries -/

/-- BANK_STATE and the owner's KIND of a bank (R384, R398). -/
def State.bankState (s : State) (st b : Nat) : Nat := s.rd st (O.BANK_STATE.at b)
def State.bankKind (s : State) (st b : Nat) : Nat := s.rd st (O.OWNER.at b) / 2 ^ 12
/-- Whether the agent of an owner word reaches a bank on port A: it owns the bank, which no handover holds (R385, R392). -/
def State.bankReaches (s : State) (st b w : Nat) : Bool := s.bankState st b == 0 && s.rd st (O.OWNER.at b) == w
/-- An agent's access to a bank that another owns is refused and counted (R385). -/
def State.knock (s : State) (st b w : Nat) : State :=
  if s.bankState st b = 0 ∧ s.rd st (O.OWNER.at b) ≠ w then (s.inc32 st O.OWNER_REFUSED).raise F.MEM_OWNER st b 0 else s
/-- A little-endian value of `n` bytes in a station's scratchpad. -/
def State.padNat (s : State) (st a n : Nat) : Nat :=
  match n with
  | 0 => 0
  | n + 1 => s.pad st a + 256 * s.padNat st (a + 1) n
def State.putPadNat (s : State) (st a n v : Nat) : State := s.putPad st a ((leBytes n v).map BitVec.toNat)
/-- The `n` bytes of a scratchpad from an address. -/
def State.padBytes (s : State) (st a n : Nat) : List Byte := (List.range n).map (fun i => BitVec.ofNat 8 (s.pad st (a + i)))

/-- The entry of a handle (R383), its bank, and whether the ledger can use it (R392). -/
def entryAddr (h : Nat) : Nat := 0x20000 + h * 128
def entryBank (h : Nat) : Nat := 4 + h / 256
def State.handleUsable (s : State) (h : Nat) : Bool := s.bankState hubSt (entryBank h) != 3 && s.bankKind hubSt (entryBank h) == 2
/-- A field of an entry by its offset and size (R244). -/
def State.entry (s : State) (h off n : Nat) : Nat := s.padNat hubSt (entryAddr h + off) n
def State.putEntry (s : State) (h off n v : Nat) : State := s.putPadNat hubSt (entryAddr h + off) n v
/-- STATE of FLAGS (R245): 0 free, 1 open, 2 closing, 3 closed. -/
def State.entryState (s : State) (h : Nat) : Nat := s.entry h 0x30 4 / 2 ^ 30
/-- A new STATE with the other flags kept. -/
def State.setEntryState (s : State) (h v : Nat) : State := s.putEntry h 0x30 4 (v * 2 ^ 30 + s.entry h 0x30 4 % 2 ^ 30)
/-- A flag set. -/
def State.flagEntry (s : State) (h k : Nat) : State :=
  let w := s.entry h 0x30 4
  s.putEntry h 0x30 4 (if bit w k then w else w + 2 ^ k)
/-- Zeroing an entry. -/
def State.zeroEntry (s : State) (h : Nat) : State := s.putPad hubSt (entryAddr h) (List.replicate 128 0)
/-- The own entries not free: those whose FLAGS byte with STATE is listed in the scratchpad. -/
def State.usedHandles (s : State) : List Nat :=
  (s.mem.filterMap (fun e =>
    if 0x20000 ≤ e.1 ∧ e.1 < 0xA0000 ∧ (e.1 - 0x20000) % 128 = 0x33 ∧ 64 ≤ e.2 then some ((e.1 - 0x20000) / 128) else none)).filter
    (· != 0xFFF)
/-- The own entry that holds an identifier. -/
def State.findJob (s : State) (id : Nat) : Option Nat := s.usedHandles.find? (fun h => s.entry h 0 8 == id)

/-- An atomic add of an amount to a field of an entry (R243, R250). An add that the bank's handover or failure keeps from
completing goes to E_HANDOVER where it is energy, and is not written otherwise; a word found poisoned is zeroed (R390). -/
def State.ledgerAdd (s : State) (h off n : Nat) : State :=
  let b := entryBank h
  let energy := off == 0x08 || off == 0x10 || off == 0x18
  if n = 0 then s
  else if s.bankState hubSt b ≠ 0 ∨ s.bankKind hubSt b ≠ 2 then
    if energy then s.inc64 hubSt O.E_HANDOVER n else s
  else
    let a := entryAddr h + off
    if s.poison.contains (padKey hubSt a / 8) then
      let s := { s with poison := s.poison.filter (· != padKey hubSt a / 8) }
      (s.putEntry h off 8 0).raise F.MEM_UNCORR hubSt b 0
    else
      let s := s.putEntry h off 8 ((s.entry h off 8 + n) % 2 ^ 64)
      if off = 0x18 then s.flagEntry h 28 else s

/-! ### Results -/

/-- OP_RESULT of a session (R255). -/
def State.opDone (s : State) (slot : Slot) (code op h : Nat) : State :=
  s.putSession slot { s.session slot with opResult := code * 2 ^ 28 + op * 2 ^ 24 + h % 4096 }

/-! ### Opening (R246) -/

/-- The entry of a new job. -/
def State.newEntry (s : State) (h id : Nat) : State :=
  ((s.putEntry h 0 8 id).putEntry h 0x20 8 (s.time hubSt)).putEntry h 0x30 4 (2 ^ 30 + 1)
/-- The job is charged to 0xFFF. -/
def State.chargeOverflow (s : State) (slot : Slot) (id : Nat) : State :=
  let w := s.entry 0xFFF 0x30 4
  let w := w - w % 2 ^ 16 + min 0xFFFF (w % 2 ^ 16 + 1)
  let s := (s.putEntry 0xFFF 0x30 4 w).flagEntry 0xFFF 26
  let s := { s with ledger := { s.ledger with overflow := s.ledger.overflow ++ [id] } }
  ((s.inc32 hubSt O.OVF_OPENS).raise F.LEDGER_OVERFLOW hubSt 0 0).opDone slot 1 1 0xFFF
/-- The closed entry with the earliest CLOSE_TIME, the lowest handle on a tie. -/
def State.oldestClosed (s : State) : Option Nat :=
  (s.usedHandles.filter (fun h => s.entryState h == 3 && s.handleUsable h && s.bankState hubSt (entryBank h) == 0)).foldl
    (fun a h => match a with
      | none => some h
      | some b => if s.entry h 0x28 8 < s.entry b 0x28 8 then some h else some b) none
/-- The bank of the flush ring that takes the next record (R383). -/
def State.ringBank (s : State) : Nat := 20 + (s.ledger.head + s.ledger.count) % 512 / 256
/-- A closed entry is copied into the flush ring, with FLUSHED set in the record (R245, R246). -/
def State.evict (s : State) (h : Nat) : State :=
  let k := (s.ledger.head + s.ledger.count) % 512
  let s := s.flagEntry h 29
  let s := s.putPad hubSt (0xA0000 + k * 128) ((s.padBytes hubSt (entryAddr h) 128).map BitVec.toNat)
  let s := { s with ledger := { s.ledger with count := s.ledger.count + 1 } }
  (s.zeroEntry h).inc32 hubSt O.LG_EVICTIONS
/-- JOB_OPEN's effect. Where the ledger does not reach the ring's bank, no entry can be evicted and the job is charged to 0xFFF (the
model's choice, assumption 106). -/
def effJobOpen (slot : Slot) (id : Nat) : Effect := fun s =>
  .ok (if id = 0 then s.opDone slot 3 1 0
  else if s.ledger.overflow.contains id then s.opDone slot 1 1 0xFFF
  else
    match s.findJob id with
    | some h =>
      let s := if s.entryState h = 3 then (s.setEntryState h 1).putEntry h 0x28 8 0 else s
      s.opDone slot 0 1 h
    | none =>
      let used := s.usedHandles
      match (List.range 4095).find? (fun h => !used.contains h && s.handleUsable h && s.bankState hubSt (entryBank h) == 0) with
      | some h => (s.newEntry h id).opDone slot 0 1 h
      | none =>
        match s.oldestClosed with
        | none => s.chargeOverflow slot id
        | some h =>
          if 512 ≤ s.ledger.count then (s.raise F.LEDGER_FLUSH_FULL hubSt 0 0).chargeOverflow slot id
          else if s.bankReaches hubSt s.ringBank 0x2000 then ((s.evict h).newEntry h id).opDone slot 0 1 h
          else (s.knock hubSt s.ringBank 0x2000).chargeOverflow slot id)
/-- JOB_OPEN (R246). -/
def execJobOpen (slot : Slot) (id : BitVec 64) (s : State) : Out :=
  .next (s.writeReq slot hubSt O.JOB_OPEN 8 (effJobOpen slot id.toNat))

/-! ### Closing, freeing, finding (R247, R254) -/

/-- A binding list with a handle unbound. -/
def unbindList (h : Nat) (l : List Nat) : List Nat := l.map (fun x => if x = h then 0xFFFF else x)
/-- A binding table with a handle unbound everywhere. -/
def unbindTable (h : Nat) (t : Tbl (List Nat)) : Tbl (List Nat) :=
  (t.map (fun e => (e.1, unbindList h e.2))).filter (fun e => e.2.any (· != 0xFFFF))
/-- Every binding to a handle is cleared at once; a share formed later is unattributed (R247). -/
def State.unbind (s : State) (h : Nat) : State :=
  { s with
    ledger := { s.ledger with binds := unbindTable h s.ledger.binds }
    ests := (s.ests.map (fun e => (e.1, { e.2 with
      binds := unbindTable h e.2.binds, shares := e.2.shares.filter (fun q => q.handle != h) }))).filter (fun e => decide (e.2 ≠ ({} : EstRec)))
    tiles := (s.tiles.map (fun e => (e.1, { e.2 with binds := unbindTable h e.2.binds }))).filter (fun e => decide (e.2 ≠ ({} : TileRec))) }
/-- JOB_CLOSE's effect. -/
def effJobClose (slot : Slot) (id : Nat) : Effect := fun s =>
  .ok (if s.ledger.overflow.contains id then
    ({ s with ledger := { s.ledger with overflow := s.ledger.overflow.erase id } } : State).opDone slot 0 2 0xFFF
  else
    match s.findJob id with
    | some h => if id ≠ 0 ∧ s.entryState h = 1 then ((s.unbind h).setEntryState h 2).opDone slot 0 2 h else s.opDone slot 2 2 0
    | none => s.opDone slot 2 2 0)
/-- JOB_CLOSE (R247). -/
def execJobClose (slot : Slot) (id : BitVec 64) (s : State) : Out :=
  .next (s.writeReq slot hubSt O.JOB_CLOSE 8 (effJobClose slot id.toNat))

/-- FLUSH_REPLY (R247): a field station adds what it still holds for a closing handle, its fractions to nearest, and replies, after a
handover of the bank;
after the eighth reply the entry is closed. -/
def execFlushReply (f : FieldId) (h : Fin 4096) (s : State) : Out :=
  let got := tblGet 0 s.ledger.replies h.val
  .next (if s.entryState h.val ≠ 2 ∨ bit got f.val ∨ s.fieldCut f ∨ s.bankState hubSt (entryBank h.val) = 2 then s
  else
    let x := s.estr f
    let b := tblGet {} x.buckets h.val
    let whole (n : Nat) : Nat := (divRne n 1024).toNat
    let s := ((s.ledgerAdd h.val 0x08 (whole b.attr)).ledgerAdd h.val 0x10 (whole b.svc)).ledgerAdd h.val 0x18 (whole b.meas)
    let s := s.putEstr f { s.estr f with buckets := tblErase x.buckets h.val }
    let got := got + 2 ^ f.val
    if got = 0xFF then
      let s := { s with ledger := { s.ledger with replies := tblErase s.ledger.replies h.val } }
      (s.setEntryState h.val 3).putEntry h.val 0x28 8 (s.time hubSt)
    else { s with ledger := { s.ledger with replies := tblSet 0 s.ledger.replies h.val got } })

/-- JOB_FREE's effect. -/
def effJobFree (slot : Slot) (h : Nat) : Effect := fun s =>
  .ok (if h < 0xFFF ∧ s.entryState h = 3 then (s.zeroEntry h).opDone slot 0 3 h else s.opDone slot 4 3 h)
/-- JOB_FREE (R247). -/
def execJobFree (slot : Slot) (h : BitVec 16) (s : State) : Out :=
  .next (s.writeReq slot hubSt O.JOB_FREE 2 (effJobFree slot h.toNat))
/-- JOB_FIND's effect. -/
def effJobFind (slot : Slot) (id : Nat) : Effect := fun s =>
  .ok (match s.findJob id with
    | some h => if id = 0 then s.opDone slot 2 4 0 else s.opDone slot 0 4 h
    | none => s.opDone slot 2 4 0)
/-- JOB_FIND (R254). -/
def execJobFind (slot : Slot) (id : BitVec 64) (s : State) : Out :=
  .next (s.writeReq slot hubSt O.JOB_FIND 8 (effJobFind slot id.toNat))

/-- FLUSH_ACK's effect (R248). -/
def effFlushAck (n : Nat) : Effect := fun s =>
  if s.ledger.count < n then .error .value
  else .ok { s with ledger := { s.ledger with head := (s.ledger.head + n) % 512, count := s.ledger.count - n } }
/-- FLUSH_ACK (R248). -/
def execFlushAck (slot : Slot) (n : BitVec 16) (s : State) : Out :=
  .next (s.writeReq slot hubSt O.FLUSH_ACK 2 (effFlushAck n.toNat))

/-! ### Bindings (R249) -/

/-- The object of a partition's binding: 0x2A40 + (p >> 7), subindex (p & 0x7F) + 1. -/
def partObj (base : Nat) (p : PartId) : Obj := ⟨base + p.val / 128, p.val % 128 + 1⟩
/-- The claim of a partition. -/
def State.part (s : State) (p : Nat) : Option PartRec := tblGet none s.budget.parts p
def State.putPart (s : State) (p : Nat) (x : Option PartRec) : State :=
  { s with budget := { s.budget with parts := tblSet none s.budget.parts p x } }
/-- A binding table entry; no entry where every queue is unbound. -/
def putBind (t : Tbl (List Nat)) (p : Nat) (l : List Nat) : Tbl (List Nat) :=
  if l.all (· == 0xFFFF) then tblErase t p else tblInsert t p l
/-- The 16 handles of a binding block. -/
def bindList (d : List Byte) : List Nat := (List.range 16).map (fun k => descNat d (2 * k) 2)
/-- A write of BIND. -/
def effBind (p : PartId) (d : List Byte) : Effect := fun s =>
  let l := bindList d
  if d.length ≠ 32 then .error .length
  else if (s.part p.val).isNone then .error .state
  else if l.all (fun h => h == 0xFFFF || h == 0xFFF || (h < 0xFFF && s.entryState h == 1)) then
    .ok { s with ledger := { s.ledger with binds := putBind s.ledger.binds p.val l } }
  else .error .value
/-- BIND (R249). -/
def execBind (slot : Slot) (p : PartId) (data : List Byte) (s : State) : Out :=
  .next (s.request slot 0x02 hubSt (partObj 0x2A40 p).index (partObj 0x2A40 p).sub
    (fun s => s.admitWrite slot hubSt (partObj 0x2A40 p).index (partObj 0x2A40 p).sub data.length) (effBind p data))
/-- BINDING_RECEIVE (R249): a field station receives the hub's binding of a partition, used from the next tile interval. -/
def execBindingReceive (f : FieldId) (p : PartId) (s : State) : Out :=
  .next (if s.fieldCut f then s
    else s.putEstr f { s.estr f with binds := putBind (s.estr f).binds p.val (tblGet [] s.ledger.binds p.val) })

end Sys2Proof.Machine
end

