-- ==== Sys2Proof/Machine/Split.lean ====
section
/-!
DEFINITION. Activity, learning and energy at a field station (chapter Power Estimation, Learning and the Energy Ledger):
snapshots and the split of a tile's energy, learning intervals, freezes, services, and the adds to the ledger.
-/
namespace Sys2Proof.Machine
open Sys2Proof

/-! ### Buckets (R243) -/

/-- A share in 1/1,024 µJ enters a handle's bucket: 0 attributed, 1 service, 2 measured. -/
def EstRec.charge (x : EstRec) (h kind n : Nat) : EstRec :=
  let b := tblGet {} x.buckets h
  let b := match kind with
    | 0 => { b with attr := b.attr + n }
    | 1 => { b with svc := b.svc + n }
    | _ => { b with meas := b.meas + n }
  { x with buckets := tblSet {} x.buckets h b }
/-- A share goes to its handle, or where there is none to the unattributed total. -/
def EstRec.share (x : EstRec) (h kind n : Nat) : EstRec :=
  if h = 0xFFFF then { x with unattr := x.unattr + n } else x.charge h kind n
/-- The handle bound to a tag (R229, R249). -/
def tagHandle (t : Tbl (List Nat)) (tag : Nat) : Nat :=
  if bit tag 15 then (tblGet [] t (bits tag 13 4)).getD (bits tag 3 0) 0xFFFF else 0xFFFF

/-! ### Snapshots (R228, R229) -/

/-- Tile counters of the groups MAT, SRAM, FAB, MEMX, LNK. -/
def groupCounts (a : List Nat) : List Nat :=
  [((a.take 8).sum), (((a.drop 12).take 4).sum), (((a.drop 20).take 16).sum), (((a.drop 16).take 4).sum), (((a.drop 36).take 4).sum)]
/-- The advance of a cumulative count of 32 bits. -/
def advance (old new : Nat) : Nat := (new + 2 ^ 32 - old) % 2 ^ 32
/-- The advance of a slot: from the last counts under the same tag, else the new counts whole. -/
def slotAdvance (old : SlotRec) (tag : Nat) (c : List Nat) : List Nat :=
  if old.tag = tag then List.zipWith advance old.counts c else c
/-- The weight of counts under SPLIT_A. -/
def splitWeight (a c : List Nat) : Nat := (List.zipWith (· * ·) a c).sum
/-- SPLIT_A of a descriptor. -/
def splitA (d : List Byte) : List Nat := (List.range 5).map (fun k => descNat d (0x54 + 2 * k) 2)
/-- An input vector (R230, R231): advances scaled to 2,000 ns, at the descriptor's exponent. -/
def inputVec (e : Int) (interval : Nat) (l : List Nat) : Block :=
  ⟨0, e, l.map (fun a => clampInt (-32768) 32767 (roundQ ⟨(a * 2000 : Nat), 0⟩ interval e))⟩

/-- What an interval gives each slot: its handle, its counts' advances, and whether the tag is in use. -/
structure SlotShare where
  handle : Nat
  counts : List Nat
  used : Bool
deriving DecidableEq, Repr

/-- A tile interval's energy is split (R241): `pj` in pJ, of which the idle part `idle`. -/
def splitShares (x : EstRec) (kind pj idle wt : Nat) (a : List Nat) (l : List SlotShare) : EstRec :=
  let used := l.filter SlotShare.used
  let n := used.length
  let dyn := pj - idle
  let ws := (used.map (fun q => splitWeight a q.counts)).sum
  let unit (num den : Nat) : Nat := (divRne (num * 1024 : Nat) (den * 1000000)).toNat
  let x := used.foldl (fun x q =>
    let w := splitWeight a q.counts
    let v := if wt = 0 then unit idle n else unit (dyn * w * n + idle * wt) (wt * n)
    x.share q.handle kind v) x
  let rest := if wt = 0 then unit dyn 1 else unit (dyn * (wt - min wt ws)) wt
  let rest := rest + (if n = 0 then unit idle 1 else 0)
  { x with unattr := x.unattr + rest }

/-- A service window takes a slot's counts under its handle (R242). -/
def addShare (l : List SvcShare) (h : Nat) (c : List Nat) : List SvcShare :=
  match l with
  | [] => [⟨h, c⟩]
  | y :: r => if y.handle = h then ⟨h, List.zipWith (· + ·) y.counts c⟩ :: r else y :: addShare r h c

/-- TILE_NS: once for every distinct handle on the tile (R244). -/
def State.tileNs (s : State) (hs : List Nat) (ns : Nat) : State :=
  (hs.eraseDups.filter (· != 0xFFFF)).foldl (fun s h => s.ledgerAdd h 0x38 ns) s

/-- A tile's estimate and its means now, for the learning of R280. -/
def State.curdSeen (s : State) (f : FieldId) (t : TileId) : CurdObs :=
  let x := s.tile f t
  ⟨f.val, t.val, 0, 0, s.time hubSt, s.rd (fSt f) (O.P_EST.at t.val), x.totSum, x.totN⟩
/-- A hint word is queued; a full queue loses its oldest entry (R282). -/
def State.queueHint (s : State) (f : FieldId) (t : TileId) (w : Nat) : State :=
  let x := s.arb f
  let h : HintWord := ⟨t.val, w, s.time (fSt f), s.curdSeen f t⟩
  if x.hints.length < 64 then s.putArb f { x with hints := x.hints ++ [h] }
  else (s.putArb f { x with hints := x.hints.drop 1 ++ [h] }).inc32 (fSt f) O.HINT_DROPS

/-- The energy of an interval that a snapshot ends, which only a live tile has (R241), and its counts and times (R242, R244). -/
def State.splitInterval (s : State) (f : FieldId) (t : TileId) (interval : Nat) (adv : List Nat) (l : List SlotShare) : State :=
  let st := fSt f
  let x := s.tile f t
  let pj := if s.tileLive f t then s.rd st (O.P_EST.at t.val) * interval else 0
  let p0 := s.rd st (O.P0.at t.val) * interval
  let idle := min pj p0
  let a := (s.descFor f (estGroup t)).elim [0, 0, 0, 0, 0] splitA
  let r := splitShares (s.estr f) (if x.frozen = 0 then 0 else 2) pj idle (splitWeight a (groupCounts adv)) a l
  let frac := tblGet 0 r.estFrac t.val + pj
  let r := { r with
    estFrac := tblSet 0 r.estFrac t.val (frac % 1000000)
    shares := (l.filter (fun q => q.used && q.handle != 0xFFFF)).foldl (fun m q => addShare m q.handle q.counts) r.shares
    whole := List.zipWith (· + ·) r.whole (groupCounts adv) }
  let s := (s.putEstr f r).inc64 st (O.E_EST.at t.val) (frac / 1000000)
  s.tileNs ((l.filter SlotShare.used).map SlotShare.handle) interval

/-- ACTIVITY_SNAPSHOT_RECEIVE (R57, R228-R231, R241, R282): counters, slot records and 0 to 4 hint words of a tile. -/
def execActivitySnapshotReceive (f : FieldId) (t : TileId) (counts : List (BitVec 32)) (slots : List SnapSlot)
    (hints : List (BitVec 32)) (s : State) : Out :=
  let x := s.tile f t
  let new := (List.range 48).map (fun k => (counts.getD k 0).toNat)
  let recs : List SlotRec := (List.range 8).map (fun k => match slots[k]? with
    | some q => ⟨q.tag.toNat, (List.range 5).map (fun j => (q.counts.getD j 0).toNat)⟩
    | none => {})
  let first := x.counts.isEmpty
  let interval := (s.time (fSt f)) - x.snapAt
  let adv := List.zipWith advance x.counts new
  let shares : List SlotShare := (List.range 8).map (fun k =>
    let q := recs.getD k {}
    ⟨tagHandle x.binds q.tag, slotAdvance (x.slots.getD k {}) q.tag q.counts, bit q.tag 15⟩)
  let live := s.tileLive f t
  let e : Int := (s.descFor f (estGroup t)).elim 0 (fun d => ofBits 8 (descNat d 6 1))
  let input := if live ∧ !first ∧ interval ≠ 0 then some (inputVec e interval (adv.take 32), inputVec e interval (adv.drop 32)) else x.input
  let s := s.putTile f t { x with
    asked := x.asked - 1, snapAt := (s.time (fSt f)), counts := new, slots := recs, input := input
    gap := x.gap || (!first && decide (10000 < interval))
    advancedAt := if first ∨ adv.any (0 < ·) then s.time (fSt f) else x.advancedAt
    sig := if first then x.sig else if x.sig.isEmpty then adv else List.zipWith (· + ·) x.sig adv }
  let s := if !first then s.splitInterval f t interval adv shares else s
  let s := s.putTile f t { s.tile f t with binds := (s.estr f).binds }
  .next (hints.foldl (fun s w => s.queueHint f t w.toNat) s)

/-! ### Services and the ledger (R242, R243) -/

/-- The counts that SVC_MAP names: 2 FAB, 3 MEMX, 4 LNK, 5 MEMX plus LNK; none without a descriptor. -/
def svcCount (code : Nat) (c : List Nat) : Nat :=
  match code with
  | 2 => c.getD 2 0
  | 3 => c.getD 3 0
  | 4 => c.getD 4 0
  | 5 => c.getD 3 0 + c.getD 4 0
  | _ => 0
/-- One service's energy over 10 µs is split in proportion to the slots' counts; 10 mW µs are 1,024 / 100,000 units. -/
def splitService (x : EstRec) (mw code : Nat) : EstRec :=
  let total := svcCount code x.whole
  let unit (num den : Nat) : Nat := (divRne (num * 1024 : Nat) (den * 100)).toNat
  if total = 0 then { x with unattr := x.unattr + unit mw 1 }
  else
    let tagged := (x.shares.map (fun q => svcCount code q.counts)).sum
    let y := x.shares.foldl (fun y q => y.charge q.handle 1 (unit (mw * svcCount code q.counts) total)) x
    { y with unattr := y.unattr + unit (mw * (total - min total tagged)) total }
/-- SERVICE_SPLIT (R242): once in each 10 µs window of the field station's count, C16, C17, C18 and AX*f*; without the auxiliary figure the window is lost. -/
def execServiceSplit (f : FieldId) (s : State) : Out :=
  let x := s.estr f
  let a := s.arb f
  let mw : List Nat := serviceClusters.map (fun c => s.rdRaw (clSt f c) 0x2800 5)
  let d := (s.descFor f 0).getD []
  let code (k : Nat) : Nat := descNat d (0x60 + k) 1
  let key := markKey 10 f.val
  let win := s.time (fSt f) / 10000 + 1
  .next (if tblGet 0 s.marks key = win then s
  else
  let s := { s with marks := tblSet 0 s.marks key win }.putArb f { a with axPower := none }
  match a.axPower with
  | none =>
    let lost := (mw.map (fun p => (divRne (p * 1024 : Nat) 100).toNat)).sum
    (s.putEstr f { x with unattr := x.unattr + lost, shares := [], whole := [0, 0, 0, 0, 0] }).inc32 (fSt f) O.SVC_WIN_LOST
  | some ax =>
    let y := (List.range 4).foldl (fun y k => splitService y ((mw ++ [ax]).getD k 0) (code k)) x
    s.putEstr f { y with shares := [], whole := [0, 0, 0, 0, 0] })

/-- LEDGER_ADD_ISSUE (R243): every LEDGER_PERIOD the whole µJ of every bucket go to the handle's entry, and the fractions stay. -/
def execLedgerAddIssue (f : FieldId) (s : State) : Out :=
  let x := s.estr f
  .next (if s.fieldCut f ∨ !s.periodic (markKey 9 f.val) (fSt f) (s.rd (fSt f) O.LEDGER_PERIOD) 0 then s
  else
    let s := s.mark (markKey 9 f.val) (fSt f)
    let s := x.buckets.foldl (fun s e =>
      ((s.ledgerAdd e.1 0x08 (e.2.attr / 1024)).ledgerAdd e.1 0x10 (e.2.svc / 1024)).ledgerAdd e.1 0x18 (e.2.meas / 1024)) s
    let keep (b : Bucket) : Bucket := ⟨b.attr % 1024, b.svc % 1024, b.meas % 1024⟩
    s.putEstr f { s.estr f with buckets := (x.buckets.map (fun e => (e.1, keep e.2))).filter (fun e => decide (e.2 ≠ ({} : Bucket))) })

/-! ### Learning intervals (R232, R236-R240) -/

/-- G over the closed window (R232): not while frozen, nor below a mean code of 16. -/
def State.updateG (s : State) (f : FieldId) (t : TileId) : State :=
  let x := s.tile f t
  let v := s.rdRaw (clSt f (tileCluster t)) 0x2800 7
  if x.frozen ≠ 0 ∨ x.estN = 0 ∨ x.codeN = 0 ∨ x.codeSum < 16 * x.codeN then s
  else if v = 0 then
    let r := s.draw
    r.2.wr (fSt f) (O.G.at t.val) (r.1 % 2 ^ 32)
  else
    let num : Int := ((x.estSum : Int) - s.rd (fSt f) (O.P0.at t.val) * x.estN) * 1000 * x.codeN
    s.wr (fSt f) (O.G.at t.val) (satU 32 (divRne num (x.estN * v * x.codeSum)))
/-- The mean of a sum over a number, 0 for none. -/
def meanOf (sum n : Nat) : Int := if n = 0 then 0 else divRne sum n
/-- LEARNING_WINDOW_END (R232, R236): at each multiple of 1 ms of the field station's count each tile's interval closes with its mean estimate, and the close markers are sent. -/
def execLearningWindowEnd (f : FieldId) (s : State) : Out :=
  .next (if !s.periodic (markKey 8 f.val) (fSt f) 1000000 0 then s
  else allTiles.foldl (fun s t =>
    let s := if s.tileLive f t then s.updateG f t else s
    let x := s.tile f t
    let gap := x.gap || decide (x.snapAt + 10000 < s.time (fSt f))
    s.putTile f t { x with
      closed := (x.closed ++ [(⟨s.time (fSt f), meanOf x.estSum x.estN, gap⟩ : Closed)]).drop (x.closed.length - 3)
      markers := x.markers ++ [s.time (fSt f)], gap := false
      estSum := 0, estN := 0, codeSum := 0, codeN := 0
      avg := if x.codeN = 0 then 0 else x.codeSum / x.codeN
      lastReasons := x.reasons, reasons := [], lastThrWin := x.thrWin, thrWin := 0 }) (s.mark (markKey 8 f.val) (fSt f)))

/-- The snapshot of w and P (R238). -/
def State.snapTile (s : State) (f : FieldId) (t : TileId) : State :=
  let x := s.tile f t
  (s.putTile f t { x with snap := x.rls, goodRun := 0 }).wr (fSt f) (O.SNAP_TIME.at t.val) (s.time (fSt f))
/-- A good or a bad interval (R238, R240). -/
def State.judgeGood (s : State) (f : FieldId) (t : TileId) (good : Bool) : State :=
  let st := fSt f
  let x := s.tile f t
  let run := if good then x.goodRun + 1 else 0
  let thaw := if good then x.thawRun + 1 else 0
  let s := s.putTile f t { x with goodRun := run, thawRun := if bit x.frozen 0 then thaw else 0 }
  let s := if s.rd st O.SNAP_RUN ≤ run then s.snapTile f t else s
  if bit x.frozen 0 ∧ s.rd st O.THAW_RUN ≤ thaw then
    let y := s.tile f t
    s.putTile f t { y with frozen := y.frozen - 1, thawRun := 0 }
  else s
/-- The disagreement of an interval (R239). -/
def State.judgeAgree (s : State) (f : FieldId) (t : TileId) (y est : Int) : State :=
  let st := fSt f
  let lim := max (s.rd st O.DIS_PCT * y) (100 * s.rd st O.DIS_MW)
  if (100 * (est - y).natAbs : Int) ≤ lim then s.wr st (O.DIS_COUNT.at t.val) 0
  else
    let n := satAdd max16 (s.rd st (O.DIS_COUNT.at t.val)) 1
    let s := s.wr st (O.DIS_COUNT.at t.val) n
    if s.rd st O.DIS_RUN ≤ n ∧ !bit (s.tile f t).frozen 0 then
      (s.freezeTile f t 0).raise F.EST_DISAGREE st t.val 0
    else s
/-- The regressor φ = [h̄₂; 1] and e = y − w · φ of an interval (R237). -/
def State.regress (s : State) (f : FieldId) (t : TileId) (y : Int) : Option (Int × Block) :=
  let x := s.tile f t
  match x.h2 with
  | none => none
  | some (h, n) =>
    if n = 0 then none
    else
      let e := normExp 0 n (h.vals ++ [(⟨n, 0⟩ : Dy)])
      let phi : Block := ⟨0, e, (h.vals ++ [(⟨n, 0⟩ : Dy)]).map (fun v => roundQ v n e)⟩
      some (y - roundAt (dySum (List.zipWith Dy.mul x.w.vals phi.vals)) 0, phi)
/-- ENERGY_REPLY_RECEIVE (R236-R240): the cluster's oldest answer, with its energy over the closed interval in mW × 100 ns; it belongs to the
interval that its marker closed, and is late 100 µs after that. -/
def execEnergyReplyReceive (f : FieldId) (t : TileId) (s : State) : Out :=
  let st := fSt f
  let c := tileCluster t
  let p := s.loop f c
  .next (match p.reply with
  | [] => s
  | (endAt, energy, spoilt) :: rest =>
    let s := s.putLoop f c { p with reply := rest }
    let own := (s.tile f t).closed.find? (fun w => w.endAt == endAt)
    let late := decide (endAt + 100000 < s.time (fSt f))
    let s := s.putTile f t { s.tile f t with closed := (s.tile f t).closed.filter (fun w => decide (endAt < w.endAt)) }
    let r := s.estr f
    let frac := tblGet 0 r.measFrac t.val + energy * 100
    let s := (s.putEstr f { r with measFrac := tblSet 0 r.measFrac t.val (frac % 1000000) }).inc64 st (O.E_MEAS.at t.val) (frac / 1000000)
    let est := own.elim 0 Closed.est
    if spoilt || own.all Closed.gap || late || !s.tileLive f t then s
    else
      let y := divRne energy 10000
      let s := (s.wr st (O.Y_1MS.at t.val) (satU 32 y)).wr st (O.ERR_1MS.at t.val) (toBits 32 (est - y))
      let g := s.regress f t y
      let s := s.putTile f t { s.tile f t with learn := g }
      let s := match g with
        | none => s
        | some (e, _) =>
          let lim := max (s.rd st O.DIS_PCT * y) (100 * s.rd st O.DIS_MW)
          s.judgeGood f t (decide ((200 * e.natAbs : Int) ≤ lim))
      s.judgeAgree f t y est)

/-! ### Commands (R234, R253) -/

/-- A write of DESC (R234, R430): the descriptor of the image that runs is kept for it. -/
def effDesc (f : FieldId) (g : Fin 4) (d : List Byte) : Effect := fun s =>
  if d.length ≠ 256 then .error .length
  else if descOk d then
    let x := s.estr f
    let s := match s.descFor f g.val with
      | some old => s.putEstr f { x with descKept := tblSet [] x.descKept g.val old }
      | none => s
    .ok ((s.putBlob (fSt f) (O.DESC.at g.val) (descStored d)).matchDesc f g.val)
  else .error .value
/-- DESC (R234). -/
def execDesc (slot : Slot) (f : FieldId) (g : Fin 4) (data : List Byte) (s : State) : Out :=
  let o := O.DESC.at g.val
  .next (s.request slot 0x02 (fSt f) o.index o.sub (fun s => s.admitWrite slot (fSt f) o.index o.sub data.length) (effDesc f g data))

/-- A write of FREEZE_CTRL (R239, R240, R253): 1 freezes, 2 thaws a commanded freeze, 3 restarts learning. -/
def effFreezeCtrl (f : FieldId) (w : Nat) : Effect := fun s =>
  let cmd := bits w 31 24
  let each (g : State → TileId → State) : State :=
    allTiles.foldl (fun s t => if bit w t.val then g s t else s) s
  if cmd = 0 ∨ 3 < cmd then .error .value
  else if cmd = 1 then .ok (each (fun s t => if bit (s.tile f t).frozen 1 then s else s.freezeTile f t 1))
  else if cmd = 2 then .ok (each (fun s t =>
    let x := s.tile f t
    if bit x.frozen 1 then s.putTile f t { x with frozen := x.frozen - 2 } else s))
  else .ok (each (fun s t => match s.descFor f (estGroup t) with | some d => s.initTile f t d | none => s))
/-- FREEZE_CTRL as a request. -/
def freezeCmd (slot : Slot) (f : FieldId) (cmd : Nat) (mask : BitVec 16) (s : State) : Out :=
  .next (s.writeReq slot (fSt f) O.FREEZE_CTRL 4 (effFreezeCtrl f (cmd * 2 ^ 24 + mask.toNat)))
/-- FREEZE_TILE_CMD (R253). -/
def execFreezeTileCmd (slot : Slot) (f : FieldId) (mask : BitVec 16) (s : State) : Out := freezeCmd slot f 1 mask s
/-- THAW_TILE_CMD (R240). -/
def execThawTileCmd (slot : Slot) (f : FieldId) (mask : BitVec 16) (s : State) : Out := freezeCmd slot f 2 mask s
/-- RESTART_LEARNING_CMD (R253). -/
def execRestartLearningCmd (slot : Slot) (f : FieldId) (mask : BitVec 16) (s : State) : Out := freezeCmd slot f 3 mask s

end Sys2Proof.Machine
end

