-- ==== Sys2Proof/Machine/Arbiter.lean ====
section
/-!
DEFINITION. The field station's arbiter (chapter Budget Arbitration and Issue-Rate Control): codes and token words, the peak
ceiling, selection, thermal candidates, reservations, and hints.
-/
namespace Sys2Proof.Machine
open Sys2Proof

/-! ### Live tiles and their steps -/

/-- A tile is live while its compute cluster is RUNNING, DERATED or HOLDING (R264). -/
def State.live (s : State) (f : FieldId) (t : TileId) : Bool :=
  (s.cstate f (tileCluster t)).isUp || s.cstate f (tileCluster t) == .holding
def State.liveTiles (s : State) (f : FieldId) : List TileId := allTiles.filter (s.live f)
/-- s_t in 1/1,000 mW per code: the cluster's 10 µs voltage times G (R264). -/
def State.stepOf (s : State) (f : FieldId) (t : TileId) : Nat :=
  s.rdRaw (clSt f (tileCluster t)) 0x2800 1 * s.rd (fSt f) (O.G.at t.val)
/-- P0 + c × s_t in 1/1,000 mW. -/
def State.atCode (s : State) (f : FieldId) (t : TileId) (c : Nat) : Nat :=
  s.rd (fSt f) (O.P0.at t.val) * 1000 + c * s.stepOf f t
/-- To the nearest integer, with ties towards zero (R264). -/
def rndTz (a : Int) (b : Nat) : Int :=
  let q : Int := ((2 * a.natAbs + b - 1) / (2 * b) : Nat)
  if a < 0 then -q else q

/-! ### Predictions (R281, R283) -/

/-- A prediction whose time is not over. -/
def keepPred (now : Nat) (p : Option Pred) : Option Pred := p.filter (fun q => decide (now < q.till))
/-- The prediction in force: a hint before one of the Curd table, which acts while CURD_EN is 1; neither after its life. -/
def State.predOf (s : State) (f : FieldId) (t : TileId) : Option Pred :=
  match keepPred (s.time (fSt f)) (s.tile f t).hint with
  | some p => some p
  | none => if s.rd hubSt O.CURD_EN = 1 then keepPred (s.time (fSt f)) (s.tile f t).curd else none
/-- The level of an intensity, in mW: P0 + (INT + 1) / 16 × 256 × s_t (R283). -/
def State.predLevel (s : State) (f : FieldId) (t : TileId) (i : Nat) : Nat :=
  (divRne (s.atCode f t ((i + 1) * 16)) 1000).toNat
/-- d_t (R265). -/
def State.demand (s : State) (f : FieldId) (t : TileId) : Nat :=
  let d := if (s.tile f t).low then (divRne (s.atCode f t 256) 1000).toNat else s.rd (fSt f) (O.P_EST.at t.val)
  match s.predOf f t with
  | none => d
  | some p => if p.cap then min d (s.predLevel f t p.level) else max d (s.predLevel f t p.level)

/-! ### Reservations (R274-R278) -/

/-- What a domain's turn-on reserves (R274). -/
def State.inrush (s : State) (d : DomId) : Nat :=
  let o := if domKind d < 4 then O.INRUSH_Q else if domKind d = 7 then O.INRUSH_AX else O.INRUSH_SVC
  s.rd (fSt (domField d)) o
/-- H (R276): L less the tiles' power at the codes being sent, at the output. -/
def State.headroom (s : State) (f : FieldId) : Int :=
  let used := ((s.liveTiles f).map (fun t => s.atCode f t (s.tile f t).prev)).sum
  divRne ((s.arb f).limit * 1000 - used) (s.rd hubSt O.MR_EFF)
/-- HEADROOM takes the present H. -/
def State.setHeadroom (s : State) (f : FieldId) : State :=
  s.wr (fSt f) O.HEADROOM (toBits 32 (clampInt (-2147483648) 2147483647 (s.headroom f)))
def State.readHeadroom (s : State) (f : FieldId) : Int := ofBits 32 (s.rd (fSt f) O.HEADROOM)
/-- RES_F: the reservations granted (R276). -/
def resOf (x : ArbRec) : Nat := (x.amounts.map Prod.snd).sum

/-- INRUSH_REQUEST (R274, R275): a turn-on queues its request, or finds 8 waiting and ends with code 9. -/
def execInrushRequest (d : DomId) (s : State) : Out :=
  let f := domField d
  let x := s.arb f
  .next (match s.job (.domain d) with
  | none => s
  | some j =>
    if j.on && j.step == .reserving && !x.queue.contains d.val && !x.granted.contains d.val then
      if 8 ≤ x.queue.length then (s.closeJob j 9).drive
      else s.putArb f { x with queue := x.queue ++ [d.val], headAt := s.headSince f (x.queue ++ [d.val]) }
    else s)

/-- A granted turn-on starts (R328, R329): the clusters that are STOPPED or STOPPING wait for their next input instant, or
the auxiliary rail starts. -/
def State.rampDomain (s : State) (d : DomId) : State :=
  match s.job (.domain d) with
  | none => s
  | some j =>
    let f := domField d
    let cs := (domClusters d).filter (fun c => s.cstate f c == .stopped || s.cstate f c == .stopping)
    let s := (s.setJob { j with step := .ramping, rest := cs.map Fin.val, since := s.time hubSt }).drainOver d
    let s := (s.seqReport j.target true j.origin 0 3 false).setWState (.domain d) .starting
    if isAux d then
      if s.railUp (domRail d) then s.domainDone d
      else if s.railSwitching (domRail d) then s
      else s.railStart (domRail d) 1
    else s
/-- L of R270. -/
def State.coreLimit (s : State) (f : FieldId) : Int :=
  let unit := if 0 < s.rd (fSt f) O.FR_CREDIT then 60000 else 40000
  let v := s.rdRaw hubSt (0x2880 + f.val) 1
  let ax := s.rdRaw hubSt (0x2888 + f.val) 5
  let bus : Int := (s.busPmax f : Int) - ax
  let lfr := min bus (divRne ((s.railPhases (frRail f) * unit * v : Nat) : Int) 1000) - resOf (s.arb f)
  let svc := (serviceClusters.map (fun c => s.rdRaw (clSt f c) 0x2800 5)).sum
  min (divRne (lfr * s.rd hubSt O.MR_EFF) 1000) (s.arb f).share - svc
/-- INRUSH_GRANT (R276): the head request is granted once H covers it; C_ROOM is 256 again, and H is formed anew with the
reservation held. -/
def execInrushGrant (f : FieldId) (s : State) : Out :=
  let x := s.arb f
  .next (match x.queue with
  | [] => s
  | n :: rest =>
    let d : DomId := Fin.ofNat 64 n
    let need := s.inrush d
    if (need : Int) ≤ s.readHeadroom f then
      let s := s.putArb f { x with
        queue := rest, headAt := s.headSince f rest, granted := x.granted ++ [n], amounts := tblSet 0 x.amounts n need, roomOn := false }
      let s := s.wr (fSt f) O.C_ROOM 256
      let s := (s.putArb f { s.arb f with limit := s.coreLimit f }).setHeadroom f
      (s.rampDomain d).drive
    else s)
/-- INRUSH_TIMEOUT_EXPIRE (R277): INRUSH_TIMEOUT has passed since the request in front reached the head, and the make-room
ceiling starts. -/
def execInrushTimeoutExpire (f : FieldId) (s : State) : Out :=
  let x := s.arb f
  .next (match x.queue with
  | [] => s
  | n :: _ =>
    if x.roomOn ∨ s.time (fSt f) < x.headAt + s.rd hubSt O.INRUSH_TIMEOUT then s
    else
      let s := (s.putArb f { x with roomOn := true }).inc32 (fSt f) O.ROOM_ACTS
      s.raise F.ROOM_FORCED (fSt f) n 0)
/-- RESERVATION_RELEASE (R276): the domain has been up for 100 µs, or no turn-on of it is left. -/
def execReservationRelease (d : DomId) (s : State) : Out :=
  let f := domField d
  let x := s.arb f
  let up := (s.dstate d).isUp && decide (s.rd hubSt (O.ON_TIME.at d.val) + 100000 ≤ (s.time hubSt))
  let gone := !(s.dstate d).isUp && !s.turningOn d
  .next (if x.granted.contains d.val && (up || gone) then
    s.putArb f { x with granted := x.granted.filter (· != d.val), amounts := tblErase x.amounts d.val }
  else s)

/-! ### Thermal candidates (R273) -/

/-- THERMAL_FIGURES_RECEIVE (R272, R273): the figures of an update are taken once; with the unit failed and no valid diode every candidate is 0 (R307). -/
def execThermalFiguresReceive (f : FieldId) (s : State) : Out :=
  let x := s.arb f
  let lim := s.rdS hubSt O.THROTTLE_TEMP
  let gain := s.rd hubSt O.THERM_GAIN
  let blind := s.rd (fSt f) O.UNIT_STATE == 2 && !(s.therm f).d0.valid && !(s.therm f).d1.valid
  let t := (List.range 19).foldl (fun t n =>
    let c : Nat := tblGet 256 t n
    tblSet 256 t n (if blind then 0 else clampInt 0 256 ((c : Int) + rndTz (gain * (lim - s.rdS (fSt f) (O.T_J.at n))) 64)).toNat) x.therm
  .next (if (s.therm f).fresh then (s.putTherm f { s.therm f with fresh := false }).putArb f { x with therm := t } else s)
/-- C_T of a tile (R273). -/
def thermCand (x : ArbRec) (t : TileId) : Nat :=
  minOf 256 ([t.val, 16, 17, 18].map (tblGet 256 x.therm))

/-! ### Hub figures (R266) -/

/-- HUB_FIGURE_RECEIVE (R266): figures arrive and wait for the next freeze of inputs. -/
def execHubFigureReceive (f : FieldId) (s : State) : Out :=
  let x := s.arb f
  .next (match x.sent with
  | [] => s
  | g :: rest =>
    let s' := s.putArb f { x with sent := rest, inbox := x.inbox ++ [g], stale := x.stale && !g.period }
    if g.period then
      let s' := s'.wr (fSt f) O.ARB_TIME (s.time (fSt f))
      if x.stale then s'.endCondition F.ARB_STALE (fSt f) 0 else s'
    else s')
/-- ARB_STALE_TIMER (R292): no arbiter period for 100 µs. -/
def execArbStaleTimer (f : FieldId) (s : State) : Out :=
  let x := s.arb f
  .next (if s.rd (fSt f) O.ARB_TIME + 100000 ≤ (s.time (fSt f)) && !x.stale then
    (s.putArb f { x with stale := true }).raise F.ARB_STALE (fSt f) 0 0
  else s)
/-- One hub figure takes effect (R266, R269, R271). -/
def State.takeFigure (s : State) (f : FieldId) (g : HubFig) : State :=
  let s := allTiles.foldl (fun s t =>
    let x := s.tile f t
    let x := { x with pace := g.pace.getD t.val 256 }
    s.putTile f t (if g.period then { x with cB := g.cB.getD t.val 256 } else x)) s
  if g.period then
    let x := s.arb f
    let s := s.putArb f { x with cCool := g.cCool, share := g.share, capDrop := x.capDrop || g.marked }
    let c := s.rd (fSt f) O.C_AX
    s.wr (fSt f) O.C_AX (if g.excess then c - s.rd hubSt O.SLOPE_DOWN else min 256 (c + s.rd hubSt O.SLOPE_UP))
  else s

/-! ### The freeze of inputs: credit, peak ceiling, selection -/

/-- One step of the field credit (R268). -/
def State.fieldCredit (s : State) (f : FieldId) : State :=
  let c := s.rd (fSt f) O.FR_CREDIT
  let isOver := decide (s.railPhases (frRail f) * 40000 < s.rdRaw hubSt (0x2880 + f.val) 3)
  s.wr (fSt f) O.FR_CREDIT (if isOver then c - 1000 else min (s.rd hubSt O.PEAK_TIME) (c + 100))
/-- The candidates of R260 other than the peak loop's take `pk` as index 3's. -/
def State.candidates (s : State) (f : FieldId) (t : TileId) (pk : Nat) : List Nat :=
  let x := s.tile f t
  [x.cB, (s.arb f).cCool, pk, thermCand (s.arb f) t,
   min (x.prev + s.rd hubSt O.SLOPE_UP) (s.rd (fSt f) O.C_ROOM), x.pace, s.derateCeiling f t, s.holdCeiling f t]
/-- C_PK (R270): the largest code at which the live tiles fit L; bit by bit from the top, since the sum rises with the
code. -/
def peakCode (fits : Nat → Bool) : Nat :=
  if fits 0 then
    [256, 128, 64, 32, 16, 8, 4, 2, 1].foldl (fun c b => if c + b ≤ 256 ∧ fits (c + b) then c + b else c) 0
  else 0
/-- The lowest of a list and its place from `k`, the first on ties. -/
def lowestCand (l : List Nat) (k : Nat) : Nat × Nat :=
  match l with
  | [] => (256, 0)
  | x :: r => let y := lowestCand r (k + 1); if y.2 = 0 ∨ x ≤ y.1 then (x, k) else y
/-- Selection for one tile (R260): code, reason and SLOWED. -/
def pick (cand : List Nat) (prev down : Nat) (drop : Bool) : Nat × Nat × Bool :=
  let w := lowestCand cand 1
  let c := if 256 ≤ w.1 then (256, 0) else w
  if c.1 < prev - down ∧ c.2 ≠ 7 ∧ c.2 ≠ 8 ∧ ¬(c.2 = 3 ∧ drop) then (prev - down, c.2, true) else (c.1, c.2, false)
/-- A tile's word for the next window. -/
def State.selectTile (s : State) (f : FieldId) (pk : Nat) (t : TileId) : State :=
  let x := s.tile f t
  let l := s.candidates f t pk
  let w := match s.forcedReason f t with
    | some r => tokenWord 0 r false false 0
    | none =>
      let c := pick l x.prev (s.rd hubSt O.SLOPE_DOWN) (s.arb f).capDrop
      tokenWord 0 c.2.1 false c.2.2 c.1
  s.putTile f t { x with next := w, candNext := l }

/-- The make-room ceiling's request is refused (R278). -/
def State.refuseRoom (s : State) (f : FieldId) (n : Nat) : State :=
  let d : DomId := Fin.ofNat 64 n
  let s := (s.putArb f { s.arb f with roomOn := false }).wr (fSt f) O.C_ROOM 256
  let s := s.raise F.INRUSH_REFUSED (fSt f) n 0
  (match s.job (.domain d) with
  | some j => s.closeJob j 10
  | none => s.unreserve d).drive
/-- C_ROOM in the window (R277, R278). -/
def State.makeRoom (s : State) (f : FieldId) : State :=
  let x := s.arb f
  match x.roomOn, x.queue with
  | true, n :: _ =>
    if s.rd (fSt f) O.C_ROOM = 0 ∧ s.readHeadroom f < s.inrush (Fin.ofNat 64 n) then s.refuseRoom f n
    else
      let top := (s.liveTiles f).foldl (fun m t => max m (s.tile f t).prev) 0
      s.wr (fSt f) O.C_ROOM (top - s.rd hubSt O.SLOPE_DOWN)
  | _, _ => s

/-- INPUT_FREEZE (R258, R260, R266-R271, R277), 600 ns into a window: hub figures received take effect, and the peak ceiling
and the selection of the next window are computed. -/
def State.freezeInputs (s : State) (f : FieldId) : State :=
  let st := fSt f
  let x := s.arb f
  let s := x.inbox.foldl (fun s g => s.takeFigure f g) (s.putArb f { x with inbox := [] })
  let s := s.fieldCredit f
  let lim := s.coreLimit f
  let s := (s.putArb f { s.arb f with limit := lim }).wr st O.L_CORE (satU 32 lim)
  let s := s.makeRoom f
  let live := (s.liveTiles f).map (fun t => (t, (lowestCand ((s.candidates f t 256).eraseIdx 2) 1).1))
  let pk := peakCode (fun c => decide (((live.map (fun p => s.atCode f p.1 (min c p.2))).sum : Int) ≤ lim * 1000))
  let s := s.wr st O.C_PK pk
  let s := allTiles.foldl (fun s t => s.selectTile f (min pk (s.rd st O.C_AX)) t) s
  let s := s.putArb f { s.arb f with capDrop := false }
  s.setHeadroom f
/-- INPUT_FREEZE. -/
def execInputFreeze (f : FieldId) (s : State) : Out :=
  let key := markKey 11 f.val
  .next (if s.periodic key (fSt f) 1000 600 then (s.mark key (fSt f)).freezeInputs f else s)

/-! ### Hints taken in a window (R282, R285) -/

def hintType (w : Nat) : Nat := bits w 31 28
def hintLead (w : Nat) : Nat := bits w 27 20 * 1000
def hintInt (w : Nat) : Nat := bits w 19 16
/-- The instant at which a hint acts (R283). -/
def hintAt (h : HintWord) : Nat :=
  if hintType h.word = 2 then h.time + (hintLead h.word - 20000) else if hintType h.word = 3 then h.time + hintLead h.word else h.time
/-- POS_REQ of a heavy prediction of intensity i (R285). -/
def State.posOf (s : State) (i : Nat) : Nat := (divRne (s.rd hubSt O.POS_FULL * (i + 1) : Nat) 16).toNat
/-- The pre-position messages of a heavy prediction received at `t0` with a lead (R285). -/
def State.posPlan (s : State) (t0 lead i : Nat) : List (Nat × Nat) :=
  [(t0 + (lead - s.rd hubSt O.POS_LEAD), s.posOf i), (t0 + lead + s.rd hubSt O.POS_HOLD, 0)]
/-- A hint word is taken (R282, R283): bad ones are discarded; a later prediction replaces the pending ones of its tile. -/
def State.takeHint (s : State) (f : FieldId) (h : HintWord) : State :=
  let t : TileId := Fin.ofNat 16 h.tile
  let k := hintType h.word
  if k = 0 ∨ 4 < k ∨ !s.live f t then s.inc32 (fSt f) O.HINT_BAD
  else
    let x := s.tile f t
    if k = 1 then s.putTile f t { x with hintDue := x.hintDue ++ [h] }
    else
      let plan := if k = 2 then s.posPlan h.time (hintLead h.word) (hintInt h.word)
        else if k = 3 then [(h.time + hintLead h.word, 0)] else [(h.time, 0)]
      s.putTile f t { x with hintDue := x.hintDue.filter (fun y => hintType y.word == 1) ++ [h], pos := plan }
/-- Up to 16 words are taken in a window (R282). -/
def State.takeHints (s : State) (f : FieldId) : State :=
  if s.rd hubSt O.HINT_EN = 1 then
    let x := s.arb f
    (x.hints.take 16).foldl (fun s h => s.takeHint f h) (s.putArb f { x with hints := x.hints.drop 16 })
  else s

/-! ### Window start and forced zeros -/

/-- The throttle record of a tile's window (R290, R291, R244): THR_NS of the tile, and for reasons 1-8 of every distinct
handle bound to its slots. -/
def State.countThrottle (s : State) (f : FieldId) (t : TileId) (reason code : Nat) : State :=
  let st := fSt f
  let x := s.tile f t
  let s := if x.thrClear then (List.range 11).foldl (fun s k => s.wr st ((O.THR_NS.at t.val).nth k) 0) s else s
  let s := s.putTile f t { x with
    thrClear := false, reasons := tblSet 0 x.reasons reason (tblGet 0 x.reasons reason + 1)
    thrWin := x.thrWin + (if code < 256 then 1 else 0) }
  if code < 256 ∧ 1 ≤ reason ∧ reason ≤ 11 then
    let s := s.inc64 st ((O.THR_NS.at t.val).nth (reason - 1)) 1000
    if reason ≤ 8 then
      let hs := (x.slots.filter (fun q => bit q.tag 15)).map (fun q => tagHandle x.binds q.tag)
      (hs.eraseDups.filter (· != 0xFFFF)).foldl (fun s h => s.ledgerAdd h (0x40 + 8 * (reason - 1)) 1000) s
    else s
  else s
/-- THR_STATE (R290). -/
def State.thrWord (s : State) (f : FieldId) (t : TileId) (reason code : Nat) (slowed : Bool) : Nat :=
  let x := s.tile f t
  reason * 2 ^ 28 + flagAt slowed 27 + flagAt (decide (0 < s.rd (fSt f) (O.POS_REQ.at t.val))) 26
    + flagAt (x.frozen != 0) 25 + x.avg % 512 * 2 ^ 16 + code
/-- The pre-position messages of a tile that are due are sent, in order (R258, R285). -/
def State.sendPos (s : State) (f : FieldId) (t : TileId) : State :=
  let x := s.tile f t
  let now := s.time (fSt f)
  let due := x.pos.filter (fun m => decide (m.1 ≤ now))
  due.foldl (fun s m => s.wr (fSt f) (O.POS_REQ.at t.val) m.2)
    (s.putTile f t { x with pos := x.pos.filter (fun m => decide (now < m.1)), posOut := x.posOut ++ due.map Prod.snd })
/-- One tile's window starts (R56-R58, R98, R257, R258). -/
def State.startTile (s : State) (f : FieldId) (t : TileId) : State :=
  let st := fSt f
  let x := s.tile f t
  let w := match s.forcedReason f t with
    | some r => tokenWord 0 r false false 0
    | none => x.next
  let code := w % 512
  let reason := bits w 23 20
  let s := if 4 ≤ x.words.length then s.inc32 st (O.TOKEN_STALLS.at t.val) else s
  let y := pushWord x (s.window f % 256 * 2 ^ 24 + w % 2 ^ 24)
  let s := s.putTile f t { y with
    prev := code, next := w, cand := x.candNext, codeSum := x.codeSum + code, codeN := x.codeN + 1, low := x.low || decide (code < 256)
    feed := x.feed ++ [((code : Int) - x.prev, s.rd st (O.G.at t.val))] }
  let s := (s.sendPos f t).countThrottle f t reason code
  let v := s.thrWord f t reason code (bit w 18)
  let s := s.wr st (O.THR_STATE.at t.val) v
  if s.fieldCut f then s else { s with tr := { s.tr with thr := tblSet 0xB0000000 s.tr.thr (f.val * 16 + t.val) v } }
/-- A window starts (R258): token words, throttle records, and up to 16 hints. -/
def State.startWindow (s : State) (f : FieldId) : State :=
  let s := allTiles.foldl (fun s t => s.startTile f t) s
  (s.setHeadroom f).takeHints f
/-- WINDOW_START (R256, R258): at every multiple of 1,000 ns of the field station's count. -/
def execWindowStart (f : FieldId) (s : State) : Out :=
  let key := markKey 12 f.val
  .next (if s.periodic key (fSt f) 1000 0 then (s.mark key (fSt f)).startWindow f else s)
/-- FORCED_ZERO (R261, R56): a forced cause has reached the field station. -/
def execForcedZero (f : FieldId) (t : TileId) (s : State) : Out :=
  let full := decide (4 ≤ (s.tile f t).words.length) && (s.forcedReason f t).isSome
  .next ((if full then s.inc32 (fSt f) (O.TOKEN_STALLS.at t.val) else s).zeroTile f t)

/-! ### Hints: queueing, expiry and pre-position messages -/

/-- HINT_RECEIVE (R282). -/
def execHintReceive (f : FieldId) (t : TileId) (word : BitVec 32) (s : State) : Out := .next (s.queueHint f t word.toNat)
/-- HINT_EXPIRE (R283): predictions end HINT_LIFE after their lead. -/
def execHintExpire (f : FieldId) (t : TileId) (s : State) : Out :=
  let x := s.tile f t
  .next (s.putTile f t { x with hint := keepPred (s.time (fSt f)) x.hint, curd := keepPred (s.time (fSt f)) x.curd })
/-- POS_REQ_SEND (R258, R285): at a window start the messages of a tile whose scheduled time has come are sent. -/
def execPosReqSend (f : FieldId) (t : TileId) (s : State) : Out :=
  .next (if s.time (fSt f) % 1000 = 0 then s.sendPos f t else s)
/-- THR_CLEAR's effect (R297). -/
def effThrClear (f : FieldId) (t : TileId) (v : Nat) : Effect := fun s =>
  if v = 1 then .ok (s.putTile f t { s.tile f t with thrClear := true })
  else if v = 0 then .ok s else .error .value
/-- THR_CLEAR (R297). -/
def execThrClear (slot : Slot) (f : FieldId) (t : TileId) (v : Byte) (s : State) : Out :=
  .next (s.writeReq slot (fSt f) (O.THR_CLEAR.at t.val) 1 (effThrClear f t v.toNat))

end Sys2Proof.Machine
end

