-- ==== Sys2Proof/Machine/Converters.lean ====
section
/-!
DEFINITION. Bus converters and their PMBus segments (R186-R193, R198, R455, R456).
-/
namespace Sys2Proof.Machine
open Sys2Proof

/-! ### Formats (R188) -/

/-- m × 2^e as an integer in units of 1/k, rounded to nearest with ties to even. -/
def scaled (m e : Int) (k : Nat) : Int :=
  if 0 ≤ e then m * k * 2 ^ e.toNat else divRne (m * k) (2 ^ (-e).toNat)
/-- LINEAR11: [15:11] exponent, [10:0] mantissa, both signed. -/
def linear11 (w k : Nat) : Int := scaled (ofBits 11 w) (ofBits 5 (w / 2048)) k
/-- VOUT_MODE selects linear mode: [7:5] = 0. -/
def linearMode (m : Nat) : Bool := m / 32 == 0
/-- LINEAR16 with the exponent of VOUT_MODE. -/
def linear16 (w m k : Nat) : Int := scaled w (ofBits 5 m) k

/-! ### States -/

def State.dxState (s : State) (n : ConvId) : Nat := s.rd hubSt (O.DX_STATE.at n.val)
/-- What follows a change of a converter's availability: the field is judged and the sequencer goes on. -/
def State.dxChanged (s : State) (n : ConvId) : State := (s.judgeField (convField n)).drive
/-- A fault of a converter, with the last STATUS_WORD as DATA (R376). -/
def State.raiseDx (s : State) (code : Nat) (n : ConvId) : State :=
  s.raise code hubSt n.val (s.rd hubSt (O.DX_STATUS.at n.val))
/-- A converter is lost to communication (R187, R190): its enable stays high. DX_COMM is raised for one that had become available
(R186). -/
def State.dxLost (s : State) (n : ConvId) : State :=
  if s.dxState n = 2 then
    let s := (s.wr hubSt (O.DX_STATE.at n.val) 3).putConv n { s.conv n with cleanPolls := 0 }
    ((s.raiseDx F.DX_COMM n).capLost (convField n)).dxChanged n
  else s
/-- A starting converter on a segment that is stuck is lost without DX_COMM (R186, R187). -/
def State.dxStuck (s : State) (n : ConvId) : State :=
  if s.dxState n = 1 then ((s.wr hubSt (O.DX_STATE.at n.val) 3).putConv n { s.conv n with cleanPolls := 0, contactDue := false }).dxChanged n
  else s.dxLost n
/-- The enable of a converter falls for a fault or a failed start (R186, R190); DX_COMM does not hold on in it. -/
def State.dxDown (s : State) (n : ConvId) (st code : Nat) : State :=
  let lost := s.dxState n == 3
  let s := if s.dxState n = 2 then s.capLost (convField n) else s
  let s := (s.dxDisable n st).raiseDx code n
  let s := if lost then s.endCondition F.DX_COMM hubSt n.val else s
  s.dxChanged n

/-- The converters of a segment. -/
def segConvs (k : SegId) : List ConvId := (List.range 8).map (fun j => Fin.ofNat 16 (8 * k.val + j))
def segObj (k : SegId) : Obj := if k = 0 then O.PB0_STATE else O.PB1_STATE
/-- A segment that works, its pins served (R439), out of the reset that waits for its clock-good (R356), with its Rind open. -/
def State.segWorks (s : State) (k : SegId) : Bool :=
  s.pinsLive && s.rd hubSt (segObj k) == 0 && !(s.seg k).closed && bit (s.rd hubSt O.CLK_GOOD) (2 + k.val)
/-- A segment's speed at the next transaction (R187): 1 MHz where its speed object selects it and every converter on it reports it. -/
def State.segClock (s : State) (k : SegId) : State :=
  let sel := s.rd hubSt (if k = 0 then O.PB0_SPEED else O.PB1_SPEED) == 1
  s.putSeg k { s.seg k with fast := sel && (segConvs k).all (fun n => (s.conv n).contacted && (s.conv n).fast) }

/-! ### DX_CTRL -/

/-- A record of the converter's own fault that disabled it (R191). -/
def State.dxFaulted (s : State) (n : ConvId) : Bool :=
  let code := if s.dxState n = 4 then F.DX_FAULT else F.DX_START_FAIL
  s.hasRecord code hubSt n.val || s.matched ⟨code, hubSt, n.val⟩
/-- A write of DX_CTRL (R198, R191). -/
def effDxCtrl (n : ConvId) (v : Nat) : Effect := fun s =>
  let st := s.dxState n
  if v = 1 then (if st = 0 ∨ st = 5 then .ok (s.dxEnable n) else .error .state)
  else if v = 2 then
    if st = 1 ∨ st = 2 ∨ st = 3 then
      let s := if st = 3 then s.endCondition F.DX_COMM hubSt n.val else s
      .ok ((s.dxDisable n 5).dxChanged n)
    else .error .state
  else if v = 3 then
    if (st = 4 ∨ st = 6) ∧ !s.dxFaulted n then
      .ok (s.putConv n { s.conv n with
        restoring := true, restAt := s.time hubSt, contacted := false, contactDue := true, due := [0x03], enable := false })
    else .error .state
  else .error .value
/-- CONVERTER_ENABLE (R198). -/
def execConverterEnable (slot : Slot) (n : ConvId) (s : State) : Out :=
  .next (s.writeReq slot hubSt (O.DX_CTRL.at n.val) 1 (effDxCtrl n 1))
/-- CONVERTER_DISABLE (R198). -/
def execConverterDisable (slot : Slot) (n : ConvId) (s : State) : Out :=
  .next (s.writeReq slot hubSt (O.DX_CTRL.at n.val) 1 (effDxCtrl n 2))
/-- CONVERTER_RESTORE (R191): CLEAR_FAULTS is sent, first contact is due again, and the enable is held low. -/
def execConverterRestore (slot : Slot) (n : ConvId) (s : State) : Out :=
  .next (s.writeReq slot hubSt (O.DX_CTRL.at n.val) 1 (effDxCtrl n 3))
/-- RESTORE_HOLD_EXPIRE (R191): CLEAR_FAULTS has been sent and first contact attempted, and the enable has been low for 10 ms since; the
converter is started under R186. -/
def execRestoreHoldExpire (n : ConvId) (s : State) : Out :=
  let x := s.conv n
  .next (if x.restoring ∧ !x.contactDue ∧ x.due = [] ∧ x.restAt + 10000000 ≤ s.time hubSt then s.dxRaise n else s)

/-- READ_VIN and its range (R192). -/
def State.dxVin (s : State) (n : ConvId) (mv : Nat) : State :=
  let s := s.wr hubSt (O.DX_VIN.at n.val) mv
  let x := s.conv n
  if 40000 ≤ mv ∧ mv ≤ 60000 then
    let s' := s.putConv n { x with vinBad := none, vinOut := false }
    if x.vinOut then s'.endCondition F.BUSVIN_RANGE hubSt n.val else s'
  else
    match x.vinBad with
    | none => s.putConv n { x with vinBad := some (s.time hubSt) }
    | some t =>
      if t + 1000000 ≤ (s.time hubSt) ∧ !x.vinOut then (s.putConv n { x with vinOut := true }).raiseDx F.BUSVIN_RANGE n else s
/-- READ_VOUT in mV by the VOUT_MODE of the converter; 0 where that is not linear (R188). -/
def State.voutMv (s : State) (n : ConvId) (w : Nat) : Nat :=
  let m := (s.conv n).voutMode
  if linearMode m then satU 16 (linear16 w m 1000) else 0
/-- The status bytes that the bits of a STATUS_WORD summarise (R188, R190): bits 15, 14, 13, 2 and 1. -/
def statusBytes (w : Nat) : List Nat :=
  ([(15, 0x7A), (14, 0x7B), (13, 0x7C), (2, 0x7D), (1, 0x7E)].filter (fun e => bit w e.1)).map Prod.snd
/-- Reads of status bytes become due. -/
def State.dxBytes (s : State) (n : ConvId) (w : Nat) : State :=
  let x := s.conv n
  s.putConv n { x with due := x.due ++ (statusBytes w).filter (fun c => !x.due.contains c) }

/-- CONVERTER_START_READS (R186): START_TIME after the enable, and after first contact, the words of STATUS_WORD, READ_VIN and READ_VOUT;
`tries` attempts failed, and `failed` says that three in a row failed at one read. -/
def execConverterStartReads (n : ConvId) (failed : Bool) (tries : Fin 10) (status vin vout : BitVec 16) (s : State) : Out :=
  let x := s.conv n
  .next (if s.dxState n ≠ 1 ∨ x.contactDue ∨ s.time hubSt < x.enAt + s.rd hubSt (O.START_TIME.at n.val) then s
  else
    let s := (s.segClock (convSeg n)).inc hubSt (O.COMM_ERR.at n.val) max32 tries.val
    if failed then s.dxDown n 6 F.DX_START_FAIL
    else
      let mv := satU 16 (linear11 vin.toNat 1000)
      let out := s.voutMv n vout.toNat
      let s := (s.wr hubSt (O.DX_STATUS.at n.val) status.toNat).dxVin n mv
      let s := s.wr hubSt (O.VOUT.at n.val) out
      let good := status.toNat &&& 0x78 == 0 && decide (80 * out ≤ 11 * mv ∧ 9 * mv ≤ 80 * out)
      if !good then s.dxDown n 6 F.DX_START_FAIL
      else if s.rd hubSt O.PEC_REQ = 1 ∧ x.contacted ∧ !x.pec then (s.wr hubSt (O.DX_STATE.at n.val) 3).dxChanged n
      else
        let s := (s.wr hubSt (O.DX_STATE.at n.val) 2).putConv n { s.conv n with failRun := 0, clean := true, cleanPolls := 0 }
        (s.dxBytes n status.toNat).dxChanged n)

/-! ### The segments -/

/-- FIRST_CONTACT (R456): a due attempt; what the converter answers, or no acknowledgement. ON_OFF_CONFIG is written 0x17; a mode other
than linear, or a revision below 0x22, raises DX_FORMAT; no PEC support counts as lost to communication while PEC_REQ is 1
(R187, R188). It follows CLEAR_FAULTS at a restore (R191), and START_TIME where the converter starts (R186). -/
def execFirstContact (n : ConvId) (acked : Bool) (cap voutMode rev : Byte) (vendor model : List Byte) (s : State) : Out :=
  let x := s.conv n
  let early := s.dxState n == 1 && decide (s.time hubSt < x.enAt + s.rd hubSt (O.START_TIME.at n.val))
  .next (if !x.contactDue || x.due.contains 0x03 || early || !s.segWorks (convSeg n) then s
  else
    let s := s.segClock (convSeg n)
    if !acked then (s.inc32 hubSt (O.COMM_ERR.at n.val)).putConv n { x with contactDue := false, restAt := s.time hubSt }
    else
      let s := s.putConv n { x with
        contacted := true, contactDue := false, restAt := s.time hubSt, onOff := some 0x17
        pec := bit cap.toNat 7, fast := bits cap.toNat 6 5 == 2, voutMode := voutMode.toNat }
      let s := (s.putBlob hubSt (O.MFR_ID.at n.val) (vendor.take 16)).putBlob hubSt (O.MFR_MODEL.at n.val) (model.take 16)
      let s := s.wr hubSt (O.PMBUS_REV.at n.val) rev.toNat
      let s := if linearMode voutMode.toNat then s else s.wr hubSt (O.VOUT.at n.val) 0
      let s := if linearMode voutMode.toNat ∧ 0x22 ≤ rev.toNat then s else s.raiseDx F.DX_FORMAT n
      if s.rd hubSt O.PEC_REQ = 1 ∧ !bit cap.toNat 7 then s.dxLost n else s)

/-- A write of PEC_REQ (R187): at 1, a converter that reports no PEC support is lost to communication. -/
def State.pecRequired (s : State) : State :=
  (List.finRange 16).foldl (fun s n => if (s.conv n).contacted && !(s.conv n).pec then s.dxLost n else s) s

/-- The reads of a poll (R188): every tenth also the input current and the powers. -/
def pollReads (polls : Nat) : List Nat :=
  [0x79, 0x88, 0x8B, 0x8C, 0x8D] ++ (if polls % 10 = 0 then [0x89, 0x96, 0x97] else [])
/-- A pass-through request of a segment that waits. -/
def State.passOn (s : State) (k : SegId) : Option PassReq := s.pass.filter (fun q => convSeg (Fin.ofNat 16 q.conv) == k)
/-- CONVERTER_POLL (R189, R193, R456): POLL_PERIOD after the last, once that is over and no pass-through waits, a poll of the segment's
enabled converters begins, with an attempt at first contact where none has been made. -/
def execConverterPoll (k : SegId) (s : State) : Out :=
  let g := s.seg k
  let early := g.pollAt.any (fun t => decide (s.time hubSt < t + s.rd hubSt O.POLL_PERIOD))
  let busy := (segConvs k).any (fun n => !(s.conv n).due.isEmpty)
  .next (if !s.segWorks k || early || busy || (s.passOn k).isSome then s
  else
    let s := s.putSeg k { g with polls := g.polls + 1, pollAt := some (s.time hubSt) }
    (segConvs k).foldl (fun s n =>
      let x := s.conv n
      let on := x.enable && (s.dxState n == 2 || s.dxState n == 3)
      s.putConv n { x with
        contactDue := x.contactDue || (!x.contacted && !x.restoring && s.dxState n != 1)
        polling := on, clean := on || x.clean, due := if on then pollReads (g.polls + 1) else x.due }) s)

/-- PMBUS_ALERT (R189): the alert response names an address; its converter's STATUS_WORD is read ahead of the poll. -/
def execPmbusAlert (k : SegId) (addr : BitVec 7) (s : State) : Out :=
  let g := s.seg k
  if !s.segWorks k then .next s
  else match (segConvs k).find? (fun n => s.rd hubSt (O.ADDR.at n.val) == addr.toNat) with
  | some n => .next ((s.segClock k).putSeg k { (s.segClock k).seg k with urgent := if g.urgent.contains n.val then g.urgent else g.urgent ++ [n.val] })
  | none => .next ((s.segClock k).inc32 hubSt O.ALERTS_UNKNOWN)

/-- PMBUS_LINE_TIMEOUT (R187): a line held low for 35 ms. -/
def execPmbusLineTimeout (k : SegId) (s : State) : Out :=
  .next (if s.rd hubSt (segObj k) = 0 then s.wr hubSt (segObj k) 1 else s)
/-- PMBUS_RECOVERY_DONE (R187): with a line still held the segment is stuck, and its converters are lost. -/
def execPmbusRecoveryDone (k : SegId) (held : Bool) (s : State) : Out :=
  .next (if s.rd hubSt (segObj k) ≠ 1 then s
  else if !held then s.wr hubSt (segObj k) 0
  else
    let s := (s.wr hubSt (segObj k) 2).raise F.PB_STUCK hubSt k.val 0
    (segConvs k).foldl (fun s n => (s.dxStuck n).judgeField (convField n)) s)
/-- PMBUS_LINE_RELEASED (R187). -/
def execPmbusLineReleased (k : SegId) (s : State) : Out :=
  .next (if s.rd hubSt (segObj k) = 2 then
    ((segConvs k).foldl (fun s n => s.judgeField (convField n)) (s.wr hubSt (segObj k) 0)).endCondition F.PB_STUCK hubSt k.val
  else s)

/-! ### Transactions -/

/-- Commands of R188 that read. -/
def pmReads : List Nat := [0x02, 0x03, 0x19, 0x20, 0x79, 0x7A, 0x7B, 0x7C, 0x7D, 0x7E, 0x88, 0x89, 0x8B, 0x8C, 0x8D, 0x96, 0x97, 0x98, 0x99, 0x9A]

/-- The fault bits of a command's answer (R190). -/
def dxFaultBits (cmd : Nat) : Nat :=
  match cmd with
  | 0x79 => 0x78
  | 0x7A => 0x10
  | 0x7C => 0x90
  | 0x7D => 0x80
  | _ => 0

/-- A STATUS_WORD or status byte is judged (R190): a fault bit while the enable is high and START_TIME has passed; every other
bit of a status byte raises DX_WARN. -/
def State.dxStatus (s : State) (n : ConvId) (cmd v : Nat) : State :=
  let live := (s.conv n).enable && decide ((s.conv n).enAt + s.rd hubSt (O.START_TIME.at n.val) ≤ s.time hubSt)
  let warns := if 0x7A ≤ cmd ∧ cmd ≤ 0x7E then countOf 8 (fun k => bit v k && !bit (dxFaultBits cmd) k) else 0
  let s := (List.range warns).foldl (fun s _ => s.raiseDx F.DX_WARN n) s
  if live && v &&& dxFaultBits cmd != 0 then
    let s := s.putConv n { s.conv n with clean := false, cleanPolls := 0 }
    (s.wr hubSt (O.LAST_FAULT.at n.val) (s.rd hubSt (O.DX_STATUS.at n.val))).dxDown n 4 F.DX_FAULT
  else s

/-- The reading of a command goes to its object (R188). -/
def State.dxReading (s : State) (n : ConvId) (cmd w : Nat) : State :=
  match cmd with
  | 0x79 => ((s.wr hubSt (O.DX_STATUS.at n.val) (w % 2 ^ 16)).dxBytes n w).dxStatus n cmd w
  | 0x7A | 0x7B | 0x7C | 0x7D | 0x7E => s.dxStatus n cmd (w % 256)
  | 0x88 => s.dxVin n (satU 16 (linear11 w 1000))
  | 0x89 => s.wr hubSt (O.IIN.at n.val) (satU 32 (linear11 w 1000))
  | 0x8B => s.wr hubSt (O.VOUT.at n.val) (s.voutMv n (w % 2 ^ 16))
  | 0x8C => s.wr hubSt (O.IOUT.at n.val) (satU 32 (linear11 w 1000))
  | 0x8D => s.wr hubSt (O.TEMP.at n.val) (satS16 (linear11 w 64))
  | 0x96 => s.wr hubSt (O.POUT.at n.val) (satU 32 (linear11 w 1000))
  | 0x97 => s.wr hubSt (O.PIN.at n.val) (satU 32 (linear11 w 1000))
  | _ => s

/-- The end of a converter's poll (R191): three clean polls in a row bring back one that was lost, with first contact; not one without
PEC support while PEC_REQ is 1 (R187). -/
def State.dxPolled (s : State) (n : ConvId) : State :=
  let s := s.wr hubSt (O.READ_TIME.at n.val) (s.time hubSt)
  let x := s.conv n
  if s.dxState n = 3 then
    let runs := if x.clean then x.cleanPolls + 1 else 0
    if 3 ≤ runs ∧ (x.pec ∨ s.rd hubSt O.PEC_REQ = 0) then
      let s := (s.wr hubSt (O.DX_STATE.at n.val) 2).putConv n { x with cleanPolls := 0, failRun := 0, contacted := false, contactDue := true }
      (s.endCondition F.DX_COMM hubSt n.val).dxChanged n
    else s.putConv n { x with cleanPolls := runs }
  else s
/-- A poll that has nothing left to read is over. -/
def State.dxPollEnd (s : State) (n : ConvId) : State :=
  let x := s.conv n
  if x.polling ∧ x.due = [] then (s.putConv n { x with polling := false }).dxPolled n else s

/-- Whether a transaction of the supervision may end now (R189, R193): a STATUS_WORD that an alert asked for, ahead of the poll; else one
that is due at the first converter of the segment with any; none past the one in progress while a pass-through waits. -/
def State.pmDue (s : State) (n : ConvId) (cmd : Nat) : Bool :=
  let k := convSeg n
  match (s.seg k).urgent with
  | u :: _ => u == n.val && cmd == 0x79
  | [] => (s.conv n).due.contains cmd && (segConvs k).all (fun m => decide (n.val ≤ m.val) || (s.conv m).due.isEmpty)
/-- A failed transaction (R190): not acknowledged, or a PEC mismatch. -/
def State.dxFail (s : State) (n : ConvId) : State :=
  let s := s.inc32 hubSt (O.COMM_ERR.at n.val)
  let x := s.conv n
  let s := s.putConv n { x with failRun := x.failRun + 1, clean := false }
  if 3 ≤ x.failRun + 1 then s.dxLost n else s
/-- A transaction of the supervision ends (R188-R191). -/
def State.dxTransfer (s : State) (n : ConvId) (cmd result : Nat) (data : List Byte) : State :=
  let k := convSeg n
  let s := s.passNext k
  let g := s.seg k
  let x := s.conv n
  let s := if g.urgent = [] then s.putConv n { x with due := x.due.erase cmd } else s.putSeg k { g with urgent := g.urgent.tail }
  let s := if result = 0 then (s.putConv n { s.conv n with failRun := 0 }).dxReading n cmd (leNat (data.take 2)) else s.dxFail n
  s.dxPollEnd n

/-- The result of a transaction as PT_STATE counts it: 0 done, 1 not acknowledged, 2 PEC mismatch (R193). -/
def pmResult (ack pec : Bool) : Nat := if !ack then 1 else if !pec then 2 else 0
/-- PMBUS_TRANSACTION_DONE (R190): a transaction of the supervision, or of the pass-through record where `pt` says so; `ack`
acknowledged, `pec` with no PEC mismatch. -/
def execPmbusTransactionDone (n : ConvId) (cmd : Byte) (ack pec : Bool) (data : List Byte) (pt : Bool) (s : State) : Out :=
  let k := convSeg n
  let result := pmResult ack pec
  .next (if !s.segWorks k then s
  else if pt then
    match s.passOn k with
    | some q =>
      if q.conv = n.val ∧ q.cmd = cmd.toNat ∧ !q.behind then
        let s := ({ s with pass := none }.segClock k).wr hubSt O.PT_STATE (2 + result)
        let s := s.putBlob hubSt O.PT_DATA (if result = 0 then data.take (min q.len 32) else [])
        if result = 0 then s.putConv n { s.conv n with failRun := 0 } else s.dxFail n
      else s
    | none => s
  else if s.pmDue n cmd.toNat && (s.passOn k).all PassReq.behind then (s.segClock k).dxTransfer n cmd.toNat result data
  else s)

/-- The check of a pass-through request (R193, R406): 3 bytes, converter, command, length; none enters a closed segment (R346). -/
def effPass (l : List Byte) : Effect := fun s =>
  let n := leNat (l.take 1)
  let cmd := leNat ((l.drop 1).take 1)
  let len := leNat (l.drop 2)
  let k := convSeg (Fin.ofNat 16 n)
  if l.length ≠ 3 then .error .length
  else if (s.seg k).closed then .error .blockReset
  else if len = 0 ∧ cmd ≠ 0x03 ∨ 0 < len ∧ !(pmReads.contains cmd || 0xD0 ≤ cmd) then .error .readOnly
  else if s.pass.isSome then .error .state
  else if 16 ≤ n ∨ 32 < len then .error .value
  else
    let busy := !(s.seg k).urgent.isEmpty || (segConvs k).any (fun m => !(s.conv m).due.isEmpty)
    .ok ({ s with pass := some ⟨n, cmd, len, busy⟩ }.wr hubSt O.PT_STATE 1)
/-- PASS_THROUGH_REQUEST (R193). -/
def execPassThroughRequest (slot : Slot) (n : ConvId) (cmd len : Byte) (s : State) : Out :=
  .next (s.writeReq slot hubSt O.PT_REQ 3 (effPass [BitVec.ofNat 8 n.val, cmd, len]))

/-- DXEN_DROP_TIMER (R332): 1 ms after FR and AX have reached mid level the field's enables go low. -/
def execDxenDropTimer (f : FieldId) (s : State) : Out :=
  let mid (r : RailId) : Bool := !s.railLive r && decide ((s.rail r).offAt + 1000000 ≤ s.time hubSt)
  .next (if s.seq.dxDrop.contains f.val ∧ mid (frRail f) ∧ mid (axRail f) then
    let s := { s with seq := { s.seq with dxDrop := s.seq.dxDrop.filter (· != f.val) } }
    let s := (fieldConvs f).foldl (fun s n =>
      let st := s.dxState n
      let s := if st = 3 then s.endCondition F.DX_COMM hubSt n.val else s
      if st = 1 ∨ st = 2 ∨ st = 3 then s.dxDisable n 5 else s) s
    (s.judgeField f).drive
  else s)

end Sys2Proof.Machine
end

