-- ==== Sys2Proof/Machine/Cells.lean ====
section
/-!
DEFINITION. Micro-regulator cells and droop sensors (chapter Micro-Regulator Cells and Droop Sensors): conversion rounds,
cycle limiting, hiccup, shorts, retirement, slots and masking.
-/
namespace Sys2Proof.Machine
open Sys2Proof

/-! ### Sensors -/

/-- Storing one conversion of a sensor: VALUE and the sums of the open 1 ms window (R81, R83). -/
def State.sensorTake (s : State) (f : FieldId) (c : ClusterId) (n : SensorId) (r : Nat) : State :=
  let x := s.sensor f c n
  let s := s.putSensor f c n { x with
    sum := x.sum + r, count := x.count + 1, low := min x.low r, stuck := x.stuck && (r == 0 || r == 1023) }
  s.wr (clSt f c) (O.VALUE.at n.val) r

/-- The lowest reading of the unmasked sensors of one round; ties go to the lowest index (R82). -/
def lowestReading (l : List (Nat × Nat)) : Option MinTake :=
  match l with
  | [] => none
  | (n, r) :: t =>
    match lowestReading t with
    | none => some ⟨r, n⟩
    | some b => if r ≤ b.value then some ⟨r, n⟩ else some b

/-- The lower of two readings held by the min tree; the earlier round keeps a tie. -/
def keepLow (a b : Option MinTake) : Option MinTake :=
  match a, b with
  | none, b => b
  | a, none => a
  | some x, some y => if y.value < x.value then some y else some x

/-- SENSOR_CONVERSION_ROUND (R81, R82, R65): every sensor's reading, the min tree, and the overshoot OR. `cut` is the
number of periods in which the flag ended or suppressed a pulse since the round before; TRUNC takes those too (R87). -/
def execSensorConversionRound (f : FieldId) (c : ClusterId) (readings : List (BitVec 10)) (cut : BitVec 16) (s : State) : Out :=
  let st := clSt f c
  let live := (sensorsOf c).filter (s.sensorLive f c)
  let took := (sensorsOf c).zip (readings.map BitVec.toNat)
  let x := s.cellsOf f c
  let round := lowestReading ((took.filter (fun p => live.contains p.1)).map (fun p => (p.1.val, p.2)))
  let limit := (s.loop f c).setNow + 16 * s.rd st O.OVT
  let isOver := (took.filter (fun p => live.contains p.1)).any (fun p => limit < 16 * p.2)
  let s := if x.overshoot then s.inc st O.TRUNC_COUNT max32 cut.toNat else s
  let s := took.foldl (fun s p => s.sensorTake f c p.1 p.2) s
  let s := s.putCells f c { x with
    overshoot := isOver, held := keepLow x.held round,
    setHigh := x.setHigh && decide (550 * 16 ≤ (s.loop f c).setNow) }
  let s := if isOver ∨ (x.overshoot ∧ cut ≠ 0) then (mrsOf c).foldl (fun s m =>
      let r := s.mr f c m
      if r.pulses then s.putMr f c m { r with truncNow := true } else s) s
    else s
  .next s

/-- Twice the median of a list of sums: the sum of the two middle ones, which are one for an odd count. -/
def twiceMedian (l : List Nat) : Nat :=
  let v := l.mergeSort (· ≤ ·)
  v.getD ((l.length - 1) / 2) 0 + v.getD (l.length / 2) 0
/-- Whether two counts lie further apart than `d`. -/
def apart (a b d : Nat) : Bool := a + d < b || b + d < a

/-- A sensor is masked (R83): its reason, its bit and DS_MASKED. -/
def State.maskSensor (s : State) (f : FieldId) (c : ClusterId) (n : SensorId) (reason : Nat) : State :=
  let st := clSt f c
  let s := s.putSensor f c n { s.sensor f c n with reason := reason, devRun := 0 }
  let s := s.wr st O.MASKED_MASK (s.rd st O.MASKED_MASK ||| 2 ^ n.val)
  s.raise F.DS_MASKED st n.val 0

/-- The judgement of one sensor at the end of a window that is judged (R83). -/
def State.judgeSensor (s : State) (f : FieldId) (c : ClusterId) (med : Nat) (setHigh : Bool) (n : SensorId) : State :=
  let x := s.sensor f c n
  if s.sensorLive f c n && 0 < x.count then
    let dev := apart (2 * x.sum) med (2 * s.rd (clSt f c) O.MASK_DEV * x.count)
    let run := if dev then x.devRun + 1 else 0
    if 2 ≤ run then s.maskSensor f c n 2
    else if x.stuck ∧ setHigh then s.maskSensor f c n 3
    else s.putSensor f c n { x with devRun := run }
  else s

/-- The figures of a sensor's window, and its new window (R88). -/
def State.closeSensorWindow (s : State) (f : FieldId) (c : ClusterId) (judged : Bool) (n : SensorId) : State :=
  let x := s.sensor f c n
  let s := if x.count = 0 then s else
    (s.wr (clSt f c) (O.MEAN_1MS.at n.val) (divRound x.sum x.count)).wr (clSt f c) (O.SN_MIN_1MS.at n.val) x.low
  s.putSensor f c n { x with sum := 0, count := 0, low := 1023, stuck := true, devRun := if judged then x.devRun else 0 }

/-- The end of a 1 ms window of a cluster's sensors (R83, R84). -/
def State.judgeSensors (s : State) (f : FieldId) (c : ClusterId) : State :=
  let x := s.cellsOf f c
  let live := (sensorsOf c).filter (s.sensorLive f c)
  let med := twiceMedian (live.map (fun n => (s.sensor f c n).sum))
  let few := s.sensorsFew f c
  let many := s.sensorsMany f c
  let up := (s.cstate f c).judges
  let judged := x.judged && up
  let s := if judged then (sensorsOf c).foldl (fun s n => s.judgeSensor f c med x.setHigh n) s else s
  let s := (sensorsOf c).foldl (fun s n => s.closeSensorWindow f c judged n) s
  let s := match x.low with
    | none => s
    | some m => (s.wr (clSt f c) O.SC_MIN_1MS m.value).wr (clSt f c) O.MIN_1MS_INDEX m.index
  let s := s.putCells f c { s.cellsOf f c with judged := up, setHigh := true, low := none }
  s.masksChanged f c many few
/-- SENSOR_WINDOW_JUDGE (R83, R84): at each multiple of 1,000,000 ns of the cluster station's count, once. -/
def execSensorWindowJudge (f : FieldId) (c : ClusterId) (s : State) : Out :=
  let key := markKey 17 (clSt f c)
  .next (if s.periodic key (clSt f c) 1000000 0 then (s.judgeSensors f c).mark key (clSt f c) else s)

/-- The effect of a write of ENABLE_MASK (R83, R84, R88): too few enabled sensors are refused whole; a 0-to-1 change
clears the automatic mask. A 1 for a sensor that the cluster does not have is refused (assumption 51, the model's choice). -/
def effEnableMask (f : FieldId) (c : ClusterId) (mask : Nat) : Effect := fun s =>
  let st := clSt f c
  let n := sensorCount c
  if 2 ^ n ≤ mask ∨ countOf n (bit mask) < (if isCompute c then 4 else 2) then .error .value
  else
    let old := s.rd st O.ENABLE_MASK
    let few := s.sensorsFew f c
    let many := s.sensorsMany f c
    let s := s.wr st O.ENABLE_MASK mask
    let rose (k : SensorId) : Bool := bit mask k.val && !bit old k.val
    let s := (sensorsOf c).foldl (fun s k =>
      if rose k then s.putSensor f c k { s.sensor f c k with reason := 0, devRun := 0 } else s) s
    let s := s.wr st O.MASKED_MASK (maskOf n (fun k => bit (s.rd st O.MASKED_MASK) k && !(bit mask k && !bit old k)))
    .ok (s.masksChanged f c many few)

/-- ENABLE_MASK_WRITE (R84). -/
def execEnableMaskWrite (slot : Slot) (f : FieldId) (c : ClusterId) (mask : BitVec 32) (s : State) : Out :=
  .next (s.writeReq slot (clSt f c) O.ENABLE_MASK 4 (effEnableMask f c mask.toNat))

/-- The effect of a write of a BOOL trigger: 0x01 acts, 0x00 does nothing, any other value is refused (R11). -/
def effTrigger (v : Nat) (act : State → State) : Effect := fun s =>
  if v = 1 then .ok (act s) else if v = 0 then .ok s else .error .value

/-- A write of 0x01 to WINS_CLEAR: the counts go to 0 at the next sample boundary (R88). -/
def effWinsClear (f : FieldId) (c : ClusterId) (v : Nat) : Effect :=
  effTrigger v (fun s => s.putLoop f c { s.loop f c with winsClear := true })

/-- WINS_CLEAR (R88). -/
def execWinsClear (slot : Slot) (f : FieldId) (c : ClusterId) (v : Byte) (s : State) : Out :=
  .next (s.writeReq slot (clSt f c) O.WINS_CLEAR 1 (effWinsClear f c v.toNat))

/-! ### The cells -/

/-- A command about an MR acts where the MR exists (R7). -/
def onMr (c : ClusterId) (m : MrId) (t : State) : Out := if m.val < mrCount c then .next t else .refused .noSuchUnit

/-- CYCLE_LIMIT (R64, R68): a limited period, of a cell that issues pulses (R60). `prev` says whether the period before it was limited too; periods of the
restart ramp are not counted. -/
def execCycleLimit (f : FieldId) (c : ClusterId) (m : MrId) (prev : Bool) (s : State) : Out :=
  let r := s.mr f c m
  onMr c m (if r.pulses then
      let run := if r.cell = .restartRamp then 0 else if prev then r.limRun + 1 else 1
      (s.putMr f c m { r with limAt := some (s.time (clSt f c)), limRun := run }).inc32 (clSt f c) (O.LIM_COUNT.at m.val)
    else s)

/-- MRs of a cluster that count as in hiccup: CELL 3 or 4 (R77). -/
def State.inHiccup (s : State) (f : FieldId) (c : ClusterId) : Nat :=
  ((mrsOf c).filter (fun m => s.mrLive f c m && ((s.mr f c m).cell == .hiccupOff || (s.mr f c m).cell == .restartRamp))).length
/-- Whether SHORT_FRAC per cent of the active MRs are in hiccup (R77). -/
def State.hiccupMany (s : State) (f : FieldId) (c : ClusterId) : Bool :=
  decide (s.rd (clSt f c) O.SHORT_FRAC * s.activeMrs f c ≤ 100 * s.inHiccup f c)

/-- Whether a cluster bears out a short of its domain (R80): shorted within its RETRY_WINDOW, or in cluster hiccup. -/
def State.bearsShort (s : State) (f : FieldId) (c : ClusterId) : Bool :=
  s.shortState f c == 1
    || (s.shortState f c == 2
      && (s.cellsOf f c).shortAt.any (fun t => decide ((s.time (clSt f c)) ≤ t + s.rd (clSt f c) O.RETRY_WINDOW)))

/-- A cluster is declared shorted (R78), and its domain with it where R80 says so. -/
def State.declareShort (s : State) (f : FieldId) (c : ClusterId) : State :=
  let st := clSt f c
  let d := clusterDomain f c
  let s := s.wr st O.SHORT_STATE 2
  let s := s.putCells f c { s.cellsOf f c with shortAt := some (s.time (clSt f c)), hiccups := 0, windowOpen := false }
  let s := (s.raise F.CL_SHORT st 0 0).latchCluster f c
  if (domClusters d).all (fun k => s.bearsShort f k) then
    (s.raise F.DOM_SHORT st d.val 0).latchDomain d F.DOM_SHORT
  else s

/-- A cluster enters cluster hiccup (R77): every MR off, counted in the cluster's own window; the first zeroes the tile
codes, the HICCUP_LIMIT-th declares a short (R78). -/
def State.clusterHiccup (s : State) (f : FieldId) (c : ClusterId) : State :=
  let st := clSt f c
  let first := s.shortState f c == 0
  let s := (mrsOf c).foldl (fun s m =>
    if s.mrLive f c m then s.putMr f c m { s.mr f c m with cell := .clusterHiccup, limRun := 0, slot := 0, duty := 0 } else s) s
  let x := s.cellsOf f c
  let now := s.time (clSt f c)
  let s := (s.putCells f c { x with
    hiccups := x.hiccups + 1, windowOpen := true, hicAt := now, winAt := if x.windowOpen then x.winAt else now }).wr st O.SHORT_STATE 1
  let s := if first then s.zeroCluster f c else s
  if s.rd st O.HICCUP_LIMIT ≤ x.hiccups + 1 then s.declareShort f c else s

/-- A cluster whose MRs are exhausted is parked; a service cluster's park turns its domain off (R74). -/
def State.parkExhausted (s : State) (f : FieldId) (c : ClusterId) : State :=
  if s.exhausted f c then
    let s := s.parkCluster f c .exhaust
    if isCompute c then s else s.domainDown (clusterDomain f c)
  else s

/-- SHORT_FRAC per cent of the active MRs are in hiccup, and were not in `old`: a retirement, a Park, CONTAIN of an MR or a write of
SHORT_FRAC brings the share there as an entry into hiccup does (R77). -/
def State.hiccupEdge (s old : State) (f : FieldId) (c : ClusterId) : State :=
  if s.shortState f c ≠ 2 ∧ 0 < s.inHiccup f c ∧ s.hiccupMany f c ∧ !old.hiccupMany f c then s.clusterHiccup f c else s

/-- HICCUP_ENTRY (R68, R69, R77): LIM_RUN consecutive limited periods put an MR in hiccup; the share of R77 starts a
cluster hiccup, and the HICCUP_LIMIT-th hiccup of the cell retires it. -/
def execHiccupEntry (f : FieldId) (c : ClusterId) (m : MrId) (s : State) : Out :=
  let st := clSt f c
  let r := s.mr f c m
  onMr c m (if (r.cell = .starting ∨ r.cell = .switching) ∧ s.rd st O.LIM_RUN ≤ r.limRun then
      let counts := s.shortState f c != 1
      let n := if counts then r.hiccups + 1 else r.hiccups
      let s := s.putMr f c m { r with
        cell := .hiccupOff, limRun := 0, hiccups := n, windowOpen := r.windowOpen || counts, slot := 0, duty := 0
        hicAt := s.time st, winAt := if r.windowOpen then r.winAt else s.time st }
      let s := if counts then s.inc32 st (O.MR_HICCUP_TOTAL.at m.val) else s
      let s := if s.hiccupMany f c then s.clusterHiccup f c
        else if counts ∧ s.rd st O.HICCUP_LIMIT ≤ n then ((s.retireMr f c m 1).parkExhausted f c).hiccupEdge s f c
        else s
      s.drive
    else s)

/-- The slot of an MR (R62): its rank among the active MRs, moved on by the rotation count. -/
def State.slotOf (s : State) (f : FieldId) (c : ClusterId) (m : MrId) : Nat :=
  let live := (mrsOf c).filter (s.mrLive f c)
  (live.idxOf m + (s.cellsOf f c).rotation) % live.length
/-- A cell restarts with the 2 µs ramp, in diode emulation and with TRIM 0 (R61, R68), in a slot. -/
def State.rampMr (s : State) (f : FieldId) (c : ClusterId) (m : MrId) (slot : Nat) : State :=
  (s.putMr f c m { s.mr f c m with cell := .restartRamp, limRun := 0, duty := 0, slot := slot, rampAt := s.time (clSt f c) }).wr
    (clSt f c) (O.MR_TRIM.at m.val) 0
/-- A restart out of hiccup: the cell occupies its slot again at once (R68). -/
def State.restartMr (s : State) (f : FieldId) (c : ClusterId) (m : MrId) : State := s.rampMr f c m (s.slotOf f c m)

/-- HICCUP_RESTART (R68): HICCUP_OFF has passed since the entry. -/
def execHiccupRestart (f : FieldId) (c : ClusterId) (m : MrId) (s : State) : Out :=
  let r := s.mr f c m
  let st := clSt f c
  onMr c m (if r.cell = .hiccupOff ∧ r.hicAt + s.rd st O.HICCUP_OFF ≤ s.time st then s.restartMr f c m else s)

/-- RESTART_RAMP_END (R68): 2 µs after the restart normal switching resumes, and the run of limited periods starts from 0. -/
def execRestartRampEnd (f : FieldId) (c : ClusterId) (m : MrId) (s : State) : Out :=
  let r := s.mr f c m
  onMr c m (if r.cell = .restartRamp ∧ r.rampAt + 2000 ≤ s.time (clSt f c) then
      s.putMr f c m { r with cell := .switching, limRun := 0, released := false }
    else s)

/-- HICCUP_WINDOW_CLOSE (R69, R77): the RETRY_WINDOW of an MR, or of the cluster where no MR is named, has passed
since it opened. The counts of the cells stand still during a cluster hiccup. -/
def execHiccupWindowClose (f : FieldId) (c : ClusterId) (m : Option MrId) (s : State) : Out :=
  let past (at_ : Nat) : Bool := decide (at_ + s.rd (clSt f c) O.RETRY_WINDOW ≤ s.time (clSt f c))
  match m with
  | none => .next (if past (s.cellsOf f c).winAt then s.putCells f c { s.cellsOf f c with hiccups := 0, windowOpen := false } else s)
  | some k =>
    onMr c k (if s.shortState f c ≠ 1 ∧ past (s.mr f c k).winAt then
      s.putMr f c k { s.mr f c k with hiccups := 0, windowOpen := false } else s)

/-- CLUSTER_HICCUP_RESTART (R77): after HICCUP_OFF every MR of the cluster restarts together; not while it is parked,
latched or stopped. -/
def execClusterHiccupRestart (f : FieldId) (c : ClusterId) (s : State) : Out :=
  let st := clSt f c
  .next (if s.shortState f c = 1 ∧ (s.cstate f c).isOn ∧ (s.cellsOf f c).hicAt + s.rd st O.HICCUP_OFF ≤ s.time st then
    (mrsOf c).foldl (fun s m => if (s.mr f c m).cell = .clusterHiccup then s.restartMr f c m else s) s
  else s)

/-- CLUSTER_HICCUP_END (R79): a restart has ended with fewer than SHORT_FRAC per cent in hiccup; a park does not end the episode. -/
def execClusterHiccupEnd (f : FieldId) (c : ClusterId) (s : State) : Out :=
  .next (if s.shortState f c = 1 ∧ (s.cstate f c).isOn ∧ (mrsOf c).all (fun m => (s.mr f c m).cell != .clusterHiccup) ∧ !s.hiccupMany f c then
    let s := s.endEpisode f c
    s.putCells f c { s.cellsOf f c with episodeEnd := some (s.time (clSt f c)) }
  else s)

/-- The open condition of R71 with an MR's phase currents in mA: its current, or one of its phases', below OPEN_FRAC per cent of the mean,
in a cluster whose mean MR current is 1,000 mA or more. -/
def State.openMr (s : State) (f : FieldId) (c : ClusterId) (ia ib : Nat) : Bool :=
  let st := clSt f c
  let n := s.activeMrs f c
  let isum := s.rd st O.ISUM
  let frac := s.rd st O.OPEN_FRAC
  decide (1000 * n ≤ isum) && decide (0 < n)
    && (decide (100 * n * (ia + ib) < frac * isum) || decide (200 * n * ia < frac * isum) || decide (200 * n * ib < frac * isum))
/-- MR_OPEN_DETECT (R71): the MR's currents, and for how many consecutive periods they have been so; not in hiccup of the cell or
cluster. The cluster's mean is that of its last sample. -/
def execMrOpenDetect (f : FieldId) (c : ClusterId) (m : MrReading) (s : State) : Out :=
  let r := s.mr f c m.mr
  onMr c m.mr (if (r.cell = .starting ∨ r.cell = .switching) ∧ s.shortState f c ≠ 1 ∧ 40 ≤ r.duty
      ∧ s.rd (clSt f c) O.MC_OPEN_RUN ≤ m.run.toNat ∧ s.openMr f c m.ia.toNat m.ib.toNat then
      (((s.retireMr f c m.mr 2).parkExhausted f c).hiccupEdge s f c).drive
    else s)

/-! ### Slots -/

/-- SLOT_ROTATION_ADVANCE (R62): r advances by 1; ROT_PERIOD = 0 stops it. -/
def execSlotRotationAdvance (f : FieldId) (c : ClusterId) (s : State) : Out :=
  let x := s.cellsOf f c
  .next (if s.rd (clSt f c) O.ROT_PERIOD = 0 then s
    else s.putCells f c { x with rotation := x.rotation + 1, rebuild := true })

/-- Slots of the active MRs, ranked by MR number: s = (j + r) mod N (R62). -/
def State.assignSlots (s : State) (f : FieldId) (c : ClusterId) (n r j : Nat) (l : List MrId) : State :=
  match l with
  | [] => s
  | m :: t =>
    let x := s.mr f c m
    (s.putMr f c m { x with slot := if x.cell.switches then (j + r) % n else 0 }).assignSlots f c n r (j + 1) t

/-- SLOT_MAP_REBUILD (R63). -/
def execSlotMapRebuild (f : FieldId) (c : ClusterId) (s : State) : Out :=
  let x := s.cellsOf f c
  .next (if x.rebuild then
    let live := (mrsOf c).filter (s.mrLive f c)
    (s.putCells f c { x with rebuild := false }).assignSlots f c live.length x.rotation 0 live
  else s)

end Sys2Proof.Machine
end

