-- ==== Sys2Proof/Machine/Activate.lean ====
section
/-!
DEFINITION. Activations of the loop engines (R139, R140), and the exchange of programs at their start (R144).
-/
namespace Sys2Proof.Machine
open Sys2Proof

/-- A swap or revert that waits takes effect (R144, R145): the programs change places, the swap is recorded, an image that asks for it
reseeds its loop, and an estimator's tiles follow the new image of its task, which is task 0 (R231, R235). -/
def State.swapNow (s : State) (e : EngId) (t : TaskId) : State :=
  let r := s.eng e
  let st := engSt e
  let s := s.putEng e (r.exchange t.val (r.shadowImg.any (fun (x : Image) => bit x.flags 1)))
  let s := s.showExchange e t
  let s := (s.wr st (engObj O.SWAP_TIME e) (s.time st)).inc32 st (engObj O.SWAPS e)
  let s := match s.loopOf e with
    | some (f, c) => if r.shadowImg.any (fun (x : Image) => bit x.flags 0) then s.putLoop f c { s.loop f c with reseed := true } else s
    | none => s
  let s := s.traceTask e t.val 2 0
  match engStation e with
  | .field f => if engNum e < 4 ∧ t = 0 then s.newImage f (engNum e) else s
  | _ => s
/-- A swap that waits for the next activation start of a task. -/
def State.swapDue (s : State) (e : EngId) (t : TaskId) : State :=
  if (s.eng e).swapDue ≠ 0 ∧ (s.eng e).shadowTask = t.val then s.swapNow e t else s

/-- An activation starts on a bank of its class (R139), after a swap that waits for it. -/
def State.startActivation (s : State) (e : EngId) (t : TaskId) (c due : Nat) (ports : Tbl Int) (masks : Tbl Nat) : State :=
  let s := s.swapDue e t
  let s := match engStation e with | .field f => if engNum e < 4 then s.placeW f (engNum e) else s | _ => s
  let r := s.eng e
  match r.image t.val with
  | none => s.putEng e { r with ready := r.ready.filter (fun q => q.task != t.val) }
  | some x =>
    let b := freshBank x t.val due (r.firsts.contains t.val) ports masks
    (s.putEng e { r with
      banks := tblSet none r.banks c (some b), running := some c, ready := r.ready.filter (fun q => q.task != t.val),
      done := r.done.filter (fun d => d.task != t.val), firsts := r.firsts.filter (· != t.val) }).traceStart e t.val

/-- What the engine runs at an instruction boundary (R140): a released task of a class below every bank in use starts;
else the lowest bank in use goes on. -/
def State.schedule (s : State) (e : EngId) (pf : PortFn) : State :=
  let r := s.eng e
  let low := r.lowestBank
  match pickReady r.ready (low.getD 4) with
  | some q =>
    let t : TaskId := Fin.ofNat 8 q.task
    let (p, m) := pf s e t
    s.startActivation e t q.cls q.due p m
  | none => s.putEng e { r with running := low }

end Sys2Proof.Machine
end

