-- ==== Sys2Proof/Machine/Commit.lean ====
section
/-!
DEFINITION. What a commit does (R139): stores, and the ports and supervision channels of cluster loops (R137), estimators
(R231), learning (R237) and outer loops (R171-R174).
-/
namespace Sys2Proof.Machine
open Sys2Proof

/-- The rail whose outer loop task 0 of a hub engine runs (assumption 30): GLE.H.r serves rail r. -/
def outerRail (e : EngId) : Option RailId := if 216 ≤ e.val then some (Fin.ofNat 16 (e.val - 216)) else none

/-- The value held for a port, rounded to an integer (R135); the last one where several are held. -/
def heldOut (l : List Held) (p : Nat) : Option Int :=
  l.foldl (fun a h => match h with | .out q v => if q = p then some (roundAt v 0) else a | _ => a) none
/-- The result held for a supervision channel, and its residual. -/
def heldSupv (l : List Held) (c : Nat) : Option (Bool × Int) :=
  l.foldl (fun a h => match h with | .supv k o v => if k = c then some (o, v) else a | _ => a) none
/-- The stores take effect in order. -/
def heldStores (l : List Held) (mem : Tbl Nat) : Tbl Nat :=
  l.foldl (fun m h => match h with | .store line b => memWrite m (line * 16) b | _ => m) mem

/-- A cluster loop's commit (R135, R137): the code limited to 0 to DUTY_MAX, the winner, the supervision result of its
order. -/
def State.commitLoop (s : State) (e : EngId) (f : FieldId) (c : ClusterId) (l : List Held) : State :=
  let dmax : Int := s.rd (clSt f c) O.DUTY_MAX
  let raw := heldOut l 0
  let code := raw.map (fun v => (clampInt 0 dmax v).toNat)
  let s := s.putLoop f c { s.loop f c with
    committed := true, outCode := code, outWin := ((heldOut l 1).getD 0).toNat,
    supv := (heldSupv l (if s.rd (clSt f c) O.ORDER = 5 then 1 else 0)).map Prod.fst, resid := (heldSupv l 0).map Prod.snd }
  if raw.any (fun v => decide (v < 0 ∨ dmax < v)) then (s.stick e flSAT).traceSource e 0 3 else s

/-- An estimator's commit (R231-R233): P_EST of its live tiles that are not frozen. -/
def State.commitEst (s : State) (f : FieldId) (g : Nat) (l : List Held) : State :=
  (groupTiles g).foldl (fun s t =>
    let v := satU 32 ((heldOut l (t.val % 4)).getD 0)
    let x := s.tile f t
    let live := s.tileLive f t
    let s := s.putTile f t { x with est := if live then v else 0, acts := x.acts + 1 }
    if !live then s.putPest f t 0
    else if x.frozen = 0 then s.putPest f t v
    else s.putPest f t (s.rd (fSt f) (O.P_EST.at t.val))) s

/-- The learning task's commit (R237): the block is paged out, and the new w takes effect for a tile that is not frozen. -/
def State.commitLearn (s : State) (e : EngId) (f : FieldId) : State :=
  let r := s.estr f
  match r.learning with
  | none => s
  | some n =>
    let t : TileId := Fin.ofNat 16 n
    let x := s.tile f t
    let line := Config.imageLine ((s.eng e).firstImage.elim 0 Image.id) 0
    let block := (List.range x.rls.length).map (fun i => memByte (s.eng e).mem (line * 16 + i))
    let s := s.putEstr f { r with learning := none }
    let s := s.putTile f t { x with rls := block }
    let s := s.inc64 (fSt f) (O.LEARN_STEPS.at t.val) 1
    if x.frozen = 0 then s.setW f t (rlsW block) else s

/-- The plausibility of an outer loop (R173): 16 implausible activations freeze its outputs, and the first commit after 32
plausible ones resumes them. -/
def State.judgeOuter (s : State) (r : RailId) (isOver : Bool) : State :=
  let x := s.rail r
  if s.railState r = 1 ∨ s.railState r = 3 ∨ s.railState r = 4 then s
  else if isOver then
    let s := s.putRail r { x with olBad := x.olBad + 1, olGood := 0, olHold := x.olHold || decide (16 ≤ x.olBad + 1) }
    if 16 ≤ x.olBad + 1 ∧ !x.olHold then s.raise F.RAIL_OL_HOLD hubSt r.val 0 else s
  else s.putRail r { x with olBad := 0, olGood := x.olGood + 1 }

/-- An outer loop's outputs wait for the next trip (R172); the excess of an auxiliary rail goes to the budget arbiter at
once (R171, R174): the larger of what the program puts out and what the station itself found at the activation's start (assumption 30). -/
def State.takeOuter (s : State) (r : RailId) (l : List Held) : State :=
  let x := s.rail r
  let trims := (phasesOf r).foldl (fun t p =>
    match heldOut l (8 + p.val) with | some v => tblInsert t p.val v | none => t) x.olTrim
  let keep (a b : Option Int) : Option Int := match a with | some v => some v | none => b
  let s := s.putRail r { x with
    olRef := keep (heldOut l 0) x.olRef, olRipple := keep (heldOut l 1) x.olRipple, olTonK := keep (heldOut l 2) x.olTonK,
    olTrim := trims }
  if isFR r then s
  else
    match heldOut l 3 with
    | none => s
    | some v =>
      let v := max v ((heldOut l 0x40).getD 0)
      let s := s.wr hubSt (O.AX_EXCESS.at r.val) (satU 32 v)
      let x := s.rail r
      if 0 < v then s.putRail r { x with axFrom := some (x.axFrom.getD (s.time hubSt)) }
      else
        let s := s.putRail r { x with axFrom := none, axLimit := false }
        if x.axLimit then s.endCondition F.AX_ILIMIT hubSt r.val else s

/-- An outer loop's commit. -/
def State.commitOuter (s : State) (r : RailId) (l : List Held) : State :=
  let x := s.rail r
  let s := if x.olHold ∧ 32 ≤ x.olGood then s.putRail r { x with olHold := false, olGood := 0 } else s
  let s := match heldSupv l 0 with | some o => s.judgeOuter r o.1 | none => s
  if (s.rail r).olHold then s else s.takeOuter r l

/-- The held effects of an activation take effect together (R139). -/
def State.commit (s : State) (e : EngId) (d : Done) : State :=
  let r := s.eng e
  let s := s.putEng e { r with mem := heldStores d.held r.mem, done := r.done.filter (fun x => x.task != d.task) }
  let s := s.inc64 (engSt e) (engObj O.ACTIVATIONS e) 1
  match s.loopOf e with
  | some (f, c) => if isCle e ∨ d.task = 0 then s.commitLoop e f c d.held else s
  | none =>
    match engStation e with
    | .field f =>
      if d.task ≠ 0 then s
      else if engNum e < 4 then s.commitEst f (engNum e) d.held
      else if engNum e = 4 then s.commitLearn e f
      else s
    | .hub => match outerRail e with | some r => if d.task = 0 then s.commitOuter r d.held else s | none => s
    | .cluster _ _ => s

/-- ACTIVATION_COMMIT (R139): the latch instant of a task's activation that has reached END; before it nothing takes effect. -/
def execActivationCommit (e : EngId) (t : TaskId) (s : State) : Out :=
  .next (match (s.eng e).finished t.val with
    | some d => if d.due ≤ s.time (engSt e) then s.commit e d else s
    | none => s)

end Sys2Proof.Machine
end

