-- ==== Sys2Proof/Machine/Insns.lean ====
section
/-!
DEFINITION. The instructions of the loop engines (R131-R137): each acts on the bank that the engine runs.
-/
namespace Sys2Proof.Machine
open Sys2Proof

/-- What an instruction leaves: its bank, sticky flags, free values drawn, and the destination elements for the taps. -/
structure InsnRes where
  bank : Bank
  flags : Nat := 0
  draws : Nat := 0
  exp : Int := 0
  m : List Int := []

/-- The effect of an instruction on the data memory and the bank; the number is the first free value it may draw. None for
an operand that R131 to R136 reserve. -/
abbrev InsnFn := EngRec → Bank → Nat → Option InsnRes

/-- The activation that an engine runs, and the word of its program that is next (R139). -/
def EngRec.current (r : EngRec) : Option (Nat × Bank × Nat) :=
  r.running.bind (fun c => (r.bank c).bind (fun b => ((r.image b.task).bind (fun x => x.words[b.pc]?)).map (fun w => (c, b, w))))
/-- An instruction executes where the running program's next word is its word, and the word after it follows (R131, R139, R458); at any
other word, and on an engine that runs no activation, it does not. -/
def runInsn (e : EngId) (word : Nat) (go : InsnFn) (s : State) : Out :=
  let r := s.eng e
  match r.current with
  | none => .next s
  | some (c, b, w) =>
    if w ≠ word then .next s
    else
      match go r b s.free with
      | none => .refused .reservedOperand
      | some z =>
        let nb : Bank := { z.bank with pc := b.pc + 1, satNow := z.bank.satNow || z.flags % 2 == 1 }
        let s := { s.putEng e { r with banks := tblSet none r.banks c (some nb) } with free := s.free + z.draws }
        let s := if z.flags = 0 then s else s.stick e z.flags
        let s := if z.flags % 2 = 1 then s.traceSource e b.task 3 else s
        .next (s.traceTaps e b.task b.pc z.exp z.m)

/-- A vector register of a bank. -/
def Bank.reg (b : Bank) (i : Nat) : Block := b.v.getD i {}
/-- The format a destination takes: FMT where it names one, else the held format (R125). -/
def destFmt (fmt : BitVec 2) (held : Nat) : Nat := if fmt = 3 then held else fmt.toNat

/-- Writing exact elements into a vector register: rounded once at the held exponent (R125, R126). -/
def putV (b : Bank) (d : Byte) (fmt : BitVec 2) (xs : List Dy) (flags : Nat) : Option InsnRes :=
  if isV d.toNat then
    let old := b.reg d.toNat
    let z := roundBlock (destFmt fmt old.fmt) old.exp xs
    some { bank := { b with v := b.v.set d.toNat z.1 }, flags := flags ||| (if z.2 then flSAT else 0), exp := z.1.exp, m := z.1.m }
  else none

/-- `n` elements in a format for which the spec states no value: the same for the same operands, as R153 has it (assumption 101). -/
def openElems (key : List Int) (n f : Nat) : List Int :=
  (List.range n).map (fun i => clampInt (fmtLo f) (fmtHi f) (Config.openElement key i))
/-- A destination for which the spec states no result (operands of unequal lengths, which a line kept from another image may bring). -/
def putOpen (b : Bank) (d : Byte) (fmt : BitVec 2) (key : List Int) (n : Nat) : Option InsnRes :=
  if isV d.toNat then
    let old := b.reg d.toNat
    let f := destFmt fmt old.fmt
    let m := openElems key n f
    some { bank := { b with v := b.v.set d.toNat ⟨f, old.exp, m⟩ }, exp := old.exp, m := m }
  else none

/-- A vector operand (R132). -/
def vOp (b : Bank) (x : Byte) : Option Block := if isV x.toNat then some (b.reg x.toNat) else none

/-- An elementwise instruction on two operands, with the broadcast of R129. -/
def elementwise (f : Dy → Dy → Dy) (fmt : BitVec 2) (d a b : Byte) : InsnFn := fun _ bank _ => do
  let x ← vOp bank a
  let y ← vOp bank b
  match broadcast x.vals y.vals with
  | some (p, q) => putV bank d fmt (List.zipWith f p q) 0
  | none => putOpen bank d fmt (x.m ++ y.m) (max x.m.length y.m.length)

/-- An elementwise instruction on one operand. -/
def unary (f : Dy → Dy) (fmt : BitVec 2) (d a : Byte) : InsnFn := fun _ bank _ => do
  let x ← vOp bank a
  putV bank d fmt (x.vals.map f) 0

/-- NOP (R133). -/
def execInsnNop (e : EngId) (s : State) : Out := runInsn e (insnWord 0x00 3 0 0 0) (fun _ b _ => some { bank := b }) s

/-- The native exponent of a port (R137, R171). -/
def nativeExp (e : EngId) (p : Nat) : Int :=
  if isCle e ∨ isSpare e then (if p = 2 ∨ p = 13 then -11 else if p = 3 then -4 else 0)
  else if 216 ≤ e.val ∧ p = 1 then -4 else 0

/-- IN (R133, R135): n ports from p, each scaled by the native exponent less the port scale. -/
def execInsnIn (e : EngId) (fmt : BitVec 2) (d p n : Byte) (s : State) : Out :=
  runInsn e (insnWord 0x01 fmt d p n) (fun r b _ =>
    if 1 ≤ n.toNat ∧ n.toNat ≤ 32 ∧ p.toNat + n.toNat ≤ 64 then
      let ps (q : Nat) : Int := (r.image b.task).elim 0 (fun x => x.portScale q)
      putV b d fmt ((List.range n.toNat).map (fun i =>
        let q := p.toNat + i
        ⟨tblGet 0 b.ports q, nativeExp e q - ps q⟩)) 0
    else none) s

/-- OUT (R133): the element, or WIDX, is held for the port until the commit. -/
def execInsnOut (e : EngId) (port a i : Byte) (s : State) : Out :=
  runInsn e (insnWord 0x02 3 port a i) (fun _ b _ =>
    if port.toNat < 64 then
      if a = 0x14 then some { bank := { b with held := b.held ++ [.out port.toNat ⟨b.widx, 0⟩] }, m := [b.widx] }
      else do
        let x ← vOp b a
        match x.m[i.toNat]? with
        | some y => some { bank := { b with held := b.held ++ [.out port.toNat ⟨y, x.exp⟩] }, exp := x.exp, m := [y] }
        | none =>
          let y := clampInt (fmtLo x.fmt) (fmtHi x.fmt) (Config.openElement x.m i.toNat)
          some { bank := { b with held := b.held ++ [.out port.toNat ⟨y, x.exp⟩] }, exp := x.exp, m := [y] }
    else none) s

/-- LDV (R125, R130, R131, R133): the stored vector with its format and exponent; its unused FMT is 0b11. A working line with no header of
R130, one that nothing has written, as the default image's are at first, gives elements that the spec does not state, of the length that
the text fixes for the line (R129; the model's choice, assumption 101). -/
def execInsnLdv (e : EngId) (fmt : BitVec 2) (d line : Byte) (s : State) : Out :=
  runInsn e (insnWord 0x03 fmt d line 0) (fun r b _ =>
    if fmt = 3 ∧ isV d.toNat then
      match loadVec r.mem line.toNat with
      | some x => some { bank := { b with v := b.v.set d.toNat x }, exp := x.exp, m := x.m }
      | none => putOpen b d 3 [e.val, line.toNat] ((r.image b.task).elim 1 (fun x => x.lineLen line.toNat))
    else none) s

/-- STV (R133): the vector is stored at commit. -/
def execInsnStv (e : EngId) (line a : Byte) (s : State) : Out :=
  runInsn e (insnWord 0x04 3 line a 0) (fun _ b _ => do
    let x ← vOp b a
    some { bank := { b with held := b.held ++ [.store line.toNat (vecBytes x)] }, exp := x.exp, m := x.m }) s

/-- SETE (R125, R133): Vd re-rounded at a new format and exponent. -/
def execInsnSete (e : EngId) (fmt : BitVec 2) (d x : Byte) (s : State) : Out :=
  runInsn e (insnWord 0x05 fmt d 0 x) (fun _ b _ =>
    if isV d.toNat then
      let old := b.reg d.toNat
      let z := roundBlock (destFmt fmt old.fmt) x.toInt old.vals
      some { bank := { b with v := b.v.set d.toNat z.1 }, flags := if z.2 then flSAT else 0, exp := z.1.exp, m := z.1.m }
    else none) s

/-- The block of R128 over quotients of a count, and its flags. -/
def normBlock (f d : Nat) (xs : List Dy) (e0 : Int) : Block × Nat :=
  if xs.all (fun x => x.m == 0) then (⟨f, e0, xs.map (fun _ => 0)⟩, flNORMZ)
  else
    let e := normExp f d xs
    let r := xs.map (fun x => roundQ x d e)
    (⟨f, e, r.map (clampInt (fmtLo f) (fmtHi f))⟩, if r.any (fun x => !fmtFits f x) then flSAT else 0)

/-- NORM (R128). -/
def execInsnNorm (e : EngId) (fmt : BitVec 2) (d a : Byte) (s : State) : Out :=
  runInsn e (insnWord 0x06 fmt d a 0) (fun _ b _ => do
    let x ← vOp b a
    if isV d.toNat then
      let z := normBlock (destFmt fmt (b.reg d.toNat).fmt) 1 x.vals x.exp
      some { bank := { b with v := b.v.set d.toNat z.1 }, flags := z.2, exp := z.1.exp, m := z.1.m }
    else none) s

/-- Writing an accumulator. -/
def putAcc (b : Bank) (d : Byte) (a : Acc) (flags : Nat) : Option InsnRes :=
  if isAcc d.toNat then some { bank := { b with a := b.a.set (d.toNat - 0x10) a }, flags := flags, exp := a.exp, m := a.m } else none

/-- MVM (R127, R133): into an accumulator exactly, or rounded into a vector register. -/
def execInsnMvm (e : EngId) (fmt : BitVec 2) (d line v : Byte) (s : State) : Out :=
  runInsn e (insnWord 0x08 fmt d line v) (fun r b _ => do
    let x ← vOp b v
    match loadMat r.mem line.toNat with
    | some m =>
      if m.cols = x.m.length then
        let p := mvm m x
        if isAcc d.toNat then putAcc b d p 0 else putV b d fmt p.vals 0
      else if isAcc d.toNat then putAcc b d ⟨m.exp + x.exp, openElems x.m m.rows 0⟩ 0
      else putOpen b d fmt x.m m.rows
    | none => if isAcc d.toNat then putAcc b d ⟨0, openElems x.m 1 0⟩ 0 else putOpen b d fmt x.m 1) s

/-- MVMA (R127, R133). -/
def execInsnMvma (e : EngId) (d line v : Byte) (s : State) : Out :=
  runInsn e (insnWord 0x09 3 d line v) (fun r b _ => do
    let x ← vOp b v
    let old := b.a.getD (d.toNat - 0x10) {}
    match loadMat r.mem line.toNat with
    | some m =>
      match if m.cols = x.m.length then mvma old (mvm m x) else none with
      | some z => putAcc b d z.1 (if z.2 then flACCSAT else 0)
      | none => putAcc b d ⟨old.exp, openElems (x.m ++ old.m) m.rows 0⟩ 0
    | none => putAcc b d ⟨old.exp, openElems (x.m ++ old.m) old.m.length 0⟩ 0) s

/-- MOVA (R127, R133). -/
def execInsnMova (e : EngId) (fmt : BitVec 2) (d a : Byte) (s : State) : Out :=
  runInsn e (insnWord 0x0A fmt d a 0) (fun _ b _ =>
    if isAcc a.toNat then putV b d fmt (b.a.getD (a.toNat - 0x10) {}).vals 0 else none) s

/-- VCAT (R133): at most 32 elements. -/
def execInsnVcat (e : EngId) (fmt : BitVec 2) (d a v : Byte) (s : State) : Out :=
  runInsn e (insnWord 0x0B fmt d a v) (fun _ b _ => do
    let x ← vOp b a
    let y ← vOp b v
    if x.m.length + y.m.length ≤ 32 then putV b d fmt (x.vals ++ y.vals) 0 else putOpen b d fmt (x.m ++ y.m) 32) s

/-- VEXT (R133). -/
def execInsnVext (e : EngId) (fmt : BitVec 2) (d a i : Byte) (s : State) : Out :=
  runInsn e (insnWord 0x0C fmt d a i) (fun _ b _ => do
    let x ← vOp b a
    match x.m[i.toNat]? with
    | some y => putV b d fmt [⟨y, x.exp⟩] 0
    | none => putOpen b d fmt x.m 1) s

/-- VADD, VSUB, VMUL, VMAX, VMIN (R133). -/
def execInsnVadd (e : EngId) (fmt : BitVec 2) (d a v : Byte) (s : State) : Out := runInsn e (insnWord 0x0D fmt d a v) (elementwise Dy.add fmt d a v) s
def execInsnVsub (e : EngId) (fmt : BitVec 2) (d a v : Byte) (s : State) : Out := runInsn e (insnWord 0x0E fmt d a v) (elementwise Dy.sub fmt d a v) s
def execInsnVmul (e : EngId) (fmt : BitVec 2) (d a v : Byte) (s : State) : Out := runInsn e (insnWord 0x0F fmt d a v) (elementwise Dy.mul fmt d a v) s
def execInsnVmax (e : EngId) (fmt : BitVec 2) (d a v : Byte) (s : State) : Out := runInsn e (insnWord 0x11 fmt d a v) (elementwise Dy.max fmt d a v) s
def execInsnVmin (e : EngId) (fmt : BitVec 2) (d a v : Byte) (s : State) : Out := runInsn e (insnWord 0x12 fmt d a v) (elementwise Dy.min fmt d a v) s

/-- VSCL (R133): times 2^shift. -/
def execInsnVscl (e : EngId) (fmt : BitVec 2) (d a sh : Byte) (s : State) : Out :=
  runInsn e (insnWord 0x10 fmt d a sh) (unary (fun x => ⟨x.m, x.e + sh.toInt⟩) fmt d a) s
/-- RELU (R133). -/
def execInsnRelu (e : EngId) (fmt : BitVec 2) (d a : Byte) (s : State) : Out :=
  runInsn e (insnWord 0x19 fmt d a 0) (unary (fun x => if x.m < 0 then Dy.zero else x) fmt d a) s

/-- The lowest element and its index, lowest index on ties. -/
def lowestAt (l : List Int) : Int × Nat :=
  match l with
  | [] => (0, 0)
  | x :: r =>
    match r with
    | [] => (x, 0)
    | _ :: _ => let b := lowestAt r; if x ≤ b.1 then (x, 0) else (b.1, b.2 + 1)

/-- MINS (R133): the lowest element, and WIDX its index; a change of WIDX is a trace trigger (R150). -/
def execInsnMins (e : EngId) (fmt : BitVec 2) (d a : Byte) (s : State) : Out :=
  let was := ((s.eng e).running.bind (fun c => (s.eng e).bank c)).elim 0 Bank.widx
  let out := runInsn e (insnWord 0x13 fmt d a 0) (fun _ b _ => do
    let x ← vOp b a
    let z := lowestAt x.m
    putV { b with widx := z.2 } d fmt [⟨z.1, x.exp⟩] 0) s
  match out with
  | .next t =>
    match (t.eng e).running.bind (fun c => (t.eng e).bank c) with
    | some b => .next (if b.widx = was then t else t.traceSource e b.task 2)
    | none => .next t
  | o => o

/-- CLAMP (R133): each element limited to lo … hi, lo above hi giving lo; SAT is not set. -/
def execInsnClamp (e : EngId) (fmt : BitVec 2) (d a v : Byte) (s : State) : Out :=
  runInsn e (insnWord 0x14 fmt d a v) (fun _ b _ => do
    let x ← vOp b a
    let y ← vOp b v
    match y.vals with
    | [lo, hi] =>
      let z ← putV b d fmt (x.vals.map (fun q => if hi.lt lo then lo else Dy.max lo (Dy.min hi q))) 0
      some { z with flags := 0 }
    | _ => putOpen b d fmt (x.m ++ y.m) x.m.length) s

/-- SATU (R133): each element rounded to an integer and limited to 0 … 2^w − 1; SAT is not set. -/
def execInsnSatu (e : EngId) (fmt : BitVec 2) (d a w : Byte) (s : State) : Out :=
  runInsn e (insnWord 0x15 fmt d a w) (fun _ b _ => do
    let x ← vOp b a
    if 1 ≤ w.toNat ∧ w.toNat ≤ 16 then
      let z ← putV b d fmt (x.vals.map (fun q => ⟨clampInt 0 (2 ^ w.toNat - 1) (roundAt q 0), 0⟩)) 0
      some { z with flags := 0 }
    else none) s

/-- The bits of a condition operand (R136). -/
def condBits (b : Bank) (c : Nat) : Option Nat :=
  if c < 8 then some (tblGet 0 b.masks c)
  else if c = 8 then some (if b.widx = 0 then max32 else 0)
  else if c = 9 then some (if b.first then max32 else 0)
  else if c = 0x0A then some (if b.satNow then max32 else 0)
  else none

/-- SEL and SELN (R133, R136): the chosen elements of Va, the others kept. An operand of length 1 is broadcast. -/
def select (want : Bool) (fmt : BitVec 2) (d a c : Byte) : InsnFn := fun _ b _ => do
  let x ← vOp b a
  let m ← condBits b c.toNat
  if isV d.toNat then
    match broadcast x.vals (b.reg d.toNat).vals with
    | some (p, q) =>
      putV b d fmt ((List.range p.length).map (fun i => if m.testBit i = want then p.getD i Dy.zero else q.getD i Dy.zero)) 0
    | none => putOpen b d fmt (x.m ++ (b.reg d.toNat).m) (max x.m.length (b.reg d.toNat).m.length)
  else none
/-- SEL. -/
def execInsnSel (e : EngId) (fmt : BitVec 2) (d a c : Byte) (s : State) : Out := runInsn e (insnWord 0x16 fmt d a c) (select true fmt d a c) s
/-- SELN. -/
def execInsnSeln (e : EngId) (fmt : BitVec 2) (d a c : Byte) (s : State) : Out := runInsn e (insnWord 0x17 fmt d a c) (select false fmt d a c) s

/-- PWL (R134). -/
def execInsnPwl (e : EngId) (fmt : BitVec 2) (d a line : Byte) (s : State) : Out :=
  runInsn e (insnWord 0x18 fmt d a line) (fun r b _ => do
    let x ← vOp b a
    let z := x.vals.map (pwlAt r.mem line.toNat)
    putV b d fmt (z.map Prod.fst) (if z.any Prod.snd then flPWLR else 0)) s

/-- Stochastic rounding of quotients at an exponent (R126): the draw decides between the two neighbours. -/
def stochastic (d : Nat) (e : Int) (xs : List Dy) (k : Nat) : List Int :=
  (List.range xs.length).map (fun i =>
    let q := floorQ (xs.getD i Dy.zero) d e
    if q.2 ∧ (Config.freeValue (k + i)) % 2 = 1 then q.1 + 1 else q.1)
/-- A result of RLS renormalised under R128 over a denominator, by nearest even or stochastically: the block, its flags
and the free values drawn. With a denominator of 0 the spec states no result (assumption 101). -/
def rlsBlock (f : Nat) (e0 : Int) (xs : List Dy) (den : Dy) (stoch : Bool) (k : Nat) : Block × Nat × Nat :=
  if den.m = 0 then (⟨f, e0, openElems (xs.map Dy.m) xs.length f⟩, 0, 0)
  else
    let o := overPos xs den
    let z := normBlock f o.2 o.1 e0
    if stoch then
      let r := stochastic o.2 z.1.exp o.1 k
      (⟨f, z.1.exp, r.map (clampInt (fmtLo f) (fmtHi f))⟩,
        (z.2 &&& flNORMZ) ||| (if r.any (fun x => !fmtFits f x) then flSAT else 0), xs.length)
    else (z.1, z.2, 0)

/-- RLS (R134): one recursive least-squares step, its w and P held until the commit. FMT 0b01 rounds stochastically and
sets SRND. -/
def execInsnRls (e : EngId) (fmt : BitVec 2) (line phi err : Byte) (s : State) : Out :=
  runInsn e (insnWord 0x1A fmt line phi err) (fun r b k => do
    let f ← vOp b phi
    let v ← vOp b err
    if 2 ≤ fmt.toNat then none
    else
      let stoch := fmt == 1
      match loadRls r.mem line.toNat with
      | none => some { bank := b, flags := if stoch then flSRND else 0 }
      | some x =>
        let e0 : Dy := ⟨v.m.getD 0 0, v.exp⟩
        let z := rlsStep x (if f.m.length = 1 then { f with m := List.replicate x.n (f.m.getD 0 0) } else f) e0
        let w := rlsBlock x.w.fmt x.w.exp z.1.1 z.1.2 stoch k
        let p := rlsBlock x.p.fmt x.p.exp z.2.1 z.2.2 stoch (k + w.2.2)
        some { bank := { b with held := b.held ++ [.store x.wLine (vecBytes w.1), .store x.pLine (matBytes x.p.fmt p.1.exp x.n x.n p.1.m)] },
               flags := w.2.1 ||| p.2.1 ||| (if stoch then flSRND else 0), draws := w.2.2 + p.2.2, exp := w.1.exp, m := w.1.m }) s

/-- SUPV (R133): the result for a channel at commit, with element 0 of Va, rounded, for FE_NOW (R119, assumption 24). -/
def execInsnSupv (e : EngId) (ch a v : Byte) (s : State) : Out :=
  runInsn e (insnWord 0x1B 3 ch a v) (fun _ b k => do
    let x ← vOp b a
    let y ← vOp b v
    let resid := roundAt ⟨x.m.getD 0 0, x.exp⟩ 0
    if 4 ≤ ch.toNat then none
    else match broadcast x.vals y.vals with
      | some (p, q) =>
        let isOver := (List.zipWith (fun (g h : Dy) => h.lt g.abs) p q).any id
        some { bank := { b with held := b.held ++ [.supv ch.toNat isOver resid] }, m := [if isOver then 1 else 0] }
      | none =>
        let isOver := Config.freeValue k % 2 == 1
        some { bank := { b with held := b.held ++ [.supv ch.toNat isOver resid] }, draws := 1, m := [if isOver then 1 else 0] }) s

end Sys2Proof.Machine
end

