-- ==== Sys2Proof/Machine/Engines.lean ====
section
/-!
DEFINITION. The commands of the loop engines beside their instructions: releases, images and swaps (R138-R145), tasks
(R154), failure and the spare (R146-R149), and the trace unit (R150).
-/
namespace Sys2Proof.Machine
open Sys2Proof

/-! ### Ports of the general tasks -/

/-- Phase p of a rail is a member of the ring (R167). -/
def State.inRing (s : State) (r : RailId) (p : PhaseId) : Bool := (s.phase r p).dropped == 0
/-- The ports of an outer loop (R171); V_FB is the average of channel 8 on local sense too (the model's choice, assumption 103). Behind them, where no IN reaches, an auxiliary rail's current above ILIMIT_EFF of its domain at the
activation's start (R45, R174). -/
def State.outerPorts (s : State) (r : RailId) : Tbl Int :=
  let base : List (Nat × Int) := [(0, s.rd hubSt (O.V_SENSE.at r.val)), (1, 16 * s.railTarget r), (2, s.rd hubSt (O.I_RAIL.at r.val)),
    (3, s.rd hubSt (O.V_IB.at r.val)), (4, s.railPhases r), (6, s.rd hubSt (O.OL_RESID.at r.val))]
  let ph : List (Nat × Int) := (phasesOf r).map (fun p =>
    (8 + p.val, if s.inRing r p then (s.rd hubSt ((O.PH_I.at r.val).nth p.val) : Int) else 0))
  let excess : Int := if isFR r then 0 else max 0 ((s.rd hubSt (O.I_RAIL.at r.val) : Int) - s.ilimitEff (.domain (fieldDomain (railField r) 7)))
  let all : List (Nat × Int) := base ++ ph ++ [(0x40, excess)]
  all.foldl (fun t x => tblSet 0 t x.1 x.2) []
/-- The masks of an outer loop (R171). -/
def State.outerMasks (s : State) (r : RailId) : Tbl Nat :=
  [(0, if s.railState r = 1 then max32 else 0),
   (1, maskOf 32 (fun k => k < phaseCount r && s.inRing r (Fin.ofNat 32 k))),
   (2, maskOf 32 (fun k => k < phaseCount r && (s.phase r (Fin.ofNat 32 k)).fallback)),
   (3, if s.rd hubSt (O.SENSE_SRC.at r.val) = 1 then max32 else 0)].foldl (fun t x => tblSet 0 t x.1 x.2) []
/-- The masks of an estimator task (R231). -/
def State.estMasks (s : State) (f : FieldId) (g : Nat) : Tbl Nat :=
  [(0, if (s.eng (gle f g)).ivl then max32 else 0),
   (1, maskOf 4 (fun k => s.tileLive f (Fin.ofNat 16 (4 * g + k))))].foldl (fun t x => tblSet 0 t x.1 x.2) []
/-- Ports and masks that a general task sees at its activation start: those of the rule that lays it down (assumption 30). -/
def generalPorts : PortFn := fun s e t =>
  if t ≠ 0 then ([], [])
  else
    match outerRail e with
    | some r => (s.outerPorts r, s.outerMasks r)
    | none =>
      match engStation e with
      | .field f => if engNum e < 4 then ([], s.estMasks f (engNum e)) else ([], [])
      | _ => ([], [])

/-- END (R139): the activation is complete; its held effects wait for the commit, but those of a class-3 task take effect
now, and the engine turns to what R140 runs next. -/
def execInsnEnd (e : EngId) (s : State) : Out :=
  let r := s.eng e
  match r.current with
  | none => .next s
  | some (c, b, w) =>
    if w ≠ insnWord 0x3F 3 0 0 0 then .next s
    else
      let t : TaskId := Fin.ofNat 8 b.task
      let held := if t = 0 ∧ (outerRail e).isSome then b.held ++ [.out 0x40 ⟨tblGet 0 b.ports 0x40, 0⟩] else b.held
      let r' : EngRec := { r with banks := tblSet none r.banks c none, done := r.done ++ [⟨b.task, b.due, held⟩] }
      let s := s.putEng e { r' with running := r'.lowestBank }
      let s := if s.taskClass e t = 3 then s.commit e ⟨b.task, b.due, held⟩ else s
      .next ((s.settleUnload e t).schedule e generalPorts)

/-! ### Releases (R140) -/

/-- A release of a task leads to an activation: it is enabled on an engine that runs, with an image. -/
def State.releases (s : State) (e : EngId) (t : TaskId) : Bool :=
  let r := s.eng e
  !isCle e && s.rd (engSt e) (taskObj O.TASK_STATE e t) == 2 && !r.failed && !r.closed && (r.image t.val).isSome
/-- A task of a general engine is released: an unfinished class-3 activation skips it, another is abandoned for it. -/
def State.releaseTask (s : State) (e : EngId) (t : TaskId) : State :=
  let r := s.eng e
  let st := engSt e
  if !s.releases e t then s
  else
    let c := s.taskClass e t
    if c = 3 ∧ r.busy t.val then s.inc32 st (taskObj O.SKIPS e t)
    else
      let s := if r.busy t.val then s.abandon e t true else s
      let due := s.time st + s.taskDeadline e t
      let s := s.putEng e { s.eng e with ready := (s.eng e).ready ++ [⟨t.val, c, due⟩] }
      s.schedule e generalPorts

/-- Before an estimator's release (R231, R233): the input block takes the new inputs of live tiles; at an IVL activation, the first whose
release falls in a new 1 ms window, each tile's h₂ sum and its number of activations are read, and the count starts again. -/
def State.estInputs (s : State) (e : EngId) (f : FieldId) (t : TaskId) : State :=
  match (s.eng e).image t.val with
  | none => s
  | some x =>
    let key := markKey 18 e.val
    let win := s.time (engSt e) / 1000000 + 1
    let acts := s.releases e t
    let ivl := acts && tblGet 0 s.marks key != win
    let s := if ivl then { s with marks := tblSet 0 s.marks key win } else s
    let s := if acts then s.putEng e { s.eng e with ivl := ivl } else s
    (groupTiles (engNum e)).foldl (fun s k =>
      let r := s.eng e
      let y := s.tile f k
      let line := x.wbase + 8 * (k.val % 4)
      let mem := match if s.tileLive f k then y.input else none with
        | some (a, b) => memWrite (memWrite r.mem (line * 16) (vecBytes a)) ((line + 5) * 16) (vecBytes b)
        | none => r.mem
      let s := s.putEng e { r with mem := mem }
      let y := { y with input := none }
      s.putTile f k (if ivl then
        { y with h2 := (loadVec r.mem (Config.imageLine x.id (8 + k.val % 4) % 256)).map (fun v => (v, y.acts)), acts := 0 }
      else y)) s

/-- A learning release (R237, R394): the next tile's block, regressor and error go into the working lines; a block that has
not been placed skips the release, and a tile with nothing to learn from, one whose descriptor does not permit learning (R234), or LEARN_EN
at 0, takes no step. -/
def State.learnRelease (s : State) (e : EngId) (f : FieldId) (t : TaskId) : State :=
  let r := s.estr f
  let k : TileId := Fin.ofNat 16 r.next
  let y := s.tile f k
  let s := s.putEstr f { r with next := (r.next + 1) % 16, paged := none }
  if r.paged ≠ some k.val then s.inc32 (engSt e) (taskObj O.SKIPS e t)
  else
    match y.learn, (s.eng e).image t.val with
    | some (err, phi), some x =>
      if s.rd (fSt f) O.LEARN_EN ≠ 1 ∨ !s.mayLearn f k ∨ !s.tileLive f k ∨ (s.eng e).busy t.val then s
      else
        let at_ (n : Nat) : Nat := Config.imageLine x.id n * 16
        let m := memWrite (s.eng e).mem (at_ 0) y.rls
        let m := memWrite m (at_ 1) (vecBytes phi)
        let m := memWrite m (at_ 2) (vecBytes (normVec [(⟨err, 0⟩ : Dy)]))
        let s := s.putEng e { s.eng e with mem := m }
        let s := (s.putTile f k { s.tile f k with learn := none }).putEstr f { s.estr f with learning := some k.val }
        s.releaseTask e t
    | _, _ => s

/-- TASK_RELEASE (R140): the station count, less PHASE, is a multiple of PERIOD; at any other count nothing is released. -/
def execTaskRelease (e : EngId) (t : TaskId) (s : State) : Out :=
  let at_ := ((s.time (engSt e) : Int) - s.taskPhase e t) % (s.taskPeriod e t : Int) = 0
  .next (if !at_ then s
  else
    match engStation e with
    | .field f =>
      if t ≠ 0 then s.releaseTask e t
      else if engNum e < 4 then (s.estInputs e f t).releaseTask e t
      else if engNum e = 4 then s.learnRelease e f t
      else s.releaseTask e t
    | _ => s.releaseTask e t)

/-- Whether the latch instant of a task's unfinished activation has come (R139). -/
def State.overdue (s : State) (e : EngId) (t : TaskId) : Bool :=
  let r := s.eng e
  let now := s.time (engSt e)
  r.ready.any (fun q => q.task == t.val && decide (q.due ≤ now))
    || (List.range 4).any (fun k => (r.bank k).any (fun b => b.task == t.val && decide (b.due ≤ now)))
/-- DEADLINE_ABANDON (R139): the activation of a task of class 0 to 2 is not at END by its latch instant. -/
def execDeadlineAbandon (e : EngId) (t : TaskId) (s : State) : Out :=
  .next (if s.taskClass e t ≤ 2 ∧ s.overdue e t then (s.abandon e t true).schedule e generalPorts else s)

/-! ### Images (R138, R143) -/

/-- The lowest range of the instruction store that holds `n` words beside the other tasks' ranges (R123); which one the station chooses is
open (assumption 30). -/
def freeRange (others : List (Nat × Nat)) (words n : Nat) : Option Nat :=
  (0 :: others.map (fun p => p.1 + p.2)).foldl (fun best b =>
    if b + n ≤ words ∧ others.all (fun p => b + n ≤ p.1 || p.1 + p.2 ≤ b) ∧ best.all (fun x => decide (b < x)) then some b else best) none
/-- Space for an image beside the other tasks of the engine (R123, error 11): a contiguous range of instruction words, and data lines; the
range. -/
def EngRec.roomFor (r : EngRec) (t : Nat) (x : Image) (words : Nat) : Option Nat :=
  let others := (r.images.filter (fun p => p.1 != t)).filterMap Prod.snd
  if others.all (fun y => (List.range 256).all (fun l => !(x.owns l && y.owns l))) then
    freeRange (others.map (fun y => (y.base, y.words.length))) words x.words.length
  else none

/-- The ORDER that an image is checked against (R138): that of its cluster; on a spare an image of KIND 1 for task 0, which is what
SPARE_IMAGE names (R146), against its own. None for a general task. -/
def State.checkOrder (s : State) (e : EngId) (x : Image) : Option Nat :=
  match engStation e with
  | .cluster _ c => some (if isCompute c then 5 else 3)
  | _ => if isSpare e ∧ x.kind = 1 ∧ (s.eng e).shadowTask = 0 then some x.order else none

/-- The load error of R138 for the shadow of an engine, 0 where it passes, and the range for its words. -/
def State.loadError (s : State) (e : EngId) : Nat × Nat :=
  let r := s.eng e
  let t : TaskId := Fin.ofNat 8 r.shadowTask
  let l := r.shadow.map BitVec.toNat
  let x := { parseImage l with ttab := (parseImage l).scan.time }
  let order := s.checkOrder e x
  let first := imageError l order (if order.isSome then 640 else s.taskDeadline e t * 10)
  if first ≠ 0 then (first, 0)
  else if order.isNone && !admits (s.admitted e t.val ++ [s.admitLine e t x]) then (10, 0)
  else
    match r.roomFor t.val x (if isCle e then 256 else 1024) with
    | none => (11, 0)
    | some b => if s.manifest.contains x.id then (0, b) else (12, 0)

/-- A spare's shadow no longer holds a cluster image (R146). -/
def State.noSpareImage (s : State) (e : EngId) : State :=
  match engStation e with
  | .field f => if isSpare e ∧ (s.spareFor f).isNone then s.wr (fSt f) O.SPARE_IMAGE 0 else s
  | _ => s
/-- The first segment of a write of IMAGE (R143): the shadow is discarded. -/
def effImageOpen (e : EngId) : Effect := fun s =>
  if (s.eng e).swapDue ≠ 0 then .error .state
  else
    let s := s.putEng e { s.eng e with shadow := [], shadowImg := none, written := true }
    .ok (((s.wr (engSt e) (engObj O.LOAD_STATE e) 1).wr (engSt e) (engObj O.IMAGE_ID e) 0).noSpareImage e)
/-- A write of IMAGE that has ended (R143): the image enters the shadow arrays of the task that TARGET names. A longer one is aborted (R15). -/
def effImage (e : EngId) (l : List Byte) : Effect := fun s =>
  if 5220 < l.length then .error .length
  else if (s.eng e).swapDue ≠ 0 then .error .state
  else
    let st := engSt e
    let s := (s.putEng e ((s.eng e).loadShadow (s.rd st (engObj O.TARGET e)) l)).noSpareImage e
    let s := (s.wr st (engObj O.LOAD_STATE e) 2).wr st (engObj O.LOAD_ERR e) 0
    .ok ((s.wr st (engObj O.IMAGE_ID e) (leAt (l.map BitVec.toNat) (l.length - 4) 4)).wr st (engObj O.SHADOW_TTAB e) 0)

/-- IMAGE (R143): the whole segmented write. -/
def execImage (slot : Slot) (e : EngId) (data : List Byte) (s : State) : Out :=
  .next (s.writeReq slot (engSt e) (engObj O.IMAGE e) data.length (effImage e data))

/-- A write of VERIFY (R138): the checks of what the shadow holds, be it a displaced program (assumption 30): verified, or rejected with its
error and ENG_LOAD_REJECT. On a spare a verified cluster image is the one that SPARE_IMAGE names (R146). -/
def effVerify (e : EngId) (v : Nat) : Effect := fun s =>
  let st := engSt e
  let r := s.eng e
  if v = 0 then .ok s
  else if v ≠ 1 then .error .value
  else if s.rd st (engObj O.LOAD_STATE e) = 1 ∨ r.swapDue ≠ 0 then .error .state
  else
    let z := s.loadError e
    let x := parseImage (r.shadow.map BitVec.toNat)
    let time := x.scan.time
    let s := s.wr st (engObj O.LOAD_ERR e) z.1
    let s := s.wr st (engObj O.SHADOW_TTAB e) (min max16 time)
    if z.1 = 0 then
      let s := { s with memory := { s.memory with lostImgs := s.memory.lostImgs.filter (· != x.id) } }
      let s := (s.wr st (engObj O.LOAD_STATE e) 3).putEng e { s.eng e with shadowImg := some { x with ttab := time, base := z.2 } }
      .ok (match engStation e with
        | .field f => if isSpare e ∧ x.kind = 1 ∧ (s.spareFor f).isNone then s.wr (fSt f) O.SPARE_IMAGE x.id else s
        | _ => s)
    else .ok (((s.wr st (engObj O.LOAD_STATE e) 4).putEng e { s.eng e with shadowImg := none }).raise F.ENG_LOAD_REJECT st (engNum e) 0)

/-- VERIFY (R138). -/
def execVerify (slot : Slot) (e : EngId) (v : Byte) (s : State) : Out :=
  .next (s.writeReq slot (engSt e) (engObj O.VERIFY e) 1 (effVerify e v.toNat))

/-- A write of SWAP (R144, R145): 1 in LOAD_STATE verified, 2 in previous while the shadow has not been written since. A spare takes no
cluster image by SWAP, and no revert while it carries a loop (assumption 30). -/
def effSwap (e : EngId) (v : Nat) : Effect := fun s =>
  let st := engSt e
  let r := s.eng e
  let z := s.rd st (engObj O.LOAD_STATE e)
  if v ≠ 1 ∧ v ≠ 2 then .error .value
  else if r.failed ∨ (isSpare e ∧ (s.loopOf e).isSome ∧ v = 2) ∨ (isSpare e ∧ (s.loopOf e).isNone ∧ r.shadowImg.any (fun x => x.kind == 1)) then
    .error .state
  else if v = 1 then (if z = 3 then .ok (s.putEng e { r with swapDue := 1 }) else .error .state)
  else if z = 5 ∧ !r.written then .ok (s.putEng e { r with swapDue := 2 })
  else .error .state
/-- SWAP (R144). -/
def execSwap (slot : Slot) (e : EngId) (s : State) : Out :=
  .next (s.writeReq slot (engSt e) (engObj O.SWAP e) 1 (effSwap e 1))
/-- SWAP_REVERT (R145). -/
def execSwapRevert (slot : Slot) (e : EngId) (s : State) : Out :=
  .next (s.writeReq slot (engSt e) (engObj O.SWAP e) 1 (effSwap e 2))

/-- SWAP_FLIP (R144): a swap or revert that waits takes effect, once no activation of the old program is under way or has still to commit. An
activation that starts before this command takes it with it. -/
def execSwapFlip (e : EngId) (s : State) : Out :=
  let r := s.eng e
  .next (if r.swapDue = 0 ∨ r.busy r.shadowTask ∨ (r.finished r.shadowTask).isSome then s
    else s.swapDue e (Fin.ofNat 8 r.shadowTask))

/-! ### Tasks (R141, R154) -/

/-- Whether a spare in standby may run a task (R146): class 3, and no instruction above 10 ns. -/
def State.standbyOk (s : State) (e : EngId) (a : Admit) : Bool :=
  !isSpare e || ((s.loopOf e).isNone && a.cls == 3 && a.longest ≤ 100)

/-- A write of TASK_CTRL. A task whose activation is unfinished is disabled, and unloaded when it ends: an unload abandons nothing (R139,
assumption 30). -/
def effTaskCtrl (e : EngId) (t : TaskId) (v : Nat) : Effect := fun s =>
  let r := s.eng e
  let st := engSt e
  if v = 0 ∨ 3 < v then .error .value
  else if isCle e then .error .state
  else if v = 1 then
    match r.image t.val with
    | none => .error .state
    | some x =>
      let a := s.admitLine e t x
      if r.failed ∨ r.closed ∨ !s.standbyOk e a ∨ !admits (s.admitted e t.val ++ [a]) then .error .state
      else
        let s := s.wr st (taskObj O.TASK_STATE e t) 2
        let s := s.putEng e { r with firsts := if r.firsts.contains t.val then r.firsts else r.firsts ++ [t.val] }
        .ok (s.setUtil e)
  else if v = 2 then
    if s.rd st (taskObj O.TASK_STATE e t) = 2 then .ok ((s.wr st (taskObj O.TASK_STATE e t) 1).setUtil e) else .ok s
  else if r.busy t.val then
    let s := if s.rd st (taskObj O.TASK_STATE e t) = 2 then s.wr st (taskObj O.TASK_STATE e t) 1 else s
    .ok ((s.putEng e { r with unload := t.val :: r.unload.filter (· != t.val) }).setUtil e)
  else .ok (s.unloadNow e t)

/-- TASK_ENABLE (R141). -/
def execTaskEnable (slot : Slot) (e : EngId) (t : TaskId) (s : State) : Out :=
  .next (s.writeReq slot (engSt e) (taskObj O.TASK_CTRL e t) 1 (effTaskCtrl e t 1))
/-- TASK_DISABLE (R154). -/
def execTaskDisable (slot : Slot) (e : EngId) (t : TaskId) (s : State) : Out :=
  .next (s.writeReq slot (engSt e) (taskObj O.TASK_CTRL e t) 1 (effTaskCtrl e t 2))
/-- TASK_UNLOAD (R154). -/
def execTaskUnload (slot : Slot) (e : EngId) (t : TaskId) (s : State) : Out :=
  .next (s.writeReq slot (engSt e) (taskObj O.TASK_CTRL e t) 1 (effTaskCtrl e t 3))

/-! ### Failure and the spare (R146-R149) -/

/-- The spare takes over a loop (R146): its running class-3 activations are abandoned and its tasks disabled, the image in its shadow becomes
the program of its task 0, and the loop starts with RESEED. The working lines are written from WINIT, here and at a handback, whatever
INIT_ON_SWAP says (the model's choice, assumption 102). -/
def State.takeover (s : State) (f : FieldId) (c : ClusterId) (id : Nat) : State :=
  let e := spareOf f
  let st := fSt f
  let s := (List.finRange 8).foldl (fun s t => s.abandon e t false) s
  let s := (s.stopEngine e).disableTasks e 0xFF
  let s := (s.putEng e { (s.eng e).exchange 0 true with loading := none, unload := [] }).showExchange e 0
  let s := ((s.wr st O.SPARE_FOR c.val).inc32 st O.TAKEOVERS).mltLog 7 0 st c.val id
  s.putLoop f c { s.loop f c with reseed := true, outCode := none, supv := none }

/-- The spare stands by: it carries no loop, loads none, and has not failed (R146). -/
def State.spareReady (s : State) (f : FieldId) : Bool :=
  (s.spareFor f).isNone && (s.eng (spareOf f)).loading.isNone && !(s.eng (spareOf f)).failed && !(s.eng (spareOf f)).closed
    && s.rd (fSt f) O.SPARE_ENABLE == 1

/-- Recording an engine failure: FAIL_CAUSE, FAIL_TIME, ENG_FAIL, its activations stopped. -/
def State.failEngine (s : State) (e : EngId) (cause : Nat) : State :=
  let st := engSt e
  let s := (s.wr st (engObj O.EG_FAIL_CAUSE e) cause).wr st (engObj O.FAIL_TIME e) (s.time (engSt e))
  (s.stopEngine e).raise F.ENG_FAIL st (engNum e) 0

/-- A cluster is left without a loop (R147): it is parked by the sequence of R114. -/
def State.noLoop (s : State) (f : FieldId) (c : ClusterId) : State := (s.parkBegin f c .noSpare).judgeCluster f c
/-- An engine that runs a cluster loop, or a spare, fails; `cause` is FAIL_CAUSE. It is held in block reset inside its Rind, which is
the STATE it then shows (assumption 102). A
swap that waits is cancelled with LOAD_STATE left at verified. A spare that fails while it loads a failed cluster's image leaves that
cluster without a loop (R147). -/
def State.engineFails (s : State) (e : EngId) (cause : Nat) : State :=
  if (s.eng e).failed then s
  else
    let r := s.eng e
    let loop := s.loopOf e
    let s := (s.failEngine e cause).inc32 hubSt O.BLK_COUNT
    let s := s.putEng e { s.eng e with failed := true, closed := true, tested := false, swapDue := 0, loading := none, handback := false }
    let s := s.beginTest (.engine e)
    if isCle e then
      match loop, r.image 0 with
      | some (f, c), some x =>
        if s.spareReady f ∧ x.ttab ≤ 520 ∧ !s.memory.lostImgs.contains x.id then
          if (s.eng (spareOf f)).shadowImg.any (fun y => y.id == x.id) then s.takeover f c x.id
          else
            let sp := (s.eng (spareOf f)).loadShadow 0 (x.bytes.map (BitVec.ofNat 8))
            s.putEng (spareOf f) { sp with loading := some c.val, shadowImg := some x }
        else s.noLoop f c
      | some (f, c), none => s.noLoop f c
      | none, _ => s
    else
      let s := s.disableTasks e 0xFF
      match engStation e, loop, r.loading with
      | _, some (f, c), _ => (s.wr (fSt f) O.SPARE_FOR 0xFF).noLoop f c
      | .field f, none, some c => s.noLoop f (Fin.ofNat 19 c)
      | _, none, _ => s
/-- ENGINE_FAIL (R146, R147): an engine that runs a cluster loop, or a spare, fails. -/
def execEngineFail (e : EngId) (cause : Fin 3) (s : State) : Out :=
  .next (if isCle e ∨ isSpare e then s.engineFails e (cause.val + 1) else s)

/-- SPARE_IMAGE_LOAD_DONE (R146): the spare has loaded the failed cluster's image and takes the loop over. -/
def execSpareImageLoadDone (f : FieldId) (s : State) : Out :=
  let r := s.eng (spareOf f)
  match r.loading, r.shadowImg with
  | some c, some x => .next (if r.failed then s else (s.wr (fSt f) O.SPARE_IMAGE x.id).takeover f (Fin.ofNat 19 c) x.id)
  | _, _ => .next s

/-- A write of HANDBACK (R148): accepted, it acts at the cluster's next input instant. -/
def effHandback (f : FieldId) (v : Nat) : Effect := fun s =>
  match s.spareFor f with
  | none => .error .state
  | some c =>
    let e := cle f c
    let r := s.eng e
    match r.shadowImg with
    | none => .error .state
    | some x =>
      let sp := s.eng (spareOf f)
      if v ≠ c.val ∨ !r.tested ∨ s.rd (engSt e) (engObj O.LOAD_STATE e) ≠ 3 ∨ x.id ≠ (sp.image 0).elim 0 Image.id then .error .state
      else .ok (s.putEng (spareOf f) { sp with handback := true })
/-- HANDBACK (R148). -/
def execHandback (slot : Slot) (f : FieldId) (c : ClusterId) (s : State) : Out :=
  .next (s.writeReq slot (fSt f) O.HANDBACK 1 (effHandback f c.val))

/-- An uncorrectable error on a general engine (R149): the running activation is abandoned and the tasks whose lines or words
hold the error are disabled. -/
def State.generalError (s : State) (e : EngId) (mask : Nat) : State :=
  let r := s.eng e
  let run := r.running.bind (fun c => (r.bank c).map Bank.task)
  let s := match run with | some t => s.abandon e (Fin.ofNat 8 t) false | none => s
  let s := (s.wr (engSt e) (engObj O.EG_FAIL_CAUSE e) 1).wr (engSt e) (engObj O.FAIL_TIME e) (s.time (engSt e))
  ((s.disableTasks e mask).raise F.ENG_FAIL (engSt e) (engNum e) 0).schedule e generalPorts
/-- A corrected error of an engine store (R149). -/
def State.engCorrected (s : State) (e : EngId) : State := (s.inc32 (engSt e) (engObj O.EG_CORR_COUNT e)).stick e flCORR
/-- GENERAL_ENGINE_ERROR (R149): a corrected error of any engine store, or an uncorrectable one on a general engine. -/
def execGeneralEngineError (e : EngId) (corrected : Bool) (mask : Byte) (s : State) : Out :=
  .next (if corrected then s.engCorrected e else if isCle e then s else s.generalError e mask.toNat)

/-- A W1C write of STICKY (R155): every flag written as 1 is cleared, and a 1 in a reserved bit is ignored (R12, R16). -/
def effSticky (e : EngId) (m : Nat) : Effect := fun s =>
  .ok (s.wr (engSt e) (engObj O.STICKY e) (s.rd (engSt e) (engObj O.STICKY e) &&& ((m % 0x80) ^^^ 0x7F)))
/-- STICKY_CLEAR (R155). -/
def execStickyClear (slot : Slot) (e : EngId) (m : BitVec 16) (s : State) : Out :=
  .next (s.writeReq slot (engSt e) (engObj O.STICKY e) 2 (effSticky e m.toNat))

/-! ### The trace unit (R150, R156) -/

/-- The owner word of the trace unit (R384). -/
def ownTrace : Nat := 0x3000
/-- Whether the trace unit owns its banks: 0 and 1 at a field station, 0 to 3 at the hub (R150). -/
def State.traceOwns (s : State) (x : TraceId) : Bool :=
  (List.range (if x.val < 8 then 2 else 4)).all (fun b => s.ownerWord (traceSt x) b == ownTrace)

/-- A write of TRACE_CTRL. -/
def effTraceCtrl (x : TraceId) (v : Nat) : Effect := fun s =>
  let st := traceSt x
  if v = 1 then
    if s.traceOwns x then
      let now := s.time (s.rd st O.SOURCE / 2 ^ 16)
      let s := ((s.wr st O.TRACE_STATE 1).wr st O.WRITE_PTR 0).putTrace x { lastTime := some (now / 2 ^ 24 % 2 ^ 24) }
      let s := (s.traceEntry x (traceMark 5 (now / 2 ^ 24))).traceEntry x (traceMark 6 (now / 2 ^ 48))
      .ok (if s.rd st O.TRIG_SRC = 0 then s.traceFire x else s)
    else .ok (s.wr st O.TRACE_STATE 4)
  else if v = 2 then
    .ok (if s.rd st O.TRACE_STATE = 1 ∨ s.rd st O.TRACE_STATE = 2 then s.wr st O.TRACE_STATE 3 else s)
  else if v = 3 then .ok ((s.wr st O.TRACE_STATE 0).putTrace x {})
  else if v = 5 then .ok (if s.rd st O.TRIG_SRC = 5 then s.traceFire x else s)
  else .error .value

def traceCmd (slot : Slot) (x : TraceId) (v : Nat) (s : State) : Out :=
  .next (s.writeReq slot (traceSt x) O.TRACE_CTRL 1 (effTraceCtrl x v))
/-- TRACE_ARM (R150). -/
def execTraceArm (slot : Slot) (x : TraceId) (s : State) : Out := traceCmd slot x 1 s
/-- TRACE_STOP (R156). -/
def execTraceStop (slot : Slot) (x : TraceId) (s : State) : Out := traceCmd slot x 2 s
/-- TRACE_RESET (R156). -/
def execTraceReset (slot : Slot) (x : TraceId) (s : State) : Out := traceCmd slot x 3 s
/-- TRACE_TRIGGER_CMD (R150). -/
def execTraceTriggerCmd (slot : Slot) (x : TraceId) (s : State) : Out := traceCmd slot x 5 s
/-- TRACE_TRIGGER (R150): the selected source has fired since arming; the unit triggers. -/
def execTraceTrigger (x : TraceId) (s : State) : Out := .next (if (s.trace x).fired then s.traceFire x else s)
/-- TRACE_POST_COUNT_DONE (R150): the entries after the trigger are recorded. -/
def execTracePostCountDone (x : TraceId) (s : State) : Out :=
  .next (if s.rd (traceSt x) O.TRACE_STATE = 2 ∧ (s.trace x).left = 0 then s.wr (traceSt x) O.TRACE_STATE 3 else s)

end Sys2Proof.Machine
end

