-- ==== Sys2Proof/Machine/Loops.lean ====
section
/-!
DEFINITION. Cluster voltage loops (chapter Cluster Voltage Loops): the sample, setpoints in flight, limits and the winner
record, supervision, holding and parking.
-/
namespace Sys2Proof.Machine
open Sys2Proof

/-! ### Setpoints in flight (R99-R103) -/

/-- The stated limits of a cluster's Wheel (R33). -/
def State.vmin (s : State) (f : FieldId) (c : ClusterId) : Nat := s.rdRaw (clSt f c) 0x2010 6
def State.vmax (s : State) (f : FieldId) (c : ClusterId) : Nat := s.rdRaw (clSt f c) 0x2010 7
/-- SETPOINT of a cluster's Wheel, in mV. -/
def State.setpoint (s : State) (f : FieldId) (c : ClusterId) : Nat := s.rdRaw (clSt f c) 0x2010 4

/-- An accepted SETPOINT write (R99, R103): CMD_SEQ rises, and the value waits in the slot, or becomes SETPOINT at once while the
cluster does not regulate. The sessions that wrote the Wheel, for R101, are those that wrote its SETPOINT (assumption 51, the model's
reading). -/
def State.acceptSetpoint (s : State) (f : FieldId) (c : ClusterId) (mv : Nat) (by_ : Option Slot) : State :=
  let st := clSt f c
  let seq := (s.rd st O.CMD_SEQ + 1) % 16384
  let s := s.wr st O.CMD_SEQ seq
  let x := s.loop f c
  let ws := match by_ with
    | some n => if x.writers.contains n.val then x.writers else x.writers ++ [n.val]
    | none => x.writers
  match s.cstate f c with
  | .starting | .running | .derated | .holding =>
    let s := if x.slot.isSome then s.inc32 st O.SUPERSEDED else s
    s.putLoop f c { x with slot := some ⟨mv, seq⟩, writers := ws }
  | _ => (s.wrRaw st 0x2010 4 mv).putLoop f c { x with targetSeq := seq, writers := ws }

/-- A ramp's next value: towards the goal without passing it (R100). -/
def rampTo (cur goal up down : Nat) : Nat := if cur < goal then min goal (cur + up) else max goal (cur - down)

/-- The slot is emptied at an input instant (R99): a target still open ends with OUTCOME 2. After a return from HOLDING with
an empty slot, SETPOINT is the target again (R110). -/
def State.takeSlot (s : State) (f : FieldId) (c : ClusterId) : State :=
  let x := s.loop f c
  match x.slot with
  | some w =>
    let s := s.endTarget f c 2 []
    let s := s.wrRaw (clSt f c) 0x2010 4 w.value
    s.putLoop f c { s.loop f c with slot := none, targetSeq := w.seq, open_ := true, resume := false, heldWriters := [] }
  | none =>
    if x.resume then
      s.putLoop f c (if x.setNow = 16 * s.setpoint f c then { x with resume := false, heldWriters := [] }
        else { x with resume := false, open_ := true, writers := x.writers ++ x.heldWriters, heldWriters := [] })
    else s

/-- One sample of the ramps of SET_NOW and POS_NOW (R100, R102, R309, R331). -/
def State.ramps (s : State) (f : FieldId) (c : ClusterId) : State :=
  let st := clSt f c
  let x := s.loop f c
  let up := s.rd st O.SLEW_UP
  let down := s.rd st O.SLEW_DOWN
  let pos := rampTo x.posNow (16 * min x.posReq (s.rd st O.POS_MAX)) up down
  match s.cstate f c with
  | .starting =>
    s.putLoop f c { x with setNow := rampTo x.setNow (16 * s.setpoint f c) (s.rd hubSt O.DOM_SS_SLEW) down, posNow := 0 }
  | .running | .derated => s.putLoop f c { x with setNow := rampTo x.setNow (16 * s.setpoint f c) up down, posNow := pos }
  | .stopping => s.putLoop f c { x with setNow := rampTo x.setNow 0 up (if x.tripFall then 16 else down), posNow := pos }
  | .holding => s
  | _ => s.putLoop f c { x with posNow := 0 }

/-- SET_NOW has reached SETPOINT: the target ends with OUTCOME 1, and a cluster in STARTING is RUNNING (R37, R101). -/
def State.reachTarget (s : State) (f : FieldId) (c : ClusterId) : State :=
  if (s.loop f c).setNow = 16 * s.setpoint f c then
    let s := s.endTarget f c 1 []
    if s.cstate f c = .starting then (s.setWState (.cluster f c) .running).judgeCluster f c else s
  else s

/-- A cluster of a domain whose turn-on has been granted, or started in it, leaves the list of those to start (R328). -/
def State.startDue (s : State) (f : FieldId) (c : ClusterId) : Bool :=
  (s.job (.domain (clusterDomain f c))).any (fun j => j.on && j.step == .ramping && j.rest.contains c.val)
def State.startTaken (s : State) (f : FieldId) (c : ClusterId) : State :=
  match s.job (.domain (clusterDomain f c)) with
  | some j => s.setJob { j with rest := j.rest.filter (· != c.val), since := s.time hubSt }
  | none => s

/-- The Wheel at an input instant: a start that is due, the slot, the ramps, and the end of a fall below 50 mV (R37,
R328, R331). -/
def State.advanceSet (s : State) (f : FieldId) (c : ClusterId) : State :=
  match s.cstate f c with
  | .stopped => if s.startDue f c then (s.startTaken f c).clusterBegin f c else s.ramps f c
  | .parked | .latched => s.ramps f c
  | .stopping =>
    if s.startDue f c then (s.startTaken f c).clusterBegin f c
    else
      let s := s.ramps f c
      if s.rd (clSt f c) O.MIN_NOW < 50 then (s.clusterHalted f c).domainSettle (clusterDomain f c) else s
  | .holding => s
  | .starting | .running | .derated => ((s.takeSlot f c).ramps f c).reachTarget f c

/-! ### The input instant (R91) -/

/-- MIN and its sensor are taken from the min tree, and the sensor counts a win (R82); a pending WINS_CLEAR acts first
(R88). -/
def State.takeMin (s : State) (f : FieldId) (c : ClusterId) : State :=
  let st := clSt f c
  let s := if (s.loop f c).winsClear then
      ((sensorsOf c).foldl (fun s n => s.wr st (O.WINS.at n.val) 0) s).putLoop f c { s.loop f c with winsClear := false }
    else s
  let x := s.cellsOf f c
  match x.held with
  | none => s
  | some m =>
    let s := (s.wr st O.MIN_NOW m.value).wr st O.MIN_INDEX m.index
    let low := match x.low with
      | some l => if m.value < l.value then some m else some l
      | none => some m
    let s := (s.putCells f c { x with held := none, low := low }).inc32 st (O.WINS.at m.index)
    let y := s.loop f c
    let good := decide (s.setpoint f c ≤ m.value + s.rd hubSt O.DOM_PG_BAND)
    s.putLoop f c { y with goodFrom := if !good then none else if y.goodFrom.isSome then y.goodFrom else some (s.time hubSt) }

/-- The current of an MR: the sum of its two phases (R61). -/
def mrCurrent (ia ib : List (BitVec 16)) (m : MrId) : Nat := (ia.getD m.val 0).toNat + (ib.getD m.val 0).toNat

/-- ISUM over the active MRs, VIN, and IF (R90, R94), kept in 1/65,536 mA and rounded down (assumption 51, the model's choice). -/
def State.takeCurrents (s : State) (f : FieldId) (c : ClusterId) (ia ib : List (BitVec 16)) (vin : Nat) : State :=
  let st := clSt f c
  let isum := ((mrsOf c).filter (s.mrLive f c)).foldl (fun a m => a + mrCurrent ia ib m) 0
  let x := s.loop f c
  let tau : Int := s.rd st O.TAU_IL
  let next : Int := x.filtered + (((isum * 65536 : Nat) : Int) - x.filtered) * 100 / tau
  let s := s.putLoop f c { x with filtered := next.toNat, uv := decide (vin < 1720) }
  (s.wr st O.ISUM isum).wr st O.LP_VIN vin

/-- A cell whose trim may move at a sample (R61): not in cycle limiting, hiccup (R77) or overshoot truncation. -/
def MrRec.trimMoves (r : MrRec) (now : Nat) : Bool :=
  (r.cell == .starting || r.cell == .switching) && !r.limNow now && !r.truncNow
/-- One step of every switching cell's balance trim (R61), its phase-current samples (R216), and the end of the sample for its truncation.
CELL goes from starting to switching at the first sample after the cluster has left STARTING (assumption 51, the model's choice). -/
def State.balance (s : State) (f : FieldId) (c : ClusterId) (ia ib : List (BitVec 16)) : State :=
  let st := clSt f c
  let live := (mrsOf c).filter (s.mrLive f c)
  let n := live.length
  let total := live.foldl (fun a m => a + mrCurrent ia ib m) 0
  (mrsOf c).foldl (fun s m =>
    let r := s.mr f c m
    let i := 100 * n * mrCurrent ia ib m
    let t := ofBits 16 (s.rd st (O.MR_TRIM.at m.val))
    let moves := r.trimMoves (s.time st) && live.contains m
    let t' := if 103 * total < i then max (-16) (t - 1) else if i < 97 * total then min 15 (t + 1) else t
    let s := if moves then s.wr st (O.MR_TRIM.at m.val) (toBits 16 t') else s
    let cell := if r.cell = .starting ∧ s.cstate f c ≠ .starting then Cell.switching else r.cell
    s.putMr f c m { r with
      cell := cell, trunc := r.truncNow, truncNow := false,
      pa := r.pa.add (ia.getD m.val 0).toNat, pb := r.pb.add (ib.getD m.val 0).toNat }) s

/-- The samples of the cluster's telemetry and of the learning interval (R216, R236): the power sample is ISUM times the
mean reading of the unmasked sensors; with no unmasked sensor there is none. -/
def State.samplePower (s : State) (f : FieldId) (c : ClusterId) : State :=
  let st := clSt f c
  let live := (sensorsOf c).filter (s.sensorLive f c)
  let isum := s.rd st O.ISUM
  let r := s.tel st 0x2800
  let r := { r with v := r.v.add (s.rd st O.MIN_NOW), i := r.i.add isum }
  let x := s.loop f c
  let lit := match s.cstate f c with | .starting | .running | .derated | .holding => true | _ => false
  let x := { x with spoilt := x.spoilt || !lit || s.shortState f c != 0 }
  if live = [] then (s.putTel st 0x2800 r).putLoop f c x
  else
    let sum := live.foldl (fun a n => a + s.rd st (O.VALUE.at n.val)) 0
    let p := (divRne (isum * sum : Nat) (1000 * live.length)).toNat
    (s.putTel st 0x2800 { r with p := r.p.add p }).putLoop f c { x with energy := x.energy + p }

/-- The close markers act at the input instant (R236): the interval's energy goes to the field station. -/
def State.closeInterval (s : State) (f : FieldId) (c : ClusterId) : State :=
  let x := s.loop f c
  match x.marker with
  | [] => s
  | m :: rest => s.putLoop f c { x with
    marker := [], reply := x.reply ++ (m, x.energy, x.spoilt) :: rest.map (fun n => (n, 0, false)), energy := 0, spoilt := false }

/-- A pending WIN_CLEAR acts at the input instant (R121). -/
def State.clearWins (s : State) (f : FieldId) (c : ClusterId) : State :=
  let st := clSt f c
  if (s.loop f c).winClear then
    let s := (List.range 6).foldl (fun s k => s.wr st (O.WIN_TIME_V.nth k) 0) s
    (s.wr st O.WIN_CLEAR_TIME (s.time (clSt f c))).putLoop f c { s.loop f c with winClear := false }
  else s

/-- ILIM of R94: halved in HOLDING. -/
def State.ilim (s : State) (f : FieldId) (c : ClusterId) : Nat :=
  let l := s.ilimitEff (.cluster f c)
  if s.cstate f c = .holding then l / 2 else l
/-- REF in 1/16 mV: SET_NOW + POS_NOW capped at VMAX (R102). -/
def State.ref16 (s : State) (f : FieldId) (c : ClusterId) : Nat :=
  let x := s.loop f c
  min (x.setNow + x.posNow) (16 * s.vmax f c)
/-- REF as read (R119), in mV: SET_NOW, which is SETPOINT while the outputs are off (R33), plus POS_NOW, capped at VMAX; rounded down (the
model's choice, assumption 12). -/
def State.refRead (s : State) (f : FieldId) (c : ClusterId) : Nat :=
  if (s.cstate f c).isOn then s.ref16 f c / 16 else min (s.setpoint f c) (s.vmax f c)
/-- H of R109, clipped to the safe band with the present VIN; free where VIN reads 0. -/
def State.holdCode (s : State) (f : FieldId) (c : ClusterId) : Nat :=
  let st := clSt f c
  let x := s.loop f c
  let vin := s.rd st O.LP_VIN
  let band := s.rd st O.HOLD_BAND
  let nom := if vin = 0 then Config.freeValue s.free % 2048 else divRound (x.setNow * 128) vin
  clampNat (nom - band) (nom + band) x.holdMean

/-- The ports of the cluster's program (R137). -/
def State.loopPorts (s : State) (f : FieldId) (c : ClusterId) : Tbl Int :=
  let st := clSt f c
  let x := s.loop f c
  let vin := s.rd st O.LP_VIN
  let ifn : Int := x.filtered / 65536
  let ith := s.rd st O.LP_ITHERM
  let hcode := if s.cstate f c = .holding then s.holdCode f c else x.uPrev
  let sat (v : Int) : Int := clampInt (-(2 ^ 31)) (2 ^ 31 - 1) v
  let l : List (Nat × Int) := [(0, s.rd st O.MIN_NOW), (1, s.rd st O.ISUM), (2, x.uPrev * vin), (3, s.ref16 f c),
    (4, x.feedForward), (5, vin), (6, x.uPrev), (7, sat ((s.ilim f c : Int) - ifn)),
    (8, if vin < 1720 then (vin : Int) - 1720 else 0), (9, if ith = max32 then 0 else sat ((ith : Int) - ifn)),
    (11, s.rd st O.DUTY_MAX), (12, hcode), (13, hcode * vin), (14, s.rd st O.FE_MAX), (15, s.rd st O.RESID_V),
    (16, s.rd st O.RESID_I)]
  l.foldl (fun t p => tblSet 0 t p.1 p.2) []
/-- The station masks of the cluster's program (R137). -/
def State.loopMasks (s : State) (f : FieldId) (c : ClusterId) : Tbl Nat :=
  let x := s.loop f c
  let l : List (Nat × Nat) := [(0, if s.cstate f c = .holding then max32 else 0),
    (1, 1 + flagAt x.uv 1 + flagAt (decide (s.rd (clSt f c) O.LP_ITHERM ≠ max32)) 2),
    (2, if x.reseed then max32 else 0), (3, if s.cstate f c = .starting then max32 else 0)]
  l.foldl (fun t p => tblSet 0 t p.1 p.2) []

/-- The figures of the sample that the station shows: HOLD_CODE, and for order 5 the following error (R106, R119), rounded down to whole
mV (the model's choice, assumption 12). -/
def State.showSample (s : State) (f : FieldId) (c : ClusterId) : State :=
  let st := clSt f c
  let x := s.loop f c
  let s := s.wr st O.HOLD_CODE (if s.cstate f c = .holding then s.holdCode f c else 0)
  if s.rd st O.ORDER = 5 then
    s.wr st O.FE_NOW (toBits 16 (clampInt (-32768) 32767 (((x.setNow + x.posNow : Nat) : Int) - 16 * s.rd st O.MIN_NOW) / 16))
  else s

/-- The load change that the feed-forward messages received since the last sample add to i_L (R98). -/
def State.takeFeed (s : State) (f : FieldId) (c : ClusterId) : State :=
  let x := s.loop f c
  s.putLoop f c { x with feedForward := divRne (x.feedIn * s.rd (clSt f c) O.FF_WEIGHT) 1000, feedIn := 0 }
/-- A handback that waits (R148): the cluster engine takes its verified image and resumes with RESEED, and the spare returns to standby,
its image back in its shadow where that has not been written since the takeover (assumption 30). -/
def State.handBack (s : State) (f : FieldId) (c : ClusterId) : State :=
  let sp := spareOf f
  let e := cle f c
  if s.spareFor f = some c ∧ (s.eng sp).handback then
    let id := ((s.eng e).shadowImg).elim 0 Image.id
    let s := s.putEng e { (s.eng e).exchange 0 true with failed := false, closed := false }
    let s := (s.showExchange e 0).stopSpare f
    let s := (s.wr (fSt f) O.SPARE_FOR 0xFF).mltLog 8 0 (fSt f) c.val id
    s.putLoop f c { s.loop f c with reseed := true }
  else s
/-- The program is activated at every input instant (R91, R141), where its engine holds one, after a handback or a swap that waits for it;
RESEED is used once. -/
def State.runLoop (s : State) (f : FieldId) (c : ClusterId) : State :=
    let s := s.handBack f c
    let e := s.loopEngine f c
    let r := s.eng e
    let up := !r.failed && !r.closed
    let s := if up then s.swapDue e 0 else s
    let ready := up && ((s.eng e).image 0).isSome
    let s' := if ready then s.startActivation e 0 0 (s.time (engSt e) + 64) (s.loopPorts f c) (s.loopMasks f c) else s
    let s' := if s.rd (clSt f c) O.LP_VIN = 0 then { s' with free := s'.free + 1 } else s'
    s'.putLoop f c { s'.loop f c with reseed := if ready then false else (s'.loop f c).reseed, committed := false, activated := ready }

/-- The times of R113's conditions at a sample: IF above DEAD_IMIN; IF above the tile's estimate by more than DEAD_MARGIN, which a frozen
estimator does not give. -/
def State.timeImplausible (s : State) (f : FieldId) (c : ClusterId) : State :=
  let st := clSt f c
  let x := s.loop f c
  let ifn := x.filtered / 65536
  let t := clusterTile c
  let since (old : Option Nat) (b : Bool) : Option Nat := if b then some (old.getD (s.time st)) else none
  if isCompute c then
    s.putLoop f c { x with
      deadSince := since x.deadSince (decide (s.rd st O.DEAD_IMIN < ifn))
      excessSince := since x.excessSince
        (decide (s.rd (fSt f) (O.I_EST.at t.val) + s.rd st O.DEAD_MARGIN < ifn) && (s.tile f t).frozen == 0) }
  else s
/-- CLUSTER_INPUT_INSTANT (R91): the phase currents of the MRs in mA and VIN in mV are what the cells and the monitor
measure at the instant. -/
def execClusterInputInstant (f : FieldId) (c : ClusterId) (ia ib : List (BitVec 16)) (vin : BitVec 16) (s : State) : Out :=
  let s := s.takeMin f c
  let s := s.takeCurrents f c ia ib vin.toNat
  let s := s.balance f c ia ib
  let s := s.clearWins f c
  let s := match (s.loop f c).itherm with
    | some v => (s.wr (clSt f c) O.LP_ITHERM v).putLoop f c { s.loop f c with itherm := none }
    | none => s
  let s := s.advanceSet f c
  let s := if (mrsOf c).any (fun m => (s.mr f c m).cell.switches) then s else s.putLoop f c { s.loop f c with posNow := 0 }
  let s := (((s.samplePower f c).closeInterval f c).timeImplausible f c).takeFeed f c
  .next (((s.showSample f c).runLoop f c).drive)

/-! ### The output instant (R91-R97) -/

/-- A winner is recorded for the sample (R97): its 100 ns, and a change with its time and its message. -/
def State.recordWinner (s : State) (f : FieldId) (c : ClusterId) (w : Nat) : State :=
  let st := clSt f c
  let s := s.inc64 st (O.WIN_TIME_V.nth (min w 4)) 100
  if s.rd st O.WINNER = w then s
  else
    let s := ((s.wr st O.WINNER w).wr st O.WIN_SINCE (s.time (clSt f c))).inc32 st O.WIN_CHANGES
    if 1 ≤ w ∧ w ≤ 3 then s.putLoop f c { s.loop f c with winMsgs := (s.loop f c).winMsgs ++ [w] } else s

/-- The code that a cell applies: the loop's code plus its trim, within 0 to DUTY_MAX (R60); in the restart ramp the part of it that the
2 µs since the restart give (R68), rounded down (assumption 51). -/
def cellCode (r : MrRec) (now code : Nat) : Nat :=
  match r.cell with
  | .starting | .switching => code
  | .restartRamp => code * min 2000 (now - r.rampAt) / 2000
  | _ => 0
/-- The loop's code reaches the cells (R60). -/
def State.applyCode (s : State) (f : FieldId) (c : ClusterId) (code : Nat) : State :=
  let st := clSt f c
  (mrsOf c).foldl (fun s m =>
    let r := s.mr f c m
    let d := (clampInt 0 (s.rd st O.DUTY_MAX) (code + ofBits 16 (s.rd st (O.MR_TRIM.at m.val)))).toNat
    s.putMr f c m { r with duty := cellCode r (s.time st) d }) s

/-- Whether the checks of R105 to R107 stand still (R108). -/
def State.checksStill (s : State) (f : FieldId) (c : ClusterId) : Bool :=
  (match s.cstate f c with | .starting | .running | .derated | .holding => false | _ => true)
    || s.shortState f c == 1 || (s.cellsOf f c).episodeEnd.any (fun t => decide ((s.time (clSt f c)) < t + 2000))

/-- Whether a code list spans 8 codes or more: the highest lies 8 or more above the lowest (assumption 51, the model's reading). -/
def spans8 (l : List Nat) : Bool := decide (minOf 0 l + 8 ≤ l.foldl max 0)
/-- A run of equal values, one sample further. -/
def runOn (run : Nat) (same : Bool) : Nat := if same then run + 1 else 1

/-- The run counts and timers of R105 to R107 and R110, after one output instant. The first sample out of bound starts R106's timer at 100
ns; a late sample, or one that a limit wins, neither counts towards RECOVER_RUN nor breaks its run (assumption 51, the model's
readings). -/
def State.countChecks (s : State) (f : FieldId) (c : ClusterId) (late : Bool) : State :=
  let st := clSt f c
  let s := s.putLoop f c { s.loop f c with codes := ((s.loop f c).codes ++ [(s.loop f c).uPrev]).drop ((s.loop f c).codes.length - 15) }
  let x := s.loop f c
  if s.checksStill f c then s
  else
    let y : Sample := ⟨s.rd st O.MIN_NOW, s.rd st O.ISUM, x.uPrev⟩
    let last := x.samples.getLast?
    let x := { x with
      samples := (x.samples ++ [y]).drop (x.samples.length - 63)
      minRun := runOn x.minRun (last.any (fun z => z.min == y.min))
      isumRun := runOn x.isumRun (last.any (fun z => z.isum == y.isum)) }
    let order5 := s.rd st O.ORDER == 5
    let bad := x.supv.getD false
    let limited := 1 ≤ s.rd st O.WINNER && s.rd st O.WINNER ≤ 3
    let x := if late then x
      else if order5 then (if limited then x else { x with feTimer := if bad then x.feTimer + 100 else 0 })
      else { x with residRun := if bad then x.residRun + 1 else 0 }
    let x := if s.cstate f c ≠ .holding ∨ late ∨ (order5 ∧ limited) then x
      else { x with goodRun := if bad ∨ s.sensorsFew f c then 0 else x.goodRun + 1 }
    s.putLoop f c x

/-- CLUSTER_OUTPUT_INSTANT (R91-R97): the commit of a program that is complete, or a late output; then the winner record and
the checks. DESIGN CHOICE (log entry 51): a late computation is abandoned at the output instant (R139), not at the next input instant
(R92). -/
def execClusterOutputInstant (f : FieldId) (c : ClusterId) (s : State) : Out :=
  let st := clSt f c
  let e := s.loopEngine f c
  let s := match (s.eng e).finished 0 with | some d => s.commit e d | none => s
  let x := s.loop f c
  if (s.cstate f c).isOn ∨ x.activated then
    let late := !x.committed
    let w := if late then s.rd st O.WINNER else if s.cstate f c = .holding ∧ x.outWin = 0 then 4 else x.outWin
    let s := s.putLoop f c { x with uPrev := if late then x.uPrev else x.outCode.getD x.uPrev, late := late }
    let s : State := if late then
        let run := s.rd st O.LATE_RUN + 1
        let s := (s.inc32 st O.LATE_COUNT).wr st O.LATE_RUN (min max8 run)
        let s := if run = 4 then s.raiseLoop F.CL_LATE f c else s
        s.abandon e 0 true
      else s.wr st O.LATE_RUN 0
    let s : State := if late ∨ s.rd st O.ORDER = 5 then s
      else x.resid.elim s (fun v => s.wr st O.FE_NOW (satS16 v))
    let s := (s.recordWinner f c w).applyCode f c (s.loop f c).uPrev
    let s := s.countChecks f c late
    .next (if s.sensorsFew f c then s.feedbackLost f c 3 else s)
  else .next s

/-! ### Messages to the cluster -/

/-- FEEDFORWARD_RECEIVE (R98): the field station's oldest message to a compute cluster, or `step`, the change of a service cluster's
estimated current in mA; a message older than 1,000 ns is discarded. -/
def execFeedforwardReceive (f : FieldId) (c : ClusterId) (step : BitVec 32) (elapsed : BitVec 18) (s : State) : Out :=
  let x := s.tile f (clusterTile c)
  let take (s : State) (v : Int) : State :=
    if 1000 < elapsed.toNat then s.inc32 (clSt f c) O.FF_LATE
    else s.putLoop f c { s.loop f c with feedIn := (s.loop f c).feedIn + v }
  .next (if isCompute c then
    match x.feed with
    | [] => s
    | m :: rest => take (s.putTile f (clusterTile c) { x with feed := rest }) (m.1 * m.2)
  else take s step.toInt)

/-- POS_REQ_RECEIVE (R102, R285): the oldest pre-position message of the field station, of `mv` mV, reaches its compute cluster. -/
def execPosReqReceive (f : FieldId) (c : ClusterId) (mv : Byte) (s : State) : Out :=
  let x := s.tile f (clusterTile c)
  .next (if isCompute c ∧ x.posOut.head? = some mv.toNat then
      (s.putTile f (clusterTile c) { x with posOut := x.posOut.drop 1 }).putLoop f c { s.loop f c with posReq := mv.toNat }
    else s)
/-- ITHERM_RECEIVE (R94, R299, R303): the oldest figure that the thermal unit has sent the cluster, of `ma` mA, arrives. -/
def execIthermReceive (f : FieldId) (c : ClusterId) (ma : BitVec 32) (s : State) : Out :=
  let r := s.therm f
  let l := tblGet [] r.sent c.val
  .next (if l.head? = some ma.toNat then
      (s.putTherm f { r with sent := tblSet [] r.sent c.val (l.drop 1) }).putLoop f c { s.loop f c with itherm := some ma.toNat }
    else s)
/-- CLOSE_MARKER_RECEIVE (R236): the oldest close marker that the field station has sent the cluster. -/
def execCloseMarkerReceive (f : FieldId) (c : ClusterId) (s : State) : Out :=
  let x := s.tile f (clusterTile c)
  .next (match if isCompute c then x.markers else [] with
  | [] => s
  | m :: rest => (s.putTile f (clusterTile c) { x with markers := rest }).putLoop f c { s.loop f c with marker := (s.loop f c).marker ++ [m] })
/-- WINNER_CHANGE_RECEIVE (R97): the field station takes the change of winner that the cluster has sent. -/
def execWinnerChangeReceive (f : FieldId) (c : ClusterId) (s : State) : Out :=
  match (s.loop f c).winMsgs with
  | [] => .next s
  | w :: rest =>
    let s := s.putLoop f c { s.loop f c with winMsgs := rest }
    .next (s.putArb f { s.arb f with winners := tblSet 0 (s.arb f).winners c.val w })

/-- A write of WIN_CLEAR (R121). -/
def effWinClear (f : FieldId) (c : ClusterId) (v : Nat) : Effect := fun s =>
  if v = 1 then .ok (s.putLoop f c { s.loop f c with winClear := true }) else if v = 0 then .ok s else .error .value
/-- WIN_CLEAR (R121). -/
def execWinClear (slot : Slot) (f : FieldId) (c : ClusterId) (v : Byte) (s : State) : Out :=
  .next (s.writeReq slot (clSt f c) O.WIN_CLEAR 1 (effWinClear f c v.toNat))

/-! ### Supervision and holding (R104-R111) -/

/-- PLAUSIBILITY_LOSS (R105): RESID_RUN samples in a row out of bound. -/
def execPlausibilityLoss (f : FieldId) (c : ClusterId) (s : State) : Out :=
  .next (if s.rd (clSt f c) O.ORDER = 3 ∧ s.rd (clSt f c) O.RESID_RUN ≤ (s.loop f c).residRun then s.feedbackLost f c 2 else s)
/-- FE_TIMER_EXPIRE (R106): the following-error timer has reached FE_TIME. -/
def execFeTimerExpire (f : FieldId) (c : ClusterId) (s : State) : Out :=
  .next (if s.rd (clSt f c) O.ORDER = 5 ∧ s.rd (clSt f c) O.FE_TIME ≤ (s.loop f c).feTimer then s.feedbackLost f c 2 else s)
/-- FEEDBACK_FROZEN (R107): MIN or ISUM the same at 64 input instants while the code spans 8 codes or more. -/
def execFeedbackFrozen (f : FieldId) (c : ClusterId) (s : State) : Out :=
  let x := s.loop f c
  .next (if !s.checksStill f c ∧ x.samples.length = 64 ∧ (64 ≤ x.minRun ∨ 64 ≤ x.isumRun) ∧ spans8 (x.samples.map Sample.code)
    then s.feedbackLost f c 1 else s)

/-- FEEDBACK_RETURN (R110): RECOVER_RUN good samples in a row take the Wheel back to the state before HOLDING, with the
estimate reseeded. -/
def execFeedbackReturn (f : FieldId) (c : ClusterId) (s : State) : Out :=
  let x := s.loop f c
  let n := s.rd (clSt f c) O.RECOVER_RUN
  .next (if s.cstate f c = .holding ∧ n ≤ x.goodRun ∧ x.minRun < n ∧ x.isumRun < n ∧ !s.sensorsFew f c then
    let s := s.putLoop f c { x with reseed := true, resume := true, feTimer := 0, residRun := 0, goodRun := 0 }
    (s.setWState (.cluster f c) (s.wheel (.cluster f c)).prior).judgeCluster f c
  else s)

/-- HOLD_EXPIRE (R111): HOLD_TIME has passed in HOLDING with no park under way; the park follows R114. At CONTAIN or STOP the fault is
raised and the cluster is LATCHED in place of the park, here at once (the model's reading, assumption 100). -/
def execHoldExpire (f : FieldId) (c : ClusterId) (s : State) : Out :=
  let st := clSt f c
  .next (if s.cstate f c = .holding ∧ (s.loop f c).parkFor = .none ∧ (s.loop f c).holdAt + s.rd st O.HOLD_TIME ≤ s.time st then
    if s.sevOf F.CL_HOLD_EXPIRE < 4 then s.parkBegin f c .holdExpire
    else
      let s := s.raiseLoop F.CL_HOLD_EXPIRE f c
      (if s.sevOf F.CL_HOLD_EXPIRE = 4 then s.containCluster f c else s.latchCluster f c).drive
  else s)

/-! ### Parking for a dead tile (R112-R114) -/

/-- TILE_IMPLAUSIBLE (R113): a condition has held for DEAD_TIME: the first (IF above DEAD_IMIN, and no advance of an activity counter at the
field station), or the second (IF above the estimate) where `byEst` says so. -/
def execTileImplausible (f : FieldId) (c : ClusterId) (byEst : Bool) (s : State) : Out :=
  let st := clSt f c
  let x := s.loop f c
  let gone (now t : Nat) : Bool := decide (t + s.rd st O.DEAD_TIME ≤ now)
  let holds := if byEst then x.excessSince.any (gone (s.time st))
    else x.deadSince.any (gone (s.time st)) && gone (s.time (fSt f)) (s.tile f (clusterTile c)).advancedAt
  let on := match s.cstate f c with | .starting | .running | .derated | .holding => true | _ => false
  .next (if isCompute c && on && holds then s.parkBegin f c .implausible else s)

/-- FENCE_ASSERT (R112, R289): the tile's fence signal is seen asserted. A cluster that falls is parked when it reaches STOPPED, one that
is LATCHED when it is cleared (R26, assumption 23). -/
def execFenceAssert (f : FieldId) (t : TileId) (s : State) : Out :=
  let c := tileCluster t
  if (s.tile f t).fence then .next s
  else
    let s := s.putTile f t { s.tile f t with fence := true }
    let s := if bit (s.rd (fSt f) O.FENCE_CTRL) t.val then s else s.wr (fSt f) (O.FENCE_CAUSE.at t.val) 1
    let s := s.zeroTile f t
    .next (match s.cstate f c with
      | .stopped => s.fencePark f c
      | .starting | .running | .derated | .holding => s.parkBegin f c .fence
      | _ => s)
/-- FENCE_DEASSERT (R58, R289). -/
def execFenceDeassert (f : FieldId) (t : TileId) (s : State) : Out :=
  let s := s.putTile f t { s.tile f t with fence := false }
  .next (if bit (s.rd (fSt f) O.FENCE_CTRL) t.val then s else s.wr (fSt f) (O.FENCE_CAUSE.at t.val) 0)

/-- PARK_MESSAGE_RECEIVE (R114 event 3). -/
def execParkMessageReceive (f : FieldId) (c : ClusterId) (s : State) : Out :=
  let x := s.loop f c
  .next (if x.parkFor ≠ .none ∧ x.parking = none then s.putLoop f c { x with parking := some (s.time (clSt f c)) } else s)
/-- PARK_DELAY_EXPIRE (R114 event 4): PARK_DELAY after event 3 the cells stop and the Wheel enters PARKED. A block reset of the station
that waited for the cells follows (R345). -/
def execParkDelayExpire (f : FieldId) (c : ClusterId) (s : State) : Out :=
  let x := s.loop f c
  let past := heldFor x.parking (s.rd (clSt f c) O.PARK_DELAY) (s.time (clSt f c))
  .next (if past ∧ x.parkFor ≠ .none then (s.parkEnd f c x.parkFor).drive
  else if x.resetDue ∧ !(s.cstate f c).isOn then (s.resetCluster f c).drive
  else s)

end Sys2Proof.Machine
end

