-- ==== Sys2Proof/Machine/Wheels.lean ====
section
/-!
DEFINITION. Wheels and their commands (R31-R39), groups (R40-R46), and the setpoint and limit writes of chapter Wheels and
the Station Network.
-/
namespace Sys2Proof.Machine
open Sys2Proof

/-! ### Faults that hold a Wheel -/

/-- The targets that name a Wheel (R364). -/
def wheelTargets : WheelRef → List Target
  | .mr f c m => [.mr f c m]
  | .cluster f c => [.cluster f c, .engine (cle f c)]
  | .domain d => if isAux d then [.domain d, .rail (domRail d), .fieldAux (domField d)] else [.domain d]
  | .field f => [.field f, .fieldAux f, .rail (frRail f)]
  | _ => []
/-- Whether a fault acts on a Wheel: by its target, or by the scope of STOP (R364, R365). -/
def faultHits (w : WheelRef) (id : FltId) (sev : Nat) : Bool :=
  (wheelTargets w).contains (targetOf id)
    || (sev == 5 && match w with
      | .field f => (stopScope id).elim true (fun g => g == f)
      | .die => (stopScope id).isNone
      | _ => false)
/-- Whether a record that names a Wheel as its target is uncleared (R38, R371). -/
def State.wheelFaulted (s : State) (w : WheelRef) : Bool :=
  s.flt.set.any (fun r => faultHits w r.id r.sev)
    || s.flt.overflow.any (fun o => o.raises.any (fun i => faultHits w i o.body.sev))
    || s.flt.single.any (fun o => o.raises.any (fun i => faultHits w i o.body.sev))
/-- Whether an action acts on a Wheel: one that names it, or STOP of the field or die that holds it (R364, R365). -/
def actionHits (w : WheelRef) (id : FltId) (sev : Nat) : Bool :=
  faultHits w id sev
    || (sev == 5 && match w with
      | .domain d => (stopScope id).elim true (fun g => g == domField d)
      | .cluster f _ => (stopScope id).elim true (fun g => g == f)
      | .mr f _ _ => (stopScope id).elim true (fun g => g == f)
      | _ => false)
/-- The turn-off that an action has begun at a field is still in progress: its Wheel is LATCHED and its sequence goes on (R364, R365). -/
def State.fieldStopping (s : State) (f : FieldId) : Bool :=
  s.wstate (.field f) == .latched && (s.job (.field f)).any (fun j => !j.on)
/-- A domain latched by an action whose clusters still fall (R331, R364). -/
def State.domainStopping (s : State) (d : DomId) : Bool :=
  s.dstate d == .latched && (domClusters d).any (fun c => s.cstate (domField d) c == .stopping)
/-- A CONTAIN or STOP action on a Wheel is in progress (R39): on its way to it, or performed and its turn-off not yet complete. -/
def State.actionOn (s : State) (w : WheelRef) : Bool :=
  s.flt.actions.any (fun a => actionHits w a.id a.sev)
    || match w with
      | .die => allFields.all (fun f => s.wstate (.field f) == .latched) && allFields.any s.fieldStopping
      | .field f => s.fieldStopping f
      | .domain d => s.fieldStopping (domField d) || s.domainStopping d
      | .cluster f c => s.fieldStopping f || s.domainStopping (clusterDomain f c)
      | .mr f c _ => s.fieldStopping f || s.domainStopping (clusterDomain f c)
      | .group _ => false
/-- Whether a fault of this identity is on its way or uncleared. -/
def State.faultOpen (s : State) (code st item : Nat) : Bool := s.hasRecord code st item || s.matched ⟨code, st, item⟩

/-! ### Commands -/

/-- Whether COMMAND takes a code at a level (R38). -/
def commandAt (code : Nat) : WheelRef → Bool
  | .mr _ _ _ => code == 3 || code == 4 || code == 5
  | .cluster _ _ => code == 3 || code == 4 || code == 5
  | .group _ => 1 ≤ code && code ≤ 5
  | _ => code == 1 || code == 2 || code == 5

/-- The sequencer's target of a Wheel. -/
def wheelTarget : WheelRef → SeqTarget
  | .domain d => .domain d
  | .field f => .field f
  | _ => .die

/-- Start and Stop at a domain, field or die Wheel (R38, R323): a Wheel from whose state R37 has no transition refuses, but a
Stop is taken while a turn-on is in progress (R324). -/
def State.wheelSeq (slot : Slot) (w : WheelRef) (on : Bool) : Action := fun s =>
  let may : Bool := match s.wstate w with
    | .stopped => on || (s.job (wheelTarget w)).any SeqJob.on
    | .stopping => on
    | .starting | .running | .derated | .holding => !on
    | _ => false
  if may then
    let r := s.submit (wheelTarget w) on (.session slot) false
    if r.2 = 0 ∨ r.2 = 13 then (r.1.drive, none) else (r.1, some .state)
  else (s, some .state)

/-- Park at an MR that is not PARKED or LATCHED, in every state of its cluster: retired as a service action with CAUSE 3 (R38, R72), in
the Moult log (R432). -/
def State.parkMr (f : FieldId) (c : ClusterId) (m : MrId) : Action := fun s =>
  match s.mrState f c m with
  | .stopped | .starting | .running | .derated | .holding | .stopping =>
    (((((s.retireMr f c m 3).parkExhausted f c).hiccupEdge s f c).mltLog 10 0 (clSt f c) m.val 0).drive, none)
  | _ => (s, some .state)
/-- Park at a cluster (R38). -/
def State.parkCmd (f : FieldId) (c : ClusterId) : Action := fun s =>
  match s.cstate f c with
  | .starting | .running | .derated | .holding => ((s.parkCluster f c .command).drive, none)
  | _ => (s, some .state)

/-- An MR comes back (R76, R366): its counts start from 0, and its restart ramp counts as hiccup (R77); in a RUNNING or DERATED cluster it is STARTING through the restart ramp, and
takes a slot at the next sample boundary. -/
def State.returnMr (s : State) (f : FieldId) (c : ClusterId) (m : MrId) : State :=
  let before := s.activeMrs f c
  let old := s
  let s := s.putMr f c m { s.mr f c m with cause := 0, cell := .off, hiccups := 0, windowOpen := false, limRun := 0 }
  let s := s.setWState (.mr f c m) .stopped
  let s := s.putCells f c { s.cellsOf f c with rebuild := true }
  let s := if (s.cstate f c).isUp then
      let s := s.rampMr f c m 0
      s.putMr f c m { s.mr f c m with released := true }
    else s
  (s.applyCeiling f c before).hiccupEdge old f c
/-- Release at an MR (R76). -/
def State.releaseMr (f : FieldId) (c : ClusterId) (m : MrId) : Action := fun s =>
  let r := s.mr f c m
  let code := if r.cause = 1 then F.MR_OC_RETIRE else F.MR_OPEN_RETIRE
  let gone := r.cause == 3 || r.cause == 4 || ((r.cause == 1 || r.cause == 2) && !s.faultOpen code (clSt f c) m.val)
  if s.wstate (.mr f c m) = .parked ∧ gone ∧ s.shortState f c = 0 then
    let s := s.returnMr f c m
    ((if r.cause = 3 then s.mltLog 11 0 (clSt f c) m.val 0 else s).drive, none)
  else (s, some .state)

/-- A cluster parked in a hiccup episode restarts (R77, R79): the restart is the next cluster hiccup of the window that is open. -/
def State.resumeEpisode (s : State) (f : FieldId) (c : ClusterId) : State :=
  let x := s.cellsOf f c
  if s.shortState f c = 1 ∧ x.windowOpen then
    let s := s.putCells f c { x with hiccups := x.hiccups + 1 }
    if s.rd (clSt f c) O.HICCUP_LIMIT ≤ x.hiccups + 1 then s.declareShort f c else s
  else s
/-- A cluster leaves PARKED or LATCHED: STARTING at once, without a reservation, where its domain is RUNNING or DERATED, else
STOPPED, which ends a hiccup episode (R37, R79, R330, R366). One whose tile is fenced is parked for the fence (R26). -/
def State.clusterReturn (s : State) (f : FieldId) (c : ClusterId) : State :=
  let s := s.unfenceCtrl f c
  let s := s.putWheel (.cluster f c) { s.wheel (.cluster f c) with parkCause := .none, contained := false }
  if s.fenced f c then (s.setWState (.cluster f c) .stopped).fencePark f c
  else if (s.dstate (clusterDomain f c)).isUp then ((s.clusterBegin f c).resumeEpisode f c).judgeCluster f c
  else
    let s := if s.shortState f c = 1 then s.endEpisode f c else s
    (s.setWState (.cluster f c) .stopped).judgeCluster f c

/-- Whether the cause of a cluster's park has gone (R38, R53, R76, R115); a fence of its tile keeps any cluster parked (R26). -/
def State.parkGone (s : State) (f : FieldId) (c : ClusterId) : Bool :=
  let st := clSt f c
  !s.fenced f c && match (s.wheel (.cluster f c)).parkCause with
  | .none | .command | .link | .blockReset => true
  | .short => s.shortState f c != 2
  | .fence => true
  | .exhaust => derateRow c (s.activeMrs f c) != 2
  | .holdExpire => !s.faultOpen F.CL_HOLD_EXPIRE st 0
  | .implausible => !s.faultOpen F.CL_TILE_IMPL st 0
  | .noSpare => !s.faultOpen F.ENG_NO_SPARE st 0 && (s.eng (cle f c)).tested && (s.eng (cle f c)).loading.isNone
/-- Release at a cluster: refused while its link is failed (R53); after R147 the engine is loaded again first (R115). -/
def State.releaseCluster (f : FieldId) (c : ClusterId) : Action := fun s =>
  if s.cstate f c = .parked ∧ !(s.link (.cl f c)).failed ∧ s.parkGone f c then
    if (s.wheel (.cluster f c)).parkCause = .noSpare then
      (s.putEng (cle f c) { s.eng (cle f c) with closed := false, loading := some c.val }, none)
    else ((s.clusterReturn f c).drive, none)
  else (s, some .state)

/-- Clear (R38): from LATCHED to STOPPED, and onward under R366. At a cluster it ends the hiccup episode and the short (R79, R86). -/
def State.clearWheel (w : WheelRef) : Action := fun s =>
  if s.wstate w = .latched ∧ !s.wheelFaulted w then
    match w with
    | .mr f c m => ((s.returnMr f c m).drive, none)
    | .cluster f c =>
      let s := if s.shortState f c = 0 then s else s.endEpisode f c
      let s := s.setWState (.cluster f c) .stopped
      ((s.clusterReturn f c).drive, none)
    | .domain d =>
      let s := (s.setWState (.domain d) .stopped).wr hubSt (O.LATCH_CAUSE.at d.val) 0
      let s := if isAux d ∧ s.railState (domRail d) = 5 then
          (s.wr hubSt (O.RAIL_STATE.at (domRail d).val) 0).wr hubSt (O.HICCUPS.at (domRail d).val) 0
        else s
      ((s.judgeField (domField d)).drive, none)
    | .field f =>
      let s := s.setWState (.field f) .stopped
      let s := { s with flt := { s.flt with stops := s.flt.stops.filter (· != f.val) } }
      let s := if s.railState (frRail f) = 5 then
          (s.wr hubSt (O.RAIL_STATE.at f.val) 0).wr hubSt (O.HICCUPS.at f.val) 0
        else s
      (s.judgeDie.drive, none)
    | _ => (s.setWState w .stopped, none)
  else (s, some .state)

/-- A command at one Wheel that is no group. -/
def State.commandOne (slot : Slot) (code : Nat) (w : WheelRef) : Action := fun s =>
  if !commandAt code w || s.actionOn w then (s, some .state)
  else if code = 1 then s.wheelSeq slot w true
  else if code = 2 then s.wheelSeq slot w false
  else if code = 5 then s.clearWheel w
  else
    match w with
    | .mr f c m => if code = 3 then s.parkMr f c m else s.releaseMr f c m
    | .cluster f c => if code = 3 then s.parkCmd f c else s.releaseCluster f c
    | _ => (s, some .state)

/-- A command at a Wheel: at a group, at each direct member at whose level it is accepted; a refusal by a member is shown in
REJECT of the group (R38, R457). `fuel` bounds the nesting of groups. -/
def State.commandN (slot : Slot) (code : Nat) (fuel : Nat) (w : WheelRef) : Action :=
  match fuel with
  | 0 => fun s => (s, some .state)
  | n + 1 =>
    match w with
    | .group a => fun s =>
      let r := (((s.groupMembers (0x8000 + a.val)).filter (commandAt code)).foldl (fun (p : State × Bool) m =>
        let q := p.1.commandN slot code n m
        (q.1, p.2 || q.2.isSome)) (s, false))
      (r.1.putWheel w { r.1.wheel w with refused := r.2 }, none)
    | _ => State.commandOne slot code w
/-- A write of COMMAND: a reserved code is refused whole (R16). -/
def actCommand (slot : Slot) (w : WheelRef) (code : Nat) : Action := fun s =>
  if code = 0 ∨ 5 < code then (s, some .value) else s.commandN slot code 257 w

/-- A write of COMMAND as a request; a Release at a cluster behind its own failed link is refused with the state abort code
(R53), not as unreachable. -/
def State.commandReq (s : State) (slot : Slot) (w : WheelRef) (code : Nat) : State :=
  let chk (s : State) : Option Abort :=
    match w with
    | .cluster f c =>
      match s.admitWrite slot w.station w.index 3 1 with
      | some .unreachable => if code = 4 ∧ !s.fieldCut f then some .state else some .unreachable
      | r => r
    | _ => s.admitWrite slot w.station w.index 3 1
  s.requestA slot 0x02 w.station w.index 3 chk (actCommand slot w code)

/-- WHEEL_START (R38). -/
def execWheelStart (slot : Slot) (w : WheelRef) (s : State) : Out := .next (s.commandReq slot w 1)
/-- WHEEL_STOP (R38). -/
def execWheelStop (slot : Slot) (w : WheelRef) (s : State) : Out := .next (s.commandReq slot w 2)
/-- WHEEL_PARK (R38). -/
def execWheelPark (slot : Slot) (w : WheelRef) (s : State) : Out := .next (s.commandReq slot w 3)
/-- WHEEL_RELEASE (R38). -/
def execWheelRelease (slot : Slot) (w : WheelRef) (s : State) : Out := .next (s.commandReq slot w 4)
/-- WHEEL_CLEAR (R38). -/
def execWheelClear (slot : Slot) (w : WheelRef) (s : State) : Out := .next (s.commandReq slot w 5)

/-- CLUSTER_ENGINE_RELOAD_DONE (R115): the image is back in the cluster engine, which resumes with RESEED, and the cluster
starts under R37. -/
def execClusterEngineReloadDone (f : FieldId) (c : ClusterId) (s : State) : Out :=
  let e := cle f c
  let r := s.eng e
  if r.loading.isNone ∨ s.cstate f c ≠ .parked then .next s
  else
    let r' := match r.image 0 with
      | some x => { r with mem := memWrite (memWrite r.mem (x.cbase * 16) x.consts) (x.wbase * 16) x.init, firsts := [0] }
      | none => r
    let s := s.putEng e { r' with loading := none, failed := false, closed := false }
    let s := s.putLoop f c { s.loop f c with reseed := true, outCode := none, supv := none }
    .next ((s.clusterReturn f c).drive)

/-! ### Setpoints and limits -/

/-- The limits of a Wheel's SETPOINT (R33). -/
def State.limits (s : State) (w : WheelRef) : Nat × Nat := (s.rdRaw w.station w.index 6, s.rdRaw w.station w.index 7)
/-- A value within a Wheel's VMIN and VMAX. -/
def State.within (s : State) (w : WheelRef) (mv : Nat) : Bool := (s.limits w).1 ≤ mv && mv ≤ (s.limits w).2
/-- The range of SETPOINT at a level (R31, R30). The spec gives the die no range: VMIN and VMAX of its Wheel take 0 alone (assumption 51,
the model's choice). -/
def levelRange : WheelRef → Nat × Nat
  | .cluster _ _ => (550, 950)
  | .domain d => if isAux d then (800, 1400) else (550, 950)
  | .field _ => (1780, 1820)
  | .group _ => (550, 950)
  | _ => (0, 0)
/-- Whether a Wheel takes a setpoint (R30, R33): its level's range, its own limits and, at a domain, those of every
cluster. -/
def State.takes (s : State) (w : WheelRef) (mv : Nat) : Bool :=
  (levelRange w).1 ≤ mv && mv ≤ (levelRange w).2 && s.within w mv
    && match w with
      | .domain d =>
        if isAux d then !s.railRetryFails (domRail d) mv
        else (domClusters d).all (fun c => s.within (.cluster (domField d) c) mv)
      | .field f => !s.railRetryFails (frRail f) mv
      | _ => true

/-- A rail's Wheel takes a new target (R169): the reference goes on from where it is. -/
def State.railSet (s : State) (r : RailId) (mv : Nat) : State :=
  let s := s.reanchor r
  let s := s.putRail r { s.rail r with regFrom := none }
  if isFR r then s.wr (fSt (railField r)) O.W_SETPOINT mv else s.wr hubSt (O.VSET.at (56 + (railField r).val)) mv
/-- An accepted setpoint at a cluster, domain or field (R30, R99, R169). -/
def State.putSetpoint (s : State) (w : WheelRef) (mv : Nat) (by_ : Option Slot) : State :=
  match w with
  | .cluster f c => s.acceptSetpoint f c mv by_
  | .domain d =>
    if isAux d then s.railSet (domRail d) mv
    else (domClusters d).foldl (fun s c => s.acceptSetpoint (domField d) c mv by_) (s.wr hubSt (O.VSET.at d.val) mv)
  | .field f => s.railSet (frRail f) mv
  | _ => s

/-- A write of SETPOINT at a cluster, or of VSET, or of a field's SETPOINT. -/
def effSetpoint (slot : Slot) (w : WheelRef) (mv : Nat) : Effect := fun s =>
  if s.takes w mv then .ok (s.putSetpoint w mv (some slot)) else .error .value
/-- SETPOINT_WRITE (R99). -/
def execSetpointWrite (slot : Slot) (f : FieldId) (c : ClusterId) (mv : BitVec 16) (s : State) : Out :=
  .next (s.writeReq slot (clSt f c) ((WheelRef.cluster f c).obj 4) 2 (effSetpoint slot (.cluster f c) mv.toNat))
/-- VSET_WRITE (R30). -/
def execVsetWrite (slot : Slot) (d : DomId) (mv : BitVec 16) (s : State) : Out :=
  .next (s.writeReq slot hubSt (O.VSET.at d.val) 2 (effSetpoint slot (.domain d) mv.toNat))

/-- Whether a group has a setpoint (R43). -/
def State.hasSetpoint (s : State) (fuel : Nat) (w : WheelRef) : Bool :=
  match fuel with
  | 0 => false
  | n + 1 =>
    match w with
    | .cluster _ _ => true
    | .domain d => !isAux d
    | .group a =>
      let l := s.groupMembers (0x8000 + a.val)
      !l.isEmpty && l.all (s.hasSetpoint n)
    | _ => false
/-- Whether every Wheel reachable through a Wheel takes a setpoint (R43). -/
def State.takesAll (s : State) (fuel : Nat) (mv : Nat) (w : WheelRef) : Bool :=
  match fuel with
  | 0 => true
  | n + 1 =>
    match w with
    | .group a => s.within w mv && (s.groupMembers (0x8000 + a.val)).all (s.takesAll n mv)
    | _ => s.takes w mv
/-- A setpoint reaches every member in member order (R43). -/
def State.putSetpointAll (s : State) (fuel : Nat) (mv : Nat) (by_ : Option Slot) (w : WheelRef) : State :=
  match fuel with
  | 0 => s
  | n + 1 =>
    match w with
    | .group a =>
      (s.groupMembers (0x8000 + a.val)).foldl (fun s m => s.putSetpointAll n mv by_ m) (s.wrRaw w.station w.index 4 mv)
    | _ => s.putSetpoint w mv by_
/-- A write of SETPOINT at a group. -/
def effGroupSetpoint (slot : Slot) (g : Fin 0x8000) (mv : Nat) : Effect := fun s =>
  let w : WheelRef := .group g
  if !s.hasSetpoint 257 w then .error .readOnly
  else if !s.takesAll 257 mv w then .error .value
  else .ok (s.putSetpointAll 257 mv (some slot) w)
/-- GROUP_SETPOINT_WRITE (R43). -/
def execGroupSetpointWrite (slot : Slot) (g : Fin 0x8000) (mv : BitVec 16) (s : State) : Out :=
  .next (s.writeReq slot (0x8000 + g.val) ⟨0x2010, 4⟩ 2 (effGroupSetpoint slot g mv.toNat))

/-- A write of VMIN or VMAX (R33): refused whole where VMIN would lie above VMAX or outside the level's range. -/
def effLimit (w : WheelRef) (high : Bool) (mv : Nat) : Effect := fun s =>
  let l := s.limits w
  let r := levelRange w
  let bad := decide (mv < r.1 ∨ r.2 < mv) || (if high then decide (mv < l.1) else decide (l.2 < mv))
  if bad then .error .value else .ok (s.wrRaw w.station w.index (if high then 7 else 6) mv)

/-- ILIMIT_WRITE (R45): the limit is stored, and every ILIMIT_EFF and share follows from it. -/
def execIlimitWrite (slot : Slot) (w : WheelRef) (ma : BitVec 32) (s : State) : Out :=
  .next (s.writeReq slot w.station (w.obj 8) 4 (fun s => .ok (s.wrRaw w.station w.index 8 ma.toNat)))

/-! ### Groups -/

/-- The staged entries of a group address (R40). -/
def State.staged (s : State) (addr n : Nat) : List Nat := (List.range n).map (fun k => s.rdRaw addr 0x2011 (k + 1))
/-- Whether a Wheel exists (R42). -/
def State.wheelExists (s : State) : WheelRef → Bool
  | .group a => s.groupExists (0x8000 + a.val)
  | _ => true
/-- Whether a group at an address is reached from a Wheel through groups. -/
def State.reaches (s : State) (fuel addr : Nat) (w : WheelRef) : Bool :=
  match fuel with
  | 0 => false
  | n + 1 =>
    match w with
    | .group a => 0x8000 + a.val == addr || (s.groupMembers (0x8000 + a.val)).any (s.reaches n addr)
    | _ => false
/-- No value of a list repeats. -/
def noRepeat (l : List WheelRef) : Bool :=
  match l with
  | [] => true
  | x :: r => !r.contains x && noRepeat r
/-- The checks of R42 on the members of a group to be. -/
def State.membersOk (s : State) (addr : Nat) (l : List (Option WheelRef)) : Bool :=
  l.all (fun w => w.any (fun w => s.wheelExists w && !s.reaches 257 addr w
      && decide (((s.parents w).filter (fun g => g.addr != addr)).length < 8)))
    && noRepeat (l.filterMap id)

/-- A group's MEMBER entries above place `k` move down one place. -/
def State.shiftMembers (s : State) (addr k n : Nat) : State :=
  let s := (List.range (n - k)).foldl (fun s j =>
    s.wrRaw addr 0x2011 (k + j) (if k + j < n then s.rdRaw addr 0x2011 (k + j + 1) else 0)) s
  s.wrRaw addr 0x2011 n 0
/-- A group is deleted, with its entry in every parent; a parent left with no member is deleted in turn (R42). -/
def State.deleteGroup (s : State) (fuel addr : Nat) : State :=
  match fuel with
  | 0 => s
  | n + 1 =>
    let word := addr * 0x10000
    let above := (s.groups.filter (fun g => g.members.contains word)).map GroupRec.addr
    let s := { s with groups := s.groups.filter (fun (g : GroupRec) => g.addr != addr) }
    let s := s.putWheel (.group (Fin.ofNat 0x8000 (addr - 0x8000))) {}
    let s := { s with regs := tblKeep (fun k => k / 0x100 != addr * 0x10000 + 0x2010) s.regs }
    above.foldl (fun s a =>
      match s.groups.find? (fun g => g.addr == a) with
      | none => s
      | some g =>
        let left := g.members.filter (· != word)
        let s := s.shiftMembers a ((g.members.takeWhile (· != word)).length + 1) g.members.length
        let s := { s with groups := s.groups.map (fun (h : GroupRec) => if h.addr = a then { h with members := left } else h) }
        if left.isEmpty then s.deleteGroup n a else s) s

/-- A write of MEMBER_COUNT (R40, R42). A new membership stores no setpoint: limits and shares follow from it, and a group's SETPOINT is
taken by its members when it is written (R43), not when they join (the model's choice, assumption 100). -/
def effMemberCount (g : Fin 0x8000) (n : Nat) : Effect := fun s =>
  let addr := 0x8000 + g.val
  if n = 0 then .ok (if s.groupExists addr then (s.deleteGroup 257 addr).restamp s [] else s)
  else if 64 < n then .error .value
  else
    let l := (s.staged addr n).map wordWheel
    if !s.membersOk addr l then .error .value
    else if !s.groupExists addr ∧ 256 ≤ s.groups.length then .error .exhaustion
    else
      let rec_ : GroupRec := ⟨addr, (l.filterMap id).map wheelWord⟩
      let gs := if s.groupExists addr then s.groups.map (fun h => if h.addr = addr then rec_ else h) else s.groups ++ [rec_]
      .ok (State.restamp { s with groups := gs } s [])
/-- MEMBER_COUNT_WRITE (R42). -/
def execMemberCountWrite (slot : Slot) (g : Fin 0x8000) (n : Byte) (s : State) : Out :=
  .next (s.writeReq slot (0x8000 + g.val) ⟨0x2011, 0⟩ 1 (effMemberCount g n.toNat))

end Sys2Proof.Machine
end

