-- ==== Sys2Proof/Machine/Blocks.lean ====
section
/-!
DEFINITION. Block resets and their Rinds (R345, R346, R356), and the isolation of a fault's target (R364, R365).
-/
namespace Sys2Proof.Machine
open Sys2Proof

/-! ### Units -/

/-- The unit that BLK_REQ names: [31:16] station, [15:8] kind of R346, [7:0] unit index. -/
def blkUnit (w : Nat) : Option BlkUnit :=
  let st := addrStation (bits w 31 16)
  let n := bits w 7 0
  match bits w 15 8 with
  | 0 =>
    match st with
    | some (.cluster f c) => if n = 0 then some (.cluster f c) else none
    | some (.field f) => if n = 0 then some (.field f) else none
    | _ => none
  | 1 =>
    match st with
    | some (.cluster f c) => if n = 0 then some (.engine (cle f c)) else none
    | some (.field f) => if n < 8 then some (.engine (gle f n)) else none
    | some .hub => if n < 16 then some (.engine (gleH n)) else none
    | none => none
  | 2 =>
    match st with
    | some (.field f) => if n < 5 then some (.adc f (Fin.ofNat 5 n)) else none
    | _ => none
  | 3 => if st = some .hub ∧ n < 2 then some (.segment (Fin.ofNat 2 n)) else none
  | 4 =>
    match st with
    | some .hub => if n = 0 then some (.trace 8) else none
    | some (.field f) => if n = 0 then some (.trace (Fin.ofNat 9 f.val)) else none
    | _ => none
  | _ => none

/-- Whether a unit's Rind is closed. -/
def State.unitClosed (s : State) : BlkUnit → Bool
  | .cluster f c => s.rst.closedSt.contains (clSt f c)
  | .field f => s.rst.closedSt.contains (fSt f)
  | .engine e => (s.eng e).closed
  | .adc f q => (s.adc f q).closed
  | .segment k => (s.seg k).closed
  | .trace x => (s.trace x).closed
/-- A cluster engine: its Rind opens only by HANDBACK (R148, R346). -/
def blkIsCle : BlkUnit → Bool | .engine e => isCle e | _ => false
/-- Whether a closed unit has passed its self-test. -/
def State.unitTested (s : State) : BlkUnit → Bool
  | .engine e => (s.eng e).tested
  | .segment k => (s.seg k).tested
  | _ => false

/-- The condition of R346 on a request. -/
def State.blkAccepts (s : State) : BlkUnit → Bool
  | .cluster f c => (s.cstate f c).isStopped
  | .field f => (List.range 8).all (fun k => s.dstate (fieldDomain f k) == .stopped) && s.railState (frRail f) == 0
  | .engine e => !isCle e
  | .adc f q => s.railState (adcRail f q) == 0 || s.railState (adcRail f q) == 5
  | _ => true

/-! ### The resets -/

/-- A field station takes its block reset: its own registers, arbiter, tiles, accounts and thermal unit. Its engines, ADC
converters, trace unit and scratchpad are units of their own. A thermal unit that has failed stays failed (R307). -/
def State.resetField (s : State) (f : FieldId) : State :=
  let st := fSt f
  let failed := s.rd st O.UNIT_STATE == 2
  let blind := (s.therm f).blind
  let s := s.clearRegs (fun a idx _ => a == st && !(0x2400 ≤ idx && idx < 0x2500) && !(0x2700 ≤ idx && idx < 0x2800)
    && !(0x1400 ≤ idx && idx < 0x1500))
  let s := { s with
    tiles := tblKeep (fun k => k / 16 != f.val) s.tiles
    arbs := tblErase s.arbs f.val
    ests := tblErase s.ests f.val
    therms := tblErase s.therms f.val
    tels := tblKeep (fun k => k / 0x10000 != st) s.tels
    flt := { s.flt with wires := s.flt.wires.filter (fun w => w.field != f.val) }
    rst := { s.rst with closedSt := s.rst.closedSt ++ [st] } }
  let s := s.tripLine f none
  let s := if failed then ((s.wr st O.UNIT_STATE 2).putTherm f { blind := blind }).judgeDiodes f false else s
  s.zeroField f
/-- A general engine takes its block reset: every task is empty. -/
def State.resetEngine (s : State) (e : EngId) : State :=
  let st := engSt e
  let n := engNum e
  let s := s.clearRegs (fun a idx _ =>
    a == st && (idx == 0x2410 + n || idx == 0x2440 + n || (0x2480 + 8 * n ≤ idx && idx < 0x2488 + 8 * n)))
  s.putEng e { closed := true }
/-- A converter takes its block reset; a retired slice stays retired (R204). -/
def State.resetAdc (s : State) (f : FieldId) (q : AdcId) : State :=
  let m := s.rd (fSt f) (O.SLICES.at q.val)
  let s := s.clearRegs (fun a idx _ => a == fSt f && 0x2710 ≤ idx && idx < 0x2770 && idx % 0x10 == q.val)
  let l := (List.range 5).filter (fun n => bit m n)
  let s := s.putAdc f q { closed := true, active := if m = 0x1F then [0, 1, 2, 3] else l }
  if m = 0x1F then s else (s.wr (fSt f) (O.SLICES.at q.val) m).wr (fSt f) (O.SPARE_SLICE.at q.val) 0xFF
/-- A segment takes its block reset: the enables stay as they are, its converters count as lost to communication, first
contact is to be made again (R456), and its interface leaves the reset of R356. -/
def State.resetSegment (s : State) (k : SegId) : State :=
  let s := (s.passNext k).putSeg k { closed := true }
  let s := (segConvs k).foldl (fun s n =>
    (s.dxLost n).putConv n { (s.dxLost n).conv n with contacted := false, contactDue := (s.dxLost n).dxState n == 1, due := [], polling := false }) s
  if bit s.rst.clkStuck (2 + k.val) then
    ({ s with rst := { s.rst with
        clkStuck := s.rst.clkStuck - 2 ^ (2 + k.val), clkFrom := tblSet 0 s.rst.clkFrom (2 + k.val) (s.time hubSt) } }).endCondition F.CLK_GOOD_TIMEOUT hubSt (2 + k.val)
  else s
/-- A trace unit takes its block reset: the trace is stopped. -/
def State.resetTrace (s : State) (x : TraceId) : State :=
  let s := s.clearRegs (fun a idx _ => a == traceSt x && (idx == 0x2460 || idx == 0x2461))
  s.putTrace x { closed := true }

/-- A unit takes its block reset inside its closed Rind, which ends the transfers in flight (R346, events 1 to 3), counted in BLK_COUNT
(R349). -/
def State.resetUnit (s : State) (u : BlkUnit) : State :=
  match u with
  | .cluster f c => s.resetCluster f c
  | .field f => ((s.resetField f).inc32 hubSt O.BLK_COUNT).beginTest u
  | .engine e => ((s.resetEngine e).inc32 hubSt O.BLK_COUNT).beginTest u
  | .adc f q => ((s.resetAdc f q).inc32 hubSt O.BLK_COUNT).beginTest u
  | .segment k => ((s.resetSegment k).inc32 hubSt O.BLK_COUNT).beginTest u
  | .trace x => ((s.resetTrace x).inc32 hubSt O.BLK_COUNT).beginTest u

/-- A unit's Rind opens. -/
def State.openUnit (s : State) (u : BlkUnit) : State :=
  match u with
  | .cluster f c => { s with rst := { s.rst with closedSt := s.rst.closedSt.filter (· != clSt f c) } }
  | .field f => { s with rst := { s.rst with closedSt := s.rst.closedSt.filter (· != fSt f) } }
  | .engine e => s.putEng e { s.eng e with closed := false }
  | .adc f q => s.putAdc f q { s.adc f q with closed := false }
  | .segment k => s.putSeg k { s.seg k with closed := false, tested := false }
  | .trace x => s.putTrace x { s.trace x with closed := false }
/-- A unit has passed its self-test: its Rind opens, but that of a cluster engine (R148), and of a unit that a CONTAIN action
holds (R364). -/
def State.passUnit (s : State) (u : BlkUnit) : State :=
  let held := s.rst.contained.contains u
  match u with
  | .engine e =>
    let s := s.putEng e { s.eng e with tested := true }
    if isCle e ∨ held then s else s.openUnit u
  | .segment k => if held then s.putSeg k { s.seg k with tested := true } else s.openUnit u
  | _ => s.openUnit u

/-- BLK_STATE: [31:28] the state, [15:0] the result code (R358). -/
def State.setBlk (s : State) (state result : Nat) : State := s.wr hubSt O.BLK_STATE (state * 2 ^ 28 + result)
/-- A write of BLK_REQ: unknown units are rejected. -/
def effBlkReq (w : Nat) : Effect := fun s =>
  if (blkUnit w).isSome then .ok (s.wr hubSt O.BLK_REQ w) else .error .value
/-- A write of BLK_CTRL (R346, R350): a request that is not accepted, names no unit, or finds a reset of higher level due, is
refused with its result code. -/
def actBlkCtrl (v : Nat) : Action := fun s =>
  let u := blkUnit (s.rd hubSt O.BLK_REQ)
  if v = 1 then
    match u with
    | none => (s.setBlk 0 2, some .state)
    | some u =>
      if s.rst.held.isSome ∨ s.moult.ops.any (fun o => match o with | .slotSeq _ _ => true | _ => false) ∨ s.flt.escWait ≠ [] then (s.setBlk 0 4, some .state)
      else if !s.blkAccepts u then (s.setBlk 0 1, some .state)
      else (((s.setBlk 1 0).resetUnit u).drive, none)
  else if v = 2 then
    match u with
    | none => (s.setBlk 0 2, some .state)
    | some u =>
      if s.unitClosed u ∧ s.unitTested u ∧ !s.rst.contained.contains u ∧ !blkIsCle u then (s.openUnit u, none)
      else (s.setBlk (s.rd hubSt O.BLK_STATE / 2 ^ 28) 1, some .state)
  else (s, some .value)
/-- BLOCK_RESET_START (R346). -/
def execBlockResetStart (slot : Slot) (s : State) : Out :=
  .next (s.requestA slot 0x02 hubSt O.BLK_CTRL.index O.BLK_CTRL.sub
    (fun s => s.admitWrite slot hubSt O.BLK_CTRL.index O.BLK_CTRL.sub 1) (actBlkCtrl 1))
/-- RIND_OPEN_CMD (R346). -/
def execRindOpenCmd (slot : Slot) (s : State) : Out :=
  .next (s.requestA slot 0x02 hubSt O.BLK_CTRL.index O.BLK_CTRL.sub
    (fun s => s.admitWrite slot hubSt O.BLK_CTRL.index O.BLK_CTRL.sub 1) (actBlkCtrl 2))
/-- BLOCK_SELF_TEST_DONE (R346, event 4): a block that fails stays closed with BLK_FAIL. BLK_STATE shows the unit of the last
request. -/
def execBlockSelfTestDone (u : BlkUnit) (pass : Bool) (s : State) : Out :=
  let mine := blkUnit (s.rd hubSt O.BLK_REQ) == some u
  .next (if s.rst.testing.contains u then
    let s := { s with rst := { s.rst with testing := s.rst.testing.filter (· != u) } }
    if pass then (if mine then (s.passUnit u).setBlk 2 0 else s.passUnit u)
    else (if mine then s.setBlk 3 3 else s).raise F.BLK_FAIL hubSt 0 0
  else s)
/-- A reset of a higher level cancels the block resets in progress (R350); a cluster engine's own reset goes on (R146). -/
def State.cancelBlocks (s : State) : State :=
  let l := s.rst.testing.filter (fun u => !blkIsCle u && !s.rst.contained.contains u)
  let s := l.foldl State.openUnit { s with rst := { s.rst with testing := s.rst.testing.filter (fun u => !l.contains u) } }
  if s.rd hubSt O.BLK_STATE / 2 ^ 28 = 1 then s.setBlk 0 4 else s

/-! ### CONTAIN and STOP (R364, R365) -/

/-- A unit is held in its Rind until the record is cleared. -/
def State.holdUnit (s : State) (u : BlkUnit) : State :=
  let s := if s.unitClosed u then s else s.resetUnit u
  { s with rst := { s.rst with contained := if s.rst.contained.contains u then s.rst.contained else s.rst.contained ++ [u] } }

/-- An MR is contained: LATCHED with its cell off, counted as retired until it is cleared. -/
def State.containMr (s : State) (f : FieldId) (c : ClusterId) (m : MrId) : State :=
  let before := s.activeMrs f c
  let r := s.mr f c m
  let old := s
  let s := s.putMr f c m { r with cell := if r.cause = 0 then .off else .retired, limAt := none, limRun := 0, slot := 0, duty := 0, released := false }
  let s := (s.setWState (.mr f c m) .latched).capLost f
  let s := s.putCells f c { s.cellsOf f c with rebuild := true }
  ((s.applyCeiling f c before).parkExhausted f c).hiccupEdge old f c

/-- CONTAIN at a target, for a record of a code (R364). For NET_LINK_CL it takes a cluster that is on from PARKED to LATCHED, after the
station's own park (R53). -/
def State.contain (s : State) (t : Target) (code : Nat) : State :=
  match t with
  | .none => s
  | .mr f c m => s.containMr f c m
  | .cluster f c =>
    let x := s.link (.cl f c)
    match s.cstate f c with
    | .starting | .running | .derated | .holding =>
      if code = F.NET_LINK_CL ∧ x.failed then s.putLink (.cl f c) { x with contain := true } else s.containCluster f c
    | _ => s.containCluster f c
  | .domain d => s.latchDomain d code
  | .field f => s.containField f true
  | .fieldAux f => (s.containField f true).latchDomain (fieldDomain f 7) code
  | .rail r => if isFR r then s.containField (railField r) true else s.latchDomain (fieldDomain (railField r) 7) code
  | .phase r p => s.dropPhase r p 6
  | .converter n =>
    let s := if s.dxState n = 2 then s.capLost (convField n) else s
    (s.dxDisable n 4).dxChanged n
  | .segment k => s.holdUnit (.segment k)
  | .adc f q => s.stopAdc f q
  | .engine e => (s.disableTasks e 0xFF).holdUnit (.engine e)

/-- STOP at a field (R365): its tiles take reason 9 until its Wheel leaves LATCHED. -/
def State.stopField (s : State) (f : FieldId) : State :=
  if s.wstate (.field f) = .latched then s
  else
    let l := if s.flt.stops.contains f.val then s.flt.stops else s.flt.stops ++ [f.val]
    State.containField { s with flt := { s.flt with stops := l } } f false
/-- STOP at a scope: a field, or the die (R365). -/
def State.stopAll (s : State) (scope : Option FieldId) : State :=
  match scope with
  | some f => s.stopField f
  | none => allFields.foldl State.stopField s

/-- Units held for records that have been cleared open, where their self-test has passed (R364). -/
def State.releaseHeld (s : State) : State :=
  s.rst.contained.foldl (fun s u =>
    let t : Target := match u with | .segment k => .segment k | .engine e => .engine e | _ => .none
    if s.targetClear t then
      let s := { s with rst := { s.rst with contained := s.rst.contained.filter (· != u) } }
      if s.unitTested u then s.openUnit u else s
    else s) s

end Sys2Proof.Machine
end

