-- ==== Sys2Proof/Machine/Oparn.lean ====
section
/-!
DEFINITION. Oparn images, their checks, and the firmware banks (chapter Moult, R421-R426, R429).
-/
namespace Sys2Proof.Machine
open Sys2Proof

/-! ### Bytes -/

/-- The little-endian value of `n` bytes of a list from `o` (R11); a byte past its end reads 0. -/
def byteNat (l : List Nat) (o n : Nat) : Nat := (List.range n).foldl (fun v k => v + l.getD (o + k) 0 * 256 ^ k) 0
/-- The `n` bytes of a list from `o`. -/
def byteSlice (l : List Nat) (o n : Nat) : List Nat := (l.drop o).take n
/-- The bytes of a value, least significant first. -/
def natBytes (n v : Nat) : List Nat := (leBytes n v).map BitVec.toNat

/-- A byte of the flash. -/
def State.flashByte (s : State) (a : Nat) : Nat := tblGet 0xFF s.moult.flash a
/-- Bytes of the flash. -/
def State.flashRead (s : State) (a n : Nat) : List Nat := (List.range n).map (fun k => s.flashByte (a + k))
/-- Programming bytes of the flash, as it reads back. -/
def State.flashWrite (s : State) (a : Nat) (l : List Nat) : State :=
  { s with moult := { s.moult with flash := l.zipIdx.foldl (fun t x => tblSet 0xFF t (a + x.2) (x.1 % 256)) s.moult.flash } }
/-- Erasing an area of the flash. -/
def State.flashErase (s : State) (a n : Nat) : State :=
  { s with moult := { s.moult with flash := tblKeep (fun k => !(a ≤ k && k < a + n)) s.moult.flash } }

/-! ### Images (R421, R423) -/

/-- Header fields of R421. -/
def oparnMagic (l : List Nat) : Nat := byteNat l 0x00 4
def oparnType (l : List Nat) : Nat := l.getD 0x05 0
def oparnSvn (l : List Nat) : Nat := l.getD 0x06 0
def oparnKey (l : List Nat) : Nat := l.getD 0x07 0
def oparnLen (l : List Nat) : Nat := byteNat l 0x08 4
def oparnVersion (l : List Nat) : Nat := byteNat l 0x0C 4
/-- The longest image of a TYPE (R421). -/
def oparnLimit (type : Nat) : Nat := if type = 1 then 1048576 else if type = 2 then 262144 else 4096
/-- PAYLOAD (R421). -/
def oparnPayload (l : List Nat) : List Nat := byteSlice l 0x20 (oparnLen l - 225)
/-- The bytes that SIG covers, SLOT_SEQ and CONFIRM taken as ones (R423). -/
def oparnSigned (l : List Nat) : List Nat :=
  l.take 0x10 ++ List.replicate 8 0xFF ++ byteSlice l 0x18 (oparnLen l - 96 - 0x18)

/-- The checks of R423 on an image of a TYPE: the first error, 0 for none. `received` is the number of bytes received where
the image has been transferred. A TOTAL_LEN too short for the fixed fields counts with the first check (assumption 81). -/
def State.oparnError (s : State) (l : List Nat) (type : Nat) (received : Option Nat) : Nat :=
  let n := oparnLen l
  let k := oparnKey l
  let key := byteSlice l (n - 193) 97
  if oparnMagic l ≠ 0x4E52504F ∨ l.getD 0x04 0 ≠ 1 ∨ oparnType l ≠ type ∨ oparnLimit type < n ∨ n < 225
      ∨ received.any (fun r => decide (r ≠ n)) then 4
  else if 4 ≤ k ∨ !bit (s.rd hubSt O.KEY_SLOTS) k ∨ bit (s.rd hubSt O.KEY_REVOKED) k
      ∨ Config.sha384 key ≠ tblGet [] s.moult.keyHash k then 5
  else if !Config.p384 key (Config.sha384 (oparnSigned l)) (byteSlice l (n - 96) 96) then 5
  else if oparnSvn l < s.rd hubSt O.ROLLBACK_CTR then 6
  else 0

/-- The IMAGE_IDs of a manifest's PAYLOAD, where it is well formed (R429). -/
def manifestIds (p : List Nat) : Option (List Nat) :=
  let n := byteNat p 0 2
  let ids := (List.range n).map (fun k => byteNat p (4 + 4 * k) 4)
  if 1 ≤ n ∧ n ≤ 512 ∧ p.length = 4 + 4 * n ∧ ids.Nodup then some ids else none
/-- Installing a manifest (R429): the new list replaces the old one; the Moult log takes an entry. -/
def State.installManifest (s : State) (p : List Nat) : State :=
  match manifestIds p with
  | none => s
  | some ids =>
    let id := crc32 p
    let s := ((({ s with manifest := ids }).wr hubSt O.MANIFEST_ID id).wr hubSt O.MANIFEST_COUNT ids.length)
    s.mltLog 4 0 hubSt 0 id

/-! ### Banks (R426) -/

/-- The flash address of a bank (R353, R426). -/
def State.bankBase (s : State) (b : Nat) : Nat :=
  let w := s.rd hubSt O.OPT1
  if w = 0 then b * 0x0100 * 65536 else (if b = 0 then bits w 31 16 else bits w 15 0) * 65536
/-- SLOT_SEQ and CONFIRM of a bank. -/
def State.bankSeq (s : State) (b : Nat) : Nat := byteNat (s.flashRead (s.bankBase b + 0x10) 4) 0 4
def State.bankConfirm (s : State) (b : Nat) : Nat := byteNat (s.flashRead (s.bankBase b + 0x14) 4) 0 4
/-- Whether a bank is eligible. -/
def State.bankEligible (s : State) (b : Nat) : Bool := s.bankSeq b != 0 && s.bankSeq b != max32
/-- The firmware image of a bank, as far as its header gives its length. -/
def State.bankImage (s : State) (b : Nat) : List Nat :=
  let n := byteNat (s.flashRead (s.bankBase b + 8) 4) 0 4
  s.flashRead (s.bankBase b) (clampNat 0x20 1048576 n)
/-- The manifest of a bank. -/
def State.bankManifest (s : State) (b : Nat) : List Nat :=
  let a := s.bankBase b + 0x300000
  s.flashRead a (clampNat 0x20 4096 (byteNat (s.flashRead (a + 8) 4) 0 4))
/-- Whether a bank's header is erased: it holds no image. -/
def State.bankErased (s : State) (b : Nat) : Bool := (s.flashRead (s.bankBase b) 0x20).all (· == 0xFF)
/-- The bank that the boot ROM chooses. -/
def State.chosenBank (s : State) : Nat :=
  let a := s.bankSeq 0
  let b := s.bankSeq 1
  if s.bankEligible 0 ∧ s.bankEligible 1 then
    if a = 1 ∧ b = 0xFFFFFFFE then 0 else if b = 1 ∧ a = 0xFFFFFFFE then 1 else if a < b then 1 else 0
  else if s.bankEligible 1 then 1 else 0
/-- Programming SLOT_SEQ and CONFIRM of a bank. -/
def State.setBankSeq (s : State) (b v : Nat) : State := s.flashWrite (s.bankBase b + 0x10) (natBytes 4 v)
def State.confirmBank (s : State) (b : Nat) : State := s.flashWrite (s.bankBase b + 0x14) [0, 0, 0, 0]

end Sys2Proof.Machine
end

