-- ==== Sys2Proof/Machine/Trip.lean ====
section
/-!
DEFINITION. The Elytron trip and its restart (chapter Thermal Model, Compensation and Elytron Trip, R308-R315).
-/
namespace Sys2Proof.Machine
open Sys2Proof

def State.putTrip (s : State) (t : Trip) : State := { s with trip := t }
/-- WAIT_OK (R310): RESTART_WAIT has passed since the last trip. -/
def State.waitOk (s : State) : Bool := s.trip.last.all (fun t => decide (t + s.rd hubSt O.RESTART_WAIT * 1000000 ≤ (s.time hubSt)))
/-- INHIBIT (R315): the command inhibit stands, or AUTO_EN is 0. -/
def State.tripInhibit (s : State) : Bool := s.trip.inhibit || s.rd hubSt O.AUTO_EN == 0
/-- THERMTRIP_N is low: from a trip to the restart, and while PENDING or LOCKED is set (R309-R311). -/
def State.thermTrip (s : State) : Bool :=
  s.trip.state == 1 || s.trip.state == 2 || s.trip.state == 4 || s.trip.pending || s.trip.locked

/-- The domains that are on, and not being turned off (R310). -/
def State.onDomains (s : State) : List Nat :=
  (allDomains.filter (fun d => (s.dstate d).isOn && s.dstate d != .stopping)).map Fin.val
/-- The domains that a restart has still to turn on (R310). -/
def State.restartLeft (s : State) : List Nat := (s.job .restart).elim [] (fun j => j.run ++ j.rest)
/-- The restart set at a trip (R310). -/
def State.tripSet (s : State) : List Nat :=
  let on := s.onDomains
  if s.trip.state = 0 then on else (s.trip.set ++ on ++ s.restartLeft).eraseDups

/-- Every turn-on in progress or pending ends with code 2, and no reservation stands (R309). -/
def State.tripCancel (s : State) : State :=
  let s := (s.seq.waiting.filter SeqJob.on).foldl (fun s (j : SeqJob) => s.dropWaiting j.target 2) s
  let s := (s.seq.jobs.filter SeqJob.on).foldl (fun s (j : SeqJob) =>
    match s.job j.target with
    | some k => if k.on then s.closeJob k 2 else s
    | none => s) s
  allFields.foldl (fun s f =>
    (s.putArb f { s.arb f with queue := [], granted := [], amounts := [], roomOn := false }).wr (fSt f) O.C_ROOM 256) s
/-- One domain stops for a trip (R309): its clusters fall at 16/16 mV per sample, or its rail's reference falls. -/
def State.tripDomain (s : State) (d : DomId) : State :=
  if (s.dstate d).isOn then
    let f := domField d
    let s := s.setWState (.domain d) .stopping
    let s := match s.job (.domain d) with | some j => s.setJob { j with step := .falling, rest := [] } | none => s
    if isAux d then
      let r := domRail d
      if s.railSwitching r then let s := s.reanchor r; s.putRail r { s.rail r with tripFall := true } else s
    else
      let s := (domClusters d).foldl (fun s c =>
        let s := s.clusterStop f c
        if s.cstate f c = .stopping then s.putLoop f c { s.loop f c with tripFall := true } else s) s
      s.domainSettle d
  else s
/-- A trip fires (R309, R310). TRIP_TEMP keeps its value at a test trip. -/
def State.fireTrip (s : State) (x : TripFire) : State :=
  let set := s.tripSet
  let locked := s.trip.state == 4
  let s := s.tripCancel
  let s := s.putTrip { s.trip with
    state := if locked then 4 else 1, cause := x.cause, field := x.field, node := x.node, set := set, last := some (s.time hubSt) }
  let s := s.wr hubSt O.TRIP_TIME (s.time hubSt)
  let s := if x.cause = 3 then s else s.wr hubSt O.TRIP_TEMP x.temp
  let s := s.inc32 hubSt O.TRIP_TOTAL
  let s := allFields.foldl State.zeroField s
  let s := allDomains.foldl State.tripDomain s
  let s := if x.cause = 3 then s.raise F.ELYTRON_TRIP hubSt 0 0
    else ((x.field :: s.trip.line).eraseDups).foldl (fun s f => s.raise F.ELYTRON_TRIP hubSt f 0) s
  (allFields.foldl State.judgeField s).drive
/-- ELYTRON_TRIP (R308, R309): the die trip line's rise reaches every field station. -/
def execElytronTrip (s : State) : Out :=
  .next (match s.trip.fires with
  | [] => s
  | x :: rest => (s.putTrip { s.trip with fires := rest }).fireTrip x)

/-- TRIP_RAMPDOWN_DONE (R310): every domain is off after a trip. -/
def execTripRampdownDone (s : State) : Out :=
  let off := allDomains.all (fun d => (s.dstate d).isStopped)
  .next (if s.trip.state = 1 ∧ off then
    if s.trip.windowOpen ∧ 3 ≤ s.rd hubSt O.AUTO_RESTARTS then
      (s.putTrip { s.trip with state := 4, locked := true }).raise F.TRIP_LOCKED hubSt 0 0
    else s.putTrip { s.trip with state := 2 }
  else s)

/-- The restart begins (R310): the restart set, by FIELD_ORDER and the order of R325. -/
def State.beginRestart (s : State) : State :=
  let order := s.seq.fieldOrder.flatMap (fun f => (fieldOrderOf (Fin.ofNat 8 f)).map Fin.val)
  let rest := order.filter s.trip.set.contains
  let s := if s.trip.state = 4 then s.endCondition F.TRIP_LOCKED hubSt 0 else s
  let s := s.putTrip { s.trip with state := 3, locked := false }
  (s.addJob { target := .restart, on := true, origin := .parent, step := .domains, rest := rest }).drive
/-- TRIP_AUTO_RESTART (R310, R311): counted; the first of them opens the window. None while LOCKED is set. -/
def execTripAutoRestart (s : State) : Out :=
  .next (if s.trip.state = 2 ∧ !s.trip.locked ∧ s.coolOk ∧ s.waitOk ∧ !s.tripInhibit then
    let s := s.wr hubSt O.AUTO_RESTARTS (min 3 (s.rd hubSt O.AUTO_RESTARTS + 1))
    let s := if s.trip.windowOpen then s else s.putTrip { s.trip with windowOpen := true, windowStart := (s.time hubSt) }
    s.beginRestart
  else s)
/-- TRIP_RESTART_COMPLETE (R310): every domain requested is up or has failed. -/
def execTripRestartComplete (s : State) : Out :=
  .next (if s.trip.state = 3 ∧ (s.job .restart).isNone then s.putTrip { s.trip with state := 0, set := [] } else s)
/-- RESTART_WINDOW_CLOSE (R311): the 10-minute window closes and AUTO_RESTARTS returns to 0. The backup oscillator times it to
within ±5 %, so the close may come from 570 s on. -/
def execRestartWindowClose (s : State) : Out :=
  let past := (s.time hubSt - s.trip.windowStart) + s.trip.windowPast
  .next (if s.trip.windowOpen ∧ 570000000000 ≤ past then (s.putTrip { s.trip with windowOpen := false }).wr hubSt O.AUTO_RESTARTS 0 else s)
/-- PENDING_CLEAR (R311): COOL_OK holds and RESTART_WAIT has passed since the reset. -/
def execPendingClear (s : State) : Out :=
  .next (if s.trip.pending ∧ s.coolOk ∧ s.trip.resetAt + s.rd hubSt O.RESTART_WAIT * 1000000 ≤ (s.time hubSt) then
    s.putTrip { s.trip with pending := false }
  else s)

/-- A write of TRIP_CTRL (R310, R314). After a reset the LOCKED flag alone also lets code 1 through (assumption 70). -/
def effTripCtrl (v : Nat) : Effect := fun s =>
  if v = 1 then
    if (s.trip.state = 2 ∨ s.trip.state = 4 ∨ s.trip.locked) ∧ s.coolOk ∧ s.waitOk then .ok s.beginRestart else .error .state
  else if v = 2 then .ok (s.putTrip { s.trip with inhibit := true })
  else if v = 3 then .ok (s.putTrip { s.trip with inhibit := false })
  else if v = 4 then .ok (s.putTrip { s.trip with fires := s.trip.fires ++ [⟨3, 0, 0, 0⟩] })
  else .error .value
/-- TRIP_RESTART_CMD (R310). -/
def execTripRestartCmd (slot : Slot) (s : State) : Out := .next (s.writeReq slot hubSt O.TRIP_CTRL 1 (effTripCtrl 1))
/-- TRIP_INHIBIT_SET (R314). -/
def execTripInhibitSet (slot : Slot) (s : State) : Out := .next (s.writeReq slot hubSt O.TRIP_CTRL 1 (effTripCtrl 2))
/-- TRIP_INHIBIT_REMOVE (R314). -/
def execTripInhibitRemove (slot : Slot) (s : State) : Out := .next (s.writeReq slot hubSt O.TRIP_CTRL 1 (effTripCtrl 3))
/-- TRIP_TEST (R314): a trip of cause 3 is fired. -/
def execTripTest (slot : Slot) (s : State) : Out := .next (s.writeReq slot hubSt O.TRIP_CTRL 1 (effTripCtrl 4))

/-- A write of TCRIT (R314): every field unit takes it before the write completes. -/
def effTcrit (v : Nat) : Effect := fun s =>
  let x := ofBits 16 v
  if x < 5760 ∨ s.rdS hubSt O.TCRIT_CAP < x ∨ x - 128 < s.rdS hubSt O.THROTTLE_TEMP
      ∨ allFields.any (fun f => decide (x - 64 < s.rdS (fSt f) O.DERATE_TEMP)) then .error .value
  else .ok (s.wr hubSt O.TCRIT v)
/-- TCRIT (R314). -/
def execTcrit (slot : Slot) (v : BitVec 16) (s : State) : Out := .next (s.writeReq slot hubSt O.TCRIT 2 (effTcrit v.toNat))
/-- A write of DERATE_TEMP (R313). -/
def effDerateTemp (f : FieldId) (v : Nat) : Effect := fun s =>
  let x := ofBits 16 v
  if s.rdS hubSt O.THROTTLE_TEMP + 64 ≤ x ∧ x ≤ s.tcrit - 64 then .ok (s.wr (fSt f) O.DERATE_TEMP v) else .error .value
/-- A write of T_COOL or RESTART_TEMP, signed with a range (R314). -/
def effSigned (st : Nat) (o : Obj) (lo hi : Int) (v : Nat) : Effect := fun s =>
  if lo ≤ ofBits 16 v ∧ ofBits 16 v ≤ hi then .ok (s.wr st o v) else .error .value

end Sys2Proof.Machine
end

