-- ==== Sys2Proof/Machine/Supplies.lean ====
section
/-!
DEFINITION. Requests to the sequencer and the ends of its waits, and VIO18 (chapter Supplies, Start-Up and Domain
Sequencing).
-/
namespace Sys2Proof.Machine
open Sys2Proof

/-! ### Requests (R322, R323, R336) -/

/-- An intrusive instruction of the test access port stands (R452). -/
def State.tapIntrusive (s : State) : Bool :=
  match s.tap.instr with | .extest | .clamp | .highz | .loopback => true | _ => false
/-- A write of SEQ_ARM (R322). -/
def effSeqArm (v : Nat) : Effect := fun s =>
  if v = 1 then
    if s.tapIntrusive then .ok s
    else .ok { s with seq := { s.seq with armed := true }, rst := { s.rst with configured := true } }
  else if v = 0 then .ok { s with seq := { s.seq with armed := false } }
  else .error .value
/-- SEQ_ARM (R322): disarming leaves what is on. -/
def execSeqArm (slot : Slot) (v : Byte) (s : State) : Out := .next (s.writeReq slot hubSt O.SEQ_ARM 1 (effSeqArm v.toNat))

/-- The target of a request word (R336); none where it is rejected. -/
def seqReqTarget (w : Nat) : Option (SeqTarget × Bool) :=
  let op := bits w 31 28
  let n := bits w 7 0
  if (op = 1 ∨ op = 2) ∧ n < 64 then some (.domain (Fin.ofNat 64 n), op == 1)
  else if (op = 3 ∨ op = 4) ∧ n < 8 then some (.field (Fin.ofNat 8 n), op == 3)
  else if (op = 5 ∨ op = 6) ∧ n = 0 then some (.die, op == 5)
  else none
/-- A write of SEQ_REQ: the result is in SEQ_RESULT (R323). -/
def effSeqReq (slot : Slot) (w : Nat) : Effect := fun s =>
  match seqReqTarget w with
  | none => .error .value
  | some (t, on) => .ok (s.submit t on (.session slot) false).1.drive
/-- A request word. -/
def seqReqWord (op n : Nat) : Nat := op * 2 ^ 28 + n
/-- SEQ_REQ as a request of a session. -/
def seqReq (slot : Slot) (op n : Nat) (s : State) : Out :=
  .next (s.writeReq slot hubSt O.SEQ_REQ 4 (effSeqReq slot (seqReqWord op n)))
/-- DOMAIN_ON (R323, R328). -/
def execDomainOn (slot : Slot) (d : DomId) (s : State) : Out := seqReq slot 1 d.val s
/-- DOMAIN_OFF (R331). -/
def execDomainOff (slot : Slot) (d : DomId) (s : State) : Out := seqReq slot 2 d.val s
/-- FIELD_ON (R325). -/
def execFieldOn (slot : Slot) (f : FieldId) (s : State) : Out := seqReq slot 3 f.val s
/-- FIELD_OFF (R332). -/
def execFieldOff (slot : Slot) (f : FieldId) (s : State) : Out := seqReq slot 4 f.val s
/-- DIE_ON (R327). -/
def execDieOn (slot : Slot) (s : State) : Out := seqReq slot 5 0 s
/-- DIE_OFF (R332). -/
def execDieOff (slot : Slot) (s : State) : Out := seqReq slot 6 0 s

/-- A write of FIELD_ORDER (R326): a permutation that places every inner field after its edge neighbour. -/
def effFieldOrder (l : List Byte) : Effect := fun s =>
  let n := l.map BitVec.toNat
  if l.length ≠ 8 then .error .length
  else if n.Nodup ∧ n.all (fun k => decide (k < 8)) ∧ allFields.all (fun f => match edgeOf f with
      | none => true
      | some e => decide (n.idxOf e.val < n.idxOf f.val)) then
    .ok { s with seq := { s.seq with fieldOrder := n } }
  else .error .value
/-- A write of EDGE_WAIVE (R16, R335): ones in the reserved bits 0, 3, 4 and 7 are ignored. -/
def effEdgeWaive (v : Nat) : Effect := fun s => .ok (s.wr hubSt O.EDGE_WAIVE (v &&& 0x66))

/-! ### The ends of the sequencer's waits -/

/-- Whether a cluster takes part in its domain's turn-on (R328, R330). -/
def State.taking (s : State) (f : FieldId) (c : ClusterId) : Bool := !s.clusterOut f c
/-- A cluster meets the completion condition of R328: it has left STARTING, and MIN has kept within the band for 10 µs. -/
def State.clusterGood (s : State) (f : FieldId) (c : ClusterId) : Bool :=
  (s.cstate f c).isUp
    && decide (s.rdRaw (clSt f c) 0x2010 4 ≤ s.rd (clSt f c) O.MIN_NOW + s.rd hubSt O.DOM_PG_BAND)
    && (s.loop f c).goodFrom.any (fun t => decide (t + 10000 ≤ s.time hubSt))
/-- DOMAIN_POWER_GOOD (R328): every active cluster has left STARTING and has held MIN for 10 µs. -/
def execDomainPowerGood (d : DomId) (s : State) : Out :=
  let f := domField d
  let good := ((domClusters d).filter (s.taking f)).all (s.clusterGood f)
  .next (match s.job (.domain d) with
  | some j => if j.on && j.step == .ramping && !isAux d && good then (s.domainDone d).drive else s
  | none => s)
/-- DOMAIN_START_TIMEOUT (R328): DOM_SS_TIMEOUT has passed since the clusters started; they turn off, and the domain latches. -/
def execDomainStartTimeout (d : DomId) (s : State) : Out :=
  let f := domField d
  .next (match s.job (.domain d) with
  | some j =>
    if j.on && j.step == .ramping && !isAux d && decide (j.since + s.rd hubSt O.DOM_SS_TIMEOUT ≤ s.time hubSt) then
      let s := ((domClusters d).filter (s.taking f)).foldl (fun s c => s.clusterHalted f c) s
      ((s.raise F.DOM_START_FAIL hubSt d.val 0).latchDomain d F.DOM_START_FAIL).drive
    else s
  | none => s)
/-- STOP_DRAIN has passed since a domain's turn-off was accepted (R331). -/
def State.drainDue (s : State) (d : DomId) : Bool :=
  !isAux d && s.seq.drains.any (fun x => x.1 == d.val && decide (x.2 + s.rd hubSt O.STOP_DRAIN ≤ s.time hubSt))
/-- STOP_DRAIN_EXPIRE (R331): the domain's clusters enter STOPPING, once its dependants are off; a start accepted in the meantime waits
for its reservation while the domain falls. -/
def execStopDrainExpire (d : DomId) (s : State) : Out :=
  .next (if !s.drainDue d then s
  else
    match s.job (.domain d) with
    | some j =>
      if j.on then (if s.dstate d = .stopping then (s.domainFall d).drive else s)
      else if j.step == .draining then ((s.setJob { j with step := .falling }).domainFall d).drive
      else s
    | none => if s.dstate d = .stopping then (s.domainFall d).drive else s)
/-- A rail reads below 50 mV (R331). -/
def State.railEmpty (s : State) (r : RailId) : Bool := decide (s.vFb r < 50000000000)
/-- AUX_RAIL_DISCHARGED (R331): AX, turned off, reads below 50 mV. -/
def execAuxRailDischarged (f : FieldId) (s : State) : Out :=
  let d := fieldDomain f 7
  .next (if s.dstate d = .stopping ∧ !s.railLive (axRail f) ∧ s.railEmpty (axRail f) then
    ((s.setWState (.domain d) .stopped).judgeField f).drive
  else s)
/-- FIELD_RAIL_DISCHARGED (R331): a field rail turned off reads below 50 mV. -/
def execFieldRailDischarged (f : FieldId) (s : State) : Out :=
  .next (if s.wstate (.field f) = .stopping ∧ !s.railLive (frRail f) ∧ s.railEmpty (frRail f) then
    ((s.setWState (.field f) .stopped).judgeDie).drive
  else s)

/-! ### VIO18 (R318) -/

/-- A Wheel that is not LATCHED is placed in STOPPED. -/
def State.stopUnlatched (s : State) (w : WheelRef) : State := if s.wstate w = .latched then s else s.setWState w .stopped
/-- The requests in progress when VIO18 is lost: turn-ons of domains end with code 5, those of fields with code 3, their Wheels back in
STOPPED; those of the die and a restart have nothing left to start, and turn-offs wait for nothing more (assumption 105). -/
def State.jobsUnpowered (s : State) : State :=
  let s := allDomains.foldl (fun s d =>
    match s.job (.domain d) with
    | some j => if j.on then s.closeJob j 5 else s.setJob { j with step := .falling, rest := [] }
    | none => s) s
  let s := allFields.foldl (fun s f =>
    match s.job (.field f) with
    | some j =>
      if j.on then (if s.wstate (.field f) = .starting then s.setWState (.field f) .stopped else s).closeJob j 3 else s
    | none => s) s
  [SeqTarget.die, .restart].foldl (fun s t =>
    match s.job t with
    | some j => if j.on then s.setJob { j with rest := [] } else s
    | none => s) s
/-- Rails and cells stop at once (R318). -/
def State.outputsOff (s : State) : State :=
  let s := (List.finRange 16).foldl (fun s r =>
    let s := s.railOff r 0
    s.putRail r { s.rail r with stgEn := false, stgDrop := false }) s
  let s := allFields.foldl (fun s f => allClusters.foldl (fun s c =>
    if s.clusterOut f c then s.cellsOff f c else s.clusterHalted f c) s) s
  let s := allDomains.foldl (fun s d => s.stopUnlatched (.domain d)) s
  (allFields.foldl (fun s f => s.stopUnlatched (.field f)) s).stopUnlatched .die
/-- VIO18_LOSS (R316, R318): the turn-ons end; with any rail switching every tile is zeroed, and
the cells, the rails and the Wheels stop. -/
def execVio18Loss (s : State) : Out :=
  .next (if !s.supply.vio18 then s
  else
    let live := (List.finRange 16).any s.railSwitching
    let s := { s with
      supply := { s.supply with vio18 := false }, tap := {}
      adcs := (s.adcs.map (fun (e : Nat × AdcRec) => (e.1, e.2.pinsOff))).filter (fun e => decide (e.2 ≠ ({} : AdcRec))) }
    let s := s.jobsUnpowered
    if live then
      let s := s.outputsOff
      let s := { s with seq := { s.seq with drains := [] } }
      let s := allFields.foldl State.zeroField s
      (s.raise F.SUP_VIO_LOST hubSt 0 0).drive
    else s.drive)

end Sys2Proof.Machine
end

