-- ==== Sys2Proof/Machine/Reset.lean ====
section
/-!
DEFINITION. Resets, boot and option loading (chapter Reset, Boot and Option Loading), and the supplies of R316 that bring them.
-/
namespace Sys2Proof.Machine
open Sys2Proof

/-! ### What a reset spares (R311, R338, R349) -/

/-- Stored objects of the backup domain. -/
def backupObj (st idx sub : Nat) : Bool :=
  st == 0 && ((idx == 0x1200 && (sub == 1 || sub == 3 || sub == 5)) || idx == 0x1201
    || (idx == 0x2C80 && (sub == 0xA || sub == 0xB)) || (idx == 0x1500 && sub == 5))
/-- Objects that read fuses, or the part. -/
def fuseObj (st idx sub : Nat) : Bool :=
  (st == 0 && ((idx == 0x1001 && (sub == 3 || sub == 4 || sub == 5 || sub == 9)) || (idx == 0x1500 && (sub == 8 || sub == 9 || sub == 10))
    || (idx == 0x2C80 && sub == 2)))
  || (ownBit st == 4 && 0x2310 ≤ idx && idx < 0x2330 && sub == 6)
  || (0x1440 ≤ idx && idx < 0x1480 && sub == 4)
/-- A bank of a trace unit (R383): B00-B03 at the hub, B00-B01 at a field station. -/
def traceBank (st b : Nat) : Bool := if st = 0 then b < 4 else b < 2
/-- Objects of the debug logic and of its banks, and BLK_COUNT (R338, R358). -/
def debugObj (st idx sub : Nat) : Bool :=
  idx == 0x2460 || idx == 0x2461 || (0x1440 ≤ idx && idx < 0x1480 && traceBank st (idx - 0x1440))
    || (st == 0 && idx == 0x1210 && sub == 4)
/-- A byte of a trace bank, by its key. -/
def traceByte (k : Nat) : Bool := if k / 2 ^ 32 = 0 then k < 0x20000 else k % 2 ^ 32 < 0x8000
/-- COL_MAP without soft repairs (R391). -/
def fusedMap (fused map : Nat) : Nat :=
  leNat ((List.range 4).map (fun k => BitVec.ofNat 8 (if bit fused k then map / 256 ^ k % 256 else 0xFF)))
/-- The columns replaced at test stay in COL_MAP (R398); a system reset leaves the trace banks out, which keep all of theirs. -/
def State.keepFused (s : State) (old : Tbl Nat) : State :=
  old.foldl (fun s e =>
    let st := e.1 / 0x1000000
    let idx := e.1 / 0x100 % 0x10000
    if 0x1440 ≤ idx ∧ idx < 0x1480 ∧ e.1 % 0x100 = 6 then
      s.wrRaw st idx 6 (fusedMap (s.rdRaw st idx 4) e.2)
    else s) s

/-- What a system reset leaves of the tiles (R347): the code-0 words of reason 9 that the shutdown stage put into every crossing, and the
word that each tile took last. -/
def State.shutTiles (s : State) : Tbl TileRec :=
  allFields.foldl (fun l f => allTiles.foldl (fun l t =>
    let y := pushWord (s.tile f t) (tokenWord (s.window f) 9 true false 0)
    tblSet {} l (f.val * 16 + t.val) { words := y.words, waiting := y.waiting, taken := y.taken }) l) []
/-- The state in a reset of level 0 or 1 (R338): everything at its reset value but what the level spares. The pending flag of the
trip is set where a trip was in progress (R311). -/
def State.resetTo (s : State) (level : Nat) (causes : List Nat) : State :=
  let sys := level == 1
  let keep (k : Nat) : Bool :=
    let st := k / 0x1000000
    let idx := k / 0x100 % 0x10000
    let sub := k % 0x100
    backupObj st idx sub || fuseObj st idx sub || (sys && debugObj st idx sub)
  let t := s.trip
    let trip : Trip :=
    { pending := t.pending || t.state == 1 || t.state == 2 || t.state == 3
      locked := t.locked
      windowOpen := t.windowOpen
      windowStart := if sys then t.windowStart else 0
      windowPast := if sys ∨ !t.windowOpen then t.windowPast else t.windowPast + ((s.time hubSt) - t.windowStart)
      resetAt := if sys then s.time hubSt else 0 }
  let r : State := { State.reset with
    pending := s.pending
    now := if sys then s.now else 0
    skew := if sys then s.skew else []
    free := s.free
    regs := tblKeep keep s.regs
    blobs := tblKeep keep s.blobs
    traces := if sys then (s.traces.map (fun e => (e.1, { e.2 with closed := false }))).filter (fun e => decide (e.2 ≠ {})) else []
    tiles := if sys then s.shutTiles else []
    mem := if sys then tblKeep traceByte s.mem else []
    poison := if sys then s.poison.filter (fun k => traceByte (8 * k)) else []
    trip := trip
    supply := { s.supply with bakLost := false, aonOut := sys && s.supply.aonOut }
    tap := if sys then s.tap else {}
    moult := { flash := s.moult.flash, otpImage := s.moult.otpImage, keyHash := s.moult.keyHash, eta := s.moult.eta }
    rst := { held := some level, causes := causes, heldAt := if sys then s.time hubSt else 0 } }
  r.keepFused (if sys then s.regs.filter (fun e => !debugObj (e.1 / 0x1000000) (e.1 / 0x100 % 0x10000) 6) else s.regs)

/-! ### Taking a reset (R347, R349, R350) -/

/-- A cause is counted (R349). -/
def State.countCause (s : State) (cause : Nat) : State := s.inc16 hubSt (O.CAUSE_COUNT.nth (cause - 1))
/-- RESET_CAUSE and RESET_FAULT. -/
def State.setCause (s : State) (cause fault : Nat) : State :=
  (s.wr hubSt O.RESET_CAUSE cause).wr hubSt O.RESET_FAULT fault
/-- A power-on or system reset is taken: a power-on reset at once, a system reset through the whole shutdown stage. While one
stands, a second system source is absorbed. A reset counts once; every other cause met before release counts once. -/
def State.takeReset (s : State) (level cause fault : Nat) : State :=
  let p := s.rst
  let fresh := p.held.isNone || (level == 0 && p.held == some 0 && !p.causes.any (fun c => c == 1 || c == 2))
  let known := !fresh && p.causes.contains cause
  let higher := fresh || p.held.any (fun h => decide (level < h))
  let at' := p.held.elim level (min level)
  let causes := if fresh then cause :: p.causes else if known then p.causes else p.causes ++ [cause]
  let s := if level = 0 ∨ p.held.isNone then s.resetTo level causes else { s with rst := { p with causes := causes } }
  let s := if fresh then s.inc32 hubSt O.RESET_COUNT else s
  let s := if higher then s.setCause cause fault else s
  let s := if known then s else s.countCause cause
  s.wr hubSt O.RESET_LEVEL at'
/-- A system reset with its cause, and the fault code for causes 6 and 7; the block has its supply. -/
def State.systemReset (s : State) (cause fault : Nat) : State := if s.supply.vstby then s.takeReset 1 cause fault else s

/-! ### Boot (R351-R356) -/

/-- BOOTSRC, CLKMODE and FALLBACK_EN as latched (R351, R353): OPTSRC 0 takes the first two from the straps. A reserved BOOTSRC
reads 3 here. -/
def State.bootOpts (s : State) : Nat × Bool × Bool :=
  let p := s.rd hubSt O.STRAPS
  let w := s.rd hubSt O.OPT0
  if bit p 0 then
    if bits w 31 24 = 0xA5 then (bits w 23 22, bit w 21, bit w 20) else (1, false, true)
  else (bits p 2 1, bit p 3, true)
/-- The sources in order (R355): 0 and 1 the banks, 2 the OTP image, 3 MCTP recovery. -/
def State.bootList (s : State) : List Nat :=
  let o := s.bootOpts
  let c := s.chosenBank
  let l := match o.1 with
    | 1 => [c, 1 - c] ++ (if s.moult.otpImage = [] then [] else [2]) ++ [3]
    | 0 => [2, 3]
    | _ => [3]
  if o.2.2 then l else l.take 1
def State.putBoot (s : State) (b : BootRec) : State := { s with rst := { s.rst with boot := b } }
/-- A source has failed: BOOT_FAIL, and its error. -/
def State.bootFailed (s : State) (err : Nat) : State :=
  (s.putBoot { s.rst.boot with err := err }).raise F.BOOT_FAIL hubSt 0 0
/-- The boot ROM takes the first source of a list; an SPI master held in reset fails it at once (R356). With none left it halts. -/
def bootNext : List Nat → State → State
  | [], s => s.putBoot { s.rst.boot with stage := 6, rest := [] }
  | x :: r, s =>
    let b := s.rst.boot
    let s := s.putBoot { b with stage := if x = 3 then 5 else 2, src := if x = 2 then 0 else if x = 3 then 2 else 1,
                                bank := if x = 1 then 1 else 0, cur := x, rest := r }
    if x ≤ 1 ∧ bit s.rst.clkStuck 1 then
      let s := s.bootFailed 7
      bootNext r (if r = [] then s else s.putBoot { s.rst.boot with fallback := true })
    else s
/-- The source in progress fails, and the next one is tried. -/
def State.sourceFails (s : State) (err : Nat) : State :=
  let s := s.bootFailed err
  let r := s.rst.boot.rest
  bootNext r (if r = [] then s else s.putBoot { s.rst.boot with fallback := true })
/-- The interfaces whose clock-good the core's start waits for have it, or have been given up (R356). -/
def State.clocksSettled (s : State) : Bool :=
  (List.range 5).all (fun n => (n == 0 && (!s.bootOpts.2.1 || s.rst.refSeen)) || bit (s.rd hubSt O.CLK_GOOD) n || bit s.rst.clkStuck n)
/-- The boot ROM starts once the clocks are settled. -/
def State.tryBoot (s : State) : State :=
  if s.rst.boot.stage = 1 ∧ s.clocksSettled then bootNext s.rst.boot.rest s else s
/-- The core is released: its watchdog runs with 2,000 ms, and the boot begins (R344, R355). -/
def State.startCore (s : State) (err : Nat) (blank : Bool) : State :=
  let s := { s with rst := { s.rst with coreUp := false, trialDue := none, wdogDue := some ((s.time hubSt) + 2000000000) } }
  (s.putBoot { stage := 1, err := err, optBlank := blank, rest := s.bootList }).tryBoot

/-- The straps are sampled and the option words loaded (R351-R353); a word with an uncorrectable error is taken as blank. -/
def State.loadOptions (s : State) (straps : Nat) (o0 o1 : Option (BitVec 32)) : State :=
  let s := { s with rst := { s.rst with strapWait := false } }
  let s := s.wr hubSt O.STRAPS (straps % 16)
  let word (o : Option (BitVec 32)) : Nat := if bit straps 0 then o.elim 0 BitVec.toNat else 0
  let s := (s.wr hubSt O.OPT0 (word o0 / 512 * 512)).wr hubSt O.OPT1 (word o1)
  let bad := bit straps 0 && (o0.isNone || o1.isNone)
  let s := if bad then s.raise F.BOOT_OPT_ERR hubSt 0 0 else s
  let rsvd := s.bootOpts.1 == 3
  let s := if rsvd then s.raise F.BOOT_SRC_RSVD hubSt 0 0 else s
  s.startCore (if rsvd then 2 else if bad then 1 else 0) (bit straps 0 && bits (word o0) 31 24 != 0xA5)

/-- The recovery buffer, hub banks B24-B55 (R434). -/
def recoveryBase : Nat := 0xC0000
def recoveryBanks : List Nat := (List.range 32).map (24 + ·)
/-- The recovery buffer returns to the paging unit, zeroed, before the first firmware instruction. -/
def State.returnBuffer (s : State) : State :=
  if s.moult.buffer then
    let inBuf (k : Nat) : Bool := recoveryBase ≤ k && k < recoveryBase + 0x100000
    let s := { s with
      mem := tblKeep (fun k => !inBuf k) s.mem, poison := s.poison.filter (fun k => !inBuf (8 * k)), moult := { s.moult with buffer := false } }
    recoveryBanks.foldl (fun s b => s.wr hubSt (O.OWNER.at b) 0x5000) s
  else s
/-- The dictionary image of a bank (R426). -/
def State.bankDict (s : State) (b : Nat) : List Nat :=
  let a := s.bankBase b + 0x200000
  s.flashRead a (clampNat 0x20 262144 (byteNat (s.flashRead (a + 8) 4) 0 4))
/-- Firmware reads and checks the dictionary image of the bank it booted from, and stages it in the dictionary server's banks (R383,
R426). The spec gives its payload no format: the objects it sets are written by requests of slot 0 (assumption 96). -/
def State.bootDict (s : State) (b : Nat) : State :=
  if oparnMagic (s.flashRead (s.bankBase b + 0x200000) 4) ≠ 0x4E52504F then s
  else
    let l := s.bankDict b
    if s.oparnError l 2 none = 0 then s.putPad hubSt 0x1C0000 l else s
/-- What the Moult record shows of the running image; `code` is ACTIVE_BANK (R422, R436). -/
def State.showImage (s : State) (img : List Nat) (code seq : Nat) (confirmed : Bool) : State :=
  let s := (s.wr hubSt O.ACTIVE_BANK code).wr hubSt O.ACTIVE_SEQ seq
  let s := (s.wr hubSt O.ACTIVE_SVN (oparnSvn img)).wr hubSt O.CONFIRMED (if confirmed then 1 else 0)
  let s := s.wr hubSt O.FW_VERSION (oparnVersion img)
  { s with moult := { s.moult with activeKey := some (oparnKey img) } }
/-- A trial begins (R428). -/
def State.startTrial (s : State) : State :=
  let s := s.wr hubSt O.TRIAL_BOOTS (min 2 (s.rd hubSt O.TRIAL_BOOTS + 1))
  let due := (s.time hubSt) + s.rd hubSt O.CONFIRM_TIME * 1000000
  { s with rst := { s.rst with trialDue := some due } }
/-- The manifest of a bank is installed, where it passes its checks. -/
def State.bootManifest (s : State) (b : Nat) : State :=
  let m := s.bankManifest b
  if s.oparnError m 3 none = 0 then s.installManifest (oparnPayload m) else s
/-- Firmware starts from an image (R426-R428): an unconfirmed bank in trial. After a power-on or system reset the dictionary image of
the bank is taken, and its manifest is installed. -/
def State.startFirmware (s : State) (img : List Nat) (code seq : Nat) (confirmed : Bool) : State :=
  let s := s.returnBuffer.showImage img code seq confirmed
  let s := s.putBoot { s.rst.boot with stage := 4 }
  let s := if confirmed then s else s.startTrial
  if s.rd hubSt O.RESET_LEVEL = 2 ∨ 2 ≤ code then s else (s.bootDict code).bootManifest code

/-- A bank that has been started twice and not confirmed is invalidated, and the other one boots (R428). -/
def State.revertBank (s : State) (b : Nat) : State :=
  let s := (s.setBankSeq b 0).wr hubSt O.TRIAL_BOOTS 0
  let s := (s.raise F.MLT_REVERT hubSt 0 0).mltLog 2 0 hubSt 0 0
  bootNext ((1 - b) :: s.rst.boot.rest.filter (fun x => x != 1 - b)) s

/-- BOOT_SOURCE_DONE (R355, R423, R428): the boot ROM has read and checked the image of its source; `answered` says whether the
flash answered, which it does not while the SPI pins are not driven (R439). -/
def execBootSourceDone (answered : Bool) (s : State) : Out :=
  let b := s.rst.boot
  .next (if b.stage ≠ 2 then s
  else if b.cur = 2 then
    let img := s.moult.otpImage
    let err := if img = [] then 3 else s.oparnError img 1 none
    if err = 0 then s.startFirmware img 2 0 true else s.sourceFails err
  else
    let img := s.bankImage b.cur
    let err := if !answered ∨ !s.pinsLive then 7 else if s.bankErased b.cur then 3 else s.oparnError img 1 none
    let confirmed := s.bankConfirm b.cur == 0
    if err ≠ 0 then s.sourceFails err
    else if !confirmed ∧ !b.fallback ∧ 2 ≤ s.rd hubSt O.TRIAL_BOOTS then s.revertBank b.cur
    else s.startFirmware img b.cur (s.bankSeq b.cur) confirmed)
/-- FIRMWARE_READY (R339). -/
def execFirmwareReady (s : State) : Out :=
  .next (if s.rst.held.isNone ∧ s.rst.boot.stage = 4 then { s with rst := { s.rst with coreUp := true } } else s)

/-! ### The core reset (R338, R339, R350) -/

/-- Transfers of firmware-served objects end with busy (R339). -/
def State.endServed (s : State) : State :=
  s.abortXfers (fun x => firmwareServed x.station.toNat x.index.toNat x.sub.toNat) .busy
/-- The tasks and programs of the hub's general engines are cleared. -/
def State.clearHubEngines (s : State) : State :=
  let s := s.clearRegs (fun a idx _ => a == hubSt && ((0x2440 ≤ idx && idx < 0x2450) || (0x2480 ≤ idx && idx < 0x2500)))
  let bare (e : Nat × EngRec) : Nat × EngRec :=
    if 216 ≤ e.1 then (e.1, { failed := e.2.failed, closed := e.2.closed, tested := e.2.tested }) else e
  let l := (s.engines.map bare).filter (fun e => decide (e.2 ≠ {}))
  { s with engines := l }
/-- A reset above block level gives an interface that was held in reset a new wait for its clock-good (R356). -/
def State.clocksAnew (s : State) : State :=
  (List.range 6).foldl (fun s n =>
    if bit s.rst.clkStuck n then
      ({ s with rst := { s.rst with clkStuck := s.rst.clkStuck - 2 ^ n, clkFrom := tblSet 0 s.rst.clkFrom n (s.time hubSt) } }).endCondition
        F.CLK_GOOD_TIMEOUT hubSt n
    else s) s
/-- A core reset (R338): absorbed in a higher one. The image transfer in progress is lost, a trip in progress leaves PENDING, and
the boot repeats from the latched options. -/
def State.coreReset (s : State) (cause : Nat) : State :=
  if s.rst.held.isSome then s
  else
    let s := ((s.inc32 hubSt O.RESET_COUNT).countCause cause).setCause cause 0
    let s := (s.wr hubSt O.RESET_LEVEL 2).wr hubSt O.RESET_RELEASE (s.time hubSt)
    let s := s.clearHubEngines.endServed.cancelBlocks.clocksAnew
    let s := s.clearRegs (fun a idx _ => a == hubSt && idx == 0x1510)
    let s := { s with moult := { s.moult with ops := [], manifest := [] } }
    let t := s.trip
    let s := { s with trip := { t with pending := t.pending || t.state == 1 || t.state == 2 || t.state == 3, resetAt := (s.time hubSt) } }
    let s := { s with rst := { s.rst with armed := false } }
    if s.rst.strapWait then s else s.startCore (if s.bootOpts.1 = 3 then 2 else 0) s.rst.boot.optBlank

/-! ### Commands -/

/-- The backup contents after a loss of both supplies: zero (R317). -/
def State.zeroBackup (s : State) : State :=
  let s := s.clearRegs backupObj
  { s with trip := { s.trip with pending := false, locked := false, windowOpen := false, windowStart := 0, windowPast := 0 } }
/-- POWER_ON_RESET (R317, R341): AON enters range after VSTBY arrives, or a brownout while VSTBY is present. Backup contents that
are lost are zeroed before the reset is counted. After a brownout AON has still to come back into its range. -/
def execPowerOnReset (brownout : Bool) (s : State) : Out :=
  let cause := if brownout ∧ s.supply.vstby then 2 else 1
  let lost := !s.supply.backupValid
  let s := { s with supply := { s.supply with vstby := true, backupValid := true } }
  let s := (if lost then s.zeroBackup else s).takeReset 0 cause 0
  let s := { s with supply := { s.supply with aonOut := decide (cause = 2) } }
  .next (if lost then
    ({ s with supply := { s.supply with bakLost := true } }).raise F.SUP_BAK_LOST hubSt 0 0
  else s)
/-- VSTBY_LOSS (R316, R319): AON goes down; the block stops, and its backup domain goes over to VBAK. -/
def execVstbyLoss (s : State) : Out :=
  let s := s.resetTo 0 []
  .next { s with supply := { s.supply with vstby := false, backupValid := s.supply.backupValid && s.supply.vbak } }
/-- VBAK_LOSS (R316, R317). -/
def execVbakLoss (s : State) : Out :=
  .next { s with supply := { s.supply with vbak := false, backupValid := s.supply.backupValid && s.supply.vstby } }
/-- VBAK_RETURN (R316). -/
def execVbakReturn (s : State) : Out := .next { s with supply := { s.supply with vbak := true } }
/-- AON_RANGE (R341): the out-of-range band, without a reset. -/
def execAonRange (s : State) : Out :=
  .next (if s.supply.aonOut then s
  else ({ s with supply := { s.supply with aonOut := true } }).raise F.AON_RANGE hubSt 0 0)
/-- AON_IN_RANGE (R341). -/
def execAonInRange (s : State) : Out :=
  let rst := if s.rst.held = some 0 then { s.rst with heldAt := s.time hubSt } else s.rst
  .next (if s.supply.aonOut then ({ s with supply := { s.supply with aonOut := false }, rst := rst }).endCondition F.AON_RANGE hubSt 0
  else s)
/-- RESET_PIN (R343, R439): the pin is taken as high while VIO18 is absent. -/
def execResetPin (s : State) : Out := .next (if s.supply.vio18 then s.systemReset 3 0 else s)
/-- A write of RESET_ARM (R358). -/
def effResetArm (v : Nat) : Effect := fun s =>
  if v = 1 then .ok { s with rst := { s.rst with armed := true, armedAt := s.time hubSt } } else if v = 0 then .ok s else .error .value
/-- RESET_ARM (R358). -/
def execResetArm (slot : Slot) (v : Byte) (s : State) : Out := .next (s.writeReq slot hubSt O.RESET_ARM 1 (effResetArm v.toNat))
/-- RESET_ARM_EXPIRE (R358): 1 ms after RESET_ARM the arming lapses. -/
def execResetArmExpire (s : State) : Out :=
  .next (if s.rst.armedAt + 1000000 ≤ s.time hubSt then { s with rst := { s.rst with armed := false } } else s)
/-- A write of RESET_CTRL (R358): unarmed it is refused whatever its value (R406). -/
def effResetCtrl (v : Nat) : Effect := fun s =>
  if !s.rst.armed ∨ s.rst.armedAt + 1000000 ≤ s.time hubSt then .error .state
  else if v ≠ 1 ∧ v ≠ 2 then .error .value
  else if v = 1 then .ok (s.coreReset 5)
  else .ok (s.systemReset 4 0)
/-- CORE_RESET_CMD (R338). -/
def execCoreResetCmd (slot : Slot) (s : State) : Out := .next (s.writeReq slot hubSt O.RESET_CTRL 1 (effResetCtrl 1))
/-- SYSTEM_RESET_CMD (R347). -/
def execSystemResetCmd (slot : Slot) (s : State) : Out := .next (s.writeReq slot hubSt O.RESET_CTRL 1 (effResetCtrl 2))
/-- The wait before a reset may be released is over: 1 ms with AON in range after a power-on reset (R341), 100 µs after a system reset
was applied (R347). -/
def State.releaseDue (s : State) : Bool :=
  decide (s.rst.heldAt + (if s.rst.held = some 0 then 1000000 else 100000) ≤ s.time hubSt) && !(s.rst.held == some 0 && s.supply.aonOut)
/-- RESET_RELEASE (R347, R440): the reset is released; without VIO18 the straps wait for it. -/
def execResetRelease (straps : BitVec 4) (opt0 opt1 : Option (BitVec 32)) (s : State) : Out :=
  .next (if s.rst.held.isNone ∨ !s.supply.vstby ∨ !s.releaseDue then s
  else
    let s := { s with rst := { s.rst with held := none, causes := [], releasedAt := s.time hubSt } }
    let s := s.wr hubSt O.RESET_RELEASE (s.time hubSt)
    if s.supply.vio18 then s.loadOptions straps.toNat opt0 opt1
    else { s with rst := { s.rst with strapWait := true } })
/-- VIO18_PRESENT (R316, R318, R440): straps that waited are sampled. -/
def execVio18Present (straps : BitVec 4) (opt0 opt1 : Option (BitVec 32)) (s : State) : Out :=
  .next (if s.supply.vio18 then s
  else
    let s := ({ s with supply := { s.supply with vio18 := true } }).endCondition F.SUP_VIO_LOST hubSt 0
    if s.rst.strapWait then s.loadOptions straps.toNat opt0 opt1 else s)
/-- RESET_STRETCH_END (R348): RST_STRETCH has passed since the release. -/
def execResetStretchEnd (s : State) : Out :=
  .next (if s.rst.held.isNone ∧ s.rst.releasedAt + s.rd hubSt O.RST_STRETCH ≤ s.time hubSt then { s with rst := { s.rst with stretched := true } } else s)
/-- WATCHDOG_EXPIRE (R344): a core reset of cause 8, then CORE_WDOG. -/
def execWatchdogExpire (s : State) : Out :=
  .next (if s.rst.held.isNone ∧ s.rst.wdogDue.any (fun t => decide (t ≤ (s.time hubSt))) then
    (s.coreReset 8).raise F.CORE_WDOG hubSt 0 0
  else s)
/-- A write of WDOG_KICK (R344). -/
def effWdogKick (v : Nat) : Effect := fun s =>
  if v = 1 then .ok { s with rst := { s.rst with wdogDue := some ((s.time hubSt) + s.rd hubSt O.WDOG_PERIOD) } }
  else if v = 0 then .ok s else .error .value
/-- WDOG_KICK (R344). -/
def execWdogKick (slot : Slot) (v : Byte) (s : State) : Out := .next (s.writeReq slot hubSt O.WDOG_KICK 1 (effWdogKick v.toNat))

/-- CLOCK_GOOD (R356, R447): an interface that was given up stays in reset; bit 0 counts only with CLKMODE 1. -/
def execClockGood (n : Fin 6) (s : State) : Out :=
  .next (if s.rst.held.isSome ∨ s.rst.strapWait ∨ bit s.rst.clkStuck n.val ∨ bit (s.rd hubSt O.CLK_GOOD) n.val
      ∨ (n = 0 ∧ (!s.bootOpts.2.1 ∨ !s.supply.vio18)) then s
  else
    let s := if n = 0 then { s with rst := { s.rst with refSeen := true } } else s
    (s.wr hubSt O.CLK_GOOD (s.rd hubSt O.CLK_GOOD + 2 ^ n.val)).tryBoot)
/-- From when the 1 ms of an interface count (R356). -/
def State.clkSince (s : State) (n : Nat) : Nat := max s.rst.releasedAt (tblGet 0 s.rst.clkFrom n)
/-- CLK_GOOD_TIMEOUT (R356): 1 ms after the release, or after the host's request for the crossing, which the command stands for, the
interface stays in reset. The loss of a REFCLK that was good is none (R447). -/
def execClkGoodTimeout (n : Fin 6) (s : State) : Out :=
  .next (if (n.val ≠ 5 ∧ s.time hubSt < s.clkSince n.val + 1000000) ∨ s.rst.held.isSome ∨ s.rst.strapWait ∨ bit s.rst.clkStuck n.val
      ∨ bit (s.rd hubSt O.CLK_GOOD) n.val ∨ (n = 0 ∧ (!s.bootOpts.2.1 ∨ s.rst.refSeen)) then s
  else
    let s := { s with rst := { s.rst with clkStuck := s.rst.clkStuck + 2 ^ n.val } }
    (s.raise F.CLK_GOOD_TIMEOUT hubSt n.val 0).tryBoot)
/-- REFCLK_LOSS (R447): bit 0 of CLK_GOOD clears, with no fault. -/
def execRefclkLoss (s : State) : Out :=
  let g := s.rd hubSt O.CLK_GOOD
  .next (if bit g 0 then s.wr hubSt O.CLK_GOOD (g - 1) else s)

/-! ### Critical state (R345, R431) -/

/-- An uncorrectable error in the arbiter tables (R345, R431): the copy is out of step with them and takes over at the next period. -/
def State.mirrorCalled (s : State) : State :=
  { (s.raise F.CRIT_ARB hubSt 0 0).wr hubSt O.MIRROR_STATE 2 with budget := { s.budget with mirrorDue := true } }
/-- An uncorrectable error in critical state. -/
def State.critical (s : State) (item : CritItem) : State :=
  if s.rst.held.isSome then s
  else
    match item with
    | .engine e cause mask =>
      if isCle e ∨ isSpare e then s.engineFails e (cause.val + 1)
      else
        let s := s.generalError e mask.toNat
        if cause = 1 then
          let s := s.resetUnit (.engine e)
          (s.wr (engSt e) (engObj O.EG_FAIL_CAUSE e) 2).wr (engSt e) (engObj O.FAIL_TIME e) (s.time (engSt e))
        else s
    | .clusterRegs f c =>
      let s := s.raise F.CRIT_CLUSTER hubSt (gid f c) 0
      if (s.cstate f c).isOn then (s.putLoop f c { s.loop f c with resetDue := true }).parkBegin f c .blockReset else (s.resetCluster f c).drive
    | .arbiter serving =>
      if serving then
        if s.rd hubSt O.MIRROR_STATE = 0 then s.mirrorCalled else s.systemReset 7 F.CRIT_ARB
      else if s.rd hubSt O.MIRROR_STATE = 0 then (s.wr hubSt O.MIRROR_STATE 1).raise F.MLT_MIRROR hubSt 0 0
      else s
    | .collector => let d := s.draw; d.2.systemReset 7 (d.1 % 65536)
    | .sequencer => let d := s.draw; d.2.systemReset 7 (d.1 % 65536)
/-- CRITICAL_ERROR (R345). -/
def execCriticalError (item : CritItem) (s : State) : Out := .next (s.critical item)
/-- MIRROR_REFILL_DONE (R431). -/
def execMirrorRefillDone (s : State) : Out :=
  .next (if s.rd hubSt O.MIRROR_STATE = 1 then (s.wr hubSt O.MIRROR_STATE 0).endCondition F.MLT_MIRROR hubSt 0 else s)

/-! ### Pins (R320, R322, R375) -/

/-- STG_EN of a rail: its pull-down holds it low without either supply (R320). -/
def State.stgEnOut (s : State) (r : RailId) : Bool := s.driven && (s.rail r).stgEn
/-- DXEN of a converter (R320): low until the first configured state. -/
def State.dxEnOut (s : State) (n : ConvId) : Bool := s.driven && s.rst.configured && (s.conv n).enable
/-- IREF in mV, where it is driven, and the bias of R183 in µA: from the release of the reset (R320). -/
def State.irefOut (s : State) : Option Nat := if s.driven && s.rst.held.isNone then some 800 else none
def State.senseBias (s : State) : Nat := if s.driven && s.rst.held.isNone then 10 else 0

/-- An open-drain output is pulled low: not without VIO18, and by its clamp without VSTBY (R320). -/
def State.pulledLow (s : State) (released : Bool) : Bool := s.supply.vio18 && !released
/-- THERMTRIP_N is pulled low (R309-R311, R320). -/
def State.thermTripOut (s : State) : Bool := s.driven && s.thermTrip
/-- RST_OUT_N is released: armed once since the reset, the stretch over, no reset standing. -/
def State.rstOut (s : State) : Bool := s.rst.configured && s.rst.stretched && s.rst.held.isNone && s.supply.vstby
/-- ERR_N is released. -/
def State.errOut (s : State) : Bool := s.rst.configured && s.rst.held.isNone && s.supply.vstby && !s.errDue

end Sys2Proof.Machine
end

