-- ==== Sys2Proof/Machine/Clock.lean ====
section
/-!
DEFINITION. The stations' own counts (R6, R54, R306, R354): what a nanosecond does to them.
-/
namespace Sys2Proof.Machine
open Sys2Proof

/-- The addresses of the 161 stations (R8). -/
def stationAddrs : List Nat := hubSt :: (allFields.map fSt ++ allFields.flatMap (fun f => allClusters.map (clSt f)))
/-- The stations' timers are disciplined to REFCLK: CLKMODE is 1 and the clock-good of REFCLK holds (R354). -/
def State.disciplined (s : State) : Bool := s.bootOpts.2.1 && bit (s.rd hubSt O.CLK_GOOD) 0
/-- How far a station's count may fall behind in the time of one count at the fastest rate, in parts per million: the ±0.5 % of a compensated
oscillator, or the 2 ppm between two disciplined stations (R55, R306). -/
def State.drift (s : State) : Nat := if s.disciplined then 2 else 10000
/-- One unit of `now` at one station. `now` counts the nanoseconds of an oscillator at the fast end of the range, so that every station's
count moves on by 0 or 1 and passes no value; how far a station falls behind is a free value within `State.drift` (assumption 4). -/
def State.tickStation (s : State) (st : Nat) : State :=
  let r := s.draw
  { r.2 with skew := tblSet 0 s.skew st (tblGet 0 s.skew st - (r.1 % (s.drift + 1) : Nat)) }
/-- One unit of time passes: the counts, and the traces on their way from a cluster station (R152). -/
def State.tick (s : State) : State :=
  let t := stationAddrs.foldl State.tickStation s
  (t.traces.map (fun p => (Fin.ofNat 9 p.1 : TraceId))).foldl State.traceMove { t with now := s.now + 1 }

end Sys2Proof.Machine
end

