-- ==== Sys2Proof/Machine/Budget.lean ====
section
/-!
DEFINITION. The hub's budget arbiter (chapter Budget Arbitration and Issue-Rate Control): partitions and the Whey pool, the
cooling average, the die credit and shares, cohort pace, and the Curd table.
-/
namespace Sys2Proof.Machine
open Sys2Proof

/-! ### Partitions (R263) -/

/-- Every claimed partition with its number, in order. -/
def State.claims (s : State) : List (Nat × PartRec) := s.budget.parts.filterMap (fun e => e.2.map (fun x => (e.1, x)))
/-- The tiles of a partition. -/
def maskTiles (m : Nat) : List (FieldId × TileId) :=
  (List.range 128).filterMap (fun k => if bit m k then some (Fin.ofNat 8 (k / 16), Fin.ofNat 16 (k % 16)) else none)
/-- A tile's bit in a mask. -/
def tileBit (f : FieldId) (t : TileId) : Nat := f.val * 16 + t.val
/-- PART_RESULT of a session (R295). -/
def State.partDone (s : State) (slot : Slot) (code op p : Nat) : State :=
  s.putSession slot { s.session slot with partResult := code * 2 ^ 28 + op * 2 ^ 24 + p % 1024 }
/-- The case of R263 that refuses a claim, 0 for none. -/
def State.claimCode (s : State) (d : List Byte) : Nat :=
  let n := descNat d 0 2
  let l := s.claims
  if 1024 ≤ l.length then 1
  else if n < 1024 ∧ (s.part n).isSome then 2
  else if descNat d 2 1 = 0 ∨ descNat d 8 4 < descNat d 4 4 ∨ descNat d 0x10 16 = 0 ∨ (1024 ≤ n ∧ n ≠ 0xFFFF)
      ∨ descNat d 3 1 ≠ 0 ∨ descNat d 0xC 4 ≠ 0 then 3
  else if s.rd hubSt O.PART_BUDGET < descNat d 4 4 + (l.map (fun e => e.2.pmin)).sum then 4
  else 0
/-- The lowest free partition number. -/
def State.freePart (s : State) : Nat := ((List.range 1024).find? (fun n => (s.part n).isNone)).getD 0
/-- A write of PART_CLAIM. -/
def effPartClaim (slot : Slot) (d : List Byte) : Effect := fun s =>
  if d.length ≠ 32 then .error .length
  else
    let code := s.claimCode d
    let n := descNat d 0 2
    if code ≠ 0 then .ok (s.partDone slot code 1 (if n < 1024 then n else 0))
    else
      let p := if n = 0xFFFF then s.freePart else n
      let x : PartRec := { weight := descNat d 2 1, pmin := descNat d 4 4, pmax := descNat d 8 4, mask := descNat d 0x10 16 }
      .ok ((s.putPart p (some x)).partDone slot 0 1 p)
/-- PART_CLAIM (R263). -/
def execPartClaim (slot : Slot) (desc : List Byte) (s : State) : Out :=
  .next (s.request slot 0x02 hubSt O.PART_CLAIM.index O.PART_CLAIM.sub
    (fun s => s.admitWrite slot hubSt O.PART_CLAIM.index O.PART_CLAIM.sub desc.length) (effPartClaim slot desc))

/-! ### Figures for the field stations (R266, R286) -/

/-- C_B of a tile: the lowest C[p] over the claims that include it, else UNCLAIMED_CODE (R266). -/
def State.cBof (s : State) (f : FieldId) (t : TileId) : Nat :=
  match s.claims.filter (fun e => bit e.2.mask (tileBit f t)) with
  | [] => s.rd hubSt O.UNCLAIMED_CODE
  | l => minOf 256 (l.map (fun e => e.2.c))
/-- C_PACE of a tile (R288). -/
def State.paceOf (s : State) (f : FieldId) (t : TileId) : Nat :=
  minOf 256 (256 :: (s.claims.filter (fun e => bit e.2.mask (tileBit f t))).map (fun e => e.2.pace))
/-- A figure is sent to a field station that can be reached. -/
def State.sendFigure (s : State) (f : FieldId) (g : HubFig) : State :=
  if s.fieldCut f then s else s.putArb f { s.arb f with sent := (s.arb f).sent ++ [g] }
/-- The paces alone go to every field station. -/
def State.sendPaces (s : State) : State :=
  allFields.foldl (fun s f => s.sendFigure f { period := false, pace := allTiles.map (s.paceOf f) }) s

/-- A write of PACE (R286, R287). -/
def effPace (p : PartId) (v : Nat) : Effect := fun s =>
  if 256 < v then .error .value
  else
    match s.part p.val with
    | none => .error .state
    | some x => .ok ((s.putPart p.val (some { x with pace := v, lapse := (s.time hubSt) + s.rd hubSt O.PACE_TTL })).sendPaces)
/-- PACE (R286). -/
def execPace (slot : Slot) (p : PartId) (v : BitVec 16) (s : State) : Out :=
  .next ((s.writeReq slot hubSt (partObj 0x2B28 p) 2 (effPace p v.toNat)).noteFast slot)
/-- PACE_LAPSE (R287): the pace's time to live has run out. -/
def execPaceLapse (p : PartId) (s : State) : Out :=
  .next (match s.part p.val with
  | some x =>
    if x.pace < 256 ∧ x.lapse ≤ (s.time hubSt) then
      ((s.putPart p.val (some { x with pace := 256 })).sendPaces).raise F.PACE_LAPSE hubSt p.val 0
    else s
  | none => s)

/-- A tile's pending hints and predictions are discarded (R263). The return to 0 of a request already sent is still sent (R285). -/
def State.dropHints (s : State) (f : FieldId) (t : TileId) : State :=
  let x := s.tile f t
  let keep := if s.rd (fSt f) (O.POS_REQ.at t.val) = 0 then [] else x.pos.filter (fun m => m.2 == 0)
  let s := s.putTile f t { x with hintDue := [], hint := none, curd := none, pos := keep }
  s.putArb f { s.arb f with hints := (s.arb f).hints.filter (fun h => h.tile != t.val) }
/-- A release (R263): queues unbound, pace cleared, hints and predictions discarded, the claim gone. -/
def State.releasePart (s : State) (n : Nat) (x : PartRec) : State :=
  let s := (maskTiles x.mask).foldl (fun s k => s.dropHints k.1 k.2) s
  let s : State := { s with ledger := { s.ledger with binds := tblErase s.ledger.binds n } }
  let s := allFields.foldl (fun s f => s.putEstr f { s.estr f with binds := tblErase (s.estr f).binds n }) s
  (s.putPart n none).sendPaces
/-- A write of PART_RELEASE. -/
def effPartRelease (slot : Slot) (n : Nat) : Effect := fun s =>
  .ok (match s.part n with
  | none => s.partDone slot 5 2 n
  | some x => (s.releasePart n x).partDone slot 0 2 n)
/-- PART_RELEASE (R263). -/
def execPartRelease (slot : Slot) (n : BitVec 16) (s : State) : Out :=
  .next (s.writeReq slot hubSt O.PART_RELEASE 2 (effPartRelease slot n.toNat))

/-! ### The arbiter period (R264-R269) -/

/-- 10 µs power of a domain's record at the hub. -/
def State.domPower (s : State) (d : Nat) : Nat := s.rdRaw hubSt (0x2840 + d) 5
/-- P_AUX, P_SVC, a field's core power and the die power of R267. -/
def State.pAux (s : State) : Nat := sumOf 8 (fun a => s.domPower (56 + a))
def State.pSvc (s : State) : Nat := sumOf 8 (fun f => sumOf 3 (fun k => s.domPower (7 * f + 4 + k)))
def State.pField (s : State) (f : Nat) : Nat := sumOf 7 (fun k => s.domPower (7 * f + k))
def State.pDie (s : State) : Nat := sumOf 8 s.pField
/-- The live tiles of the die. -/
def State.liveAll (s : State) : List (FieldId × TileId) := allFields.flatMap (fun f => (s.liveTiles f).map (fun t => (f, t)))
/-- RES_DIE (R264). -/
def State.resDie (s : State) : Int := divRne ((allFields.map (fun f => resOf (s.arb f))).sum * s.rd hubSt O.MR_EFF : Nat) 1000

/-- A partition in the sharing of R264: what it wants, holds, and weighs. -/
structure Claim where
  num : Nat
  want : Nat
  got : Nat
  weight : Nat
deriving DecidableEq, Repr

/-- One round's grants, in partition order: the claims and what is left. -/
def shareRound (share : Nat) (l : List Claim) (left : Nat) : List Claim × Nat :=
  match l with
  | [] => ([], left)
  | c :: r =>
    let a := if c.got < c.want then min (c.want - c.got) (share * c.weight) else 0
    let y := shareRound share r (left - a)
    ({ c with got := c.got + a } :: y.1, y.2)
/-- The loop of R264. Each round either satisfies a claim or leaves less than one share. -/
def shareLoop (fuel : Nat) (l : List Claim) (left : Nat) : List Claim × Nat :=
  match fuel with
  | 0 => (l, left)
  | n + 1 =>
    let act := l.filter (fun c => decide (c.got < c.want))
    let w := (act.map Claim.weight).sum
    if act = [] ∨ left / w = 0 then (l, left)
    else
      let y := shareRound (left / w) l left
      shareLoop n y.1 y.2
/-- The grants of R264: the claims with g, WHEY, and whether the floors fall short. -/
def grants (avail : Int) (l : List (Claim × Nat)) : List Claim × Nat × Bool :=
  let floor := (l.map (fun c => min c.2 c.1.want)).sum
  let a := avail.toNat
  let short := decide (a < floor)
  let held := l.map (fun c =>
    let g := min c.2 c.1.want
    { c.1 with got := if avail ≤ 0 then 0 else if a < floor then g * a / floor else g })
  let y := shareLoop (2 * l.length + 2) held (a - (held.map Claim.got).sum)
  (y.1, y.2, short)

/-- C[p] of R264 with the grant of the period. -/
def State.stepPart (s : State) (x : PartRec) (live : List (FieldId × TileId)) (g d : Nat) : PartRec :=
  let power := (live.map (fun k => s.rd (fSt k.1) (O.P_EST.at k.2.val))).sum
  let p0 := (live.map (fun k => s.rd (fSt k.1) (O.P0.at k.2.val))).sum
  let step := (live.map (fun k => s.stepOf k.1 k.2)).sum
  let c : Nat :=
    if step = 0 then x.c
    else if !x.isSet then (clampInt 0 256 (((g : Int) - p0) * 1000 / step)).toNat
    else (clampInt 0 256 (x.c + rndTz (s.rd hubSt O.LOOP_GAIN * ((g : Int) - power)) step)).toNat
  { x with c := c, isSet := x.isSet || step != 0, demand := d, grant := g, power := power }

/-- Partition budgets (R264, R265): a fenced tile, and one that is being parked, drops out of D, POWER and S. -/
def State.budgetStep (s : State) : State :=
  let live := s.liveAll
  let mine (x : PartRec) : List (FieldId × TileId) := live.filter (fun k => bit x.mask (tileBit k.1 k.2) && !s.forced10 k.1 k.2)
  let ps := s.claims.map (fun e => (e, mine e.2, ((mine e.2).map (fun k => s.demand k.1 k.2)).sum))
  let unclaimed := live.filter (fun k => !s.claims.any (fun e => bit e.2.mask (tileBit k.1 k.2)))
  let uncl := (unclaimed.map (fun k => s.rd (fSt k.1) (O.P_EST.at k.2.val))).sum
  let avail : Int := (s.rd hubSt O.PART_BUDGET : Int) - s.pAux - s.pSvc - uncl - s.resDie
  let y := grants avail (ps.map (fun p => ({ num := p.1.1, want := min p.1.2.pmax p.2.2, got := 0, weight := p.1.2.weight }, p.1.2.pmin)))
  let short := y.2.2
  let s' := if short ∧ !s.budget.shortPrev then s.raise F.PART_FLOOR_SHORT hubSt 0 0 else s
  let s' : State := { s' with budget := { s'.budget with shortPrev := short } }
  let s' := s'.wr hubSt O.WHEY y.2.1
  ps.foldl (fun t p =>
    let g := (y.1.find? (fun c => c.num == p.1.1)).elim 0 Claim.got
    t.putPart p.1.1 (some (s.stepPart p.1.2 p.2.1 g p.2.2))) s'

/-- The mean of the last COOL_WINDOW bins (R267). -/
def coolMean (bins : List Nat) (fill window : Nat) : Nat :=
  let l := bins.take window
  (divRne ((l.sum + fill * (window - l.length) : Nat) : Int) window).toNat
/-- A new 1 ms bin (R267). -/
def State.coolBin (s : State) (v : Nat) : State :=
  let w := s.rd hubSt O.COOL_WINDOW
  let b := (v :: s.budget.bins).take w
  let s : State := { s with budget := { s.budget with bins := b } }
  s.wr hubSt O.P_AVG (coolMean b s.budget.fill w)
/-- The cooling loop (R267). -/
def State.coolStep (s : State) : State :=
  let lim : Int := s.rd hubSt O.COOL_LIMIT
  let b := lim + divRne ((lim - s.rd hubSt O.P_AVG) * s.rd hubSt O.COOL_BOOST) 1000
  let b := clampInt 0 (s.rd hubSt O.DIE_PPEAK + s.pAux : Nat) b
  let s := s.wr hubSt O.B_COOL (satU 32 b)
  let step := (s.liveAll.map (fun k => s.stepOf k.1 k.2)).sum
  if step = 0 then s
  else
    let c : Int := s.rd hubSt O.C_COOL
    s.wr hubSt O.C_COOL (clampInt 0 256 (c + rndTz (s.rd hubSt O.LOOP_GAIN * (b - (s.pDie + s.pAux : Nat))) step)).toNat

/-- The die credit (R268). -/
def State.dieCredit (s : State) : State :=
  let c := s.rd hubSt O.DIE_CREDIT
  let n := if s.rd hubSt O.DIE_PCONT < s.pDie then c - 10000 else min (s.rd hubSt O.PEAK_TIME) (c + 1000)
  let s := s.wr hubSt O.DIE_CREDIT n
  if n = 0 ∧ c ≠ 0 then s.raise F.DIE_PEAK_SPENT hubSt 0 0 else s
/-- L_DIE of a field (R269). -/
def State.dieShare (s : State) (f : FieldId) : Nat :=
  let l := if 0 < s.rd hubSt O.DIE_CREDIT then s.rd hubSt O.DIE_PPEAK else s.rd hubSt O.DIE_PCONT
  let p := s.pDie
  if p = 0 then (divRne l 8).toNat else (divRne (l * s.pField f.val : Nat) p).toNat
/-- The arbiter period's figures go to a field (R266, R267, R269, R271). -/
def State.sendPeriod (s : State) (f : FieldId) : State :=
  let sh := s.dieShare f
  let marked := s.budget.capFault && decide (sh < tblGet 1750000 s.budget.shares f.val)
  let g : HubFig := {
    period := true, cB := allTiles.map (s.cBof f), pace := allTiles.map (s.paceOf f), cCool := s.rd hubSt O.C_COOL
    share := sh, marked := marked, excess := decide (0 < s.rd hubSt (O.AX_EXCESS.at (8 + f.val))) }
  let s := s.sendFigure f g
  if s.fieldCut f then s else { s with budget := { s.budget with shares := tblSet 1750000 s.budget.shares f.val sh } }

/-! ### The Curd table (R279-R281) -/

/-- The address of entry k (R383). -/
def curdAddr (k : Nat) : Nat := 0xB0000 + 32 * k
/-- The entries in use, ascending. -/
def State.curdUsed (s : State) : List Nat :=
  s.mem.filterMap (fun e =>
    if 0xB0000 ≤ e.1 ∧ e.1 < 0xC0000 ∧ (e.1 - 0xB0000) % 32 = 8 ∧ e.2 ≠ 0 then some ((e.1 - 0xB0000) / 32) else none)
def State.curdGet (s : State) (k off n : Nat) : Nat := s.padNat hubSt (curdAddr k + off) n
def State.curdPut (s : State) (k off n v : Nat) : State := s.putPadNat hubSt (curdAddr k + off) n v
/-- The bank of entry k, and whether GLE.H.15, the table's holder, reaches it (R383, R385, R392). -/
def curdBank (k : Nat) : Nat := 22 + k / 1024
def State.curdOpen (s : State) (b : Nat) : Bool := s.bankReaches hubSt b 0x100F
/-- An access to the table: a bank that another owns refuses it. -/
def State.curdKnock (s : State) : State := (s.knock hubSt 22 0x100F).knock hubSt 23 0x100F
/-- The entries in use that the table's holder reaches. -/
def State.curdLive (s : State) : List Nat := s.curdUsed.filter (fun k => s.curdOpen (curdBank k))
/-- The entry of a key. -/
def State.curdFind (s : State) (kind key : Nat) : Option Nat :=
  s.curdLive.find? (fun k => s.curdGet k 8 1 == kind && s.curdGet k 0 8 == key)
/-- Every entry within reach is freed. -/
def State.curdFree (s : State) : State :=
  ([22, 23].filter s.curdOpen).foldl (fun s b =>
    { s with mem := tblKeep (fun k => !(decide (b * 0x8000 ≤ k) && decide (k < (b + 1) * 0x8000))) s.mem }.clearPoison hubSt (b * 0x8000) 0x8000) s
/-- A match counts and renews its entry. -/
def State.curdHit (s : State) (k : Nat) : State :=
  let s := (s.curdPut k 0xA 2 (satAdd max16 (s.curdGet k 0xA 2) 1)).curdPut k 0x10 8 (s.time hubSt)
  s.inc64 hubSt O.CURD_HITS 1
/-- The entry a new key takes: the lowest free one within reach, else the one with the oldest LAST_USE; none where no bank is within reach. -/
def State.curdPlace (s : State) : Option (Nat × Bool) :=
  let used := s.curdUsed
  match (List.range 2048).find? (fun k => !used.contains k && s.curdOpen (curdBank k)) with
  | some k => some (k, false)
  | none =>
    (s.curdLive.foldl (fun b k => match b with
      | some j => if s.curdGet k 0x10 8 < s.curdGet j 0x10 8 then some k else some j
      | none => some k) none).map (fun k => (k, true))
/-- A new entry (R280). -/
def State.curdInsert (s : State) (kind key p : Nat) : State :=
  match s.curdPlace with
  | none => s
  | some w =>
    let s := if w.2 then s.inc64 hubSt O.CURD_EVICTS 1 else s
    let s := s.putPad hubSt (curdAddr w.1) ((leBytes 8 key ++ leBytes 1 kind ++ leBytes 3 0 ++ leBytes 4 p ++ leBytes 8 (s.time hubSt)).map BitVec.toNat)
    s.inc64 hubSt O.CURD_INSERTS 1
/-- An observation of what follows a key begins, after those that began before it (R280). -/
def State.curdWatch (s : State) (o : CurdObs) (kind key : Nat) : State :=
  let l := s.budget.obs
  let o := { o with kind := kind, key := key }
  { s with budget := { s.budget with obs := l.takeWhile (fun p => decide (p.time ≤ o.time)) ++ o :: l.dropWhile (fun p => decide (p.time ≤ o.time)) } }
/-- A prediction from the Curd table (R281): a heavy one with a lead of 0. Its intensity is a free value where s_t is 0. It sends
nothing while a hint of the tile is in force or pending. -/
def State.curdPredict (s : State) (f : FieldId) (t : TileId) (src next : Nat) : State :=
  let step := s.stepOf f t
  let r := if step = 0 then s.draw else (0, s)
  let s := r.2
  let p0 : Int := s.rd (fSt f) (O.P0.at t.val)
  let i : Nat := if step = 0 then r.1 % 16
    else min 15 ((((next : Int) - p0) * 16 * 1000) / (256 * step : Nat)).toNat
  let x := s.tile f t
  let now := s.time (fSt f)
  s.putTile f t { x with
    curd := some ⟨src, i, false, now + 1000000⟩
    pos := if s.rd hubSt O.CURD_EN = 1 ∧ (keepPred now x.hint).isNone ∧ x.hintDue.all (fun h => hintType h.word == 1) then
        x.pos.filter (fun m => decide (m.1 ≤ now)) ++ s.posPlan now 0 i
      else x.pos }

/-- SIGNATURE_RECEIVE (R280, R281). -/
def execSignatureReceive (f : FieldId) (t : TileId) (s : State) : Out :=
  .next (match (s.tile f t).sigOut with
  | none => s
  | some key =>
    let s := ((s.putTile f t { s.tile f t with sigOut := none }).curdWatch (s.curdSeen f t) 1 key).curdKnock
    match s.curdFind 1 key with
    | none => s
    | some k =>
      let s := s.curdHit k
      let next := s.curdGet k 0xC 4
      if s.rd (fSt f) (O.P_EST.at t.val) + s.rd hubSt O.CURD_RISE < next then s.curdPredict f t 1 next else s)
/-- CURD_LEARN (R280): the oldest observation whose 100 µs are over. -/
def execCurdLearn (s : State) : Out :=
  .next (match s.budget.obs with
  | [] => s
  | o :: rest =>
    if o.time + 100000 ≤ (s.time hubSt) then
      let f : FieldId := Fin.ofNat 8 o.field
      let t : TileId := Fin.ofNat 16 o.tile
      let x := s.tile f t
      let p : Int := if x.totN - o.n = 0 then s.rd (fSt f) (O.P_EST.at t.val) else divRne ((x.totSum - o.sum : Nat) : Int) (x.totN - o.n)
      let s := ({ s with budget := { s.budget with obs := rest } } : State).curdKnock
      match s.curdFind o.kind o.key with
      | some k =>
        let old : Int := s.curdGet k 0xC 4
        (s.curdPut k 0xC 4 ((8 * old + (p - old)) / 8).toNat).curdPut k 0x10 8 (s.time hubSt)
      | none => if s.rd hubSt O.CURD_RISE < (p - o.pest).natAbs then s.curdInsert o.kind o.key p.toNat else s
    else s)

/-- A phase mark acts (R280, R281, R283): every claiming partition's key is watched from the mark's arrival, and the lowest partition with an entry
predicts. -/
def State.phaseMark (s : State) (f : FieldId) (t : TileId) (seen : CurdObs) (tag : Nat) : State :=
  let keys := (s.claims.filter (fun e => bit e.2.mask (tileBit f t))).map (fun e => e.1 * 2 ^ 16 + tag)
  let s := keys.foldl (fun s k => s.curdWatch seen 2 k) (if keys = [] then s else s.curdKnock)
  match keys.findSome? (s.curdFind 2) with
  | none => s
  | some k => (s.curdHit k).curdPredict f t 2 (s.curdGet k 0xC 4)
/-- HINT_ACT (R283, R284): the first hint of the tile whose instant has come acts. -/
def execHintAct (f : FieldId) (t : TileId) (s : State) : Out :=
  let x := s.tile f t
  .next (match x.hintDue.find? (fun h => decide (hintAt h ≤ (s.time (fSt f)))) with
  | none => s
  | some h =>
    let x := { x with hintDue := x.hintDue.erase h }
    let i := hintInt h.word
    let till := h.time + hintLead h.word + 1000000
    match hintType h.word with
    | 1 => (s.putTile f t x).phaseMark f t h.seen (h.word % 2 ^ 16)
    | 2 => s.putTile f t { x with hint := some ⟨3, i, false, till⟩ }
    | 3 => s.putTile f t { x with hint := some ⟨4, i, true, till⟩ }
    | _ => s.putTile f t { x with hint := none })
/-- A write of CURD_CLEAR. -/
def effCurdClear (v : Nat) : Effect := fun s =>
  if v = 1 then .ok { s with budget := { s.budget with curdClear := true } } else if v = 0 then .ok s else .error .value
/-- CURD_CLEAR (R294). -/
def execCurdClear (slot : Slot) (v : Byte) (s : State) : Out := .next (s.writeReq slot hubSt O.CURD_CLEAR 1 (effCurdClear v.toNat))

/-- The copy of the arbiter tables takes over from a store with an uncorrectable error, which is block-reset and refilled from it: what
has been written to that store since the last period is lost (R431). -/
def State.mirrorTakeover (s : State) : State :=
  if s.budget.mirrorDue then
    let s : State := { s with
      budget := { s.budget with parts := s.budget.copyParts, mirrorDue := false }, ledger := { s.ledger with binds := s.budget.copyBinds } }
    let s := (s.inc32 hubSt O.MIRROR_TAKEOVERS).wr hubSt O.MIRROR_STATE 1
    ((s.raise F.MLT_MIRROR hubSt 0 0).inc32 hubSt O.BLK_COUNT).mltLog 9 0 hubSt 0 0
  else s
/-- The copy is rewritten at the end of a period (R431). -/
def State.mirrorCopy (s : State) : State :=
  { s with budget := { s.budget with copyParts := s.budget.parts, copyBinds := s.ledger.binds } }
/-- One run of the hub's budget arbiter (R264-R269, R294). -/
def State.arbiterPeriod (s : State) : State :=
  let s := s.mirrorTakeover
  let s := if s.budget.curdClear then { s.curdKnock.curdFree with budget := { s.budget with curdClear := false } } else s
  let s := ((s.budgetStep).coolStep).dieCredit
  let s := allFields.foldl State.sendPeriod s
  let s := allFields.foldl (fun s f => allTiles.foldl (fun s t => s.putTile f t { s.tile f t with low := false }) s) s
  ({ s with budget := { s.budget with capFault := false } }).mirrorCopy
/-- BUDGET_ARBITER_PERIOD (R264): at every multiple of 10,000 ns of the hub count. -/
def execBudgetArbiterPeriod (s : State) : Out :=
  let key := markKey 13 0
  .next (if s.periodic key hubSt 10000 0 then (s.mark key hubSt).arbiterPeriod else s)

/-- The rules of the budget record's writes (R267, R293). -/
def effCoolWindow (v : Nat) : Effect := fun s =>
  if 1000 ≤ v ∧ v ≤ 16000 then
    let s : State := { s with budget := { s.budget with bins := [], fill := s.rd hubSt O.P_AVG } }
    .ok (s.wr hubSt O.COOL_WINDOW v)
  else .error .value
def effDiePcont (v : Nat) : Effect := fun s =>
  if 1000000 ≤ v ∧ v ≤ s.rd hubSt O.DIE_PPEAK then .ok (s.wr hubSt O.DIE_PCONT v) else .error .value
def effDiePpeak (v : Nat) : Effect := fun s =>
  if s.rd hubSt O.DIE_PCONT ≤ v ∧ v ≤ 14000000 then .ok (s.wr hubSt O.DIE_PPEAK v) else .error .value
def effThrottleTemp (v : Nat) : Effect := fun s =>
  if 3840 ≤ ofBits 16 v ∧ ofBits 16 v ≤ s.tcrit - 128 then .ok (s.wr hubSt O.THROTTLE_TEMP v) else .error .value

end Sys2Proof.Machine
end

