-- ==== Sys2Proof/Machine/Memory.lean ====
section
/-!
DEFINITION. Scratchpad banks, their owners, errors and repairs, and context paging (chapter Scratchpad Memories and Context
Paging).
-/
namespace Sys2Proof.Machine
open Sys2Proof

/-- The address of the station of a scratchpad. -/
def padSt : PadRef → Nat
  | .hub => hubSt
  | .field f => fSt f
/-- Bytes of a station's scratchpad, and its banks (R381). -/
def padLimit (st : Nat) : Nat := if st = 0 then 0x200000 else 0x80000
def bankCount (st : Nat) : Nat := if st = 0 then 64 else 32
/-- A dual-port bank (R381). -/
def dualBank (st b : Nat) : Bool := if st = 0 then b < 4 else b < 2

def State.putMemory (s : State) (m : MemRec) : State := { s with memory := m }
/-- The response of an access: 0 done, 1 an error, 2 a repair response. -/
def State.memReply (s : State) (code data : Nat) (busy : Bool) : State := s.putMemory { s.memory with resp := ⟨code, data, busy⟩ }

/-! ### Contexts held (R393) -/

/-- The station whose store holds a context. -/
def ctxSt (x : PageCtx) : Option Nat :=
  match x.place with
  | .field f => some (fSt f)
  | .hub => some hubSt
  | _ => none
/-- A context holds a byte of `n` bytes of a station's scratchpad. -/
def ctxMeets (st a n : Nat) (x : PageCtx) : Bool := ctxSt x == some st && decide (x.addr < a + n) && decide (a < x.addr + x.len)
/-- The contexts of a station's store. -/
def State.resident (s : State) (st : Nat) : List PageCtx := s.memory.ctxs.filter (fun x => ctxSt x == some st)
/-- STORE_BYTES and STORE_FREE (R398). -/
def State.storeBytes (s : State) (st : Nat) : Nat :=
  countOf (bankCount st) (fun b => s.rd st (O.OWNER.at b) == 0x5000 && s.rd st (O.BANK_STATE.at b) != 3) * bankSize st
def State.storeFree (s : State) (st : Nat) : Nat := s.storeBytes st - ((s.resident st).map PageCtx.len).foldl (· + ·) 0
/-- A context of a kind and name. -/
def ctxIs (kind id : Nat) (x : PageCtx) : Bool := x.kind == kind && x.id == id
/-- The context of a kind and name that a station's unit finds: in its own store, and for kinds 3 and 4 elsewhere too. -/
def State.findCtx (s : State) (st kind id : Nat) : Option PageCtx :=
  let l := s.memory.ctxs.filter (ctxIs kind id)
  match l.find? (fun x => ctxSt x == some st) with
  | some x => some x
  | none => if kind ≤ 2 then none else l.head?
/-- The bytes of a context. -/
def State.ctxBytes (s : State) (x : PageCtx) : List Nat :=
  match ctxSt x with
  | some st => (s.padBytes st x.addr x.len).map BitVec.toNat
  | none => x.data

/-- A tile restarts learning from W_INIT (R396, R253). -/
def State.restartTile (s : State) (f : FieldId) (t : TileId) : State :=
  match s.descFor f (estGroup t) with
  | some d => s.initTile f t d
  | none => s
/-- A context is lost (R396), as the unit of station `st` finds. -/
def State.loseCtx (s : State) (st : Nat) (x : PageCtx) : State :=
  let s := s.putMemory { s.memory with ctxs := s.memory.ctxs.filter (· != x) }
  let s := (s.inc32 st O.PG_LOST).raise F.MEM_PAGE_LOST st x.kind 0
  match x.kind, x.place with
  | 1, .field f => s.restartTile f (Fin.ofNat 16 x.id)
  | 2, .field f => s.restartTile f (Fin.ofNat 16 x.id)
  | 3, p =>
    let s := s.putMemory { s.memory with lostImgs := (x.id :: s.memory.lostImgs).eraseDups }
    match p with
    | .field f => if s.rd (fSt f) O.SPARE_IMAGE = x.id then s.wr (fSt f) O.SPARE_IMAGE 0 else s
    | _ => s
  | _, _ => s

/-! ### Words and their errors (R389, R390, R399) -/

/-- LAST_ERR (R399). -/
def lastErrWord (col : Nat) (unc : Bool) (word : Nat) : Nat := col * 2 ^ 24 + flagAt unc 23 + word % 4096
/-- A word is poisoned. -/
def State.poisoned (s : State) (st a : Nat) : Bool := s.poison.contains (padKey st a / 8)
def State.unpoison (s : State) (st a : Nat) : State := { s with poison := s.poison.filter (· != padKey st a / 8) }
/-- A corrected error (R389). -/
def State.corrected (s : State) (st b col word : Nat) : State :=
  let s := (s.inc32 st (O.BK_CORR_COUNT.at b)).inc64 st O.CORR_TOTAL 1
  s.wr st (O.LAST_ERR.at b) (lastErrWord col false word)
/-- What the owner does about a poisoned word (R390): the ledger writes 0, the Curd entry is freed, the paging unit's context is lost. -/
def State.ownerActs (s : State) (st b a : Nat) : State :=
  let o := s.rd st (O.OWNER.at b)
  if o / 2 ^ 12 = 2 then s.putPad st a (List.replicate 8 0)
  else if st = hubSt ∧ o = 0x100F ∧ (b = 22 ∨ b = 23) then s.putPad st (a / 32 * 32) (List.replicate 32 0)
  else if o / 2 ^ 12 = 5 then (s.memory.ctxs.filter (ctxMeets st a 8)).foldl (fun s x => s.loseCtx st x) s
  else s
/-- An uncorrectable error (R390): the word is poisoned, and its owner acts. -/
def State.uncorrected (s : State) (st b word : Nat) : State :=
  let a := b * bankSize st + 8 * word
  let s := (s.inc32 st (O.UNCORR_COUNT.at b)).inc32 st O.UNCORR_TOTAL
  let s := (s.wr st (O.LAST_ERR.at b) (lastErrWord 0xFF true word)).raise F.MEM_UNCORR st b 0
  (if s.poisoned st a then s else { s with poison := s.poison ++ [padKey st a / 8] }).ownerActs st b a
/-- A word is read: a poisoned or uncorrectable one gives an error, and its owner acts. -/
def State.readWord (s : State) (st a : Nat) (err : WordErr) : State × Bool :=
  let b := a / bankSize st
  let word := a % bankSize st / 8
  if s.poisoned st a then ((s.raise F.MEM_UNCORR st b 0).ownerActs st b (a / 8 * 8), false)
  else
    match err with
    | .none => (s, true)
    | .corrected col => (s.corrected st b col.val word, true)
    | .uncorrectable => (s.uncorrected st b word, false)

/-! ### Accesses (R382, R385, R387, R388) -/

/-- The checks of an access, and its action on an admitted one: alignment and range, the bank's state, and the owner or the
agent of port B. -/
def State.bankAccess (s : State) (st agent a n : Nat) (act : State → State) : State :=
  let b := a / bankSize st
  if a % n ≠ 0 ∨ padLimit st < a + n then s.memReply 1 0 false
  else if s.bankState st b = 3 then s.memReply 1 0 false
  else if s.bankState st b = 2 then s.memReply 2 0 false
  else if agent / 2 ^ 12 ≠ 0 ∧ (agent = s.rd st (O.OWNER.at b) ∨ (dualBank st b ∧ agent = s.rd st (O.PORTB_AGENT.at b))) then act s
  else ((s.inc32 st O.OWNER_REFUSED).raise F.MEM_OWNER st b 0).memReply 1 0 false
/-- A read and a write meet at one word of a bank with two ports (R387); one that waited for an atomic access meets nothing. -/
def meets (st b : Nat) (clash : Clash) : Bool := dualBank st b && (clash == .first || clash == .later)
/-- BUSY for the port granted later, and for one that waited (R387). -/
def busyBit (st b : Nat) (clash : Clash) : Bool := dualBank st b && (clash == .later || clash == .waited)
def State.busyPort (s : State) (st b : Nat) (clash : Clash) : State := if busyBit st b clash then s.inc32 st (O.BUSY_COUNT.at b) else s
/-- A plain read; a write that overlaps it on the other port leaves its data undefined. -/
def State.padRead (s : State) (st a n : Nat) (clash : Clash) (err : WordErr) : State :=
  let b := a / bankSize st
  let s := s.busyPort st b clash
  let r := s.readWord st a err
  if !r.2 then r.1.memReply 1 0 (busyBit st b clash)
  else if meets st b clash then
    let d := r.1.draw
    d.2.memReply 0 (d.1 % 2 ^ (8 * n)) (busyBit st b clash)
  else r.1.memReply 0 (r.1.padNat st a n) (busyBit st b clash)
/-- A plain write: 8 bytes clear a poison; 4 bytes are a read-modify-write of their word. -/
def State.padWrite (s : State) (st a n v : Nat) (clash : Clash) (err : WordErr) : State :=
  let b := a / bankSize st
  let s := s.busyPort st b clash
  if n = 8 then ((s.unpoison st a).putPadNat st a 8 v).memReply 0 0 (busyBit st b clash)
  else
    let r := s.readWord st a err
    if !r.2 then r.1.memReply 1 0 (busyBit st b clash)
    else (r.1.putPadNat st a n (v % 2 ^ (8 * n))).memReply 0 0 (busyBit st b clash)
/-- An atomic read-modify-write: the response gives the old value (R388). -/
def State.padAtomic (s : State) (st a n : Nat) (f : Nat → Nat) (clash : Clash) (err : WordErr) : State :=
  let b := a / bankSize st
  let s := s.busyPort st b clash
  let r := s.readWord st a err
  if !r.2 then r.1.memReply 1 0 (busyBit st b clash)
  else
    let old := r.1.padNat st a n
    (r.1.putPadNat st a n (f old % 2 ^ (8 * n))).memReply 0 old (busyBit st b clash)
/-- MEMORY_ACCESS (R382): a read, or a write of `data`, of 4 or 8 bytes. -/
def execMemoryAccess (pad : PadRef) (agent : BitVec 16) (addr : BitVec 32) (wide : Bool) (data : Option (BitVec 64))
    (clash : Clash) (err : WordErr) (s : State) : Out :=
  let n := if wide then 8 else 4
  .next (s.bankAccess (padSt pad) agent.toNat addr.toNat n (fun s =>
    match data with
    | none => s.padRead (padSt pad) addr.toNat n clash err
    | some v => s.padWrite (padSt pad) addr.toNat n v.toNat clash err))
/-- ADD32 (R388). -/
def execAdd32 (pad : PadRef) (agent : BitVec 16) (addr v : BitVec 32) (clash : Clash) (err : WordErr) (s : State) : Out :=
  .next (s.bankAccess (padSt pad) agent.toNat addr.toNat 4 (fun s => s.padAtomic (padSt pad) addr.toNat 4 (· + v.toNat) clash err))
/-- ADD64 (R388). -/
def execAdd64 (pad : PadRef) (agent : BitVec 16) (addr : BitVec 32) (v : BitVec 64) (clash : Clash) (err : WordErr) (s : State) : Out :=
  .next (s.bankAccess (padSt pad) agent.toNat addr.toNat 8 (fun s => s.padAtomic (padSt pad) addr.toNat 8 (· + v.toNat) clash err))
/-- SWAP32 (R388). -/
def execSwap32 (pad : PadRef) (agent : BitVec 16) (addr v : BitVec 32) (clash : Clash) (err : WordErr) (s : State) : Out :=
  .next (s.bankAccess (padSt pad) agent.toNat addr.toNat 4 (fun s => s.padAtomic (padSt pad) addr.toNat 4 (fun _ => v.toNat) clash err))
/-- SWAP64 (R388). -/
def execSwap64 (pad : PadRef) (agent : BitVec 16) (addr : BitVec 32) (v : BitVec 64) (clash : Clash) (err : WordErr) (s : State) : Out :=
  .next (s.bankAccess (padSt pad) agent.toNat addr.toNat 8 (fun s => s.padAtomic (padSt pad) addr.toNat 8 (fun _ => v.toNat) clash err))

/-! ### Owners (R384-R386) -/

/-- Whether an owner word is one that R384 lets be written at a station; KIND 0x2 only where `ledger`. -/
def ownerOk (st w : Nat) (ledger : Bool) : Bool :=
  let kind := bits w 15 12
  kind ≤ 6 && (kind != 2 || (ledger && st == 0))
    && (if kind = 1 then decide (bits w 7 0 < (if st = 0 then 16 else 8)) else bits w 7 0 == 0)
/-- The ledger's bank holds an entry that is not free, or a flush record not acknowledged. -/
def State.ledgerHolds (s : State) (b : Nat) : Bool :=
  (0xFFF :: s.usedHandles).any (fun h => entryBank h == b && s.entryState h != 0)
    || (List.range s.ledger.count).any (fun k => 20 + (s.ledger.head + k) % 512 / 256 == b)
/-- Whether the owner of a bank keeps it from a handover (R386). -/
def State.ownerHolds (s : State) (st b : Nat) : Bool :=
  match s.rd st (O.OWNER.at b) / 2 ^ 12 with
  | 3 => s.rd st O.TRACE_STATE == 1 || s.rd st O.TRACE_STATE == 2
  | 2 => s.ledgerHolds b
  | 5 => s.memory.ctxs.any (ctxMeets st (b * bankSize st) (bankSize st))
  | _ => false
/-- A write of OWNER (R386). -/
def effOwner (st b w : Nat) : Effect := fun s =>
  let v := w - bits w 11 8 * 2 ^ 8
  if s.bankState st b ≠ 0 ∨ s.ownerHolds st b ∨ (dualBank st b ∧ v = s.rd st (O.PORTB_AGENT.at b) ∧ v ≠ 0) then .error .state
  else if !ownerOk st w true then .error .value
  else .ok ((s.wr st (O.OWNER.at b) v).wr st (O.HANDOVER_TIME.at b) (s.time st))
/-- OWNER (R386). -/
def execOwner (slot : Slot) (pad : PadRef) (b : Fin 64) (w : BitVec 16) (s : State) : Out :=
  .next (s.writeReq slot (padSt pad) (O.OWNER.at b.val) 2 (effOwner (padSt pad) b.val w.toNat))
/-- A write of PORTB_AGENT (R385). -/
def effPortB (st b w : Nat) : Effect := fun s =>
  if !dualBank st b ∨ !ownerOk st w false then .error .value
  else .ok (s.wr st (O.PORTB_AGENT.at b) (w - bits w 11 8 * 2 ^ 8))

/-! ### Scrubbing and repair (R389-R392) -/

/-- The lowest free spare column of a bank. -/
def State.freeSpare (s : State) (st b : Nat) : Option Nat :=
  (List.range 4).find? (fun k => !bit (s.rd st (O.SPARE_FUSED.at b)) k && !bit (s.rd st (O.SPARE_SOFT.at b)) k)
/-- A repair handover starts with a spare (R392, event 1); for a ledger bank R250 applies. -/
def State.startRepair (s : State) (st b k col : Nat) : State :=
  let m := s.rd st (O.COL_MAP.at b)
  let s := s.wr st (O.COL_MAP.at b) (m - m / 256 ^ k % 256 * 256 ^ k + col * 256 ^ k)
  let s := (s.wr st (O.SPARE_SOFT.at b) (s.rd st (O.SPARE_SOFT.at b) + 2 ^ k)).wr st (O.BANK_STATE.at b) 2
  let s := s.raise F.MEM_REPAIR st b 0
  if st = hubSt ∧ s.rd st (O.OWNER.at b) / 2 ^ 12 = 2 then (s.inc32 hubSt O.HANDOVERS).raise F.LEDGER_GAP hubSt 0 0 else s
/-- Soft repair of a column. -/
def State.repairColumn (s : State) (st b col : Nat) : State :=
  match s.freeSpare st b with
  | some k => s.startRepair st b k col
  | none => s.raise F.MEM_NO_SPARE st b 0
/-- SCRUB_PASS (R389, R391): the corrected and the uncorrectable errors of one pass, once per SCRUB_PERIOD of the station's count. -/
def execScrubPass (pad : PadRef) (b : Fin 64) (errs : List ColErr) (uncorr : List (BitVec 12)) (s : State) : Out :=
  let st := padSt pad
  let wordIn (w : BitVec 12) : Bool := 8 * w.toNat < bankSize st
  let errs := errs.filter (fun e => wordIn e.word)
  let heavy : Option Nat := (List.range 72).find? (fun c =>
    decide (s.rd st O.COL_THRESH ≤ ((errs.filter (fun e => e.col.val == c)).map ColErr.word).eraseDups.length))
  let key := markKey 16 (st * 64 + b.val)
  let period := s.time st / s.rd st O.SCRUB_PERIOD + 1
  .next (if bankCount st ≤ b.val ∨ s.bankState st b.val ≠ 0 ∨ tblGet 0 s.marks key = period then s
  else
    let s := { s with marks := tblSet 0 s.marks key period }
    let s := errs.foldl (fun s e => s.corrected st b.val e.col.val e.word.toNat) s
    let s := ((uncorr.filter wordIn).filter (fun w => !s.poisoned st (b.val * bankSize st + 8 * w.toNat))).foldl
      (fun s w => s.uncorrected st b.val w.toNat) s
    match heavy with
    | some c => if s.rd st O.REPAIR_AUTO = 1 then s.repairColumn st b.val c else s
    | none => s)
/-- A write of REPAIR_CTRL (R391, R398): a repair that finds no free spare raises MEM_NO_SPARE and is refused. -/
def actRepairCtrl (st b w : Nat) : Action := fun s =>
  let ok := bits w 15 8 == 1 && decide (bits w 7 0 < 72)
  if s.bankState st b ≠ 0 then (s, some .state)
  else
    match s.freeSpare st b with
    | none => (if ok then s.raise F.MEM_NO_SPARE st b 0 else s, some .state)
    | some k => if ok then (s.startRepair st b k (bits w 7 0), none) else (s, some .value)
/-- REPAIR_CTRL (R391). -/
def execRepairCtrl (slot : Slot) (pad : PadRef) (b : Fin 64) (w : BitVec 16) (s : State) : Out :=
  let st := padSt pad
  let o := O.REPAIR_CTRL.at b.val
  .next (s.requestA slot 0x02 st o.index o.sub (fun s => s.admitWrite slot st o.index o.sub 2) (actRepairCtrl st b.val w.toNat))
/-- Each open or closing entry of a ledger bank has GAP set and GAP_US increased by the 25 µs of the handover (R250, R392). -/
def State.gapEntries (s : State) (b : Nat) : State :=
  ((0xFFF :: s.usedHandles).filter (fun h => entryBank h == b && (s.entryState h == 1 || s.entryState h == 2))).foldl (fun s h =>
    (s.putEntry h 0x34 4 (satAdd max32 (s.entry h 0x34 4) 25)).flagEntry h 27) s
/-- REPAIR_HANDOVER_END (R392, events 3 to 5): the words that the rebuild found uncorrectable, and whether verification found a
new error. -/
def execRepairHandoverEnd (pad : PadRef) (b : Fin 64) (uncorr : List (BitVec 12)) (newErr : Bool) (s : State) : Out :=
  let st := padSt pad
  let wordIn (w : BitVec 12) : Bool := 8 * w.toNat < bankSize st
  .next (if bankCount st ≤ b.val ∨ s.bankState st b.val ≠ 2 then s
  else
    let s := ((uncorr.filter wordIn).filter (fun w => !s.poisoned st (b.val * bankSize st + 8 * w.toNat))).foldl
      (fun s w => s.uncorrected st b.val w.toNat) s
    let s := if st = hubSt ∧ s.rd st (O.OWNER.at b.val) / 2 ^ 12 = 2 then s.gapEntries b.val else s
    if newErr then
      let s := (s.wr st (O.BANK_STATE.at b.val) 3).raise F.MEM_BANK_FAIL st b.val 0
      (s.memory.ctxs.filter (ctxMeets st (b.val * bankSize st) (bankSize st))).foldl (fun s x => s.loseCtx st x) s
    else (s.wr st (O.BANK_STATE.at b.val) 0).wr st (O.HANDOVER_TIME.at b.val) (s.time st))

/-! ### Paging (R393-R396) -/

/-- An engine runs an image. -/
def State.imageRuns (s : State) (id : Nat) : Bool :=
  s.engines.any (fun e => e.2.images.any (fun i => i.2.any (fun x => x.id == id)))
/-- The context moves to the end of the list: it was used last. -/
def State.useCtx (s : State) (x : PageCtx) : State := s.putMemory { s.memory with ctxs := s.memory.ctxs.filter (· != x) ++ [x] }
/-- The context that a full field store gives up first: the least recently used of kind 3 or 4 but the spare image and
those an engine runs. -/
def State.victim (s : State) (f : FieldId) : Option PageCtx :=
  s.memory.ctxs.find? (fun x => x.place == .field f && (x.kind == 3 || x.kind == 4)
    && x.id != s.rd (fSt f) O.SPARE_IMAGE && !s.imageRuns x.id)
/-- The banks that a range of bytes of a station lies in. -/
def banksOf (st a n : Nat) : List Nat := (List.range (bankCount st)).filter (fun b => decide (b * bankSize st < a + n) && decide (a < (b + 1) * bankSize st))
/-- A range of a store that a context may take: in banks that the paging unit reaches, clear of every context held (R385, R393). -/
def State.storeFits (s : State) (st a n : Nat) : Bool :=
  0 < n && a + n ≤ padLimit st && (banksOf st a n).all (fun b => s.bankReaches st b 0x5000) && !s.memory.ctxs.any (ctxMeets st a n)
/-- A range of a store that a repair handover keeps the unit waiting for (R392). -/
def State.storeWaits (s : State) (st a n : Nat) : Bool :=
  (banksOf st a n).any (fun b => s.bankState st b == 2 && s.rd st (O.OWNER.at b) == 0x5000)
/-- The bytes of a context enter a store, which lists it. -/
def State.keepCtx (s : State) (st : Nat) (x : PageCtx) (l : List Nat) : State :=
  let s := s.putPad st x.addr l
  s.putMemory { s.memory with ctxs := s.memory.ctxs ++ [x] }
/-- Where a context of `n` bytes can go in the hub store: at the start of a bank or behind another context. -/
def State.hubPlaces (s : State) (n : Nat) : List Nat :=
  ((List.range 64).map (· * 0x8000) ++ (s.resident hubSt).map (fun (x : PageCtx) => x.addr + x.len)).filter (fun a => s.storeFits hubSt a n)
/-- A context moves from a field store to the hub store (R394); which of the places it takes is the unit's choice. -/
def State.evictCtx (s : State) (f : FieldId) (x : PageCtx) : Option State :=
  let l := s.ctxBytes x
  match s.hubPlaces x.len with
  | [] => none
  | a :: r =>
    let d := s.draw
    let s := d.2.putMemory { s.memory with ctxs := s.memory.ctxs.filter (· != x) }
    let s := s.keepCtx hubSt { x with place := .hub, addr := (a :: r).getD (d.1 % (r.length + 1)) a } l
    some ((s.inc32 (fSt f) O.PG_EVICTIONS).inc64 (fSt f) O.PAGE_MOVES 1)
/-- Room for `len` bytes in a field store, its oldest contexts moved to the hub store; none where that does not give it. -/
def State.clearStore (s : State) (f : FieldId) (len : Nat) : Nat → Option State
  | 0 => if len ≤ s.storeFree (fSt f) then some s else none
  | fuel + 1 =>
    if len ≤ s.storeFree (fSt f) then some s
    else
      match s.victim f with
      | none => none
      | some x =>
        match s.evictCtx f x with
        | some t => t.clearStore f len fuel
        | none => none
/-- A context is placed in a store where it has room; otherwise the request ends with an error and nothing is displaced (R394). A
kind-4 context leaves the place where it was; of kind 3 the unit keeps the copy there (R395). -/
def State.placeCtx (s : State) (unit : Nat) (x : PageCtx) (l : List Nat) : State :=
  let gone (y : PageCtx) : Bool := ctxIs x.kind x.id y && (y.place == x.place || x.kind == 4)
  let out := s.putMemory { s.memory with ctxs := s.memory.ctxs.filter (fun y => !gone y) }
  let room : Option State :=
    match x.place with
    | .field f => out.clearStore f x.len out.memory.ctxs.length
    | .hub => if x.len ≤ out.storeFree hubSt then some out else none
    | _ => none
  match ctxSt x, room with
  | some st, some t => if t.storeFits st x.addr x.len then (t.keepCtx st x l).inc64 unit O.PAGE_MOVES 1 else s.memReply 1 0 false
  | _, _ => s.memReply 1 0 false
/-- The length of an engine image by its header (R142). -/
def imageSize (l : List Nat) : Nat := 100 + 4 * leAt l 4 2 + 16 * l.getD 7 0 + 16 * l.getD 10 0
/-- An image that an engine of a station holds, active or in its shadow arrays, with its descriptor where it is of kind 4 (R393). -/
def State.engineImage (s : State) (st kind id : Nat) : Option (List Nat) :=
  let here := s.engines.filter (fun e => engSt (Fin.ofNat 232 e.1) == st)
  let img := here.findSome? (fun e =>
    let active := e.2.images.findSome? (fun i => i.2.bind (fun x => if x.id = id then some x.bytes else none))
    let sh := e.2.shadow.map BitVec.toNat
    match active with
    | some l => some l
    | none => if sh ≠ [] ∧ leAt sh (sh.length - 4) 4 = id then some sh else none)
  let desc : List Nat := if kind = 4 then ((List.range 4).findSome? (fun g =>
    let d := s.blob st (O.DESC.at g)
    if d.length = 256 ∧ descNat d 0 4 = id then some (d.map BitVec.toNat) else none)).getD [] else []
  img.map (· ++ desc)
/-- The bytes of the context that a unit moves (R393): a tile's block or its snapshot, a context held, or an engine's image. -/
def State.pageSource (s : State) (pad : PadRef) (kind id : Nat) : Option (List Nat) :=
  match kind, pad with
  | 1, .field f => some (s.tile f (Fin.ofNat 16 id)).rls
  | 2, .field f => some (s.tile f (Fin.ofNat 16 id)).snap
  | 3, _ => ((s.findCtx (padSt pad) 3 id).map s.ctxBytes).orElse (fun _ => s.engineImage (padSt pad) 3 id)
  | 4, _ => ((s.findCtx (padSt pad) 4 id).map s.ctxBytes).orElse (fun _ => s.engineImage (padSt pad) 4 id)
  | _, _ => none
/-- The engines of a station whose shadow arrays can take an image: the spare for SPARE_IMAGE, else any other with no swap pending. Which of
these takes it the spec leaves open (assumption 106). -/
def State.pageEngines (s : State) (st id : Nat) : List EngId :=
  ((List.finRange 232).filter (fun e => engSt e == st && (s.eng e).swapDue == 0
    && (isSpare e == (st != hubSt && s.rd st O.SPARE_IMAGE == id && id != 0))))
/-- An image context enters an engine's shadow arrays, as a write of IMAGE does (R143), and the descriptor of a Culture model its
object (R393). -/
def State.pageEngine (s : State) (unit : Nat) (x : PageCtx) : State :=
  let l := s.ctxBytes x
  let n := if x.kind = 4 ∧ l.length = imageSize l + 256 then imageSize l else l.length
  let es := s.pageEngines unit x.id
  let d := s.draw
  match es[d.1 % es.length]? with
  | none => s.memReply 1 0 false
  | some e =>
    let s := d.2.useCtx x
    let r : Except Abort State :=
      if isSpare e then .ok s else effImage e ((l.take n).map (BitVec.ofNat 8)) s
    match r with
    | .error _ => s.memReply 1 0 false
    | .ok s =>
      let s := match engStation e with
        | .field f => if n < l.length ∧ engNum e < 4 then (effDesc f (Fin.ofNat 4 (engNum e)) ((l.drop n).map (BitVec.ofNat 8)) s).toOption.getD s else s
        | _ => s
      s.inc64 unit O.PAGE_MOVES 1
/-- The bytes of the host tier that contexts do not fill (R395, R411). -/
def State.tierFree (s : State) : Nat :=
  s.rd hubSt O.HOST_TIER_SIZE * 65536 - ((s.memory.ctxs.filter (fun x => x.place == .host)).map PageCtx.len).sum
/-- A context move of a paging unit is done (R393-R395). It waits, with no effect, while a repair handover holds a bank that it
reads or writes (R392); one that its place cannot take, or of a context that is nowhere, ends with an error. -/
def State.pageDone (s : State) (pad : PadRef) (kind id addr len : Nat) (dest : PagePlace) : State :=
  let unit := padSt pad
  let held := s.findCtx unit kind id
  let waits := held.any (fun (x : PageCtx) => (ctxSt x).any (fun st => s.storeWaits st x.addr x.len))
  let fail := s.memReply 1 0 false
  let store (place : PagePlace) (st : Nat) : State :=
    if s.storeWaits st addr len then s
    else
      match s.pageSource pad kind id with
      | some l => if l.length = len then s.placeCtx unit ⟨kind, place, id, addr, len, []⟩ l else fail
      | none => fail
  if waits then s
  else
  match dest with
  | .engine =>
    (match kind, pad, held with
    | 1, .field f, some x =>
      let s := (s.useCtx x).inc64 unit O.PAGE_MOVES 1
      s.putEstr f { s.estr f with paged := some (id % 16) }
    | 3, _, some x => s.pageEngine unit x
    | 4, _, some x => s.pageEngine unit x
    | _, _, _ => fail)
  | .field f => if kind ≤ 2 ∧ pad ≠ .field f then fail else store (.field f) (fSt f)
  | .hub => if kind ≤ 2 then fail else store .hub hubSt
  | .host =>
    if s.rd hubSt O.HOST_TIER_STATE ≠ 1 then fail
    else if kind = 5 ∧ s.memory.dumps.contains id then
      let done := s.putMemory { s.memory with dumps := s.memory.dumps.filter (· != id) }
      if (if id = 0 then 131072 else 32768) ≤ s.tierFree then done.inc64 unit O.PAGE_MOVES 1 else done.memReply 1 0 false
    else if kind = 4 ∧ !s.imageRuns id then
      (match s.pageSource pad 4 id with
      | some l =>
        if l.length = len ∧ len ≤ s.tierFree then
          (s.putMemory { s.memory with ctxs := s.memory.ctxs.filter (fun y => !ctxIs 4 id y) ++ [⟨4, .host, id, 0, len, l⟩] }).inc64 unit O.PAGE_MOVES 1
        else fail
      | none => fail)
    else fail
/-- PAGE_MOVE_DONE (R394, R396): a context move of a station's unit is done, ends with an error, or finds the context lost. -/
def execPageMoveDone (pad : PadRef) (kind : Fin 6) (id addr len : BitVec 32) (dest : PagePlace) (result : PageResult) (s : State) : Out :=
  .next (match result with
  | .done => s.pageDone pad kind.val id.toNat addr.toNat len.toNat dest
  | .error => (if kind = 5 then s.putMemory { s.memory with dumps := s.memory.dumps.filter (· != id.toNat) } else s).memReply 1 0 false
  | .lost =>
    match s.findCtx (padSt pad) kind.val id.toNat with
    | some x => s.loseCtx (padSt pad) x
    | none => s)

/-- The host tier ends (R395): its contexts are lost, and transfers end with an error. -/
def State.endTier (s : State) : State :=
  if s.rd hubSt O.HOST_TIER_STATE ≠ 1 then s
  else
    let s := (s.memory.ctxs.filter (fun x => x.place == .host)).foldl (fun s x => s.loseCtx hubSt x) s
    let s := s.putMemory { s.memory with dumps := [] }
    ((s.wr hubSt O.HOST_TIER_SIZE 0).wr hubSt O.HOST_TIER_STATE 2).raise F.MEM_HOST_TIER hubSt 0 0
/-- Whether a request is host software's, by the PCIe function, with the crossing up (R395). -/
def State.fromHost (s : State) (slot : Slot) : Bool := hostCarrier (s.session slot) && s.rd hubSt O.PCIE_STATE == 1
/-- A write of HOST_TIER_SIZE (R395): the tier exists once host software has written HOST_TIER_BASE and then a size that is not 0. -/
def effHostTierSize (slot : Slot) (v : Nat) : Effect := fun s =>
  if 65536 < v then .error .value
  else if v = 0 then .ok (s.endTier.wr hubSt O.HOST_TIER_SIZE 0)
  else
    let s := s.wr hubSt O.HOST_TIER_SIZE v
    .ok (if s.memory.baseSet ∧ s.fromHost slot then s.wr hubSt O.HOST_TIER_STATE 1 else s)
/-- HOST_TIER_SIZE (R395). -/
def execHostTierSize (slot : Slot) (v : BitVec 32) (s : State) : Out :=
  .next (s.writeReq slot hubSt O.HOST_TIER_SIZE 4 (effHostTierSize slot v.toNat))
/-- A write of HOST_TIER_BASE (R398). -/
def effHostTierBase (slot : Slot) (v : Nat) : Effect := fun s =>
  if s.rd hubSt O.HOST_TIER_SIZE ≠ 0 then .error .state
  else if v % 65536 ≠ 0 then .error .value
  else .ok (s.putMemory { s.memory with baseSet := s.fromHost slot } |>.wr hubSt O.HOST_TIER_BASE v)
/-- A write of TRACE_DUMP (R398). -/
def effTraceDump (v : Nat) : Effect := fun s =>
  match addrStation v with
  | some (.cluster _ _) => .error .value
  | none => .error .value
  | some st =>
    if s.rd st.addr O.TRACE_STATE = 3 ∧ s.rd hubSt O.HOST_TIER_STATE = 1 then
      .ok (s.putMemory { s.memory with dumps := (v :: s.memory.dumps).eraseDups })
    else .error .state
/-- TRACE_DUMP (R398). -/
def execTraceDump (slot : Slot) (v : BitVec 16) (s : State) : Out :=
  .next (s.writeReq slot hubSt O.TRACE_DUMP 2 (effTraceDump v.toNat))

end Sys2Proof.Machine
end

