-- ==== Sys2Proof/Machine/Network.lean ====
section
/-!
DEFINITION. The station network (R47-R55) and the tile crossings (R56-R58).
-/
namespace Sys2Proof.Machine
open Sys2Proof

/-! ### Messages -/

/-- The station next on the way from a hop to a destination (R47). -/
def nextHop (hop dst : Station) : Station :=
  match hop with
  | .cluster f _ => .field f
  | .hub => match dst with | .hub => .hub | .field f => .field f | .cluster f _ => .field f
  | .field f =>
    match dst with
    | .cluster g c => if g = f then .cluster f c else .hub
    | _ => .hub
/-- The station a message goes to: the hub resolves a group address (R47). -/
def destOf (a : Nat) : Option Station := if 0x8000 ≤ a then some .hub else addrStation a

/-- The link of a field station that carries its traffic: L0 while it is sound (R47). -/
def State.activeLink (s : State) (f : FieldId) : LinkRef := if (s.link (.fh f 0)).failed then .fh f 1 else .fh f 0
/-- The link between two neighbouring stations. -/
def State.linkBetween (s : State) (a b : Station) : Option LinkRef :=
  match a, b with
  | .cluster f c, .field _ => some (.cl f c)
  | .field _, .cluster f c => some (.cl f c)
  | .field f, .hub => some (s.activeLink f)
  | .hub, .field f => some (s.activeLink f)
  | _, _ => none
/-- A flit arrives on a link. -/
def State.flitOn (s : State) (l : LinkRef) : State := s.putLink l { s.link l with lastFlit := s.time l.watch }

/-- The key of a class at a station. -/
def classKey (st : Station) (c : NetClass) : Nat := st.addr * 4 + c.val
/-- A message is received at its destination (R51): the largest ELAPSED, the number, and the sum of the open 1 s window. -/
def State.receiveMsg (s : State) (st : Station) (c : NetClass) (elapsed : Nat) : State :=
  let a := st.addr
  let s := s.wr a (O.ELAPSED_MAX.nth c.val) (max (s.rd a (O.ELAPSED_MAX.nth c.val)) elapsed)
  let s := s.inc64 a (O.MSG_COUNT.nth c.val) 1
  let x := tblGet {} s.net.elapsed (classKey st c)
  { s with net := { s.net with elapsed := tblSet {} s.net.elapsed (classKey st c) ⟨x.sum + elapsed, x.count + 1⟩ } }

/-! ### Link outputs (R49, R50) -/

/-- The key of a link output. -/
def outKey (src dst : Nat) : Nat := src * 0x10000 + dst
/-- The messages in the buffers of a link output. -/
def State.buffered (s : State) (src dst : Nat) : List Transit := s.net.transit.filter (fun t => t.src == src && t.dst == dst)
/-- The class whose flit crosses next, `w` saying which have flits waiting (R49): class 0 before all; among the others the lowest, but class
2 after 7 other flits, and class 3 after 30, so that it is granted by the 32nd even behind a class 2 that is due (assumption 47). -/
def grantClass (a : OutArb) (w : Nat → Bool) : Option Nat :=
  if w 0 then some 0
  else if w 2 ∧ 7 ≤ a.since2 then some 2
  else if w 3 ∧ 30 ≤ a.since3 then some 3
  else [1, 2, 3].find? w
/-- The counts after a grant: a class that waits counts every other flit of classes 1 to 3. -/
def OutArb.granted (a : OutArb) (w : Nat → Bool) (c : Nat) : OutArb :=
  if c = 0 then a
  else ⟨if c = 2 ∨ !w 2 then 0 else a.since2 + 1, if c = 3 ∨ !w 3 then 0 else a.since3 + 1⟩
/-- The list with its first message of a class one flit further. -/
def sendFlit (c : Nat) (l : List Transit) : List Transit :=
  match l with
  | [] => []
  | t :: r => if t.msg.cls.val = c then { t with sent := t.sent + 1 } :: r else t :: sendFlit c r
/-- Flits cross a link output, one at each boundary, until a message has crossed whole: that message, the buffers left and the counts.
`fuel` bounds the flits. A class-0 message pre-empts a longer one, whose flits go on after it. -/
def runOut (fuel : Nat) (a : OutArb) (l : List Transit) : Option (Transit × List Transit × OutArb) :=
  match fuel with
  | 0 => none
  | n + 1 =>
    let w (c : Nat) : Bool := l.any (fun t => t.msg.cls.val == c)
    match grantClass a w with
    | none => none
    | some c =>
      let l' := sendFlit c l
      let a' := a.granted w c
      match l'.find? (fun t => t.msg.cls.val == c) with
      | some t => if t.msg.len.val < t.sent then some (t, l'.erase t, a') else runOut n a' l'
      | none => none
/-- The next message that crosses an output whole: a message has at most 16 flits (R47). -/
def State.nextOut (s : State) (src dst : Nat) : Option (Transit × List Transit × OutArb) :=
  let l := s.buffered src dst
  runOut (16 * l.length) (tblGet {} s.net.arb (outKey src dst)) l
/-- A message enters the buffer of its class at a link output. -/
def State.enqueueMsg (s : State) (src dst : Nat) (m : NetMsg) : State :=
  { s with net := { s.net with transit := s.net.transit ++ [{ src := src, dst := dst, msg := m }] } }
/-- A message has crossed an output. -/
def State.crossed (s : State) (src dst : Nat) (r : List Transit × OutArb) : State :=
  { s with net := { s.net with
      transit := s.net.transit.filter (fun t => !(t.src == src && t.dst == dst)) ++ r.1
      arb := tblSet {} s.net.arb (outKey src dst) r.2 } }

/-- What a hop does with a message that it has whole, `elapsed` ns old (R47, R48, R51): a class-0 header with LEN above 1 is discarded
and counted as a check error; a message for this station is received; another goes to the next hop's output; one to a reserved address
is discarded. -/
def State.routeMsg (s : State) (hop : Station) (msg : NetMsg) (elapsed : Nat) : State :=
  let h := hop.addr
  if msg.cls = 0 ∧ 1 < msg.len.val then
    { s with net := { s.net with checkErrs := tblSet 0 s.net.checkErrs h (tblGet 0 s.net.checkErrs h + 1) } }
  else
    match destOf msg.dest.toNat with
    | none => s
    | some d =>
      if d = hop then s.receiveMsg hop msg.cls elapsed
      else s.enqueueMsg h (nextHop hop d).addr { msg with elapsed := BitVec.ofNat 18 elapsed }

/-- The neighbour whose output delivers this message next to a hop, over a link that is sound. -/
def State.sender (s : State) (hop : Station) (msg : NetMsg) : Option Nat :=
  (s.net.transit.find? (fun t => t.dst == hop.addr && t.msg == msg
    && ((s.nextOut t.src hop.addr).any (fun r => r.1.msg == msg))
    && ((addrStation t.src).bind (fun a => s.linkBetween a hop)).any (fun l => !(s.link l).failed))).map Transit.src

/-- MESSAGE_FORWARD (R47-R51): a message received whole at `hop`, `spent` ns after the hop before it: the next that a neighbour's output
delivers, or a new one at its source. A message that the arbitration of R49 does not deliver next leaves the state as it is. -/
def execMessageForward (hop : Station) (msg : NetMsg) (spent : BitVec 18) (s : State) : Out :=
  let elapsed := min 262143 (msg.elapsed.toNat + spent.toNat)
  .next (match s.sender hop msg with
    | some src =>
      match s.nextOut src hop.addr with
      | none => s
      | some r =>
        let s := s.crossed src hop.addr r.2
        let s := match (addrStation src).bind (fun a => s.linkBetween a hop) with
          | some l => s.flitOn l
          | none => s
        s.routeMsg hop msg elapsed
    | none => if msg.src.toNat = hop.addr then s.routeMsg hop msg elapsed else s)

/-! ### Links -/

/-- A message of an output is in transfer: a flit of it has crossed, or it is the one that crosses now. -/
def State.inTransfer (s : State) (t : Transit) : Bool :=
  0 < t.sent || (s.nextOut t.src t.dst).any (fun r => r.1.msg == t.msg)
/-- Class 1 to 3 messages in transfer on a failed field link are lost and counted; the others move to the other link, class 0 from its
first flit (R53). -/
def State.loseTransit (s : State) (f : FieldId) : State :=
  let onLink (t : Transit) : Bool := (t.src == fSt f && t.dst == hubSt) || (t.src == hubSt && t.dst == fSt f)
  let lost (t : Transit) : Bool := onLink t && t.msg.cls != 0 && s.inTransfer t
  let gone := s.net.transit.filter lost
  let s := { s with net := { s.net with
    transit := (s.net.transit.filter (fun t => !lost t)).map (fun t => if onLink t then { t with sent := 0 } else t) } }
  gone.foldl (fun s t => s.inc32 t.src O.LOST_MSGS) s

/-- The reaction to a failed link (R53). A field station's links are reported by the hub, a cluster's by its field
station. -/
def State.failLink (s : State) (l : LinkRef) : State :=
  if (s.link l).failed then s
  else
    match l with
    | .cl f c =>
      let s := s.putLink l { s.link l with failed := true }
      let s := s.raise F.NET_LINK_CL (fSt f) c.val 0
      if isCompute c then s.zeroTile f (clusterTile c) else s
    | .fh f _ =>
      let s := if s.activeLink f = l then s.loseTransit f else s
      let s := s.putLink l { s.link l with failed := true }
      if s.fieldCut f then
        let s := (s.raise F.NET_FIELD_ISOL hubSt f.val 0).zeroField f
        ((s.submit (.field f) false .parent false).1).drive
      else s.raise F.NET_LINK_FH hubSt f.val 0

/-- The output of a link towards the hub (`up`) or away from it. -/
def linkOutput (up : Bool) : LinkRef → Nat × Nat
  | .cl f c => if up then (clSt f c, fSt f) else (fSt f, clSt f c)
  | .fh f _ => if up then (fSt f, hubSt) else (hubSt, fSt f)
/-- A link carries the traffic of its two stations (R47). -/
def State.carries (s : State) : LinkRef → Bool
  | .cl _ _ => true
  | .fh f l => s.activeLink f == .fh f l
/-- A link between a field station and the hub. -/
def isFieldLink : LinkRef → Bool
  | .cl _ _ => false
  | .fh _ _ => true
/-- A flit of the first message of a class at an output is discarded (R52): the sending hop resends a class-0 flit once; any other
message is lost with its flit. -/
def dropFlit (out : Nat × Nat) (cls : NetClass) (l : List Transit) : List Transit :=
  match l with
  | [] => []
  | t :: r =>
    if t.src = out.1 ∧ t.dst = out.2 ∧ t.msg.cls = cls then
      (if cls = 0 ∧ !t.resent then { t with resent := true } :: r else r)
    else t :: dropFlit out cls r
/-- A flit of the first message of a class at an output is on the link: the message is in transfer. -/
def flitOut (out : Nat × Nat) (cls : NetClass) (l : List Transit) : List Transit :=
  match l with
  | [] => []
  | t :: r => if t.src = out.1 ∧ t.dst = out.2 ∧ t.msg.cls = cls then { t with sent := t.sent + 1 } :: r else t :: flitOut out cls r
/-- An uncorrectable flit (R52): discarded, a class-0 flit is resent once; a second one within 1 ms fails the link, and on a field link
R53 then says what becomes of its message. -/
def State.badFlit (s : State) (l : LinkRef) (up : Bool) (cls : NetClass) : State :=
  let x := s.link l
  let now := s.time l.watch
  let again := x.lastBad.any (fun t => decide (now ≤ t + 1000000))
  let flit := if again && isFieldLink l then flitOut else dropFlit
  let s := if s.carries l then { s with net := { s.net with transit := flit (linkOutput up l) cls s.net.transit } } else s
  let s := s.putLink l { x with lastBad := some now, lastFlit := now, resent := if cls = 0 then x.resent + 1 else x.resent }
  if again then s.failLink l else s
/-- UNCORRECTABLE_FLIT (R52). -/
def execUncorrectableFlit (l : LinkEnd) (cls : NetClass) (s : State) : Out := .next (s.badFlit l.link l.up cls)
/-- LINK_HANDSHAKE_TIMEOUT (R52). -/
def execLinkHandshakeTimeout (l : LinkRef) (s : State) : Out := .next (s.failLink l)
/-- LINK_IDLE_TIMEOUT (R52): no flit has arrived for 2 µs. -/
def execLinkIdleTimeout (l : LinkRef) (s : State) : Out :=
  .next (if (s.link l).lastFlit + 2000 ≤ (s.time l.watch) then s.failLink l else s)

/-- The links of a station. -/
def linksOf : Station → List LinkRef
  | .cluster f c => [.cl f c]
  | .field f => [.fh f 0, .fh f 1] ++ allClusters.map (fun c => .cl f c)
  | .hub => allFields.flatMap (fun f => [.fh f 0, .fh f 1])
/-- IDLE_CHECK_FLIT (R52): the flit arrives on every link of the station that is sound. -/
def execIdleCheckFlit (st : Station) (s : State) : Out :=
  .next ((linksOf st).foldl (fun s l => if (s.link l).failed then s else s.flitOn l) s)

/-- CONTAIN for NET_LINK_CL at a cluster, which waited for the park that R53 puts before it. -/
def State.containLink (s : State) (f : FieldId) (c : ClusterId) : State :=
  let x := s.link (.cl f c)
  if x.contain then (s.putLink (.cl f c) { x with contain := false }).containCluster f c else s
/-- CLUSTER_LINK_PARK (R53): 1 ms after the loss of its link the cluster station parks itself; a CONTAIN that waits for
the park then takes it to LATCHED. -/
def execClusterLinkPark (f : FieldId) (c : ClusterId) (s : State) : Out :=
  .next (if (s.link (.cl f c)).failed then
    match s.cstate f c with
    | .starting | .running | .derated | .holding => ((s.parkCluster f c .link).containLink f c).drive
    | _ => s
  else s)

/-- LINK_SOUND (R53): the end of the link's conditions is reported; a CONTAIN for a cluster link that no park has met acts now. -/
def execLinkSound (l : LinkRef) (s : State) : Out :=
  if !(s.link l).failed then .next s
  else
    let s' := s.putLink l { s.link l with failed := false, lastBad := none, lastFlit := s.time l.watch }
    match l with
    | .cl f c => .next ((if (s.link l).contain then (s'.containLink f c).drive else s').endCondition F.NET_LINK_CL (fSt f) c.val)
    | .fh f _ =>
      let s' := if s.fieldCut f then s'.endCondition F.NET_FIELD_ISOL hubSt f.val else s'
      let bad := (s'.link (.fh f 0)).failed || (s'.link (.fh f 1)).failed
      .next (if bad then s' else s'.endCondition F.NET_LINK_FH hubSt f.val)

/-- OFFSET_EXCHANGE (R55): offset and uncertainty, each rounded towards zero. -/
def execOffsetExchange (st : Station) (t1 t2 t3 t4 : BitVec 64) (s : State) : Out :=
  let a : Int := t1.toNat
  let b : Int := t2.toNat
  let c : Int := t3.toNat
  let d : Int := t4.toNat
  let r : OffsetResult := ⟨st.addr, ((b - a) + (c - d)).tdiv 2, ((d - a) - (c - b)).tdiv 2⟩
  .next { s with net := { s.net with offset := some r } }

/-! ### Tile crossings -/

/-- TILE_TAKES_TOKEN_WORD (R56): the tile takes the newest word it finds, and older ones are discarded; the waiting word then
enters. -/
def execTileTakesTokenWord (f : FieldId) (t : TileId) (s : State) : Out :=
  let x := s.tile f t
  .next (s.putTile f t { x with
    taken := match x.words.getLast? with | some w => some w | none => x.taken
    words := x.waiting.toList, waiting := none })

/-- ACTIVITY_SNAPSHOT_REQUEST (R57): a request, or with 4 outstanding a stall. -/
def execActivitySnapshotRequest (f : FieldId) (t : TileId) (s : State) : Out :=
  let x := s.tile f t
  .next (if 4 ≤ x.asked then s.inc32 (fSt f) (O.ACT_STALLS.at t.val)
    else s.putTile f t { x with asked := x.asked + 1 })

end Sys2Proof.Machine
end

