-- ==== Sys2Proof/Machine/Faults.lean ====
section
/-!
DEFINITION. Messages of faults, actions, escalation, clearing, wires and injection (chapter Fault Collection and Reaction).
-/
namespace Sys2Proof.Machine
open Sys2Proof

/-- The identity of a fault message. -/
def fltId (code : BitVec 16) (st : Station) (k : BitVec 16) : FltId := ⟨code.toNat, st.addr, k.toNat⟩

/-! ### Messages (R367, R372, R373) -/

/-- The first entry that meets `p` takes `g`. -/
def mapFirst {α : Type} (p : α → Bool) (g : α → α) : List α → List α
  | [] => []
  | x :: r => if p x then g x :: r else x :: mapFirst p g r
/-- The list without the first entry that meets `p`. -/
def dropFirst {α : Type} (p : α → Bool) : List α → List α
  | [] => []
  | x :: r => if p x then r else x :: dropFirst p r

/-- FAULT_RAISE (R367, R373): a message that its station has sent, or sends again, reaches the collector. A resend that matches a
record adds nothing; one that finds none enters it, and FLT_MSG_LOST names the raising station. No message arrives over failed links. -/
def execFaultRaise (code : BitVec 16) (st : Station) (k : BitVec 16) (resend : Bool) (s : State) : Out :=
  let id := fltId code st k
  let mine (m : FltMsg) : Bool := m.id == id && (resend || !m.arrived)
  .next (match s.flt.outbox.find? mine with
  | none => s
  | some m =>
    if s.unreachable st then s
    else if resend ∧ !s.flt.resends.contains id then s
    else
      let s := { s with flt := { s.flt with
        outbox := mapFirst mine (fun m => { m with arrived := true }) s.flt.outbox
        resends := if resend then dropFirst (· == id) s.flt.resends else s.flt.resends } }
      let s := s.inc64 hubSt O.RAISES 1
      if !resend then s.enterRaise id m.data m.time m.injected
      else if s.matched id then s
      else (s.enterRaise id m.data m.time m.injected).raise F.FLT_MSG_LOST hubSt st.addr 0)
/-- FAULT_ACK_RECEIVE (R372): the acknowledgement of a message that has arrived reaches its station. -/
def execFaultAckReceive (st : Station) (code k : BitVec 16) (s : State) : Out :=
  let id := fltId code st k
  .next (if s.unreachable st then s
  else { s with flt := { s.flt with outbox := dropFirst (fun m => m.id == id && m.arrived) s.flt.outbox } })
/-- CONDITION_END_REPORT (R362): the report of an end reaches the collector, behind the raise that it ends. -/
def execConditionEndReport (code : BitVec 16) (st : Station) (k : BitVec 16) (s : State) : Out :=
  let id := fltId code st k
  .next (if s.flt.ends.contains id ∧ !s.unreachable st ∧ !s.flt.outbox.any (fun m => m.id == id && !m.arrived) then
    { s with flt := { s.flt with
        ends := dropFirst (· == id) s.flt.ends
        set := s.flt.set.map (fun r => if r.id = id then { r with present := false } else r) } }
  else s)

/-- RESEND_REQUEST (R373): a pair has been outstanding for 20 µs, or for 100 µs since the last request while a wire fault stands; every
station of the field sends every message not yet acknowledged again. -/
def execResendRequest (f : FieldId) (s : State) : Out :=
  let wait := if s.flt.wires.any (fun w => w.field == f.val) then 100000 else 20000
  .next (if s.pairOut f ∧ tblGet 0 s.flt.pairAt f.val + wait ≤ s.time hubSt then
    let l := (s.flt.outbox.filter (fun m => inField f m.id.station)).map FltMsg.id
    let t := tblSet 0 s.flt.pairAt f.val (s.time hubSt)
    ({ s with flt := { s.flt with resends := s.flt.resends ++ l, pairAt := t } }).inc32 hubSt O.RESENDS
  else s)

/-! ### Actions (R363-R365, R376) -/

/-- ACTED of the record that an action acted for. -/
def markActed (id : FltId) (r : FltRec) : FltRec := if r.id = id then { r with acted := true } else r
/-- ACTED in the record and its log entry (R376). -/
def State.setActed (s : State) (a : FltAction) : State :=
  { s with flt := { s.flt with
      set := s.flt.set.map (markActed a.body)
      overflow := s.flt.overflow.map (fun (o : OvfRec) => { o with body := markActed a.body o.body })
      single := s.flt.single.map (fun (o : OvfRec) => { o with body := markActed a.body o.body })
      log := s.flt.log.map (fun (e : LogEntry) =>
        if some e.seq = a.seq ∧ e.id = a.body ∧ !bit e.sev 4 then { e with sev := e.sev + 16 } else e) } }
/-- An action at its target (R364, R365): one that finds nothing to do leaves ACTED clear. -/
def State.performAction (s : State) (a : FltAction) : State :=
  if s.actsOn a.id a.sev then
    let s := if a.sev = 4 then s.contain (targetOf a.id) a.id.code else s.stopAll (stopScope a.id)
    s.drive.setActed a
  else s
/-- FAULT_ACTION_RECEIVE (R364, R365): the first action sent for this identity is performed. -/
def execFaultActionReceive (code : BitVec 16) (st : Station) (k : BitVec 16) (s : State) : Out :=
  let id := fltId code st k
  .next (match s.flt.actions.find? (fun a => a.id == id) with
  | none => s
  | some a => ({ s with flt := { s.flt with actions := dropFirst (fun a => a.id == id) s.flt.actions } }).performAction a)

/-! ### Escalation (R342, R370) -/

/-- The record of an identity, an overflow record and the single record by their own. -/
def State.recordOf (s : State) (id : FltId) : Option FltRec := s.records.find? (fun r => r.id == id)
/-- A record with its severity raised and its window restarted. -/
def escalated (r : FltRec) : FltRec := { r with sev := r.sev + 1, escDue := (r.escDue + r.window * 1000000) % 2 ^ 64 }
/-- The raises against which a record acts: its own, or those that it holds, one for each target. -/
def State.raisesOf (s : State) (id : FltId) : List FltId :=
  match (s.flt.overflow ++ s.flt.single.toList).find? (fun o => o.body.id == id) with
  | some o => o.raises.foldl (fun l i => if l.any (fun j => targetOf j == targetOf i && stopScope j == stopScope i) then l else l ++ [i]) []
  | none => [id]
/-- The STOP action of a record has completed: none is on its way, and its scope's domains are off. -/
def State.stopDone (s : State) (id : FltId) : Bool :=
  !s.flt.actions.any (fun a => a.body == id) &&
  (s.raisesOf id).all (fun i =>
    match stopScope i with
    | some f => (List.range 8).all (fun k => (s.dstate (fieldDomain f k)).isStopped)
    | none => allDomains.all (fun d => (s.dstate d).isStopped))
/-- ESC_DUE passes on a record; one at STOP brings the system reset of R342, which waits for its STOP action. -/
def State.escalate (s : State) (r : FltRec) : State :=
  if 5 ≤ r.sev then
    if s.rd hubSt O.ESC_RESET = 0 then s
    else if s.stopDone r.id then s.systemReset 6 r.id.code
    else { s with flt := { s.flt with escWait := if s.flt.escWait.contains r.id then s.flt.escWait else s.flt.escWait ++ [r.id] } }
  else
    let up (x : FltRec) : FltRec := if x.id = r.id then escalated x else x
    let s := { s with flt := { s.flt with
      set := s.flt.set.map up
      overflow := s.flt.overflow.map (fun (o : OvfRec) => { o with body := up o.body, up := o.up || o.body.id == r.id })
      single := s.flt.single.map (fun (o : OvfRec) => { o with body := up o.body, up := o.up || o.body.id == r.id }) } }
    let s := s.inc32 hubSt O.ESCALATIONS
    let seq := s.rd hubSt O.LOG_NEXT
    let s := s.logEntry r.id 1 (logSev (r.sev + 1) r.injected false) 0 (s.time hubSt)
    let s := s.notify 2 (r.sev + 1) r.id seq (s.time hubSt)
    (s.raisesOf r.id).foldl (fun s i => s.sendAction i (r.sev + 1) r.id (some seq)) s
/-- FAULT_ESCALATION (R342, R370): ESC_DUE has passed on an uncleared record; or the STOP action for which a reset waited has completed,
whether or not its record has been cleared since. -/
def execFaultEscalation (code : BitVec 16) (st : Station) (k : BitVec 16) (s : State) : Out :=
  let id := fltId code st k
  .next (if s.flt.escWait.contains id then (if s.stopDone id then s.systemReset 6 id.code else s)
  else match s.recordOf id with
  | none => s
  | some r => if r.escDue ≠ 0 ∧ r.escDue ≤ (s.time hubSt) then s.escalate r else s)

/-! ### Clearing (R371) -/

/-- Records named are cleared; what was held for them alone is released (R317, R364). -/
def State.clearNamed (s : State) (slot : Slot) (code st item : Nat) : State :=
  let s := (s.clearFaults slot code st item).releaseHeld
  if s.supply.bakLost ∧ !s.hasRecord F.SUP_BAK_LOST hubSt 0 then { s with supply := { s.supply with bakLost := false } } else s
/-- A write of FLT_CLEAR. -/
def effFltClear (slot : Slot) (w : Nat) : Effect := fun s =>
  .ok (s.clearNamed slot (bits w 63 48) (bits w 47 32) (bits w 31 16)).drive
/-- FLT_CLEAR (R371). -/
def execFltClear (slot : Slot) (word : BitVec 64) (s : State) : Out :=
  .next (s.writeReq slot hubSt O.FLT_CLEAR 8 (effFltClear slot word.toNat))
/-- A write of FLT_CLEAR_ALL. -/
def effFltClearAll (slot : Slot) (v : Nat) : Effect := fun s =>
  if v = 1 then .ok (s.clearNamed slot 0xFFFF 0xFFFF 0xFFFF).drive else if v = 0 then .ok s else .error .value
/-- FLT_CLEAR_ALL (R371). -/
def execFltClearAll (slot : Slot) (s : State) : Out := .next (s.writeReq slot hubSt O.FLT_CLEAR_ALL 1 (effFltClearAll slot 1))
/-- A write of a severity table (R379): SEV 0, 6 and 7 are reserved encodings; it applies to records entered after it. -/
def effSevTable (idx sub w : Nat) : Effect := fun s =>
  if bits w 31 29 = 0 ∨ 6 ≤ bits w 31 29 ∨ 16000 < bits w 15 0 then .error .value
  else .ok (s.wrRaw hubSt idx sub (w - bits w 28 16 * 2 ^ 16))

/-! ### Wires (R372) -/

/-- The number of a pair in WIRE_MASK: its cluster, or 31 for the field station's own. -/
def wireBit (pair : Option ClusterId) : Nat := match pair with | some c => c.val | none => 31
/-- A pair with equal rails: the receiver raises FLT_WIRE. -/
def State.wireFault (s : State) (f : FieldId) (pair : Option ClusterId) : State :=
  let w : WirePair := ⟨f.val, pair.map Fin.val⟩
  if s.flt.wires.contains w then s
  else
    let s := { s with flt := { s.flt with wires := s.flt.wires ++ [w], pairAt := s.pairTimes (fSt f) } }
    let s := s.wr (fSt f) O.WIRE_MASK (s.rd (fSt f) O.WIRE_MASK + 2 ^ wireBit pair)
    let s := s.inc32 (fSt f) O.WIRE_FAULTS
    match pair with
    | some c => s.raise F.FLT_WIRE (fSt f) c.val 0
    | none => s.raise F.FLT_WIRE hubSt 0x00FF 0
/-- WIRE_FAULT (R372). -/
def execWireFault (f : FieldId) (pair : Option ClusterId) (s : State) : Out := .next (s.wireFault f pair)
/-- WIRE_FAULT_END (R372). -/
def execWireFaultEnd (f : FieldId) (pair : Option ClusterId) (s : State) : Out :=
  let w : WirePair := ⟨f.val, pair.map Fin.val⟩
  .next (if s.flt.wires.contains w then
    let s := { s with flt := { s.flt with wires := s.flt.wires.filter (· != w) } }
    s.wr (fSt f) O.WIRE_MASK (s.rd (fSt f) O.WIRE_MASK - 2 ^ wireBit pair)
  else s)

/-! ### Injection (R374) -/

/-- A write of INJ_ARM. -/
def effInjArm (v : Nat) : Effect := fun s =>
  if v = 1 then .ok ({ s with flt := { s.flt with injAt := s.time hubSt } }.wr hubSt O.INJ_STATE 1) else if v = 0 then .ok s else .error .value
/-- INJ_ARM (R374). -/
def execInjArm (slot : Slot) (s : State) : Out := .next (s.writeReq slot hubSt O.INJ_ARM 1 (effInjArm 1))
/-- INJ_ARM_EXPIRE (R374): 1 ms after INJ_ARM the arm lapses. -/
def execInjArmExpire (s : State) : Out :=
  .next (if s.rd hubSt O.INJ_STATE = 1 ∧ s.flt.injAt + 1000000 ≤ s.time hubSt then s.wr hubSt O.INJ_STATE (if s.flt.injection.isSome then 2 else 0) else s)
/-- Whether a checker with a unit and a mode is present at a station: stores with correcting code take modes 1 and 2, those with
parity mode 3, a dual-rail pair mode 4. -/
def injPresent (st : Nat) (mode checker unit : Nat) : Bool :=
  let code := mode == 1 || mode == 2
  match addrStation st with
  | none => false
  | some t =>
    let engines := match t with | .hub => 16 | .field _ => 8 | .cluster _ _ => 1
    match checker with
    | 0 => code && unit < engines
    | 1 => code && unit < engines
    | 2 => mode == 3 && unit < engines
    | 3 => mode == 3 && (match t with | .cluster _ _ => true | _ => false)
    | 4 => code && (match t with | .cluster _ _ => unit == 0 | .field _ => unit < 2 | .hub => false)
    | 5 => code && (match t with | .cluster _ _ => false | .field _ => unit < 32 | .hub => unit < 64)
    | 6 => mode == 4 && (match t with | .hub => false | _ => true)
    | 7 => code && t == .hub
    | 8 => code && t == .hub
    | 9 => code && t == .hub
    | _ => false
/-- The arm of INJ_ARM stands: for 1 ms (R374). -/
def State.injArmed (s : State) : Bool := s.rd hubSt O.INJ_STATE == 1 && decide (s.time hubSt < s.flt.injAt + 1000000)
/-- A write of INJ_REQ: refused while not armed, which INJ_STATE 4 shows while no injection waits. -/
def actInjReq (w : Nat) : Action := fun s =>
  if !s.injArmed then (if s.rd hubSt O.INJ_STATE = 2 then s else s.wr hubSt O.INJ_STATE 4, some .state)
  else if injPresent (bits w 31 16) (bits w 15 12) (bits w 11 8) (bits w 7 0) then
    (({ s with flt := { s.flt with injection := some ⟨bits w 31 16, bits w 15 12, bits w 11 8, bits w 7 0⟩ } }).wr hubSt O.INJ_STATE 2, none)
  else (s, some .value)
/-- INJ_REQ (R374). -/
def execInjReq (slot : Slot) (word : BitVec 32) (s : State) : Out :=
  .next (s.requestA slot 0x02 hubSt O.INJ_REQ.index O.INJ_REQ.sub
    (fun s => s.admitWrite slot hubSt O.INJ_REQ.index O.INJ_REQ.sub 4) (actInjReq word.toNat))
/-- A corrected single-bit error of critical state is counted (R345). -/
def State.critCorrected (s : State) (checker : Nat) : State :=
  { s with flt := { s.flt with critErrs := tblSet 0 s.flt.critErrs checker (satAdd max32 (tblGet 0 s.flt.critErrs checker) 1) } }
/-- The reaction to an injected error, as to a real one. -/
def State.injectAt (s : State) (x : InjReq) (e : ColErr) (cls : NetClass) (mask : Byte) : State :=
  match addrStation x.station with
  | none => s
  | some t =>
    let eng := stationEngine t x.unit
    match x.checker with
    | 0 => if x.mode = 1 then s.engCorrected eng else s.critical (.engine eng 0 mask)
    | 1 => if x.mode = 1 then s.engCorrected eng else s.critical (.engine eng 0 mask)
    | 2 => s.critical (.engine eng 1 mask)
    | 3 => match t with | .cluster f c => s.critical (.clusterRegs f c) | _ => s
    | 4 =>
      let link : Option LinkRef := match t with
        | .cluster f c => some (.cl f c)
        | .field f => some (.fh f (Fin.ofNat 2 x.unit))
        | .hub => none
      match link with
      | some l =>
        if x.mode = 2 then s.badFlit l (match t with | .hub => false | _ => true) cls
        else { s with net := { s.net with checkErrs := tblSet 0 s.net.checkErrs x.station (tblGet 0 s.net.checkErrs x.station + 1) } }
      | none => s
    | 5 =>
      let word := e.word.toNat % (bankSize x.station / 8)
      if x.mode = 1 then s.corrected x.station x.unit e.col.val word else s.uncorrected x.station x.unit word
    | 6 => match t with | .cluster f c => s.wireFault f (some c) | .field f => s.wireFault f none | .hub => s
    | 7 => if x.mode = 2 then s.critical (.arbiter true) else s.critCorrected 7
    | 8 => if x.mode = 2 then s.critical .collector else s.critCorrected 8
    | 9 => if x.mode = 2 then s.critical .sequencer else s.critCorrected 9
    | _ => s
/-- INJECTION_APPLY (R374): at the next write of the store, or flit on the link. `e` is the word written and the column inverted in a
scratchpad, `cls` the class of the flit, `mask` the tasks whose lines or words hold the error of a general engine. -/
def execInjectionApply (e : ColErr) (cls : NetClass) (mask : Byte) (s : State) : Out :=
  .next (match s.flt.injection with
  | none => s
  | some x =>
    let armed := s.rd hubSt O.INJ_STATE == 1
    let s := { s with flt := { s.flt with injection := none, injected := some x } }
    let s := if armed then s else s.wr hubSt O.INJ_STATE 3
    let s := s.injectAt x e cls mask
    { s with flt := { s.flt with injected := none } })

end Sys2Proof.Machine
end

