-- ==== Sys2Proof/Machine/Moult.lean ====
section
/-!
DEFINITION. Image transfers, switches, trials, keys and the rollback count (chapter Moult: Updating and Repairing in Service).
-/
namespace Sys2Proof.Machine
open Sys2Proof

/-! ### Targets (R426, R427, R434) -/

/-- The inactive bank; with no bank running, the one that R426 would not choose (assumption 83). -/
def State.otherBank (s : State) : Nat :=
  let b := s.rd hubSt O.ACTIVE_BANK
  if b = 0 then 1 else if b = 1 then 0 else 1 - s.chosenBank
/-- OTHER_STATE (R436). -/
def State.otherState (s : State) : Nat :=
  let b := s.otherBank
  if !s.bankEligible b then 2 else if s.oparnError (s.bankImage b) 1 none ≠ 0 then 3 else if s.bankConfirm b = 0 then 0 else 1
/-- The TYPE of a target's image. -/
def targetType (t : Nat) : Nat := if t = 2 then 2 else if t = 3 then 3 else 1
/-- The flash address of a target of the open transfer. -/
def State.targetBase (s : State) (t : Nat) : Nat :=
  s.bankBase s.moult.bank + (if t = 2 then 0x200000 else if t = 3 then 0x300000 else 0)
/-- The bytes received for a target. -/
def State.targetBytes (s : State) (t n : Nat) : List Nat :=
  if t = 4 then (s.padBytes hubSt recoveryBase n).map BitVec.toNat else s.flashRead (s.targetBase t) n
/-- The boot ROM takes the recovery buffer (R434): the contexts held there are lost, and the banks leave the paging unit until the
firmware starts. The owner word they read meanwhile is the model's choice (assumption 107). -/
def State.takeBuffer (s : State) : State :=
  let s := (s.resident hubSt).foldl (fun s x => s.loseCtx hubSt x) s
  let s := recoveryBanks.foldl (fun s b => s.wr hubSt (O.OWNER.at b) 0) s
  { s with moult := { s.moult with buffer := true } }
def State.imgState (s : State) : Nat := s.rd hubSt O.IMG_STATE
def State.setImg (s : State) (v : Nat) : State := s.wr hubSt O.IMG_STATE v
/-- The transfer ends in IMG_STATE 5 with its error (R435). -/
def State.rejectImg (s : State) (err : Nat) : State :=
  let s := ((s.setImg 5).wr hubSt O.IMG_ERR err).raise F.MLT_IMG_REJECT hubSt 0 0
  if err = 7 ∨ err = 8 then s.raise F.MLT_FLASH hubSt 0 0 else s
/-- The error of a flash that answers badly: 1 a read-back that differs, 2 no answer. -/
def flashErr (k : Nat) : Nat := if k = 1 then 8 else 7

/-- A flash program starts, behind those in progress. -/
def State.addOp (s : State) (op : FlashOp) : State := { s with moult := { s.moult with ops := s.moult.ops ++ [op] } }

/-- A write of IMG_TARGET (R436). -/
def effImgTarget (v : Nat) : Effect := fun s =>
  if s.imgState ≠ 0 ∧ s.imgState ≠ 4 ∧ s.imgState ≠ 5 ∧ s.imgState ≠ 7 then .error .state
  else if v = 4 ∧ s.rst.boot.stage ≠ 5 then .error .state
  else if v = 0 ∨ 4 < v then .error .value
  else .ok (s.wr hubSt O.IMG_TARGET v)
/-- Step 1 of R427: the target area is erased; for the recovery buffer its banks are taken (R434). -/
def effImgOpen : Effect := fun s =>
  if s.imgState ≠ 0 ∧ s.imgState ≠ 4 ∧ s.imgState ≠ 5 ∧ s.imgState ≠ 7 then .error .state
  else if s.rd hubSt O.IMG_TARGET = 4 ∧ s.rst.boot.stage ≠ 5 then .error .state
  else
    let t := s.rd hubSt O.IMG_TARGET
    let s := { s with moult := { s.moult with bank := s.otherBank } }
    let s := if t = 4 then s.takeBuffer else s.flashErase (s.targetBase t) (oparnLimit (targetType t))
    .ok ((((s.setImg 1).wr hubSt O.IMG_ERR 0).wr hubSt O.IMG_LEN 0).wr hubSt O.IMG_INFO 0)
/-- How the flash answers an operation: as the operand says, but not at all while the SPI pins are not driven (R439). -/
def State.flashSays (s : State) (k : Nat) : Nat := if s.pinsLive then k else 2
/-- Step 2 of R427: a chunk is programmed and read back; `k` says how the flash answers. SLOT_SEQ and CONFIRM of a bank stay
erased until they are programmed. -/
def effImgChunk (l : List Byte) (k : Nat) : Effect := fun s =>
  let t := s.rd hubSt O.IMG_TARGET
  let off := leNat (l.take 4)
  let data := (l.drop 4).map BitVec.toNat
  if l.length < 5 ∨ 65540 < l.length then .error .length
  else if s.imgState ≠ 2 then .error .state
  else if oparnLimit (targetType t) < off + data.length then .error .value
  else if s.flashSays k ≠ 0 ∧ t ≠ 4 then .ok (s.rejectImg (flashErr (s.flashSays k)))
  else
    let kept := data.zipIdx.map (fun x => if t = 1 ∧ 0x10 ≤ off + x.2 ∧ off + x.2 < 0x18 then 0xFF else x.1)
    let s := if t = 4 then s.putPad hubSt (recoveryBase + off) data else s.flashWrite (s.targetBase t + off) kept
    .ok (s.wr hubSt O.IMG_LEN (max (s.rd hubSt O.IMG_LEN) (off + data.length)))
/-- Step 3 of R427: the checks start. -/
def effImgCheck : Effect := fun s => if s.imgState = 2 then .ok (s.setImg 3) else .error .state
/-- Step 5 of R427, which programs neither ineligible SLOT_SEQ, or the start from the recovery buffer (R434). -/
def effImgSwitch : Effect := fun s =>
  let t := s.rd hubSt O.IMG_TARGET
  if s.imgState ≠ 4 then .error .state
  else if t = 1 ∧ s.rd hubSt O.CONFIRMED = 1 then
    let a := s.rd hubSt O.ACTIVE_SEQ
    let v := if 0xFFFFFFFE ≤ a then 1 else a + 1
    .ok ((s.addOp (.slotSeq s.moult.bank v)).setImg 6)
  else if t = 4 ∧ s.rst.boot.stage = 5 then
    let img := s.targetBytes 4 (s.rd hubSt O.IMG_LEN)
    .ok ((s.setImg 0).startFirmware img 3 0 true)
  else .error .state
/-- Step 6 of R427: the count of CONFIRM_TIME ends (R428). -/
def effImgConfirm : Effect := fun s =>
  if s.rd hubSt O.CONFIRMED = 0 ∧ s.rst.boot.stage = 4 then
    let s := { s with rst := { s.rst with trialDue := none } }
    .ok (s.addOp (.confirm (s.rd hubSt O.ACTIVE_BANK)))
  else .error .state
/-- A manifest is installed at one instant, and its areas of both banks are to be written (R429). -/
def effImgInstall : Effect := fun s =>
  if s.rd hubSt O.IMG_TARGET = 3 ∧ s.imgState = 4 then
    let l := s.targetBytes 3 (s.rd hubSt O.IMG_LEN)
    let s := s.installManifest (oparnPayload l)
    let s := { s with moult := { s.moult with manifest := l } }
    .ok ((s.addOp .manifest).setImg 7)
  else .error .state
/-- The open transfer ends (R436). -/
def effImgAbort : Effect := fun s =>
  if 1 ≤ s.imgState ∧ s.imgState ≤ 4 then .ok (s.setImg 0) else .error .state
/-- Fuses up to ACTIVE_SVN are burnt (R425), of which there are 64; a burn that fails to read back leaves a count between the old one and the one
wanted. -/
def effRollback (ok : Bool) : Effect := fun s =>
  let old := s.rd hubSt O.ROLLBACK_CTR
  let svn := s.rd hubSt O.ACTIVE_SVN
  let new := max old (min 64 svn)
  if s.rd hubSt O.CONFIRMED ≠ 1 ∨ svn ≤ old then .error .state
  else if ok then .ok ((s.wr hubSt O.ROLLBACK_CTR new).mltLog 5 0 hubSt 0 new)
  else
    let d := s.draw
    let got := old + d.1 % max 1 (new - old)
    .ok (((d.2.wr hubSt O.ROLLBACK_CTR got).mltLog 5 8 hubSt 0 got).raise F.MLT_FUSE hubSt 0 0)
/-- A write of IMG_CTRL; whether a burn reads back is open here (assumption 84). -/
def effImgCtrl (v : Nat) : Effect := fun s =>
  match v with
  | 1 => effImgOpen s
  | 2 => effImgCheck s
  | 3 => effImgSwitch s
  | 4 => effImgConfirm s
  | 5 => effImgInstall s
  | 6 => effImgAbort s
  | 7 => let d := s.draw; effRollback (d.1 % 2 == 0) d.2
  | _ => .error .value
/-- A write of KEY_REVOKE (R424). -/
def effKeyRevoke (k : Nat) : Effect := fun s =>
  let live := (List.range 4).filter (fun j => bit (s.rd hubSt O.KEY_SLOTS) j && !bit (s.rd hubSt O.KEY_REVOKED) j)
  if s.moult.activeKey = some k ∨ live = [k] then .error .state
  else if 3 < k then .error .value
  else
    let r := s.rd hubSt O.KEY_REVOKED
    .ok ((s.wr hubSt O.KEY_REVOKED (if bit r k then r else r + 2 ^ k)).mltLog 6 0 hubSt k 0)

/-! ### Commands -/

/-- A write of IMG_CTRL with its effect. -/
def imgCtrl (slot : Slot) (e : Effect) (s : State) : Out := .next (s.writeReq slot hubSt O.IMG_CTRL 1 e)
/-- IMAGE_OPEN (R427). -/
def execImageOpen (slot : Slot) (s : State) : Out := imgCtrl slot effImgOpen s
/-- IMAGE_ERASE_DONE (R427): the erase completes; `k` says how the flash answers. -/
def execImageEraseDone (k : Fin 3) (s : State) : Out :=
  .next (if s.imgState ≠ 1 then s
  else if s.flashSays k.val = 0 ∨ s.rd hubSt O.IMG_TARGET = 4 then s.setImg 2 else s.rejectImg (flashErr (s.flashSays k.val)))
/-- IMG_CHUNK (R427). -/
def execImgChunk (slot : Slot) (data : List Byte) (k : Fin 3) (s : State) : Out :=
  .next (s.writeReq slot hubSt O.IMG_CHUNK data.length (effImgChunk data k.val))
/-- IMAGE_CHECK (R423). -/
def execImageCheck (slot : Slot) (s : State) : Out := imgCtrl slot effImgCheck s
/-- IMAGE_CHECK_DONE (R423, R427): `answered` says whether the flash answers. -/
def execImageCheckDone (answered : Bool) (s : State) : Out :=
  let t := s.rd hubSt O.IMG_TARGET
  let n := s.rd hubSt O.IMG_LEN
  let l := s.targetBytes t n
  let err := if (!answered ∨ !s.pinsLive) ∧ t ≠ 4 then 7 else
    let e := s.oparnError l (targetType t) (some n)
    if e = 0 ∧ t = 3 ∧ (manifestIds (oparnPayload l)).isNone then 4 else e
  .next (if s.imgState ≠ 3 then s
  else
    let s := s.wr hubSt O.IMG_INFO (oparnType l * 2 ^ 24 + oparnSvn l * 2 ^ 16 + oparnKey l * 2 ^ 8)
    if err = 0 then s.setImg 4 else s.rejectImg err)
/-- IMAGE_SWITCH (R427, R434). -/
def execImageSwitch (slot : Slot) (s : State) : Out := imgCtrl slot effImgSwitch s
/-- IMAGE_CONFIRM (R427). -/
def execImageConfirm (slot : Slot) (s : State) : Out := imgCtrl slot effImgConfirm s
/-- MANIFEST_INSTALL (R429). -/
def execManifestInstall (slot : Slot) (s : State) : Out := imgCtrl slot effImgInstall s
/-- IMAGE_ABORT (R436). -/
def execImageAbort (slot : Slot) (s : State) : Out := imgCtrl slot effImgAbort s
/-- ROLLBACK_COMMIT (R425): `ok` says whether the burn reads back. -/
def execRollbackCommit (slot : Slot) (ok : Bool) (s : State) : Out := imgCtrl slot (effRollback ok) s
/-- KEY_REVOKE (R424). -/
def execKeyRevoke (slot : Slot) (k : Byte) (s : State) : Out := .next (s.writeReq slot hubSt O.KEY_REVOKE 1 (effKeyRevoke k.toNat))

/-- FLASH_PROGRAM_DONE (R427, R429): the oldest flash program completes with its read-back. -/
def execFlashProgramDone (ok : Bool) (s : State) : Out :=
  .next (match s.moult.ops with
  | [] => s
  | op :: rest =>
    let ok := ok && s.pinsLive
    let s := { s with moult := { s.moult with ops := rest } }
    match op with
    | .slotSeq b v =>
      if ok then (((s.setBankSeq b v).mltLog 1 0 hubSt 0 v).setImg 0).coreReset 9
      else (s.mltLog 1 8 hubSt 0 v).rejectImg 8
    | .confirm b =>
      if ok then
        let s := ((s.confirmBank b).wr hubSt O.TRIAL_BOOTS 0).wr hubSt O.CONFIRMED 1
        s.mltLog 3 0 hubSt 0 (s.rd hubSt O.ACTIVE_SEQ)
      else ((s.wr hubSt O.IMG_ERR 8).mltLog 3 8 hubSt 0 (s.rd hubSt O.ACTIVE_SEQ)).raise F.MLT_FLASH hubSt 0 0
    | .manifest =>
      let l := s.moult.manifest
      if ok then
        let put (s : State) (b : Nat) : State := (s.flashErase (s.bankBase b + 0x300000) 4096).flashWrite (s.bankBase b + 0x300000) l
        let s := put (put s 0) 1
        { s with moult := { s.moult with manifest := [] } }
      else s.rejectImg 8)
/-- TRIAL_EXPIRE (R428): CONFIRM_TIME has run out in trial. -/
def execTrialExpire (s : State) : Out :=
  .next (if s.rst.held.isNone ∧ s.rst.trialDue.any (fun t => decide (t ≤ (s.time hubSt))) then
    (s.coreReset 8).raise F.MLT_TRIAL_EXPIRE hubSt 0 0
  else s)

end Sys2Proof.Machine
end

