-- ==== Sys2Proof/Machine/Windows.lean ====
section
/-!
DEFINITION. Telemetry windows (chapter Telemetry Conversion and Reporting): the 10 µs, 1 ms and 1 s figures of every record,
holds, and the domain current tables.
-/
namespace Sys2Proof.Machine
open Sys2Proof

/-! ### One record (R215-R218, R225, R226) -/

/-- A rounded 10 µs figure with its extremes enters a coarser window. -/
def Samp.enter (x : Samp) (avg lo hi : Int) : Samp :=
  if x.n = 0 then ⟨1, avg, lo, hi⟩ else ⟨x.n + 1, x.sum + avg, min x.lo lo, max x.hi hi⟩
/-- A figure of a record at its subindex. -/
def State.telFig (s : State) (st idx sub : Nat) : Nat := s.rdRaw st idx sub
/-- The three figures of a window with their peaks, from subindex `k`. -/
def State.putFigs (s : State) (st idx k : Nat) (v vmin i imax p pmax : Nat) : State :=
  (((((s.wrRaw st idx k v).wrRaw st idx (k + 1) vmin).wrRaw st idx (k + 2) i).wrRaw st idx (k + 3) imax).wrRaw st idx (k + 4)
    p).wrRaw st idx (k + 5) pmax
/-- A bit of the STATUS byte of a record. -/
def State.telBit (s : State) (st idx k : Nat) : Bool := bit (s.rdRaw st idx 0x19) k
def State.setTelBit (s : State) (st idx k : Nat) (b : Bool) : State :=
  let w := s.rdRaw st idx 0x19
  s.wrRaw st idx 0x19 (w - flagAt (bit w k) k + flagAt b k)
/-- The holds take a window's extremes, and a clear that waits then resets them (R218). -/
def State.holdFigs (s : State) (st idx : Nat) (vmin imax pmax : Option Nat) : State :=
  let s := match vmin with | some v => s.wrRaw st idx 0x13 (min v (s.rdRaw st idx 0x13)) | none => s
  let s := match imax with | some v => s.wrRaw st idx 0x14 (max v (s.rdRaw st idx 0x14)) | none => s
  let s := match pmax with | some v => s.wrRaw st idx 0x15 (max v (s.rdRaw st idx 0x15)) | none => s
  let r := s.tel st idx
  if r.clear then
    ((((s.putTel st idx { r with clear := false }).wrRaw st idx 0x13 0xFFFF).wrRaw st idx 0x14 0).wrRaw st idx 0x15 0).wrRaw
      st idx 0x17 (s.time st)
  else s

/-- The figure of a quantity whose samples are `k` to its unit: average, lowest and highest. -/
def sampFig (x : Samp) (k : Nat) : Option (Int × Int × Int) :=
  if x.n = 0 then none else some (divRne x.sum (x.n * k), divRne x.lo k, divRne x.hi k)
/-- A 10 µs figure in the coarser windows. -/
def enterFig (x : Samp) (g : Option (Int × Int × Int)) : Samp :=
  match g with | some (a, lo, hi) => x.enter a lo hi | none => x
/-- The 10 µs window of a measured record closes (R215-R218): `kv`, `ki`, `kp` are samples to the unit. -/
def State.closeFine (s : State) (st idx kv ki kp : Nat) : State :=
  let r := s.tel st idx
  let v := sampFig r.v kv
  let i := sampFig r.i ki
  let p := sampFig r.p kp
  let s := s.putTel st idx { r with
    v := {}, i := {}, p := {}, ovr := false
    v1 := enterFig r.v1 v, i1 := enterFig r.i1 i, p1 := enterFig r.p1 p
    v2 := enterFig r.v2 v, i2 := enterFig r.i2 i, p2 := enterFig r.p2 p }
  let s := match v with
    | some (a, lo, _) => (s.wrRaw st idx 1 (satU 16 a)).wrRaw st idx 2 (satU 16 lo)
    | none => s
  let s := match i with
    | some (a, _, hi) => (s.wrRaw st idx 3 (satU 32 a)).wrRaw st idx 4 (satU 32 hi)
    | none => s
  let s := match p with
    | some (a, _, hi) => (s.wrRaw st idx 5 (satU 32 a)).wrRaw st idx 6 (satU 32 hi)
    | none => s
  let s := s.holdFigs st idx (v.map (fun g => satU 16 g.2.1)) (i.map (fun g => satU 32 g.2.2)) (p.map (fun g => satU 32 g.2.2))
  ((s.wrRaw st idx 0x18 (s.time st)).setTelBit st idx 0 (v.isNone && i.isNone)).setTelBit st idx 3 r.ovr

/-- The 1 ms (`k` = 7) or 1 s (`k` = 0x0D) window of a record closes from its own 10 µs figures (R217). -/
def State.closeCoarse (s : State) (st idx k : Nat) : State :=
  let r := s.tel st idx
  let ms := k == 7
  let v := if ms then r.v1 else r.v2
  let i := if ms then r.i1 else r.i2
  let p := if ms then r.p1 else r.p2
  let s := s.putTel st idx (if ms then { r with v1 := {}, i1 := {}, p1 := {} } else { r with v2 := {}, i2 := {}, p2 := {} })
  let s := if v.n = 0 then s else (s.wrRaw st idx k (satU 16 v.avg)).wrRaw st idx (k + 1) (satU 16 v.lo)
  let s := if i.n = 0 then s else (s.wrRaw st idx (k + 2) (satU 32 i.avg)).wrRaw st idx (k + 3) (satU 32 i.hi)
  let s := if p.n = 0 then s else (s.wrRaw st idx (k + 4) (satU 32 p.avg)).wrRaw st idx (k + 5) (satU 32 p.hi)
  s.setTelBit st idx (if ms then 1 else 2) (decide (v.n = 0) && decide (i.n = 0))

/-! ### Wheels with members (R219) -/

/-- Members' figures: lowest voltage, sums of current and power. -/
structure Figs where
  v : Nat
  i : Nat
  p : Nat
deriving DecidableEq, Repr
/-- The record of a Wheel: station and index (R225). An MR has none. -/
def telRec : WheelRef → Option (Nat × Nat)
  | .mr _ _ _ => none
  | .domain d => some (hubSt, 0x2840 + d.val)
  | w => some (w.station, 0x2800)
/-- The average figures of a Wheel from subindex `k` on: an MR's are its cluster's voltage and its phase currents
(assumption 61). -/
def State.figsOf (s : State) (k : Nat) : WheelRef → Figs
  | .mr f c m =>
    let v := s.rdRaw (clSt f c) 0x2800 k
    let i := s.rd (clSt f c) (O.I_PHA.at m.val) + s.rd (clSt f c) (O.I_PHB.at m.val)
    ⟨v, i, (divRne (v * i : Nat) 1000).toNat⟩
  | w => match telRec w with
    | some (st, idx) => ⟨s.rdRaw st idx k, s.rdRaw st idx (k + 2), s.rdRaw st idx (k + 4)⟩
    | none => ⟨0, 0, 0⟩
/-- The figures of a Wheel from its members'. -/
def sumFigs (l : List Figs) : Figs :=
  ⟨minOf 0 (l.map Figs.v), min max32 (l.map Figs.i).sum, min max32 (l.map Figs.p).sum⟩
/-- The members of a Wheel with members (R31). -/
def State.membersOf (s : State) : WheelRef → List WheelRef
  | .domain d => (domClusters d).map (fun c => .cluster (domField d) c)
  | .field f => (List.range 8).map (fun k => .domain (fieldDomain f k))
  | .die => allFields.map .field
  | .group a => s.groupMembers (0x8000 + a.val)
  | _ => []
/-- A member's STALE bit `k`; a figure that could not reach the Wheel's station is missing. -/
def State.memberStale (s : State) (k : Nat) (w : WheelRef) : Bool :=
  match telRec w with
  | some (st, idx) => s.telBit st idx k || (match w with | .cluster f c => (s.link (.cl f c)).failed | .field f => s.fieldCut f | _ => false)
  | none => false

/-- The members' figures that a Wheel sums: a field station sums its domains' from its clusters' itself, so that a field cut off from the
hub still has its own (R219). -/
def State.memberFigs (s : State) (k : Nat) (w : WheelRef) : List Figs :=
  match w with
  | .field f => (List.range 7).map (fun j => sumFigs ((s.membersOf (.domain (fieldDomain f j))).map (s.figsOf k)))
      ++ [s.figsOf k (.domain (fieldDomain f 7))]
  | w => (s.membersOf w).map (s.figsOf k)
/-- Which of them are stale or missing: over 10 µs where any of its own members' is, over 1 ms and 1 s where all are (R226). -/
def State.memberMissing (s : State) (k : Nat) (w : WheelRef) : List Bool :=
  match w with
  | .field f => (List.range 7).map (fun j =>
        let l := (s.membersOf (.domain (fieldDomain f j))).map (s.memberStale k)
        if k = 0 then l.any id else l.all id)
      ++ [s.memberStale k (.domain (fieldDomain f 7)) || s.fieldCut f]
  | w => (s.membersOf w).map (s.memberStale k)

/-- The 10 µs figures of a Wheel: its peaks equal its averages. -/
def State.wheelFine (s : State) (w : WheelRef) : State :=
  match telRec w with
  | none => s
  | some (st, idx) =>
    let g := sumFigs (s.memberFigs 1 w)
    let r := s.tel st idx
    let s := s.putTel st idx { r with
      v1 := r.v1.enter g.v g.v g.v, i1 := r.i1.enter g.i g.i g.i, p1 := r.p1.enter g.p g.p g.p
      v2 := r.v2.enter g.v g.v g.v, i2 := r.i2.enter g.i g.i g.i, p2 := r.p2.enter g.p g.p g.p }
    let s := (s.putFigs st idx 1 g.v g.v g.i g.i g.p g.p).holdFigs st idx (some g.v) (some g.i) (some g.p)
    (s.wrRaw st idx 0x18 (s.time st)).setTelBit st idx 0 ((s.memberMissing 0 w).any id)
/-- The 1 ms or 1 s figures of a Wheel: averages from its members', peaks from its own 10 µs figures. -/
def State.wheelCoarse (s : State) (w : WheelRef) (k : Nat) : State :=
  match telRec w with
  | none => s
  | some (st, idx) =>
    let g := sumFigs (s.memberFigs k w)
    let r := s.tel st idx
    let v := if k = 7 then r.v1 else r.v2
    let i := if k = 7 then r.i1 else r.i2
    let p := if k = 7 then r.p1 else r.p2
    let s := s.putTel st idx (if k = 7 then { r with v1 := {}, i1 := {}, p1 := {} } else { r with v2 := {}, i2 := {}, p2 := {} })
    let s := s.putFigs st idx k g.v (if v.n = 0 then g.v else satU 16 v.lo) g.i (if i.n = 0 then g.i else satU 32 i.hi) g.p
      (if p.n = 0 then g.p else satU 32 p.hi)
    s.setTelBit st idx (if k = 7 then 1 else 2) ((s.memberMissing (if k = 7 then 1 else 2) w).all id)
/-- A group's 1 ms figures enter its 1 s window and its holds (R46, R219). -/
def State.groupMs (s : State) (w : WheelRef) : State :=
  match telRec w with
  | none => s
  | some (st, idx) =>
    let g := sumFigs ((s.membersOf w).map (s.figsOf 7))
    let r := s.tel st idx
    let s := s.putTel st idx { r with
      v2 := r.v2.enter g.v g.v g.v, i2 := r.i2.enter g.i g.i g.i, p2 := r.p2.enter g.p g.p g.p }
    let s := (s.putFigs st idx 7 g.v g.v g.i g.i g.p g.p).holdFigs st idx (some g.v) (some g.i) (some g.p)
    s.setTelBit st idx 1 ((s.membersOf w).all (s.memberStale 1))

/-! ### The stations' windows -/

/-- A cluster's 10 µs window: its record and its MRs' phase currents (R86). -/
def State.clusterFine (s : State) (f : FieldId) (c : ClusterId) : State :=
  let st := clSt f c
  let s := s.closeFine st 0x2800 1 1 1
  (mrsOf c).foldl (fun s m =>
    let r := s.mr f c m
    let s := s.putMr f c m { r with pa := {}, pb := {} }
    let s := if r.pa.n = 0 then s else s.wr st (O.I_PHA.at m.val) (satU 32 r.pa.avg)
    if r.pb.n = 0 then s else s.wr st (O.I_PHB.at m.val) (satU 32 r.pb.avg)) s

/-- The field's domains whose figures reach the hub. -/
def fieldDomains (f : FieldId) : List DomId := (List.range 7).map (fieldDomain f)
/-- Activity signature of the counts of a window (R280). -/
def signature (l : List Nat) : Nat :=
  (List.range 16).foldl (fun k b => k + min 15 (Nat.log2 (((l.drop (3 * b)).take 3).sum + 1)) * 2 ^ (4 * b)) 0
/-- The 10 µs figures of a tile: its guarded estimate while frozen, I_EST, and its signature (R232, R233, R239, R280). -/
def State.tileFine (s : State) (f : FieldId) (t : TileId) : State :=
  let st := fSt f
  let cl := clSt f (tileCluster t)
  let x := s.tile f t
  let lit := s.tileLive f t
  let s := s.putTile f t { x with sig := [], sigOut := if s.live f t then some (signature x.sig) else x.sigOut }
  let s := if !lit then s.wr st (O.P_EST.at t.val) 0
    else if x.frozen ≠ 0 then s.putPest f t (s.guardedP f t) else s
  let v := s.rdRaw cl 0x2800 1
  let p := s.rd st (O.P_EST.at t.val)
  if !lit then s.wr st (O.I_EST.at t.val) 0
  else if v = 0 then let r := s.draw; r.2.wr st (O.I_EST.at t.val) (r.1 % 2 ^ 32)
  else s.wr st (O.I_EST.at t.val) (satU 32 (divRne (p * 1000 : Nat) v))
/-- The field's temperature record over 10 µs (R216, R218). -/
def State.tempFine (s : State) (f : FieldId) : State :=
  let st := fSt f
  let x := s.therm f
  let hot := (List.range 19).foldl (fun (m : Int) n => max m (s.rdS st (O.T_J.at n))) (-32768)
  let roll (d : DiodeRec) : DiodeRec := { d with t0 := {}, t1 := d.t1.roll d.t0, t2 := d.t2.roll d.t0 }
  let s := s.putTherm f { x with
    h1 := x.h1.add hot, h2 := x.h2.add hot, clear := false, d0 := roll x.d0, d1 := roll x.d1 }
  let s := s.wrS st O.T_HOT_10US hot
  s.wrS st O.T_HOT_HOLD (if x.clear then -32768 else max hot (s.rdS st O.T_HOT_HOLD))
/-- The temperature record over 1 ms or 1 s. -/
def State.tempCoarse (s : State) (f : FieldId) (ms : Bool) : State :=
  let st := fSt f
  let x := s.therm f
  let h := if ms then x.h1 else x.h2
  let a := if ms then x.d0.t1 else x.d0.t2
  let b := if ms then x.d1.t1 else x.d1.t2
  let s := s.putTherm f (if ms then { x with h1 := {}, d0 := { x.d0 with t1 := {} }, d1 := { x.d1 with t1 := {} } }
    else { x with h2 := {}, d0 := { x.d0 with t2 := {} }, d1 := { x.d1 with t2 := {} } })
  let put (s : State) (q : Samp) (o : Obj) : State := if q.n = 0 then s else s.wrS st o q.avg
  let s := if h.n = 0 then s else s.wrS st (if ms then O.T_HOT_1MS_MAX else O.T_HOT_1S_MAX) h.hi
  put (put (put s h (if ms then O.T_HOT_1MS else O.T_HOT_1S)) a (if ms then O.T_D0_1MS else O.T_D0_1S)) b
    (if ms then O.T_D1_1MS else O.T_D1_1S)

/-- New figures of domains for the next publications (R220). -/
def State.markNew (s : State) (l : List DomId) (ms : Bool) : State :=
  let add (m : List Nat) : List Nat := (m ++ l.map Fin.val).eraseDups
  { s with pub := if ms then { s.pub with new1 := add s.pub.new1 } else { s.pub with new10 := add s.pub.new10 } }

/-- A field's 10 µs window. -/
def State.fieldFine (s : State) (f : FieldId) : State :=
  let s := if s.fieldCut f then s
    else ((fieldDomains f).foldl (fun s d => s.wheelFine (.domain d)) s).markNew (fieldDomains f) false
  let s := (s.wheelFine (.field f)).tempFine f
  allTiles.foldl (fun s t => s.tileFine f t) s
/-- A field's 1 ms or 1 s window. -/
def State.fieldCoarse (s : State) (f : FieldId) (k : Nat) : State :=
  let s := if s.fieldCut f then s
    else
      let s := (fieldDomains f).foldl (fun s d => s.wheelCoarse (.domain d) k) s
      if k = 7 then s.markNew (fieldDomains f) true else s
  let s := (s.wheelCoarse (.field f) k).tempCoarse f (k == 7)
  if k = 7 then
    (List.finRange 5).foldl (fun s q =>
      let x := s.adc f q
      (s.putAdc f q { x with slots := 0 }).wr (fSt f) (O.LOAD_1MS.at q.val) (min max16 (divRne x.slots 16).toNat)) s
  else s

/-- The auxiliary domains. -/
def auxDomains : List DomId := (List.range 8).map (fun a => Fin.ofNat 64 (56 + a))
/-- An auxiliary domain's figures are its rail's (R219). -/
def State.auxFine (s : State) (d : DomId) : State :=
  let r := 0x2880 + (domRail d).val
  let st := hubSt
  let v := s.rdRaw st r 1
  let i := s.rdRaw st r 3
  let p := s.rdRaw st r 5
  let idx := 0x2840 + d.val
  let x := s.tel st idx
  let s := s.putTel st idx { x with
    v1 := x.v1.enter v v v, i1 := x.i1.enter i i i, p1 := x.p1.enter p p p
    v2 := x.v2.enter v v v, i2 := x.i2.enter i i i, p2 := x.p2.enter p p p }
  let s := (s.putFigs st idx 1 v v i i p p).holdFigs st idx (some v) (some i) (some p)
  (s.wrRaw st idx 0x18 (s.time st)).setTelBit st idx 0 (s.telBit st r 0)
def State.auxCoarse (s : State) (d : DomId) (k : Nat) : State :=
  let st := hubSt
  let r := 0x2880 + (domRail d).val
  let idx := 0x2840 + d.val
  let x := s.tel st idx
  let v := if k = 7 then x.v1 else x.v2
  let i := if k = 7 then x.i1 else x.i2
  let p := if k = 7 then x.p1 else x.p2
  let fv := s.rdRaw st r k
  let fi := s.rdRaw st r (k + 2)
  let fp := s.rdRaw st r (k + 4)
  let s := s.putTel st idx (if k = 7 then { x with v1 := {}, i1 := {}, p1 := {} } else { x with v2 := {}, i2 := {}, p2 := {} })
  let s := s.putFigs st idx k fv (if v.n = 0 then fv else satU 16 v.lo) fi (if i.n = 0 then fi else satU 32 i.hi) fp
    (if p.n = 0 then fp else satU 32 p.hi)
  s.setTelBit st idx (if k = 7 then 1 else 2) (s.telBit st r (if k = 7 then 1 else 2))

/-- A rail's 10 µs window: its record, V_SENSE, V_LOCAL, I_RAIL and its phases' currents (R195, R196, R216). -/
def State.railFine (s : State) (r : RailId) : State :=
  let idx := 0x2880 + r.val
  let t := s.tel hubSt idx
  let x := s.rail r
  let s := s.closeFine hubSt idx 2 1 2000
  let s := if t.v.n = 0 then s
    else (s.wr hubSt (O.V_SENSE.at r.val) (s.rdRaw hubSt idx 1)).wr hubSt (O.I_RAIL.at r.val) (s.rdRaw hubSt idx 3)
  let s := if x.loc.n = 0 then s else s.wr hubSt (O.V_LOCAL.at r.val) (satU 16 (divRne x.loc.sum (x.loc.n * 2)))
  let s := s.putRail r { s.rail r with loc := {} }
  (phasesOf r).foldl (fun s p =>
    let y := s.phase r p
    (s.putPhase r p { y with charge := 0, span := 0, lastCharge := y.charge, lastSpan := y.span }).putPhaseI r p y.charge y.span) s
/-- A domain record whose field is cut off from the hub: its figures are missing, and a hold clear that waits is served (R218, R226). -/
def State.cutFine (s : State) (d : DomId) : State :=
  let idx := 0x2840 + d.val
  (((s.holdFigs hubSt idx none none none).wrRaw hubSt idx 0x18 (s.time hubSt)).setTelBit hubSt idx 0 true)
/-- E_DIE_MEAS grows by the energy of the 10 µs (R251). -/
def State.dieEnergy (s : State) : State :=
  let e := s.ledger.dieFrac + s.pDie + s.pAux
  let s : State := { s with ledger := { s.ledger with dieFrac := e % 100 } }
  s.inc64 hubSt O.E_DIE_MEAS (e / 100)
/-- The hub's 10 µs window. -/
def State.hubFine (s : State) : State :=
  let s := (List.finRange 16).foldl State.railFine s
  let s := (auxDomains.foldl State.auxFine s).markNew auxDomains false
  let s := (s.wheelFine .die).dieEnergy
  let s := s.groupWheels.foldl (fun s w => match telRec w with
    | some (st, idx) => s.holdFigs st idx none none none
    | none => s) s
  allFields.foldl (fun s f =>
    if s.fieldCut f then (fieldDomains f).foldl State.cutFine s else s.putArb f { s.arb f with axPower := some (s.rdRaw hubSt (0x2888 + f.val) 5) }) s
/-- The hub's 1 ms or 1 s window: rails, auxiliary domains, the die and the groups. -/
def State.hubCoarse (s : State) (k : Nat) : State :=
  let s := (List.finRange 16).foldl (fun s r => s.closeCoarse hubSt (0x2880 + r.val) k) s
  let s := auxDomains.foldl (fun s d => s.auxCoarse d k) s
  let s := s.wheelCoarse .die k
  let s := (allFields.filter s.fieldCut).foldl (fun s f =>
    (fieldDomains f).foldl (fun s d => s.setTelBit hubSt (0x2840 + d.val) (if k = 7 then 1 else 2) true) s) s
  let s := s.groupWheels.foldl (fun s w => if k = 7 then s.groupMs w else s.wheelCoarse w k) s
  if k = 7 then (s.markNew auxDomains true).coolBin (sumOf 64 (fun d => s.rdRaw hubSt (0x2840 + d) 0x0B)) else s

/-- The mean transit of each class over the 1 s window (R51). -/
def State.elapsedMean (s : State) (st : Station) : State :=
  (List.finRange 4).foldl (fun s (c : NetClass) =>
    let x := tblGet {} s.net.elapsed (classKey st c)
    let s := if x.count = 0 then s else s.wr st.addr (O.ELAPSED_MEAN.nth c.val) (satU 32 (divRne x.sum x.count))
    { s with net := { s.net with elapsed := tblErase s.net.elapsed (classKey st c) } }) s

/-- A window of `len` ns of a station ends at a multiple of it on the station's own count (R215). -/
def State.atWindow (s : State) (kind len : Nat) (st : Station) (act : State → State) : State :=
  let key := markKey kind st.addr
  if s.periodic key st.addr len 0 then act (s.mark key st.addr) else s
/-- TELEMETRY_WINDOW_10US (R215-R219, R232, R239, R280). -/
def execTelemetryWindow10us (st : Station) (s : State) : Out :=
  .next (s.atWindow 3 10000 st (fun s => match st with
  | .hub => s.hubFine
  | .field f => s.fieldFine f
  | .cluster f c => s.clusterFine f c))
/-- TELEMETRY_WINDOW_1MS (R217, R219, R267). -/
def execTelemetryWindow1ms (st : Station) (s : State) : Out :=
  .next (s.atWindow 4 1000000 st (fun s => match st with
  | .hub => s.hubCoarse 7
  | .field f => s.fieldCoarse f 7
  | .cluster f c => s.closeCoarse (clSt f c) 0x2800 7))
/-- TELEMETRY_WINDOW_1S (R217, R219, R51). -/
def execTelemetryWindow1s (st : Station) (s : State) : Out :=
  .next (s.atWindow 5 1000000000 st (fun s => (match st with
  | .hub => s.hubCoarse 0x0D
  | .field f => s.fieldCoarse f 0x0D
  | .cluster f c => s.closeCoarse (clSt f c) 0x2800 0x0D).elapsedMean st))

/-! ### Holds and publications -/

/-- The address of a record's HOLD_CLEAR (R225). -/
def telAddr : TelRef → Nat × Nat × Nat
  | .station st => (st.addr, 0x2800, 0x16)
  | .domain d => (hubSt, 0x2840 + d.val, 0x16)
  | .rail r => (hubSt, 0x2880 + r.val, 0x16)
  | .group a => (0x8000 + a.val, 0x2800, 0x16)
  | .temp f => (fSt f, 0x2801, 0x0B)
/-- A write of HOLD_CLEAR: the holds reset at the next window end (R218). -/
def effHoldClear (a : TelRef) (v : Nat) : Effect := fun s =>
  if v = 0 then .ok s
  else if v ≠ 1 then .error .value
  else .ok (match a with
    | .temp f => s.putTherm f { s.therm f with clear := true }
    | _ => s.putTel (telAddr a).1 (telAddr a).2.1 { s.tel (telAddr a).1 (telAddr a).2.1 with clear := true })
/-- HOLD_CLEAR (R218). -/
def execHoldClear (slot : Slot) (a : TelRef) (v : Byte) (s : State) : Out :=
  .next (s.writeReq slot (telAddr a).1 ⟨(telAddr a).2.1, (telAddr a).2.2⟩ 1 (effHoldClear a v.toNat))

/-- A table of R227: time, number, STALE, and the currents at subindex `k` of the domain records. -/
def State.domTable (s : State) (seq k : Nat) (fresh : List Nat) : List Byte :=
  leBytes 8 (s.time hubSt) ++ leBytes 4 seq ++ leBytes 4 0 ++ leBytes 8 (maskOf 64 (fun d => !fresh.contains d))
    ++ (List.range 64).flatMap (fun d => leBytes 4 (s.rdRaw hubSt (0x2840 + d) k))
/-- DOMAIN_TABLE_PUBLISH (R220): at every 10 µs window end of the hub the 10 µs table, at every 1 ms one the two 1 ms tables; a domain
without a new figure is carried over. -/
def execDomainTablePublish (ms : Bool) (s : State) : Out :=
  let b := s.pub
  .next (s.atWindow (if ms then 7 else 6) (if ms then 1000000 else 10000) .hub (fun s =>
    if ms then
      let n := (b.seq1 + 1) % 2 ^ 32
      let s := (s.putBlob hubSt O.DOM_I_1MS (s.domTable n 9 b.new1)).putBlob hubSt O.DOM_IMAX_1MS (s.domTable n 0x0A b.new1)
      { s with pub := { b with new1 := [], seq1 := n } }
    else
      let n := (b.seq10 + 1) % 2 ^ 32
      let s := s.putBlob hubSt O.DOM_I_10US (s.domTable n 3 b.new10)
      { s with pub := { b with new10 := [], seq10 := n } }))

end Sys2Proof.Machine
end

