-- ==== Sys2Proof/Machine/Read.lean ====
section
/-!
DEFINITION. What a dictionary object reads: the words that are computed, not stored, and the values of the BFV, STR and BLOB
objects.
-/
namespace Sys2Proof.Machine
open Sys2Proof

/-! ### Wheel records (R31-R34, R43-R46) -/

/-- The direct members of a Wheel (R31). -/
def State.directMembers (s : State) : WheelRef → List WheelRef
  | .cluster f c => (mrsOf c).map (fun m => .mr f c m)
  | w => s.membersOf w
/-- A Wheel with everything below it; `fuel` bounds the levels. -/
def State.treeN (s : State) (fuel : Nat) (w : WheelRef) : List WheelRef :=
  match fuel with
  | 0 => [w]
  | n + 1 => w :: (s.directMembers w).flatMap (s.treeN n)
/-- At most 256 groups nest above the four levels below a die (R31, R42). -/
def State.tree (s : State) (w : WheelRef) : List WheelRef := s.treeN 261 w

/-- SET_NOW of a Wheel (R33). -/
def State.setNowN (s : State) (fuel : Nat) (w : WheelRef) : Nat :=
  let ofCluster (f : FieldId) (c : ClusterId) : Nat :=
    if (s.cstate f c).isOn then (s.loop f c).setNow / 16 else s.setpoint f c
  let ofRail (r : RailId) : Nat := if s.railSwitching r then ((s.vRefNow r : Int) - ofBits 16 (s.rd hubSt (O.REF_TRIM.at r.val))).toNat
    else s.railTarget r
  match w, fuel with
  | .mr f c _, _ => ofCluster f c
  | .cluster f c, _ => ofCluster f c
  | .domain d, _ =>
    if isAux d then ofRail (domRail d)
    else
      let on := (domClusters d).filter (fun c => (s.cstate (domField d) c).isOn)
      minOf (s.rd hubSt (O.VSET.at d.val)) (on.map (ofCluster (domField d)))
  | .field f, _ => ofRail (frRail f)
  | .die, _ => 0
  | .group a, n + 1 =>
    if s.hasSetpoint 257 (.group a) then minOf 0 ((s.groupMembers (0x8000 + a.val)).map (s.setNowN n)) else 0
  | .group _, 0 => 0

/-- SETPOINT of a Wheel (R31-R33, R43). -/
def State.setpointOf (s : State) : WheelRef → Nat
  | .mr f c _ => s.setpoint f c
  | .domain d => s.rd hubSt (O.VSET.at d.val)
  | .die => 0
  | .group a => if s.hasSetpoint 257 (.group a) then s.rdRaw (0x8000 + a.val) 0x2010 4 else 0
  | w => s.rdRaw w.station w.index 4

/-- The Wheel of a station (R369). -/
def stationWheel (st : Nat) : WheelRef :=
  match addrStation st with
  | some (.cluster f c) => .cluster f c
  | some (.field f) => .field f
  | _ => .die
/-- The Wheels a record belongs to (R369): its target, where that is a Wheel (a field and an auxiliary domain for IBUS_UV; the Wheel that
R364 isolates for a rail); else the Wheel of the raising station. -/
def faultWheels (id : FltId) : List WheelRef :=
  match targetOf id with
  | .mr f c m => [.mr f c m]
  | .cluster f c => [.cluster f c]
  | .domain d => [.domain d]
  | .field f => [.field f]
  | .fieldAux f => [.field f, .domain (fieldDomain f 7)]
  | .rail r => [railWheel r]
  | .phase _ _ | .converter _ | .adc _ _ | .engine _ | .segment _ | .none => [stationWheel id.station]
/-- Whether a Wheel lies in or below another (R34). -/
def State.coversN (s : State) (fuel : Nat) (w v : WheelRef) : Bool :=
  w == v ||
  match w, fuel with
  | .die, _ => (match v with | .group _ => false | _ => true)
  | .field f, _ => (match v with | .mr g _ _ => g == f | .cluster g _ => g == f | .domain d => domField d == f | _ => false)
  | .domain d, _ => (match v with | .mr f c _ => clusterDomain f c == d | .cluster f c => clusterDomain f c == d | _ => false)
  | .cluster f c, _ => (match v with | .mr g e _ => g == f && e == c | _ => false)
  | .group a, n + 1 => (s.groupMembers (0x8000 + a.val)).any (fun m => s.coversN n m v)
  | _, _ => false
/-- Every uncleared record with the raises it holds (R367). -/
def State.faultViews (s : State) : List (FltRec × List FltId) :=
  s.flt.set.map (fun r => (r, [r.id])) ++ s.flt.overflow.map (fun o => (o.body, o.raises))
    ++ s.flt.single.toList.map (fun o => (o.body, o.raises))
/-- The highest severity of the records of a Wheel and its members, and the code of the most recent of them (R34). -/
def State.worst (s : State) (w : WheelRef) : Nat × Nat :=
  let mine := s.faultViews.filter (fun v => v.2.any (fun id => (faultWheels id).any (s.coversN 257 w)))
  let top := (mine.map (fun v => v.1.sev)).foldl max 0
  let last := (mine.filter (fun v => v.1.sev == top)).foldl
    (fun (a : Nat × Nat) v => if a.1 ≤ v.1.entryTime then (v.1.entryTime, v.1.id.code) else a) (0, 0)
  (top, last.2)
/-- A link of the station that holds a Wheel has failed (R34). -/
def State.wheelLinkBad (s : State) : WheelRef → Bool
  | .mr f c _ => (s.link (.cl f c)).failed
  | .cluster f c => (s.link (.cl f c)).failed
  | .field f => (s.link (.fh f 0)).failed || (s.link (.fh f 1)).failed
  | _ => false
/-- A cluster loop has been late since the last clear that named its station (R34). -/
def State.lateSince (s : State) : WheelRef → Bool
  | .cluster f c => s.rd (clSt f c) O.LATE_COUNT != (s.loop f c).lateBase
  | _ => false
/-- The fault summary word (R34). -/
def State.faultsWord (s : State) (w : WheelRef) : Nat :=
  let t := s.tree w
  let top := s.worst w
  let bad := ((s.directMembers w).filter (fun m => 0 < (s.worst m).1)).length
  top.1 * 2 ^ 29 + flagAt (t.any (fun v => s.shown v == .latched)) 28 + flagAt (t.any s.lateSince) 27
    + flagAt (t.any (fun v => s.shown v == .holding)) 26 + flagAt (t.any s.wheelLinkBad) 25
    + flagAt ((s.wheel w).reject || (s.wheel w).refused) 24 + min 255 bad * 2 ^ 16 + top.2

/-- An object of a Wheel record (R33). -/
def State.wheelObj (s : State) (w : WheelRef) (sub : Nat) : Nat :=
  let raw := s.rdRaw w.station w.index sub
  match sub with
  | 0x02 => (s.shown w).code
  | 0x04 => s.setpointOf w
  | 0x05 => s.setNowN 257 w
  | 0x09 => s.ilimitEff w
  | 0x0A => (s.figsOf 7 w).v
  | 0x0B => (s.figsOf 7 w).i
  | 0x0C => (s.figsOf 7 w).p
  | 0x0D => s.faultsWord w
  | 0x0E => (s.parents w).length
  | 0x0F => (s.directMembers w).length
  | _ => raw

/-! ### Words of the chapters -/

/-- A domain's record (R29). -/
def State.domObj (s : State) (d : DomId) (sub : Nat) : Nat :=
  match sub with
  | 0x06 => (s.dstate d).code
  | 0x07 => s.domActiveMr d
  | 0x08 => s.domParkedMask d
  | 0x09 => s.domCapCont d
  | 0x0A => s.domCapPeak d
  | _ => s.rdRaw hubSt (0x2040 + d.val) sub
/-- A field's delivery record (R29). -/
def State.feedObj (s : State) (f : FieldId) (sub : Nat) : Nat :=
  match sub with
  | 0x01 => s.dxActive f
  | 0x02 => s.busPmax f
  | 0x03 => s.railPhases (frRail f)
  | 0x04 => s.railPhases (frRail f) * 40000
  | 0x05 => s.railPhases (frRail f) * 60000
  | 0x06 => s.railPhases (axRail f)
  | _ => s.rdRaw hubSt (0x2080 + f.val) sub
/-- N_FALLBACK: the members of the ring in sense fallback (R195). -/
def State.inFallback (s : State) (r : RailId) : Nat :=
  ((phasesOf r).filter (fun p => (s.phase r p).fallback && (s.phase r p).dropped == 0)).length

/-- The engine status word (R155). After reset CLASS_NOW reads 7 and TASK_NOW 0xF, the Reset column of R155, where the Default column of
R154 gives the word as 0; an engine that has failed, is replaced and stands in block reset at once shows 4, before 3 and 2 (the model's
choices, assumption 102). -/
def State.engStatus (s : State) (e : EngId) : Nat :=
  let r := s.eng e
  let carried : Bool := match engStation e with
    | .cluster f c => s.spareFor f == some c
    | _ => false
  let carrying : Bool := match engStation e with
    | .field f => isSpare e && (s.spareFor f).isSome
    | _ => false
  let st := if r.closed then 4 else if r.failed then (if carried then 3 else 2) else if carried then 3
    else if carrying then 6 else if isSpare e then 5 else if r.running.isSome then 1 else 0
  let now := r.running.bind r.bank
  let on := maskOf 8 (fun t => s.rd (engSt e) (taskObj O.TASK_STATE e (Fin.ofNat 8 t)) == 2)
  st * 2 ^ 29 + r.running.getD 7 * 2 ^ 26 + now.elim 0xF Bank.task * 2 ^ 22 + on * 2 ^ 14 + now.elim 0 Bank.pc % 256
/-- BUSY_1S (R154): the measured time is the implementation's (assumption 85). -/
def State.busy1s (s : State) (e : EngId) : Nat :=
  if (s.time (engSt e)) < 1000000000 then 0 else Config.busyTime e.val ((s.time (engSt e)) / 1000000000) % 1001

/-- STATUS of a droop sensor (R85). -/
def State.sensorStatus (s : State) (f : FieldId) (c : ClusterId) (n : SensorId) : Nat :=
  if !bit (s.rd (clSt f c) O.ENABLE_MASK) n.val then 1 else (s.sensor f c n).reason

/-- BOOT_STATUS (R359). -/
def bootWord (b : BootRec) : Nat :=
  b.stage * 2 ^ 29 + b.src % 4 * 2 ^ 27 + b.bank % 2 * 2 ^ 26 + flagAt b.fallback 25 + flagAt b.optBlank 24 + b.err % 256 * 2 ^ 16
/-- TRIP_STATUS (R315). -/
def State.tripWord (s : State) : Nat :=
  let t := s.trip
  t.state * 2 ^ 29 + t.cause * 2 ^ 27 + t.field * 2 ^ 24 + t.node * 2 ^ 19 + flagAt s.coolOk 18 + flagAt s.waitOk 17
    + flagAt s.tripInhibit 16 + flagAt t.pending 15 + flagAt t.locked 14
/-- WINDOW_LEFT (R311). -/
def State.windowLeft (s : State) : Nat :=
  if s.trip.windowOpen then (600000000000 - ((s.time hubSt) - s.trip.windowStart + s.trip.windowPast)) / 1000000 else 0
/-- SEQ_STATE: held by a trip, or by R311. -/
def State.seqState (s : State) : Nat :=
  if !s.seq.armed then 0
  else if s.trip.state = 1 ∨ s.trip.state = 2 ∨ s.trip.state = 4 ∨ s.trip.pending ∨ s.trip.locked then 3
  else if s.seq.jobs.isEmpty && s.seq.waiting.isEmpty then 1 else 2
/-- TRIAL_LEFT in ms (R428). -/
def State.trialLeft (s : State) : Nat := s.rst.trialDue.elim 0 (fun t => (t - (s.time hubSt)) / 1000000)
/-- A session's record (R420). -/
def sessionObj (x : Session) (sub : Nat) : Nat :=
  match sub with
  | 0 => 7
  | 1 => flagAt x.isOpen 0
  | 2 => x.carrier
  | 3 => x.peer
  | 4 => x.noteSev
  | 5 => x.notes.length
  | 6 => x.noteLost
  | _ => x.lastActive
/-- Entries of the ledger by state (R245): their number. -/
def State.entriesIn (s : State) (l : List Nat) : Nat := (s.usedHandles.filter (fun h => l.contains (s.entryState h))).length

/-- Words of the hub. -/
def State.hubWord (s : State) (slot : Slot) (idx sub : Nat) : Nat :=
  let raw := s.rdRaw hubSt idx sub
  let me := s.session slot
  if idx = 0x1110 then
    (match sub with
    | 0x0A => (allSlots.filter (fun k => (s.session k).isOpen)).length
    | 0x0C => slot.val
    | _ => raw)
  else if 0x1120 ≤ idx ∧ idx < 0x1140 then sessionObj (s.session (Fin.ofNat 32 (idx - 0x1120))) sub
  else if idx = 0x1200 ∧ sub = 0x0B then bootWord s.rst.boot
  else if idx = 0x1300 ∧ sub = 2 then s.flt.set.length
  else if idx = 0x1300 ∧ sub = 3 then (s.flt.set.map FltRec.sev).foldl max 0
  else if idx = 0x1300 ∧ sub = 4 then flagAt (!s.flt.overflow.isEmpty) 0
  else if idx = 0x1301 ∧ sub = 3 then me.fltResult
  else if idx = 0x1500 ∧ sub = 7 then s.trialLeft
  else if idx = 0x1500 ∧ sub = 0x10 then s.otherState
  else if idx = 0x2001 then maskOf 64 (fun d => (s.dstate (Fin.ofNat 64 d)).isUp)
  else if idx = 0x2002 then maskOf 64 (fun d => s.dstate (Fin.ofNat 64 d) == .latched)
  else if 0x2040 ≤ idx ∧ idx < 0x2080 then s.domObj (Fin.ofNat 64 (idx - 0x2040)) sub
  else if 0x2080 ≤ idx ∧ idx < 0x2088 then s.feedObj (Fin.ofNat 8 (idx - 0x2080)) sub
  else if idx = 0x2500 ∧ sub = 2 then sumOf 16 (fun r => s.railPhases (Fin.ofNat 16 r))
  else if 0x2520 ≤ idx ∧ idx < 0x2530 then
    let r : RailId := Fin.ofNat 16 (idx - 0x2520)
    (match sub with
    | 4 => s.vRefNow r
    | 7 => s.railPhases r
    | 8 => s.inFallback r
    | _ => raw)
  else if 0x2580 ≤ idx ∧ idx < 0x2590 ∧ sub ≠ 0 then s.phaseStatus (Fin.ofNat 16 (idx - 0x2580)) (Fin.ofNat 32 (sub - 1))
  else if idx = 0x2A00 then
    (match sub with
    | 1 => s.entriesIn [1, 2]
    | 2 => s.entriesIn [3]
    | 5 => sumOf 8 (fun f => (s.estr (Fin.ofNat 8 f)).unattr / 1024)
    | _ => raw)
  else if idx = 0x2A10 ∧ sub = 5 then me.opResult
  else if idx = 0x2A20 ∧ sub = 1 then s.ledger.count
  else if idx = 0x2B10 ∧ sub = 3 then me.partResult
  else if idx = 0x2B10 ∧ sub = 4 then s.claims.length
  else if 0x2B28 ≤ idx ∧ idx < 0x2B30 ∧ sub ≠ 0 then (s.part ((idx - 0x2B28) * 128 + (sub - 1))).elim 256 PartRec.pace
  else if idx = 0x2B40 ∧ sub = 1 then s.curdUsed.length
  else if idx = 0x2C80 ∧ sub = 6 then s.tripWord
  else if idx = 0x2C80 ∧ sub = 0x0C then s.windowLeft
  else if idx = 0x2D00 then
    (match sub with
    | 0x01 => s.seqState
    | 0x0C => me.seqResult
    | 0x0D => flagAt s.supply.vio18 0 + flagAt s.supply.vbak 1 + flagAt s.supply.bakLost 2
    | 0x0E => maskOf 8 (fun f => s.railUp (frRail (Fin.ofNat 8 f)))
    | _ => raw)
  else raw

/-- Words of a field station. -/
def State.fieldWord (s : State) (f : FieldId) (idx sub : Nat) : Nat :=
  let raw := s.rdRaw (fSt f) idx sub
  if idx = 0x2900 ∧ sub = 9 then s.frozenMask f
  else if idx = 0x2900 ∧ sub = 0x0B then (s.estr f).unattr / 1024
  else if 0x2910 ≤ idx ∧ idx < 0x2920 ∧ sub = 1 then s.estState f (Fin.ofNat 16 (idx - 0x2910))
  else if idx = 0x2B80 then
    (match sub with
    | 0x03 => resOf (s.arb f)
    | 0x04 => (s.arb f).queue.length
    | 0x0A => (s.arb f).hints.length
    | 0x0D => maskOf 16 (fun t => (s.tile f (Fin.ofNat 16 t)).fence)
    | _ => raw)
  else if 0x2B90 ≤ idx ∧ idx < 0x2BA0 ∧ sub = 0x13 then
    let t : TileId := Fin.ofNat 16 (idx - 0x2B90)
    (s.predOf f t).elim 0 (fun p => s.predLevel f t p.level)
  else if 0x2B90 ≤ idx ∧ idx < 0x2BA0 ∧ sub = 0x14 then (s.predOf f (Fin.ofNat 16 (idx - 0x2B90))).elim 0 Pred.src
  else raw

/-- Words of a cluster station. POS_NOW is rounded down to whole mV (the model's choice, assumption 12); HOLD_CODE is 0 outside HOLDING
(R119). -/
def State.clusterWord (s : State) (f : FieldId) (c : ClusterId) (idx sub : Nat) : Nat :=
  let raw := s.rdRaw (clSt f c) idx sub
  if idx = 0x2101 ∧ sub = 1 then s.loopStatus f c
  else if idx = 0x2101 ∧ sub = 2 then s.refRead f c
  else if idx = 0x2101 ∧ sub = 3 then (s.loop f c).posNow / 16
  else if idx = 0x2101 ∧ sub = 8 then if s.cstate f c = .holding then raw else 0
  else if idx = 0x2200 ∧ sub = 2 then s.activeMrs f c
  else if idx = 0x2200 ∧ sub = 3 then maskOf (mrCount c) (fun m => (s.mr f c (Fin.ofNat 24 m)).cause != 0)
  else if 0x2210 ≤ idx ∧ idx < 0x2228 ∧ sub = 1 then mrStatus (s.mr f c (Fin.ofNat 24 (idx - 0x2210))) (s.time (clSt f c))
  else if 0x2310 ≤ idx ∧ idx < 0x2330 ∧ sub = 1 then s.sensorStatus f c (Fin.ofNat 32 (idx - 0x2310))
  else raw

/-- LINKS (R418): the hub has no parent. -/
def State.linksWord (s : State) : Station → Nat
  | .hub => 0
  | .field f => flagAt (!(s.link (.fh f 0)).failed) 0 + flagAt (!(s.link (.fh f 1)).failed) 1
  | .cluster f c => flagAt (!(s.link (.cl f c)).failed) 0

/-- The number a scalar object reads, for the session `slot`. -/
def State.objWord (s : State) (slot : Slot) (st idx sub : Nat) : Nat :=
  match recordWheel st idx sub, addrStation st with
  | some w, none => s.wheelObj w sub
  | none, none => if idx = 0x2011 ∧ sub = 0 then (s.groupMembers st).length else s.rdRaw st idx sub
  | rw, some t =>
    if idx = 0x2010 ∨ 0x2020 ≤ idx ∧ idx < 0x2038 ∨ 0x20C0 ≤ idx ∧ idx < 0x2100 then rw.elim (s.rdRaw st idx sub) (fun w => s.wheelObj w sub)
    else if idx = 0x1100 ∧ sub = 0x0D then s.linksWord t
    else if idx = 0x1410 ∧ sub = 1 then s.storeBytes st
    else if idx = 0x1410 ∧ sub = 2 then s.storeFree st
    else if idx = 0x1410 ∧ sub = 3 then (s.resident st).length
    else if 0x1440 ≤ idx ∧ idx < 0x1480 ∧ sub = 1 then s.ownerWord st (idx - 0x1440)
    else if 0x2410 ≤ idx ∧ idx < 0x2420 ∧ sub = 1 then s.engStatus (stationEngine t (idx - 0x2410))
    else if 0x2410 ≤ idx ∧ idx < 0x2420 ∧ sub = 6 then s.busy1s (stationEngine t (idx - 0x2410))
    else
      match t with
      | .hub => s.hubWord slot idx sub
      | .field f => s.fieldWord f idx sub
      | .cluster f c => s.clusterWord f c idx sub

/-! ### Records as bytes -/

/-- ASCII in `n` bytes, filled with 0x20 (R11). -/
def strBytes (n : Nat) (l : List Nat) : List Byte := ((l ++ List.replicate n 0x20).take n).map (BitVec.ofNat 8)
/-- A BM16 object (R11): the exponent, then `n` mantissas. -/
def bfvBytes (n : Nat) (b : Block) : List Byte :=
  leBytes 1 (toBits 8 b.exp) ++ ((b.m ++ List.replicate n 0).take n).flatMap (fun m => leBytes 2 (toBits 16 m))
/-- Zeroes. -/
def zeroBytes (n : Nat) : List Byte := List.replicate n 0

/-- A record of the uncleared set (R379). -/
def fltRecBytes (r : FltRec) : List Byte :=
  leBytes 2 r.id.code ++ leBytes 2 r.id.station ++ leBytes 2 r.id.item ++ leBytes 1 r.sev
    ++ leBytes 1 (flagAt r.present 0 + flagAt r.injected 1 + flagAt r.acted 2) ++ leBytes 4 r.count ++ leBytes 4 0
    ++ leBytes 8 r.entryTime ++ leBytes 8 r.escDue
/-- A log entry (R376). -/
def logBytes (e : LogEntry) : List Byte :=
  leBytes 4 e.seq ++ leBytes 2 e.id.code ++ leBytes 2 e.id.station ++ leBytes 2 e.id.item ++ leBytes 1 e.kind ++ leBytes 1 e.sev
    ++ leBytes 4 e.data ++ leBytes 8 e.stnTime ++ leBytes 8 e.hubTime
/-- An entry of the Moult log (R437). -/
def mltBytes (e : MltEntry) : List Byte :=
  leBytes 4 e.seq ++ leBytes 1 e.kind ++ leBytes 1 e.result ++ leBytes 2 e.station ++ leBytes 2 e.item ++ leBytes 2 0
    ++ leBytes 4 e.value ++ leBytes 8 e.stnTime ++ leBytes 8 e.hubTime
/-- A notification record (R407). -/
def noteBytes (n : Note) : List Byte :=
  leBytes 1 n.kind ++ leBytes 1 n.sev ++ leBytes 2 n.code ++ leBytes 2 n.station ++ leBytes 2 n.item ++ leBytes 1 n.sub
    ++ zeroBytes 3 ++ leBytes 4 n.value ++ leBytes 8 n.stnTime ++ leBytes 8 n.hubTime

/-- The record that SET_SEL names (R378). -/
def State.setRecord (s : State) : List Byte :=
  let k := s.rd hubSt O.SET_SEL
  (s.records.find? (fun r => r.slot == k)).elim (zeroBytes 32) fltRecBytes
/-- The entry of a ring of `cap` with a SEQ: the oldest one held where it is overwritten, zeroes where it is not yet written. Nothing is
overwritten while the ring is not full; SEQ wraps at 2^32, so an entry of a full one is not yet written where it lies ahead of the next
one by less than half the range. -/
def ringEntry {α : Type} (cap : Nat) (l : List α) (seqOf : α → Nat) (next sel : Nat) : Option α :=
  match l.find? (fun e => seqOf e == sel) with
  | some e => some e
  | none => if l.length < cap ∨ (sel + 2 ^ 32 - next) % 2 ^ 32 < 2 ^ 31 then none else l.head?

/-- X_HAT (R119, R142): the blocks at XLINE0 and XLINE1 of the loop's program, scaled by XSCALE and renormalised. -/
def State.xHat (s : State) (f : FieldId) (c : ClusterId) : List Byte :=
  let n := s.rd (clSt f c) O.ORDER
  let r := s.eng (s.loopEngine f c)
  match r.image 0 with
  | none => bfvBytes n {}
  | some x =>
    let block (line : Nat) : List Dy := if line = 0xFF then [] else (loadVec r.mem line).elim [] Block.vals
    let xs := ((block x.xline0 ++ block x.xline1).take n).zipIdx.map (fun p => (⟨p.1.m, p.1.e + x.xscale.getD p.2 0⟩ : Dy))
    bfvBytes n (normVec xs)

/-- The trace ring, oldest entry first (R156). -/
def State.traceBytes (s : State) (x : TraceId) : List Byte :=
  let st := traceSt x
  let n := (s.trace x).count
  let first := s.rd st O.WRITE_PTR + traceCap x - n
  (List.range n).flatMap (fun k =>
    let a := 4 * ((first + k) % traceCap x)
    if s.poisoned st a then zeroBytes 4 else s.padBytes st a 4)

/-- The reason most often reported by a partition's tiles over the last 1 ms (R296); between equals the choice is open
(assumption 86). -/
def State.partReason (s : State) (x : PartRec) : Nat :=
  let total (k : Nat) : Nat := ((maskTiles x.mask).map (fun p => tblGet 0 (s.tile p.1 p.2).lastReasons k)).sum
  let top := (List.range 16).foldl (fun m k => max m (total k)) 0
  let best := (List.range 16).filter (fun k => total k == top)
  best.getD (Config.tie best % best.length) 0
/-- PART_STATUS (R296). -/
def State.partStatus (s : State) (p : Nat) : List Byte :=
  match s.part p with
  | none => zeroBytes 32
  | some x =>
    leBytes 1 1 ++ leBytes 1 x.weight ++ leBytes 2 x.c ++ leBytes 4 x.pmin ++ leBytes 4 x.pmax ++ leBytes 4 x.demand
      ++ leBytes 4 x.grant ++ leBytes 4 x.power ++ leBytes 2 x.pace ++ leBytes 1 (s.partReason x) ++ leBytes 1 0
      ++ leBytes 4 ((maskTiles x.mask).map (fun q => (s.tile q.1 q.2).lastThrWin)).sum

/-- BFV, STR and BLOB objects of the hub. -/
def State.hubBytes (s : State) (idx sub : Nat) : List Byte :=
  let stored := tblGet [] s.blobs (rkey hubSt idx sub)
  let whole (n : Nat) : List Byte := if stored = [] then zeroBytes n else stored
  let k (base : Nat) : Nat := (idx - base) * 128 + (sub - 1)
  if idx = 0x1001 ∧ sub = 1 then strBytes 16 [0x52, 0x49, 0x4E, 0x48, 0x45, 0x43, 0x4F]
  else if idx = 0x1001 ∧ sub = 2 then strBytes 16 [0x41, 0x44, 0x54, 0x45, 0x52]
  else if idx = 0x1001 then
    (hubSt :: allFields.map fSt ++ allFields.flatMap (fun f => allClusters.map (clSt f))).flatMap (leBytes 2)
  else if idx = 0x1302 then s.setRecord
  else if idx = 0x1303 then
    (ringEntry 512 s.flt.log LogEntry.seq (s.rd hubSt O.LOG_NEXT) (s.rd hubSt O.LOG_SEL)).elim (zeroBytes 32) logBytes
  else if idx = 0x1520 then
    (ringEntry 64 s.moult.log MltEntry.seq (s.rd hubSt O.MLOG_NEXT) (s.rd hubSt O.MLOG_SEL)).elim (zeroBytes 32) mltBytes
  else if idx = 0x2460 then s.traceBytes 8
  else if 0x2610 ≤ idx ∧ idx < 0x2620 then strBytes 16 (stored.map BitVec.toNat)
  else if idx = 0x2620 then stored
  else if idx = 0x2810 then whole 280
  else if idx = 0x2A20 then (if s.ledger.count = 0 then zeroBytes 128 else s.padBytes hubSt (0xA0000 + s.ledger.head % 512 * 128) 128)
  else if 0x2A40 ≤ idx ∧ idx < 0x2A48 then (tblGet (List.replicate 16 0xFFFF) s.ledger.binds (k 0x2A40)).flatMap (leBytes 2)
  else if 0x2A80 ≤ idx ∧ idx < 0x2AA0 then s.padBytes hubSt (entryAddr (k 0x2A80)) 128
  else if 0x2B20 ≤ idx ∧ idx < 0x2B28 then s.partStatus (k 0x2B20)
  else if 0x2B30 ≤ idx ∧ idx < 0x2B38 then leBytes 16 ((s.part (k 0x2B30)).elim 0 PartRec.mask)
  else if idx = 0x2B40 then s.padBytes hubSt (curdAddr (s.rd hubSt O.CURD_SEL)) 24
  else if idx = 0x2D00 then s.seq.fieldOrder.flatMap (leBytes 1)
  else stored
/-- BFV and BLOB objects of a field station. -/
def State.fieldBytes (s : State) (f : FieldId) (idx sub : Nat) : List Byte :=
  let stored := tblGet [] s.blobs (rkey (fSt f) idx sub)
  if idx = 0x2460 then s.traceBytes (Fin.ofNat 9 f.val)
  else if idx = 0x2700 then [4 * f.val, 4 * f.val + 1, 4 * f.val + 2, 4 * f.val + 3, 32 + f.val].flatMap (leBytes 1)
  else if 0x2904 ≤ idx ∧ idx < 0x2908 then (if stored = [] then zeroBytes 256 else stored)
  else if 0x2910 ≤ idx ∧ idx < 0x2920 then
    let x := s.tile f (Fin.ofNat 16 (idx - 0x2910))
    if sub = 0x0D then bfvBytes 17 x.w
    else (List.range 8).flatMap (fun k => leBytes 2 (x.slots.getD k {}).tag)
  else if 0x2B90 ≤ idx ∧ idx < 0x2BA0 then
    let x := s.tile f (Fin.ofNat 16 (idx - 0x2B90))
    (List.range 8).flatMap (fun k => leBytes 2 (x.cand.getD k 0))
  else if idx = 0x2C10 then s.params f
  else stored
/-- The bytes a BFV, STR or BLOB object reads. -/
def State.objBytes (s : State) (st idx sub : Nat) : List Byte :=
  match addrStation st with
  | some .hub => s.hubBytes idx sub
  | some (.field f) => s.fieldBytes f idx sub
  | some (.cluster f c) => if idx = 0x2101 then s.xHat f c else tblGet [] s.blobs (rkey st idx sub)
  | none => []

/-! ### Reads -/

/-- A read that its own rule refuses: DATA of a trace unit is readable only while stopped (R156). -/
def State.readRefused (s : State) (st idx sub : Nat) : Bool :=
  idx == 0x2460 && sub == 0x0B && s.rd st O.TRACE_STATE != 3
/-- A read that meets a repair response (R392): the bank that holds the value is in repair handover. -/
def State.readBusy (s : State) (st idx sub : Nat) : Bool :=
  let k (base : Nat) : Nat := (idx - base) * 128 + (sub - 1)
  let inRepair (b : Nat) : Bool := s.bankState st b == 2
  if st = hubSt ∧ 0x2A80 ≤ idx ∧ idx < 0x2AA0 ∧ 1 ≤ sub then inRepair (entryBank (k 0x2A80))
  else if st = hubSt ∧ idx = 0x2A20 ∧ sub = 2 then s.ledger.count != 0 && inRepair (20 + s.ledger.head % 512 / 256)
  else if st = hubSt ∧ idx = 0x2B40 ∧ sub = 7 then inRepair (22 + s.rd hubSt O.CURD_SEL / 1024)
  else if idx = 0x2460 ∧ sub = 0x0B then (List.range 4).any (fun b => dualBank st b && inRepair b)
  else false
/-- The value an object reads, as bytes (R11). -/
def State.objValue (s : State) (slot : Slot) (st idx sub : Nat) : List Byte :=
  match objRow st idx sub with
  | none => []
  | some r => if r.size = 0 then s.objBytes st idx sub else leBytes r.size (s.objWord slot st idx sub)
/-- A read's outcome: the value, or its abort. -/
def State.readObj (s : State) (slot : Slot) (a : DictAddr) : Except Abort (List Byte) :=
  let st := a.station.toNat
  let idx := a.index.toNat
  let sub := a.sub.toNat
  match s.admitRead slot st idx sub with
  | some e => .error e
  | none =>
    if s.readBusy st idx sub then .error .busy
    else if s.readRefused st idx sub then .error .state
    else .ok (s.objValue slot st idx sub)

end Sys2Proof.Machine
end

