-- ==== Sys2Proof/Machine/Writes.lean ====
section
/-!
DEFINITION. What a dictionary write does, by the object written: the rule of its own where it has one, else its range and
reserved encodings (R15, R16).
-/
namespace Sys2Proof.Machine
open Sys2Proof

/-! ### Sizes of variable objects -/

/-- The most bytes a BLOB object takes, and whether it takes no fewer; none where the object is not written. -/
def blobLimit (idx : Nat) : Option (Nat × Bool) :=
  if 0x2440 ≤ idx ∧ idx < 0x2450 then some (5220, false)
  else if idx = 0x1510 then some (65540, false)
  else if 0x2904 ≤ idx ∧ idx < 0x2908 then some (256, true)
  else if 0x2A40 ≤ idx ∧ idx < 0x2A48 then some (32, true)
  else if idx = 0x2B10 then some (32, true)
  else if idx = 0x2C10 then some (860, true)
  else if idx = 0x2D00 then some (8, true)
  else if idx = 0x2620 then some (3, true)
  else none
/-- Whether a length suits an object (R404, R405): its size, or a variable object's maximum. -/
def lengthOk (st idx sub len : Nat) : Bool :=
  match objRow st idx sub with
  | none => true
  | some r =>
    if r.size ≠ 0 then len == r.size
    else
      match blobLimit idx with
      | some (n, true) => len == n
      | some (n, false) => len ≤ n
      | none => true

/-! ### Objects with a range alone -/

/-- A write within the object's range (R15); BOOL takes 0 and 1 (R11). -/
def effRange (st idx sub v : Nat) : Effect := fun s =>
  match objRow st idx sub with
  | none => .error .unknownObject
  | some r => if r.lo ≤ v ∧ v ≤ r.hi then .ok (s.wrRaw st idx sub v) else .error .value
/-- A write that holds a further condition beside its range. -/
def effRangeIf (ok : Bool) (st idx sub v : Nat) : Effect := fun s => if ok then effRange st idx sub v s else .error .value
/-- A write that its rule takes in one state alone. -/
def effInState (ok : Bool) (st idx sub v : Nat) : Effect := fun s => if ok then effRange st idx sub v s else .error .state

/-- The hiccup figures of a cluster (R70): a write that would let a window close before the count reaches its limit is
rejected; times in ps. -/
def hiccupBad (limRun off limit window : Nat) : Bool := window * 1000 < limit * (1005 * off + 2010000 + limRun * 7200)
def effHiccup (f : FieldId) (c : ClusterId) (sub v : Nat) : Effect := fun s =>
  let st := clSt f c
  let pick (o : Obj) : Nat := if o.sub = sub then v else s.rd st o
  effRangeIf (!hiccupBad (pick O.LIM_RUN) (pick O.HICCUP_OFF) (pick O.HICCUP_LIMIT) (pick O.RETRY_WINDOW)) st 0x2200 sub v s
/-- ROT_PERIOD (R85): 0, or 64 and more. -/
def effRotPeriod (f : FieldId) (c : ClusterId) (v : Nat) : Effect := effRangeIf (v == 0 || 64 ≤ v) (clSt f c) 0x2200 0x0C v
/-- PRESET_MASK: bits above MR_COUNT − 1 are a reserved encoding (R85). -/
def effPreset (f : FieldId) (c : ClusterId) (v : Nat) : Effect := effRangeIf (v < 2 ^ mrCount c) (clSt f c) 0x2200 4 v
/-- SHORT_FRAC: a share that comes to be reached starts a cluster hiccup (R77). -/
def effShortFrac (f : FieldId) (c : ClusterId) (v : Nat) : Effect := fun s =>
  match effRange (clSt f c) 0x2200 0x0F v s with
  | .ok t => .ok (t.hiccupEdge s f c).drive
  | .error e => .error e
/-- A rail's hiccup figures and SS_SLEW (R169, R179): the reference goes on from where it is at the new slew. -/
def effRailRetry (r : RailId) (sub v : Nat) : Effect := fun s =>
  let idx := 0x2510 + r.val
  let pick (o : Obj) : Nat := if o.sub = sub then v else s.rd hubSt (o.at r.val)
  let bad := railRetryBad (pick O.RAIL_HICCUP_LIMIT) (pick O.RAIL_HICCUP_OFF) (pick O.SS_SLEW) (pick O.RAIL_RETRY_WINDOW) (s.railTarget r)
  if bad then .error .value
  else effRange hubSt idx sub v (if sub = O.SS_SLEW.sub then s.reanchor r else s)
/-- PEC_REQ (R187). -/
def effPecReq (v : Nat) : Effect := fun s =>
  match effRange hubSt 0x2600 3 v s with
  | .ok t => .ok (if v = 1 then t.pecRequired else t)
  | .error e => .error e
/-- ADDR of a converter (R194): 0x08 to 0x77 but 0x0C, in DX_STATE 0 or 5. -/
def effDxAddr (n : ConvId) (v : Nat) : Effect := fun s =>
  if s.dxState n ≠ 0 ∧ s.dxState n ≠ 5 then .error .state
  else effRangeIf (v != 0x0C) hubSt (0x2610 + n.val) 1 v s
/-- NOTE_SEV of a session (R420). -/
def effNoteSev (n : Slot) (v : Nat) : Effect := fun s =>
  if 5 < v then .error .value else .ok (s.putSession n { s.session n with noteSev := v })
/-- A word of the trace unit's configuration (R156). -/
def effTraceWord (x : TraceId) (idx sub v : Nat) : Effect := fun s =>
  let st := traceSt x
  if idx = 0x2461 ∧ sub ≠ 0 then
    let n := bits v 5 0
    if n = 0 ∨ 32 < n then .error .value else .ok (s.wrRaw st idx sub (v &&& 0x00FF1F3F))
  else if idx = 0x2461 then effRange st idx sub v s
  else
    match sub with
    | 2 => effTraceCtrl x v s
    | 3 => effInState (s.rd st O.TRACE_STATE == 0) st idx sub v s
    | 4 => effRangeIf (v ≤ 5) st idx sub v s
    | 6 => effRangeIf (v ≤ traceCap x) st idx sub v s
    | _ => effRange st idx sub v s
/-- MEMBER of a group (R41): a reserved KIND is rejected, reserved bits are ignored. -/
def effMember (st k w : Nat) : Effect := fun s =>
  if 3 ≤ bits w 15 12 then .error .value else .ok (s.wrRaw st 0x2011 k (w - bits w 11 8 * 2 ^ 8))

/-! ### Records of units -/

/-- An object of a Wheel record (R33). -/
def actWheel (slot : Slot) (w : WheelRef) (sub v : Nat) : Action :=
  match sub with
  | 3 => actCommand slot w v
  | 4 => (match w with | .group g => effGroupSetpoint slot g v | _ => effSetpoint slot w v : Effect).act
  | 6 => (effLimit w false v).act
  | 7 => (effLimit w true v).act
  | _ => Effect.act (fun s => .ok (s.wrRaw w.station w.index sub v))
/-- TARGET of a load record (R143, R154). -/
def effLoadTarget (e : EngId) (v : Nat) : Effect := fun s =>
  if (s.eng e).swapDue ≠ 0 then .error .state
  else effRangeIf (!isCle e || v == 0) (engSt e) (0x2440 + engNum e) 1 v s
/-- An object of an engine's load record. -/
def effLoad (e : EngId) (sub v : Nat) (l : List Byte) : Effect :=
  match sub with
  | 1 => effLoadTarget e v
  | 2 => effImage e l
  | 4 => effVerify e v
  | _ => effSwap e v
/-- An object of a task record (R154). -/
def effTask (e : EngId) (t : TaskId) (sub v : Nat) : Effect := fun s =>
  let st := engSt e
  let idx := 0x2480 + engNum e * 8 + t.val
  let period := s.rd st (taskObj O.PERIOD e t)
  let off := s.rd st (taskObj O.TASK_STATE e t) != 2
  match sub with
  | 2 => effTaskCtrl e t v s
  | 3 => effInState off st idx sub v s
  | 4 => effInState off st idx sub v s
  | 5 => effRangeIf (v < period) st idx sub v s
  | _ => effRangeIf (50 ≤ v && v ≤ period) st idx sub v s
/-- The objects of the engine records, at any station. -/
def effEngine (st : Station) (idx sub v : Nat) (l : List Byte) : Effect :=
  if idx = 0x2400 then
    (if sub = 8 then (match st with | .field f => effHandback f v | _ => fun _ => .error .state) else effRange st.addr idx sub v)
  else if idx < 0x2440 then effSticky (stationEngine st (idx - 0x2410)) v
  else if idx < 0x2460 then effLoad (stationEngine st (idx - 0x2440)) sub v l
  else effTask (stationEngine st ((idx - 0x2480) / 8)) (Fin.ofNat 8 ((idx - 0x2480) % 8)) sub v
/-- The objects of a scratchpad (R397). -/
def actPad (slot : Slot) (st idx sub v : Nat) : Action :=
  if 0x1440 ≤ idx then
    (match sub with
    | 1 => (effOwner st (idx - 0x1440) v).act
    | 2 => (effPortB st (idx - 0x1440) v).act
    | _ => actRepairCtrl st (idx - 0x1440) v)
  else if idx = 0x1410 then
    (match sub with
    | 7 => (effHostTierBase slot v).act
    | 8 => (effHostTierSize slot v).act
    | _ => (effTraceDump v).act)
  else (effRange st idx sub v).act

/-! ### Stations -/

/-- A write at the hub. -/
def hubAct (slot : Slot) (idx sub v : Nat) (l : List Byte) : Action :=
  let rng : Effect := effRange hubSt idx sub v
  let k (base : Nat) : Nat := (idx - base) * 128 + (sub - 1)
  if idx = 0x2010 then actWheel slot .die sub v
  else if 0x20C0 ≤ idx ∧ idx < 0x2100 then actWheel slot (.domain (Fin.ofNat 64 (idx - 0x20C0))) sub v
  else if idx = 0x1210 then (if sub = 1 then (effBlkReq v).act else actBlkCtrl v)
  else if idx = 0x1304 then (if sub = 1 then (effInjArm v).act else actInjReq v)
  else if 0x1400 ≤ idx ∧ idx < 0x1480 then actPad slot hubSt idx sub v
  else Effect.act (
    if 0x1120 ≤ idx ∧ idx < 0x1140 then effNoteSev (Fin.ofNat 32 (idx - 0x1120)) v
    else if idx = 0x1200 then
      (match sub with
      | 0x06 => effResetArm v
      | 0x07 => effResetCtrl v
      | 0x0E => effWdogKick v
      | _ => rng)
    else if idx = 0x1301 then (if sub = 1 then effFltClear slot v else effFltClearAll slot v)
    else if 0x1310 < idx ∧ idx ≤ 0x1320 then effSevTable idx sub v
    else if idx = 0x1500 ∧ sub = 0x0B then effKeyRevoke v
    else if idx = 0x1510 then
      (match sub with
      | 1 => effImgTarget v
      | 2 => fun s => let d := s.draw; effImgChunk l (d.1 % 3) d.2
      | _ => effImgCtrl v)
    else if 0x2040 ≤ idx ∧ idx < 0x2080 then effSetpoint slot (.domain (Fin.ofNat 64 (idx - 0x2040))) v
    else if 0x2400 ≤ idx ∧ idx < 0x2460 ∨ 0x2480 ≤ idx ∧ idx < 0x2500 then effEngine .hub idx sub v l
    else if idx = 0x2460 ∨ idx = 0x2461 then effTraceWord 8 idx sub v
    else if 0x2510 ≤ idx ∧ idx < 0x2520 then
      let r : RailId := Fin.ofNat 16 (idx - 0x2510)
      (match sub with
      | 0x16 => effPhCtrl r v
      | 0x09 => effRailRetry r sub v
      | 0x11 => effRailRetry r sub v
      | 0x12 => effRailRetry r sub v
      | 0x13 => effRailRetry r sub v
      | _ => rng)
    else if 0x2610 ≤ idx ∧ idx < 0x2620 then
      let n : ConvId := Fin.ofNat 16 (idx - 0x2610)
      (match sub with
      | 1 => effDxAddr n v
      | 3 => effDxCtrl n v
      | _ => rng)
    else if idx = 0x2600 ∧ sub = 3 then effPecReq v
    else if idx = 0x2620 then effPass l
    else if idx = 0x2800 then effHoldClear (.station .hub) v
    else if 0x2840 ≤ idx ∧ idx < 0x2880 then effHoldClear (.domain (Fin.ofNat 64 (idx - 0x2840))) v
    else if 0x2880 ≤ idx ∧ idx < 0x2890 then effHoldClear (.rail (Fin.ofNat 16 (idx - 0x2880))) v
    else if idx = 0x2A10 then
      (match sub with
      | 1 => effJobOpen slot v
      | 2 => effJobClose slot v
      | 3 => effJobFree slot v
      | _ => effJobFind slot v)
    else if idx = 0x2A20 then effFlushAck v
    else if 0x2A40 ≤ idx ∧ idx < 0x2A48 then effBind (Fin.ofNat 1024 (k 0x2A40)) l
    else if idx = 0x2B00 then
      (match sub with
      | 0x02 => effCoolWindow v
      | 0x07 => effDiePcont v
      | 0x08 => effDiePpeak v
      | 0x11 => effThrottleTemp v
      | _ => rng)
    else if idx = 0x2B10 then (if sub = 1 then effPartClaim slot l else effPartRelease slot v)
    else if 0x2B28 ≤ idx ∧ idx < 0x2B30 then effPace (Fin.ofNat 1024 (k 0x2B28)) v
    else if idx = 0x2B40 ∧ sub = 5 then effCurdClear v
    else if idx = 0x2C80 ∧ sub = 1 then effTcrit v
    else if idx = 0x2C80 ∧ sub = 9 then effTripCtrl v
    else if idx = 0x2D00 then
      (match sub with
      | 0x02 => effSeqArm v
      | 0x03 => effFieldOrder l
      | 0x06 => effEdgeWaive v
      | 0x0B => effSeqReq slot v
      | _ => rng)
    else rng)

/-- A write at a field station. -/
def fieldAct (slot : Slot) (f : FieldId) (idx sub v : Nat) (l : List Byte) : Action :=
  let st := fSt f
  let rng : Effect := effRange st idx sub v
  let q : AdcId := Fin.ofNat 5 (idx % 0x10)
  if idx = 0x2010 then actWheel slot (.field f) sub v
  else if idx = 0x2C10 then effParams f l
  else if 0x1400 ≤ idx ∧ idx < 0x1480 then actPad slot st idx sub v
  else Effect.act (
    if 0x2400 ≤ idx ∧ idx < 0x2460 ∨ 0x2480 ≤ idx ∧ idx < 0x2500 then effEngine (.field f) idx sub v l
    else if idx = 0x2460 ∨ idx = 0x2461 then effTraceWord (Fin.ofNat 9 f.val) idx sub v
    else if 0x2710 ≤ idx ∧ idx < 0x2720 then
      (match sub with
      | 0x02 => effRefEn f q v
      | 0x06 => effTmrPhase f q 0 v
      | 0x08 => effTmrPhase f q 1 v
      | 0x09 => effSwTrig f q v
      | 0x0A => effCalPeriod f q v
      | _ => rng)
    else if 0x2720 ≤ idx ∧ idx < 0x2730 then effSeq f q (sub - 1) v
    else if 0x2730 ≤ idx ∧ idx < 0x2740 then effEntryCh f q (sub - 1) v
    else if 0x2760 ≤ idx ∧ idx < 0x2770 then (if sub = 9 then effCmpHyst f q v else effCmpCfg f q (sub - 1) v)
    else if idx = 0x2800 then effHoldClear (.station (.field f)) v
    else if idx = 0x2801 then effHoldClear (.temp f) v
    else if idx = 0x2900 ∧ sub = 0x0A then effFreezeCtrl f v
    else if 0x2904 ≤ idx ∧ idx < 0x2908 then effDesc f (Fin.ofNat 4 (idx - 0x2904)) l
    else if 0x2B90 ≤ idx ∧ idx < 0x2BA0 then effThrClear f (Fin.ofNat 16 (idx - 0x2B90)) v
    else if idx = 0x2C00 ∧ sub = 8 then effDerateTemp f v
    else rng)

/-- A write at a cluster station. -/
def clusterAct (slot : Slot) (f : FieldId) (c : ClusterId) (idx sub v : Nat) (l : List Byte) : Action :=
  let rng : Effect := effRange (clSt f c) idx sub v
  if idx = 0x2010 then actWheel slot (.cluster f c) sub v
  else if 0x2020 ≤ idx ∧ idx < 0x2038 then actWheel slot (.mr f c (Fin.ofNat 24 (idx - 0x2020))) sub v
  else Effect.act (
    if idx = 0x2102 then effWinClear f c v
    else if idx = 0x2200 then
      (match sub with
      | 0x04 => effPreset f c v
      | 0x06 => effHiccup f c sub v
      | 0x07 => effHiccup f c sub v
      | 0x08 => effHiccup f c sub v
      | 0x09 => effHiccup f c sub v
      | 0x0C => effRotPeriod f c v
      | 0x0F => effShortFrac f c v
      | _ => rng)
    else if idx = 0x2300 ∧ sub = 2 then effEnableMask f c v
    else if idx = 0x2300 ∧ sub = 9 then effWinsClear f c v
    else if 0x2400 ≤ idx ∧ idx < 0x2460 ∨ 0x2480 ≤ idx ∧ idx < 0x2500 then effEngine (.cluster f c) idx sub v l
    else if idx = 0x2800 then effHoldClear (.station (.cluster f c)) v
    else rng)

/-- A write at a group address. -/
def groupAct (slot : Slot) (g : Fin 0x8000) (idx sub v : Nat) : Action :=
  let st := 0x8000 + g.val
  if idx = 0x2010 then actWheel slot (.group g) sub v
  else Effect.act (
    if idx = 0x2011 then (if sub = 0 then effMemberCount g v else effMember st sub v)
    else effHoldClear (.group g) v)

/-- What a write of an object does once it is admitted: the value as a number, and as bytes (R11). -/
def objAct (slot : Slot) (st idx sub : Nat) (l : List Byte) : Action :=
  let v := leNat l
  match addrStation st with
  | some .hub => hubAct slot idx sub v l
  | some (.field f) => fieldAct slot f idx sub v l
  | some (.cluster f c) => clusterAct slot f c idx sub v l
  | none => groupAct slot (Fin.ofNat 0x8000 (st - 0x8000)) idx sub v

/-- The checks of a write of `len` bytes, with the lengths of variable objects (R404, R405). A Release at a cluster behind its own
failed link is refused with the state abort code, not as unreachable (R53). -/
def State.admitValue (s : State) (slot : Slot) (st idx sub : Nat) (l : List Byte) : Option Abort :=
  match s.admitWrite slot st idx sub l.length with
  | some .unreachable =>
    match addrStation st with
    | some (.cluster f _) =>
      if idx = 0x2010 ∧ sub = 3 ∧ leNat l = 4 ∧ !s.fieldCut f then some .state else some .unreachable
    | _ => some .unreachable
  | some a => some a
  | none => if lengthOk st idx sub l.length then none else some .length

/-- An expedited write (R404): an object that may be longer than 8 bytes is not served. -/
def State.admitExpedited (s : State) (slot : Slot) (st idx sub : Nat) (l : List Byte) : Option Abort :=
  match s.admitValue slot st idx sub l with
  | some a => some a
  | none => if l.length = 0 ∨ 8 < l.length ∨ ((objRow st idx sub).any (fun r => r.size == 0) && (blobLimit idx).any (fun b => 8 < b.1)) then some .length else none

/-- A WRITE of a value (R403, R404). -/
def State.writeObj (s : State) (slot : Slot) (a : DictAddr) (l : List Byte) : State :=
  let st := a.station.toNat
  let idx := a.index.toNat
  let sub := a.sub.toNat
  s.requestA slot 0x02 st idx sub (fun s => s.admitExpedited slot st idx sub l) (objAct slot st idx sub l)

/-- CONFIG_WRITE (R15): a value of any length, however it was moved. -/
def execConfigWrite (slot : Slot) (a : DictAddr) (val : List Byte) (s : State) : Out :=
  let st := a.station.toNat
  let idx := a.index.toNat
  let sub := a.sub.toNat
  .next (s.requestA slot 0x02 st idx sub (fun s => s.admitValue slot st idx sub val) (objAct slot st idx sub val))
/-- WRITE (R404). -/
def execWrite (slot : Slot) (a : DictAddr) (val : List Byte) (s : State) : Out := .next (s.writeObj slot a val)

end Sys2Proof.Machine
end

