-- ==== Sys2Proof/Machine/Phosen.lean ====
section
/-!
DEFINITION. Reads, segmented transfers, sessions, MCTP and the host register window (chapter 15).
-/
namespace Sys2Proof.Machine
open Sys2Proof

/-! ### Operations of R403 -/

/-- The response to an operation: its abort, if any. -/
def State.reply (s : State) (slot : Slot) (op : Nat) (e : Option Abort) : State :=
  s.respond slot { op := op, abort := e.elim 0 abortCode }
/-- The transfer of a session, with the time of its last message (R405). -/
def State.setXfer (s : State) (slot : Slot) (x : Option Xfer) : State :=
  s.putSession slot { s.session slot with xfer := x, xferAt := (s.time hubSt), timedOut := false }
/-- READ (R404): a value longer than 8 bytes is answered with its length, also where its rule would refuse the read (R406). -/
def State.opRead (s : State) (slot : Slot) (a : DictAddr) : State :=
  if s.hears slot then
    let s := s.touch slot
    match s.readObj slot a with
    | .error .state =>
      let n := (s.objValue slot a.station.toNat a.index.toNat a.sub.toNat).length
      if 8 < n then s.respond slot { op := 1, abort := abortCode .length, param := n } else s.reply slot 1 (some .state)
    | .error e => s.reply slot 1 (some e)
    | .ok v =>
      if 8 < v.length then s.respond slot { op := 1, abort := abortCode .length, param := v.length }
      else s.respond slot { op := 1, param := v.length, data := v }
  else s

/-- The abort that a transfer's message meets at its station (R405, R346): it ends the transfer, but for busy. -/
def State.xferGone (s : State) (slot : Slot) (a : DictAddr) : Option Abort :=
  s.admitStation slot a.station.toNat a.index.toNat a.sub.toNat
/-- A message of a transfer whose station no longer answers. -/
def State.xferLost (s : State) (slot : Slot) (op : Nat) (e : Abort) : State :=
  (if e = .busy then s else s.setXfer slot none).reply slot op (some e)
/-- A segment or SEG_END with no transfer open (R405): the timeout of the last one is reported once. -/
def State.xferNone (s : State) (slot : Slot) (op : Nat) : State :=
  if (s.session slot).timedOut then (s.setXfer slot none).reply slot op (some .timeout) else s.reply slot op (some .protocol)

/-- SEG_READ_INIT (R405). -/
def State.opSegReadInit (s : State) (slot : Slot) (a : DictAddr) : State :=
  if s.hears slot then
    let s := s.touch slot
    if (s.session slot).xfer.isSome then s.reply slot 3 (some .protocol)
    else
      match s.readObj slot a with
      | .error e => s.reply slot 3 (some e)
      | .ok v => (s.setXfer slot (some (.read a none))).respond slot { op := 3, param := v.length }
  else s
/-- A segment of a value, taken at the first one. -/
def State.giveSegment (s : State) (slot : Slot) (a : DictAddr) (v : List Byte) (off count : Nat) : State :=
  (s.setXfer slot (some (.read a (some v)))).respond slot { op := 4, data := (v.drop off).take count }
/-- The most bytes of one segment: 4,096 through the window, 1,024 elsewhere (R403, R413). -/
def segLimit (x : Session) : Nat := if x.carrier = 3 then 4096 else 1024
/-- SEG_READ (R405). -/
def State.opSegRead (s : State) (slot : Slot) (a : DictAddr) (off count : Nat) : State :=
  if s.hears slot then
    let s := s.touch slot
    match (s.session slot).xfer with
    | none => s.xferNone slot 4
    | some (.write _ _ _) => s.reply slot 4 (some .protocol)
    | some (.read b copy) =>
      if b ≠ a ∨ count = 0 ∨ segLimit (s.session slot) < count then s.reply slot 4 (some .protocol)
      else
        match s.xferGone slot a, copy with
        | some e, _ => s.xferLost slot 4 e
        | none, some v => s.giveSegment slot a v off count
        | none, none =>
          match s.readObj slot a with
          | .error e => s.reply slot 4 (some e)
          | .ok v => s.giveSegment slot a v off count
  else s

/-- The station whose dictionary-server banks stage a segmented write (R400, R405). -/
def bufHolder (st : Nat) : Nat :=
  match addrStation st with
  | some (.field f) => fSt f
  | some (.cluster f _) => fSt f
  | _ => hubSt
/-- The bytes of a station's dictionary-server banks (R383). -/
def State.bufBytes (s : State) (st : Nat) : Nat := countOf (bankCount st) (fun b => s.ownerWord st b == 0x4000) * bankSize st
/-- A repair handover holds a bank of a station's segment buffers (R392). -/
def State.bufRepair (s : State) (st : Nat) : Bool :=
  (List.range (bankCount st)).any (fun b => s.rd st (O.OWNER.at b) == 0x4000 && s.bankState st b == 2)
/-- The abort that a message of a segmented write meets: that of its station, or busy for a repair response (R392). -/
def State.bufGone (s : State) (slot : Slot) (a : DictAddr) : Option Abort :=
  match s.xferGone slot a with
  | some e => some e
  | none => if s.bufRepair (bufHolder a.station.toNat) then some .busy else none
/-- The bytes that a session's open write reserves at a station. -/
def Session.reserved (x : Session) (st : Nat) : Nat :=
  match x.xfer with
  | some (.write a total _) => if bufHolder a.station.toNat = st then total else 0
  | _ => 0
def State.bufUsed (s : State) (st : Nat) : Nat := allSlots.foldl (fun n k => n + (s.session k).reserved st) 0
/-- The checks of SEG_WRITE_INIT (R405); a stopped state is asked for at SEG_END. A repair response gives busy, in its place among the
codes (R392, R406). -/
def State.admitInit (s : State) (slot : Slot) (st idx sub total : Nat) : Option Abort :=
  let busy (e : Option Abort) : Option Abort := if s.bufRepair (bufHolder st) then some .busy else e
  match s.admitWrite slot st idx sub total with
  | some .state => busy none
  | some .unknownStation => some .unknownStation
  | some .denied => some .denied
  | some .unreachable => some .unreachable
  | some .blockReset => some .blockReset
  | e => busy e
/-- SEG_WRITE_INIT (R405). -/
def State.opSegWriteInit (s : State) (slot : Slot) (a : DictAddr) (total : Nat) : State :=
  let st := a.station.toNat
  let idx := a.index.toNat
  let sub := a.sub.toNat
  if s.hears slot then
    let s := s.touch slot
    if (s.session slot).xfer.isSome then s.reply slot 5 (some .protocol)
    else
      match s.admitInit slot st idx sub total with
      | some e => s.refuse slot 5 st idx sub e
      | none =>
        if !lengthOk st idx sub total then s.reply slot 5 (some .length)
        else if s.bufBytes (bufHolder st) < s.bufUsed (bufHolder st) + total then s.reply slot 5 (some .exhaustion)
        else (s.setXfer slot (some (.write a total []))).reply slot 5 none
  else s
/-- The effect of the first segment: IMAGE discards its shadow (R143, R405). -/
def firstSegment (st idx sub : Nat) : Effect := fun s =>
  match addrStation st with
  | some t => if 0x2440 ≤ idx ∧ idx < 0x2450 ∧ sub = 2 then effImageOpen (stationEngine t (idx - 0x2440)) s else .ok s
  | none => .ok s
/-- SEG_WRITE (R405). -/
def State.opSegWrite (s : State) (slot : Slot) (a : DictAddr) (off : Nat) (data : List Byte) : State :=
  if s.hears slot then
    let s := s.touch slot
    match (s.session slot).xfer with
    | none => s.xferNone slot 6
    | some (.read _ _) => s.reply slot 6 (some .protocol)
    | some (.write b total got) =>
      if b ≠ a ∨ data = [] ∨ segLimit (s.session slot) < data.length then s.reply slot 6 (some .protocol)
      else
        match s.bufGone slot a with
        | some e => s.xferLost slot 6 e
        | none =>
          if off ≠ got.length then (s.setXfer slot none).reply slot 6 (some .protocol)
          else if total < got.length + data.length then (s.setXfer slot none).reply slot 6 (some .length)
          else
            match (if got = [] then firstSegment a.station.toNat a.index.toNat a.sub.toNat s else .ok s) with
            | .error e => (s.setXfer slot none).reply slot 6 (some e)
            | .ok t => (t.setXfer slot (some (.write a total (got ++ data)))).reply slot 6 none
  else s
/-- The end of a segmented write: the value is checked and takes effect whole (R405). -/
def State.endWrite (s : State) (slot : Slot) (st idx sub : Nat) (v : List Byte) : State :=
  match s.admitValue slot st idx sub v with
  | some e => s.refuse slot 7 st idx sub e
  | none =>
    let r := objAct slot st idx sub v s
    r.1.answer slot 7 st idx sub r.2
/-- SEG_END (R405). -/
def State.opSegEnd (s : State) (slot : Slot) (a : DictAddr) (count : Nat) : State :=
  if s.hears slot then
    let s := s.touch slot
    match (s.session slot).xfer with
    | none => s.xferNone slot 7
    | some (.read b _) => if b = a then (s.setXfer slot none).reply slot 7 none else s.reply slot 7 (some .protocol)
    | some (.write b _ got) =>
      if b ≠ a then s.reply slot 7 (some .protocol)
      else
        match s.bufGone slot a with
        | some e => s.xferLost slot 7 e
        | none =>
          if count ≠ got.length then (s.setXfer slot none).reply slot 7 (some .length)
          else (s.setXfer slot none).endWrite slot a.station.toNat a.index.toNat a.sub.toNat got
  else s
/-- ABORT (R403). -/
def State.opAbort (s : State) (slot : Slot) : State :=
  if s.hears slot then ((s.touch slot).setXfer slot none).reply slot 8 none else s
/-- No loop counts a freed slot among those that wrote its Wheel (R407). -/
def State.dropWriter (s : State) (slot : Slot) : State :=
  let gone (l : List Nat) : List Nat := l.filter (· != slot.val)
  { s with loops := (s.loops.map (fun e => (e.1, ({ e.2 with writers := gone e.2.writers, heldWriters := gone e.2.heldWriters } : LoopRec)))).filter (fun e => decide (e.2 ≠ ({} : LoopRec))) }
/-- A slot is freed (R401): its transfer ends with no effect, its queue is dropped. -/
def State.freeSession (s : State) (slot : Slot) : State := (s.putSession slot (sessionDefault slot.val)).dropWriter slot
/-- SESSION_CLOSE (R401, R403): only an MCTP slot is freed; what remains is the response. -/
def State.opClose (s : State) (slot : Slot) : State :=
  if s.hears slot then
    if 5 ≤ slot.val then (s.freeSession slot).reply slot 0x11 none
    else (s.touch slot).reply slot 0x11 none
  else s

/-- READ (R404). -/
def execRead (slot : Slot) (a : DictAddr) (s : State) : Out := .next (s.opRead slot a)
/-- SEG_READ_INIT (R405). -/
def execSegReadInit (slot : Slot) (a : DictAddr) (s : State) : Out := .next (s.opSegReadInit slot a)
/-- SEG_READ (R405). -/
def execSegRead (slot : Slot) (a : DictAddr) (offset : BitVec 32) (count : BitVec 16) (s : State) : Out :=
  .next (s.opSegRead slot a offset.toNat count.toNat)
/-- SEG_WRITE_INIT (R405). -/
def execSegWriteInit (slot : Slot) (a : DictAddr) (total : BitVec 32) (s : State) : Out :=
  .next (s.opSegWriteInit slot a total.toNat)
/-- SEG_WRITE (R405). -/
def execSegWrite (slot : Slot) (a : DictAddr) (offset : BitVec 32) (data : List Byte) (s : State) : Out :=
  .next (s.opSegWrite slot a offset.toNat data)
/-- SEG_END (R405). -/
def execSegEnd (slot : Slot) (a : DictAddr) (count : BitVec 32) (s : State) : Out := .next (s.opSegEnd slot a count.toNat)
/-- ABORT (R403). -/
def execAbortCmd (slot : Slot) (s : State) : Out := .next (s.opAbort slot)
/-- SESSION_CLOSE (R403). -/
def execSessionClose (slot : Slot) (s : State) : Out := .next (s.opClose slot)
/-- A window channel's dictionary transfer ends (R414). -/
def State.dictStatus (s : State) (ch : ChanId) (op : Nat) : State :=
  let ab := (s.session (chanSlot ch)).resp.abort
  s.putChannel ch { s.channel ch with dictStatus := (if ab = 0 then 2 else 3) * 2 ^ 28 + op * 2 ^ 24 + ab }
/-- XFER_TIMEOUT (R405): the reservation is released, and the session's next message of the transfer is answered with the timeout
code; a window channel shows it in DICT_STATUS. -/
def execXferTimeout (slot : Slot) (s : State) : Out :=
  let x := s.session slot
  .next (match x.xfer with
  | none => s
  | some t =>
    if (s.time hubSt) < x.xferAt + s.rd hubSt O.XFER_TIMEOUT * 1000000 ∨ s.rst.held.isSome then s
    else
      let s := (s.putSession slot { x with xfer := none, timedOut := true }).raise F.PHO_XFER_TIMEOUT hubSt 0 0
      let op := match t with | .read _ _ => 3 | .write _ _ _ => 4
      if h : 1 ≤ slot.val ∧ slot.val ≤ 4 then
        let ch : ChanId := ⟨slot.val - 1, by omega⟩
        s.putChannel ch { s.channel ch with dictStatus := 3 * 2 ^ 28 + op * 2 ^ 24 + abortCode .timeout }
      else s)
/-- SESSION_IDLE (R401). -/
def execSessionIdle (slot : Slot) (s : State) : Out :=
  let x := s.session slot
  .next (if 5 ≤ slot.val ∧ x.isOpen ∧ x.noteSev = 0 ∧ x.lastActive + s.rd hubSt O.SESSION_IDLE * 1000000 ≤ (s.time hubSt) then s.freeSession slot
  else s)

/-! ### MCTP (R408-R411) -/

/-- CRC-8 with polynomial x^8 + x^2 + x + 1, the PEC of an I3C packet (R410; polynomial and coverage from DSP0233, assumption 88). -/
def crc8Bit (c : Nat) : Nat := if 128 ≤ c % 256 then (c % 256 * 2 % 256) ^^^ 7 else c % 256 * 2
def crc8Byte (c b : Nat) : Nat := (List.range 8).foldl (fun x _ => crc8Bit x) (c ^^^ b)
def crc8 (l : List Byte) : Nat := l.foldl (fun c b => crc8Byte c b.toNat) 0
/-- The PEC of a packet: over the I3C address byte (bit 0: a read) and the packet. -/
def State.pec (s : State) (rd : Nat) (l : List Byte) : Byte :=
  BitVec.ofNat 8 (crc8 (BitVec.ofNat 8 (s.rd hubSt O.I3C_DADDR * 2 + rd) :: l))

/-- The EID of a binding's endpoint (R408). -/
def eidObj (b : Fin 2) : Obj := if b = 0 then O.I3C_EID else O.PCIE_EID
def State.eid (s : State) (b : Fin 2) : Nat := s.rd hubSt (eidObj b)
/-- A message as packets of the 64-byte transmission unit (R408): header version 1, EIDs, SOM, EOM, sequence, Tag Owner, tag. -/
def mctpPackets (dst src ownTag tag : Nat) (msg : List Byte) : List (List Byte) :=
  let n := divCeil msg.length 64
  (List.range n).map (fun k =>
    let fl := (if k = 0 then 128 else 0) + (if k + 1 = n then 64 else 0) + k % 4 * 16 + ownTag * 8 + tag % 8
    [BitVec.ofNat 8 1, BitVec.ofNat 8 dst, BitVec.ofNat 8 src, BitVec.ofNat 8 fl] ++ (msg.drop (64 * k)).take 64)
/-- A message leaves by a binding: on I3C its packets wait for private reads, each with its PEC; on PCIe they are sent. -/
def State.sendMsg (s : State) (b : Fin 2) (dst ownTag tag : Nat) (msg : List Byte) : State :=
  let ps := mctpPackets dst (s.eid b) ownTag tag msg
  let x := s.binding b
  if b = 0 then s.putBinding b { x with out := x.out ++ ps.map (fun p => p ++ [s.pec 1 p]) }
  else s.putBinding b { x with out := ps }
/-- A discarded packet or message (R408). -/
def State.discard (s : State) : State := s.inc32 hubSt O.MCTP_DISCARDS
/-- The I3C target is out of reset, with its pins served (R356, R439). -/
def State.i3cUp (s : State) : Bool := s.pinsLive && bit (s.rd hubSt O.CLK_GOOD) 4
/-- A binding's carrier reaches the controller: an I3C target with a dynamic address, the PCIe crossing up (R410, R411). -/
def State.mctpReach (s : State) (b : Fin 2) : Bool :=
  if b = 0 then s.i3cUp && s.rd hubSt O.I3C_DADDR != 0 else s.rst.held.isNone && s.rd hubSt O.PCIE_STATE == 1
/-- The endpoint runs: on firmware, or for I3C on the boot ROM in stage 5 (R408). -/
def State.mctpServed (s : State) (b : Fin 2) : Bool := s.rst.coreUp || (b == 0 && s.rst.boot.stage == 5)

/-- The start of a Phosen message: type 0x7F with IC 0, and the enterprise number, most significant byte first (R408). -/
def phosenPrefix : List Byte := [0x7F, 0x00, 0x17, 0xF3, 0xA9]
/-- Bytes `k` to `k + n - 1` of a message as a number, least significant byte first. -/
def field (m : List Byte) (k n : Nat) : Nat := leNat ((m.drop k).take n)
/-- Malformed headers (R402, R403): short, another VER, a reserved flag or a response, a COUNT out of place, a NOTIFY, a WRITE whose
PARAM is not its length. -/
def badHeader (m : List Byte) : Bool :=
  let op := field m 1 1
  let count := field m 10 2
  m.length < 16 || field m 0 1 != 1 || field m 9 1 != 0 || 1024 + 16 < m.length
    || (if op = 4 then count == 0 || 1024 < count else count != 0)
    || (op == 2 && (field m 12 4 == 0 || field m 12 4 != m.length - 16))
/-- A Phosen request of a session is served by its OP (R403). -/
def State.serve (s : State) (slot : Slot) (m : List Byte) : State :=
  let a : DictAddr := ⟨BitVec.ofNat 16 (field m 4 2), BitVec.ofNat 16 (field m 6 2), BitVec.ofNat 8 (field m 8 1)⟩
  let param := field m 12 4
  let data := m.drop 16
  let op := field m 1 1
  if badHeader m then (s.touch slot).reply slot op (some .protocol)
  else
    match op with
    | 0x01 => s.opRead slot a
    | 0x02 => s.writeObj slot a data
    | 0x03 => s.opSegReadInit slot a
    | 0x04 => s.opSegRead slot a param (field m 10 2)
    | 0x05 => s.opSegWriteInit slot a param
    | 0x06 => s.opSegWrite slot a param data
    | 0x07 => s.opSegEnd slot a param
    | 0x08 => s.opAbort slot
    | 0x11 => s.opClose slot
    | _ => (s.touch slot).reply slot op (some .protocol)
/-- The response message (R402): the request's header with FLAGS, COUNT 0 and PARAM; in an abort response PARAM is the abort code,
but for the length of R404. -/
def phosenReply (m : List Byte) (r : Response) : List Byte :=
  let h := (m ++ zeroBytes 16).take 9
  let param := if r.abort ≠ 0 ∧ r.param = 0 then r.abort else r.param
  phosenPrefix ++ [BitVec.ofNat 8 1] ++ h.drop 1 ++ leBytes 1 (if r.abort = 0 then 1 else 3) ++ leBytes 2 0 ++ leBytes 4 param ++ r.data

/-- The open session of a pair of binding and source EID, and the lowest free MCTP slot (R401). -/
def State.sessionOf (s : State) (b : Fin 2) (src : Nat) : Option Slot :=
  allSlots.find? (fun k => let x := s.session k; 5 ≤ k.val && x.isOpen && x.carrier == 1 + b.val && x.peer == src)
def State.freeSlot (s : State) : Option Slot := allSlots.find? (fun k => 5 ≤ k.val && !(s.session k).isOpen)
/-- The responses of a session's peer that wait for private reads: its outstanding requests (R401). -/
def State.outstanding (s : State) (b : Fin 2) (peer : Nat) : Nat :=
  if b = 0 then ((s.binding 0).out.filter (fun p =>
    field p 1 1 == peer && bit (field p 3 1) 7 && !bit (field p 3 1) 3 && field p 4 1 == 0x7F)).length else 0
/-- The abort of a request that its session's limit turns away: busy, but for the codes that R406 lists before it. -/
def State.overLimit (s : State) (slot : Slot) (m : List Byte) : Abort :=
  let op := field m 1 1
  let st := field m 4 2
  let idx := field m 6 2
  let sub := field m 8 1
  if badHeader m ∨ op = 0 ∨ (8 < op ∧ op ≠ 0x11) then .protocol
  else if 8 ≤ op then .busy
  else if addrStation st = none ∧ ¬ (0x8000 ≤ st ∧ (idx = 0x2011 ∨ s.groupExists st)) then .unknownStation
  else if (op = 2 ∨ 5 ≤ op) ∧ s.denies slot st idx sub then .denied
  else (s.admitStation slot st idx sub).getD .busy
/-- The abort of a request that no slot is free for: exhaustion, but for a code that R406 lists before it, which a session of the pair
would draw. -/
def State.refusedPair (s : State) (b : Fin 2) (src : Nat) (m : List Byte) : Nat :=
  let k : Slot := 31
  let t := (s.putSession k { isOpen := true, carrier := 1 + b.val, peer := src }).serve k m
  let a := (t.session k).resp.abort
  if a = 0 ∨ a = abortCode .timeout then abortCode .exhaustion else a
/-- A Phosen message of type 0x7F: its session, opened at the pair's first request; a refusal when no slot is free, or with 8 requests of
the session outstanding (R401). -/
def State.phosenMsg (s : State) (b : Fin 2) (src tag : Nat) (m : List Byte) : State :=
  let run (s : State) (k : Slot) : State :=
    let s := if 8 ≤ s.outstanding b src then
        (s.touch k).refuse k (field m 1 1) (field m 4 2) (field m 6 2) (field m 8 1) (s.overLimit k m)
      else s.serve k m
    if s.rst.held.isSome then s else s.sendMsg b src 0 tag (phosenReply m (s.session k).resp)
  match s.sessionOf b src with
  | some k => run s k
  | none =>
    match s.freeSlot with
    | some k =>
      run (s.putSession k { isOpen := true, carrier := 1 + b.val, peer := src, noteSev := if b = 0 then 2 else 0 }) k
    | none =>
      let a := s.refusedPair b src m
      let s := (s.inc32 hubSt O.SESSION_REFUSED).raise F.PHO_SESSION_FULL hubSt 0 0
      s.sendMsg b src 0 tag (phosenReply m { op := field m 1 1, abort := a })

/-- Every MCTP session of a binding is freed (R401). -/
def State.freeBinding (s : State) (b : Fin 2) : State :=
  allSlots.foldl (fun s k =>
    let x := s.session k
    if 5 ≤ k.val ∧ x.isOpen ∧ x.carrier = 1 + b.val then s.freeSession k else s) s
/-- The response data of a control command, its completion code first (R409); the layouts are DSP0236's (assumption 88). -/
def State.control (s : State) (b : Fin 2) (cmd : Nat) (data : List Byte) (owner : Bool) : List Byte × State :=
  let eid : Byte := BitVec.ofNat 8 (s.eid b)
  match cmd with
  | 0x01 =>
    let new := field data 1 1
    if data.length < 2 ∨ 1 < field data 0 1 ∨ new = 0 ∨ new = 0xFF then ([0x02], s)
    else if !owner then ([0x00, 0x10, eid, 0x00], s)
    else ([0x00, 0x00, BitVec.ofNat 8 new, 0x00], (s.wr hubSt (eidObj b) new).freeBinding b)
  | 0x02 => ([0x00, eid, 0x00, 0x00], s)
  | 0x03 => (0x00 :: leBytes 16 (Config.uuid (s.rd hubSt O.SERIAL)).toNat, s)
  | 0x04 => (if field data 0 1 = 0xFF ∨ field data 0 1 = 0 then [0x00, 0x01, 0xF1, 0xF3, 0xFF, 0x00] else [0x80], s)
  | 0x05 => ([0x00, 0x01, 0x7F], s)
  | 0x06 => (if field data 0 1 = 0 then [0x00, 0xFF, 0x01, 0x00, 0x17, 0xF3, 0xA9, 0x00, 0x01] else [0x02], s)
  | _ => ([0x05], s)
/-- A control command takes effect; its response data stand in the binding. -/
def State.runControl (s : State) (b : Fin 2) (cmd : Nat) (data : List Byte) (owner : Bool) : State :=
  let r := s.control b cmd data owner
  r.2.putBinding b { r.2.binding b with ctrl := r.1 }
/-- A control message (type 0x00): requests alone; the response echoes its instance and command (R409). -/
def State.controlMsg (s : State) (b : Fin 2) (src tag : Nat) (m : List Byte) : State :=
  if m.length < 3 ∨ field m 1 1 < 128 then s.discard
  else
    let s := s.runControl b (field m 2 1) (m.drop 3) true
    s.sendMsg b src 0 tag ([0x00, BitVec.ofNat 8 (field m 1 1 % 32), BitVec.ofNat 8 (field m 2 1)] ++ (s.binding b).ctrl)
/-- A whole message (R408); Tag Owner 0 answers nothing the controller asked. -/
def State.mctpMsg (s : State) (b : Fin 2) (src tag : Nat) (m : List Byte) : State :=
  if tag < 8 then s.discard
  else if field m 0 1 = 0 then s.controlMsg b src (tag % 8) m
  else if m.take 5 = phosenPrefix then s.phosenMsg b src (tag % 8) (m.drop 5)
  else s.discard

/-- The message that a packet continues: the same binding, source, Tag Owner and tag. -/
def Assembly.same (x : Assembly) (b src tag : Nat) : Bool := x.binding == b && x.src == src && x.tag == tag
def State.dropAssembly (s : State) (b src tag : Nat) : State :=
  { s with tr := { s.tr with assembly := s.tr.assembly.filter (fun x => !x.same b src tag) } }
def State.addAssembly (s : State) (x : Assembly) : State :=
  { s with tr := { s.tr with assembly := s.tr.assembly ++ [x] } }
/-- A first packet: a message of its own, or the start of one, of which a binding holds at most 4. -/
def State.firstPacket (s : State) (b : Fin 2) (src tag seq : Nat) (eom : Bool) (pay : List Byte) : State :=
  let s := if s.tr.assembly.any (fun x => x.same b.val src tag) then (s.dropAssembly b.val src tag).discard else s
  if eom then s.mctpMsg b src tag pay
  else if pay.length ≠ 64 ∨ 4 ≤ (s.tr.assembly.filter (fun x => x.binding == b.val)).length then s.discard
  else s.addAssembly ⟨b.val, src, tag, seq, (s.time hubSt), pay⟩
/-- A later packet, in sequence and of the whole transmission unit unless it is the last; at most 1,088 bytes are assembled. -/
def State.nextPacket (s : State) (b : Fin 2) (src tag seq : Nat) (eom : Bool) (pay : List Byte) : State :=
  match s.tr.assembly.find? (fun x => x.same b.val src tag) with
  | none => s.discard
  | some x =>
    let t := s.dropAssembly b.val src tag
    if seq ≠ (x.seq + 1) % 4 ∨ (!eom ∧ pay.length ≠ 64) ∨ 1088 < x.bytes.length + pay.length then t.discard
    else if eom then t.mctpMsg b src tag (x.bytes ++ pay)
    else t.addAssembly { x with seq := seq, bytes := x.bytes ++ pay }
/-- A packet after its PEC: transport header version 1, for this endpoint, with 1 to 64 bytes (R408). -/
def State.takePacket (s : State) (b : Fin 2) (p : List Byte) : State :=
  let dst := field p 1 1
  let fl := field p 3 1
  let pay := p.drop 4
  if pay = [] ∨ 64 < pay.length ∨ field p 0 1 % 16 ≠ 1 ∨ (dst ≠ s.eid b ∧ dst ≠ 0 ∧ dst ≠ 0xFF) then s.discard
  else if bit fl 7 then s.firstPacket b (field p 2 1) (fl % 16) (fl / 16 % 4) (bit fl 6) pay
  else s.nextPacket b (field p 2 1) (fl % 16) (fl / 16 % 4) (bit fl 6) pay
/-- MCTP_PACKET (R408, R410, R411): while the core is down an I3C packet is not acknowledged and a PCIe packet is discarded. -/
def execMctpPacket (b : Fin 2) (packet : List Byte) (s : State) : Out :=
  .next (if !s.mctpReach b then s
  else if !s.mctpServed b then (if b = 1 then s.discard else s)
  else if b = 1 then s.takePacket b packet
  else if packet.getLast? = some (s.pec 0 packet.dropLast) then s.takePacket b packet.dropLast
  else s.discard)
/-- MCTP_ASSEMBLY_TIMEOUT (R408): 100 ms after the first packet. -/
def execMctpAssemblyTimeout (b : Fin 2) (src : Byte) (tag : Fin 8) (s : State) : Out :=
  let late (x : Assembly) : Bool := x.binding == b.val && x.src == src.toNat && x.tag % 8 == tag.val && x.start + 100000000 ≤ (s.time hubSt)
  let n := (s.tr.assembly.filter late).length
  .next (if n = 0 then s
  else ({ s with tr := { s.tr with assembly := s.tr.assembly.filter (fun x => !late x) } }).inc hubSt O.MCTP_DISCARDS max32 n)
/-- A control command on its own (R409). -/
def State.controlCmd (s : State) (b : Fin 2) (cmd : Nat) (data : List Byte) (owner : Bool) : State :=
  if s.mctpReach b ∧ s.mctpServed b then s.runControl b cmd data owner else s
/-- SET_ENDPOINT_ID (R409). -/
def execSetEndpointId (b : Fin 2) (eid : Byte) (fromOwner : Bool) (s : State) : Out :=
  .next (s.controlCmd b 0x01 [0x00, eid] fromOwner)
/-- GET_ENDPOINT_ID (R409). -/
def execGetEndpointId (b : Fin 2) (s : State) : Out := .next (s.controlCmd b 0x02 [] false)
/-- GET_ENDPOINT_UUID (R409). -/
def execGetEndpointUuid (b : Fin 2) (s : State) : Out := .next (s.controlCmd b 0x03 [] false)
/-- GET_MCTP_VERSION_SUPPORT (R409). -/
def execGetMctpVersionSupport (b : Fin 2) (msgType : Byte) (s : State) : Out := .next (s.controlCmd b 0x04 [msgType] false)
/-- GET_MESSAGE_TYPE_SUPPORT (R409). -/
def execGetMessageTypeSupport (b : Fin 2) (s : State) : Out := .next (s.controlCmd b 0x05 [] false)
/-- GET_VENDOR_DEFINED_MESSAGE_SUPPORT (R409). -/
def execGetVendorDefinedMessageSupport (b : Fin 2) (selector : Byte) (s : State) : Out :=
  .next (s.controlCmd b 0x06 [selector] false)

/-- The NOTIFY message of a record (R403): RID, STATION, INDEX and SUB have no stated value, so they are free. -/
def notifyMsg (free : Nat) (n : Note) : List Byte :=
  phosenPrefix ++ [0x01, 0x10] ++ leBytes 7 free ++ zeroBytes 3 ++ leBytes 4 32 ++ noteBytes n
/-- NOTIFY (R407): on MCTP the record leaves when its message, under a tag of the controller's own, has been sent: at once on PCIe,
with the last packet's private read on I3C; firmware takes slot 0's. It waits while the core is down, and on I3C while DISEC disables
in-band interrupts (R410). -/
def execNotify (slot : Slot) (s : State) : Out :=
  let x := s.session slot
  .next (match x.notes with
  | [] => s
  | n :: _ =>
    if !x.isOpen ∨ s.rst.held.isSome ∨ !s.rst.coreUp ∨ x.carrier = 3 then s
    else if x.carrier = 0 then s.takeNote slot
    else
      let b : Fin 2 := if x.carrier = 1 then 0 else 1
      if !s.mctpReach b ∨ (b = 0 ∧ (s.binding b).ibiOff) then s
      else
        let y := s.binding b
        if b = 0 ∧ y.notes.any (fun p => p.1 == slot.val) then s
        else
          let d := s.draw
          let e := d.2.draw
          let t := e.2.sendMsg b x.peer 1 (e.1 % 8) (notifyMsg d.1 n)
          if b = 0 then t.putBinding b { t.binding b with notes := y.notes ++ [(slot.val, n)] } else t.takeNote slot)
/-- The static address of the I3C target: I3C_SADDR of OPT0, 0x1D where the option is blank (R353, R410). -/
def State.i3cStatic (s : State) : Nat :=
  let w := s.rd hubSt O.OPT0
  if bits w 31 24 = 0xA5 then bits w 15 9 else 0x1D
/-- I3C_ADDRESS_ASSIGN (R410): by SETDASA at the static address, or by ENTDAA; either gives the dynamic address. -/
def execI3cAddressAssign (_viaStatic : Bool) (addr : Fin 128) (s : State) : Out :=
  .next (if s.i3cUp then s.wr hubSt O.I3C_DADDR addr.val else s)
/-- The in-band interrupt that announces a waiting packet, by its mandatory data byte (R410); the byte, 0xAE, is DSP0233's (assumption 88). -/
def State.i3cIbi (s : State) : Option Nat :=
  if s.mctpReach 0 ∧ s.mctpServed 0 ∧ (s.binding 0).out ≠ [] ∧ (s.binding 0).ibiOff = false then some 0xAE else none
/-- The last packet of a message with Tag Owner 1, which is a NOTIFY's (R408). -/
def endsNotify (p : List Byte) : Bool := bit (field p 3 1) 6 && bit (field p 3 1) 3
/-- A NOTIFY has been sent: its record leaves the queue, where it still stands at the front (R407). -/
def State.noteSent (s : State) : State :=
  let x := s.binding 0
  match x.notes with
  | [] => s
  | (k, n) :: rest =>
    let slot : Slot := Fin.ofNat 32 k
    let s := s.putBinding 0 { x with notes := rest }
    if (s.session slot).notes.head? = some n then s.takeNote slot else s
/-- I3C_PRIVATE_READ (R410): the next packet goes to the controller; during a core reset the target does not acknowledge. -/
def execI3cPrivateRead (s : State) : Out :=
  let x := s.binding 0
  .next (if s.mctpReach 0 ∧ s.mctpServed 0 then
    let t := s.putBinding 0 { x with out := x.out.drop 1 }
    if x.out.head?.any endsNotify then t.noteSent else t
  else s)
/-- DISEC (R410). -/
def execDisec (disable : Bool) (s : State) : Out :=
  .next (if s.i3cUp then s.putBinding 0 { s.binding 0 with ibiOff := disable } else s)

/-! ### The PCIe crossing and the window (R401, R411-R414) -/

/-- PCIE_CROSSING_UP (R401): once clock-good bit 5 holds, the window channels' sessions open and PHO_PCIE_DOWN ends. -/
def execPcieCrossingUp (s : State) : Out :=
  .next (if s.rst.held.isSome ∨ !bit (s.rd hubSt O.CLK_GOOD) 5 ∨ s.rd hubSt O.PCIE_STATE = 1 then s
  else
    let t := if s.rd hubSt O.PCIE_STATE = 2 then s.endCondition F.PHO_PCIE_DOWN hubSt 0 else s
    (List.finRange 4).foldl (fun s (k : ChanId) =>
      (s.putSession (chanSlot k) { sessionDefault (k.val + 1) with isOpen := true }).putChannel k {})
      (t.wr hubSt O.PCIE_STATE 1))
/-- PCIE_CROSSING_DOWN (R395, R401): the window sessions are freed and the host tier ends; a host reset also frees the PCIe
sessions. -/
def execPcieCrossingDown (hostReset : Bool) (s : State) : Out :=
  .next (if s.rst.held.isSome then s
  else
    let s := if hostReset then (s.freeBinding 1).endTier else s
    if s.rd hubSt O.PCIE_STATE ≠ 1 then s
    else
      let g := s.rd hubSt O.CLK_GOOD
      let s := (s.wr hubSt O.PCIE_STATE 2).wr hubSt O.CLK_GOOD (if bit g 5 then g - 32 else g)
      let s := (List.finRange 4).foldl (fun s (k : ChanId) => s.freeSession (chanSlot k)) s
      s.endTier.raise F.PHO_PCIE_DOWN hubSt 0 0)
/-- WINDOW_BAD_ACCESS (R412): a write is dropped, a read returns zeroes; the controller sees none while the crossing is down. -/
def execWindowBadAccess (_isWrite : Bool) (s : State) : Out :=
  .next (if s.rst.held.isNone ∧ s.rd hubSt O.PCIE_STATE = 1 then s.inc32 hubSt O.WIN_BAD else s)

/-- A command of a window channel: staged registers, the dictionary operation, DICT_STATUS. -/
def State.winOp (s : State) (ch : ChanId) (op : Nat) (stage : WinChan → WinChan) (run : State → State) : State :=
  if s.hears (chanSlot ch) then (run (s.putChannel ch (stage (s.channel ch)))).dictStatus ch op else s
/-- A DICT_LEN out of range (R413): the length abort code, but for one that R406 lists before it. -/
def State.winLength (s : State) (ch : ChanId) (op : Nat) (a : DictAddr) : State :=
  let k := chanSlot ch
  let s := s.touch k
  let st := a.station.toNat
  let idx := a.index.toNat
  let sub := a.sub.toNat
  let e := if op ≤ 4 then s.admitRead k st idx sub else s.admitWrite k st idx sub ((objRow st idx sub).elim 0 ObjRow.size)
  s.refuse k op st idx sub (match e with | none => .length | some .state => .length | some e => e)
/-- WINDOW_DICT_READ (R413). -/
def execWindowDictRead (ch : ChanId) (a : DictAddr) (s : State) : Out :=
  .next (s.winOp ch 1 (fun x => { x with dictAddr := a }) (fun s =>
    let s := s.opRead (chanSlot ch) a
    let r := (s.session (chanSlot ch)).resp
    if r.abort = 0 then s.putChannel ch { s.channel ch with dictData := leNat r.data } else s))
/-- WINDOW_DICT_WRITE (R413): a DICT_LEN of 0, or of 9 and more, is a length no object takes. -/
def execWindowDictWrite (ch : ChanId) (a : DictAddr) (len : BitVec 32) (data : BitVec 64) (s : State) : Out :=
  let n := len.toNat
  .next (s.winOp ch 2 (fun x => { x with dictAddr := a, dictLen := n, dictData := data.toNat }) (fun s =>
    s.writeObj (chanSlot ch) a (leBytes (min n 9) data.toNat)))
/-- WINDOW_SEGMENT_READ (R413). -/
def execWindowSegmentRead (ch : ChanId) (a : DictAddr) (offset : BitVec 32) (len : BitVec 32) (s : State) : Out :=
  let n := len.toNat
  let k := chanSlot ch
  .next (s.winOp ch 3 (fun x => { x with dictAddr := a, dictLen := n, dictOffset := offset.toNat }) (fun s =>
    if n = 0 ∨ 4096 < n then s.winLength ch 4 a
    else
      let s1 := if offset.toNat = 0 then s.opSegReadInit k a else s
      let r1 := (s1.session k).resp
      if offset.toNat = 0 ∧ r1.abort ≠ 0 then s1
      else
        let s2 := if offset.toNat = 0 then s1.putChannel ch { s1.channel ch with dictTotal := r1.param } else s1
        let s3 := s2.opSegRead k a offset.toNat n
        let r3 := (s3.session k).resp
        if r3.abort = 0 then
          s3.putChannel ch { s3.channel ch with buffer := r3.data ++ (s3.channel ch).buffer.drop r3.data.length }
        else s3))
/-- WINDOW_SEGMENT_WRITE (R413). -/
def execWindowSegmentWrite (ch : ChanId) (a : DictAddr) (offset total : BitVec 32) (data : List Byte) (s : State) : Out :=
  let n := data.length
  let k := chanSlot ch
  .next (s.winOp ch 4 (fun x => { x with
      dictAddr := a, dictLen := n, dictOffset := offset.toNat, dictTotal := total.toNat, buffer := data ++ x.buffer.drop n }) (fun s =>
    if n = 0 ∨ 4096 < n then s.winLength ch 6 a
    else
      let s1 := if offset.toNat = 0 then s.opSegWriteInit k a total.toNat else s
      if offset.toNat = 0 ∧ (s1.session k).resp.abort ≠ 0 then s1 else s1.opSegWrite k a offset.toNat data))
/-- WINDOW_SEG_END (R413): the bytes transferred are those of DICT_TOTAL. -/
def execWindowSegEnd (ch : ChanId) (s : State) : Out :=
  .next (s.winOp ch 5 id (fun s => s.opSegEnd (chanSlot ch) (s.channel ch).dictAddr (s.channel ch).dictTotal))
/-- WINDOW_ABORT (R413). -/
def execWindowAbort (ch : ChanId) (s : State) : Out := .next (s.winOp ch 6 id (fun s => s.opAbort (chanSlot ch)))
/-- NOTE_ACK (R407, R413). -/
def execNoteAck (ch : ChanId) (s : State) : Out := .next (if s.hears (chanSlot ch) then s.takeNote (chanSlot ch) else s)
/-- The 32 bytes of a staging register. -/
def stage32 (l : List Byte) : List Byte := (l ++ zeroBytes 32).take 32
/-- PART_CLAIM_GO (R413). -/
def execPartClaimGo (ch : ChanId) (desc : List Byte) (s : State) : Out :=
  let k := chanSlot ch
  let d := stage32 desc
  .next (if s.hears k then
    (s.putChannel ch { s.channel ch with partDesc := d }).request k 0x02 hubSt O.PART_CLAIM.index O.PART_CLAIM.sub
      (fun s => s.admitWrite k hubSt O.PART_CLAIM.index O.PART_CLAIM.sub 32) (effPartClaim k d)
  else s)
/-- BIND_GO (R413). -/
def execBindGo (ch : ChanId) (p : PartId) (data : List Byte) (s : State) : Out :=
  let k := chanSlot ch
  let d := stage32 data
  let o := partObj 0x2A40 p
  .next (if s.hears k then
    ((s.putChannel ch { s.channel ch with bindData := d }).request k 0x02 hubSt o.index o.sub
      (fun s => s.admitWrite k hubSt o.index o.sub 32) (effBind p d)).noteFast k
  else s)

end Sys2Proof.Machine
end

