-- ==== Sys2Proof/Machine/Pins.lean ====
section
/-!
DEFINITION. The test access port and the analog loopback (chapter Pins, Package and Electrical Limits, R450-R453).
-/
namespace Sys2Proof.Machine
open Sys2Proof

/-- The TAP has its supply (R439). -/
def State.tapPowered (s : State) : Bool := s.driven
/-- The conditions on an intrusive instruction (R452). -/
def State.tapQuiet (s : State) : Bool :=
  (List.finRange 16).all (fun r => s.railState r == 0 || s.railState r == 5)
    && allFields.all (fun f => allClusters.all (fun c => (mrsOf c).all (fun m => !(s.mr f c m).cell.switches)))
    && (List.finRange 16).all (fun n => !(s.conv n).enable)
    && allDomains.all (fun d => s.dstate d != .starting)
def State.putTap (s : State) (t : TapRec) : State := { s with tap := t }
/-- A non-intrusive instruction takes effect at Update-IR. -/
def State.tapSelect (s : State) (i : TapInstr) : State :=
  if s.tapPowered then s.putTap { s.tap with instr := i, refused := false } else s
/-- An intrusive instruction takes effect and disarms the sequencer, or acts as BYPASS and is refused (R452). -/
def State.tapIntrude (s : State) (i : TapInstr) : State :=
  if !s.tapPowered then s
  else if s.tapQuiet then
    { s.putTap { s.tap with instr := i, refused := false } with seq := { s.seq with armed := false } }
  else s.putTap { s.tap with instr := .bypass, refused := true }
/-- The instruction of a 5-bit code; every code that the table does not list acts as BYPASS (R450). -/
def tapCode (c : BitVec 5) : TapInstr :=
  match c.toNat with
  | 0x00 => .extest
  | 0x01 => .idcode
  | 0x02 => .samplePreload
  | 0x04 => .clamp
  | 0x05 => .highz
  | 0x08 => .loopback
  | _ => .bypass
/-- Update-IR with a code in the instruction register (R450, R452). -/
def State.tapLoad (s : State) (c : BitVec 5) : State :=
  match tapCode c with
  | .extest => s.tapIntrude .extest
  | .clamp => s.tapIntrude .clamp
  | .highz => s.tapIntrude .highz
  | .loopback => s.tapIntrude .loopback
  | i => s.tapSelect i
/-- The boundary register takes the cells shifted in, while an instruction that selects it stands (R450, R451). -/
def State.tapCells (s : State) (i : TapInstr) (cells : Option (BitVec 988)) : State :=
  match cells with
  | some c => if s.tapPowered ∧ s.tap.instr = i then s.putTap { s.tap with cells := c.toNat } else s
  | none => s

/-- EXTEST (R450): `cells` are those of an Update-DR under it. -/
def execExtest (cells : Option (BitVec 988)) (s : State) : Out := .next ((s.tapLoad 0b00000).tapCells .extest cells)
/-- IDCODE (R450). -/
def execIdcode (s : State) : Out := .next (s.tapLoad 0b00001)
/-- SAMPLE/PRELOAD (R450): `cells` are those of an Update-DR under it. -/
def execSamplePreload (cells : Option (BitVec 988)) (s : State) : Out :=
  .next ((s.tapLoad 0b00010).tapCells .samplePreload cells)
/-- CLAMP (R450). -/
def execTapClamp (s : State) : Out := .next (s.tapLoad 0b00100)
/-- HIGHZ (R450). -/
def execHighz (s : State) : Out := .next (s.tapLoad 0b00101)
/-- LOOPBACK_TEST (R453). -/
def execLoopbackTest (s : State) : Out := .next (s.tapLoad 0b01000)
/-- BYPASS (R450). -/
def execBypass (s : State) : Out := .next (s.tapLoad 0b11111)
/-- A reset of the TAP selects IDCODE (R450, R452). -/
def execTapReset (s : State) : Out := .next (s.putTap {})

/-! ### The output pins under an intrusive instruction (R450-R453) -/

/-- Cell `k` of the boundary register, counted from TDI (R451). -/
def State.tapCell (s : State) (k : Nat) : Bool := bit s.tap.cells (987 - k)
/-- The pins are held from the boundary register. -/
def State.tapHolds (s : State) : Bool := match s.tap.instr with | .extest | .clamp => true | _ => false
/-- What a pin shows: held from the boundary register, not driven under HIGHZ, else the block's own (R450, R452). -/
def State.tapPin {α : Type} (s : State) (held off own : α) : α :=
  if s.tapHolds then (if s.tapPowered then held else off) else if s.tap.instr = .highz then off else own
/-- The number of a phase's PWM pin in its group. -/
def pwmPin (r : RailId) (p : PhaseId) : Nat := if isFR r then 32 * r.val + p.val else 256 + 4 * (r.val - 8) + p.val
/-- The level on a PWM pin: cells enable, level bit 1, level bit 0. -/
def State.pwmPinOut (s : State) (r : RailId) (p : PhaseId) : Pwm :=
  let k := 3 * pwmPin r p
  s.tapPin (if !s.tapCell k then .undriven else if s.tapCell (k + 1) then .mid else if s.tapCell (k + 2) then .high else .low)
    .undriven (s.pwmOut r p)
/-- A push-pull pin with a pull-down is high: cells data, enable. -/
def State.pushPin (s : State) (k : Nat) (own : Bool) : Bool := s.tapPin (s.tapCell k && s.tapCell (k + 1)) false own
/-- STG_EN on its pin. -/
def State.stgEnPin (s : State) (r : RailId) : Bool := s.pushPin (864 + 2 * r.val) (s.stgEnOut r)
/-- DXEN on its pin. -/
def State.dxEnPin (s : State) (n : ConvId) : Bool := s.pushPin (912 + 2 * n.val) (s.dxEnOut n)
/-- Whether RST_OUT_N, ERR_N and THERMTRIP_N (0, 1, 2) are pulled low: cells drive low, observe. -/
def State.statusPin (s : State) (k : Fin 3) : Bool :=
  let own := match k with
    | 0 => s.pulledLow s.rstOut
    | 1 => s.pulledLow s.errOut
    | 2 => s.thermTripOut
  s.tapPin (s.tapCell (978 + 2 * k.val)) false own
/-- How the block drives a pin of the SPI, PMBus and I3C groups: not at all, at a level, or by the transfer in progress. -/
inductive PinDrive
  | undriven | low | high | active
deriving DecidableEq, Repr
/-- The SPI master reads or writes the flash: during boot and image transfers (R439). -/
def State.spiRuns (s : State) : Bool :=
  s.pinsLive && (s.rst.boot.stage == 2 || s.moult.ops != [] || (1 ≤ s.imgState && s.imgState ≤ 3 && s.rd hubSt O.IMG_TARGET != 4))
/-- A pin with cells data and enable from cell `k` on. -/
def State.pushDrive (s : State) (k : Nat) (own : PinDrive) : PinDrive :=
  s.tapPin (if !s.tapCell (k + 1) then .undriven else if s.tapCell k then .high else .low) .undriven own
/-- The block's own drive of SPI_SCK or, with `cs`, SPI_CS_N, and of an SPI_IO pin, which it drives in the phases of R446. -/
def State.spiOwn (s : State) (cs : Bool) : PinDrive :=
  if !s.driven then .undriven else if s.spiRuns then .active else if cs then .high else .low
def State.spiIoOwn (s : State) : PinDrive := if s.spiRuns then .active else .undriven
/-- Of PBx_SCL and PBx_SDA: the segment's master (R187). -/
def State.pbOwn (s : State) (k : SegId) : PinDrive := if s.pinsLive && s.segWorks k then .active else .undriven
/-- Of I3C_SCL and I3C_SDA: a target once firmware or the boot ROM serves it. -/
def State.i3cOwn (s : State) : PinDrive := if s.i3cUp && s.mctpServed 0 then .active else .undriven
/-- SPI_SCK and SPI_CS_N on their pins. -/
def State.spiSckPin (s : State) : PinDrive := s.pushDrive 960 (s.spiOwn false)
def State.spiCsPin (s : State) : PinDrive := s.pushDrive 962 (s.spiOwn true)
/-- SPI_IO0 to SPI_IO3: cells data, enable, observe. -/
def State.spiIoPin (s : State) (i : Fin 4) : PinDrive := s.pushDrive (964 + 3 * i.val) s.spiIoOwn
/-- PBx_SCL, and with `sda` PBx_SDA: cells drive low, observe. -/
def State.pbPin (s : State) (k : SegId) (sda : Bool) : PinDrive :=
  s.tapPin (if s.tapCell (944 + 4 * k.val + 2 * flagAt sda 0) then .low else .undriven) .undriven (s.pbOwn k)
/-- I3C_SCL, and with `sda` I3C_SDA: cells data, enable, observe. -/
def State.i3cPin (s : State) (sda : Bool) : PinDrive := s.pushDrive (954 + 3 * flagAt sda 0) s.i3cOwn

/-- What two cells data and enable capture of a drive; a transfer's own level is the pin's. -/
def captureDrive (d : PinDrive) (level : Bool) (enable : Bool) : Bool :=
  if enable then d != .undriven else match d with | .high => true | .active => level | _ => false
/-- What cell `k` captures at Capture-DR (R451): an output's own drive, and for an observe cell the level on its pin, which `level` gives
by the cell. -/
def State.captureCell (s : State) (level : Nat → Bool) (k : Nat) : Bool :=
  if k < 864 then
    let n := k / 3
    let w := if n < 256 then s.pwmOut (Fin.ofNat 16 (n / 32)) (Fin.ofNat 32 (n % 32)) else s.pwmOut (Fin.ofNat 16 (8 + (n - 256) / 4)) (Fin.ofNat 32 (n % 4))
    (match k % 3 with | 0 => w != .undriven | 1 => w == .mid | _ => w == .high)
  else if k < 896 then (if k % 2 = 0 then s.stgEnOut (Fin.ofNat 16 ((k - 864) / 2)) else s.driven)
  else if k < 912 then level k
  else if k < 944 then (if k % 2 = 0 then s.dxEnOut (Fin.ofNat 16 ((k - 912) / 2)) else s.driven)
  else if k < 952 then (if k % 2 = 0 then s.pbOwn (Fin.ofNat 2 ((k - 944) / 4)) == .active && !level (k + 1) else level k)
  else if k < 954 then level k
  else if k < 960 then (if k % 3 = 2 then level k else captureDrive s.i3cOwn (level (k / 3 * 3 + 2)) (k % 3 == 1))
  else if k < 964 then captureDrive (s.spiOwn (962 ≤ k)) (level k) (k % 2 == 1)
  else if k < 976 then (if (k - 964) % 3 = 2 then level k else captureDrive s.spiIoOwn (level ((k - 964) / 3 * 3 + 966)) ((k - 964) % 3 == 1))
  else if k < 978 then level k
  else if k < 984 then
    (if k % 2 = 1 then level k
    else match (k - 978) / 2 with | 0 => s.pulledLow s.rstOut | 1 => s.pulledLow s.errOut | _ => s.thermTripOut)
  else level k
/-- The boundary register at Capture-DR, the first cell from TDI in the highest bit. -/
def State.capture (s : State) (level : Nat → Bool) : Nat :=
  (List.range 988).foldl (fun n k => 2 * n + flagAt (s.captureCell level k) 0) 0

/-- A rail's IREF in mV where it is driven: its driver is off while its pin is tested, and under HIGHZ; the pin has no cell. -/
def State.irefPin (s : State) (r : RailId) : Option Nat :=
  if s.tap.instr = .highz ∨ (s.tap.instr = .loopback ∧ s.tap.pin = 352 + r.val) then none else s.irefOut
/-- The bias on a rail's VSP pin, and with `neg` its VSN pin, in µA: off while the pin is tested. -/
def State.biasPin (s : State) (r : RailId) (neg : Bool) : Nat :=
  if s.tap.instr = .loopback ∧ s.tap.pin = 288 + flagAt neg 4 + r.val then 0 else s.senseBias

/-- What the instruction register loads at Capture-IR (R450). -/
def State.irCapture (s : State) : Nat := 1 + flagAt s.tap.refused 2
/-- The identification register (R450). -/
def State.idWord (s : State) : Nat := s.rd hubSt O.SILICON_REV / 256 % 16 * 2 ^ 28 + 0xAD7E * 2 ^ 12 + 0x4E5 * 2 + 1
/-- Whether a converter that serves a pin of R453 still converts; a reserved index names none. -/
def State.pinServed (s : State) (pin : Nat) : Bool :=
  let live (r : RailId) : Bool :=
    if isFR r then (List.range 4).any (fun q => !(s.adc (railField r) (Fin.ofNat 5 q)).failed) else !(s.adc (railField r) 4).failed
  if pin < 256 then !(s.adc (Fin.ofNat 8 (pin / 32)) (Fin.ofNat 5 (pin % 32 / 8))).failed
  else if pin < 288 then live (Fin.ofNat 16 (8 + (pin - 256) / 4))
  else if pin < 368 then live (Fin.ofNat 16 (pin % 16))
  else if pin < 376 then live (Fin.ofNat 16 (pin - 368)) || live (Fin.ofNat 16 (pin - 360))
  else false
/-- The loopback register at Capture-DR (R453): a pin that no converter serves has no code. -/
def State.loopbackWord (s : State) : Nat :=
  s.tap.pin * 2 ^ 15 + s.tap.current * 2 ^ 13 + (if s.pinServed s.tap.pin then flagAt s.tap.valid 12 + s.tap.code else 0)
/-- LOOPBACK_UPDATE_DR (R453): I of 3 is taken as 0. -/
def execLoopbackUpdateDr (pin : BitVec 9) (cur : Fin 4) (s : State) : Out :=
  .next (if s.tapPowered ∧ s.tap.instr = .loopback then
    s.putTap { s.tap with
      pin := pin.toNat
      current := if cur = 3 then 0 else cur.val
      valid := false
      code := if s.pinServed pin.toNat then s.tap.code else 0
      since := (s.time hubSt) }
  else s)
/-- LOOPBACK_CONVERSION (R453): the tested pin is converted; the code is valid from 100 µs after the last Update-DR. -/
def execLoopbackConversion (code : BitVec 12) (s : State) : Out :=
  .next (if s.tapPowered ∧ s.tap.instr = .loopback then
    if s.pinServed s.tap.pin then s.putTap { s.tap with code := code.toNat, valid := decide (s.tap.since + 100000 ≤ (s.time hubSt)) }
    else s.putTap { s.tap with code := 0, valid := false }
  else s)

end Sys2Proof.Machine
end

