-- ==== Sys2Proof/Machine/Dispatch.lean ====
section
/-!
DEFINITION. Which meaning each command has: one arm per constructor of Instr.
-/
namespace Sys2Proof.Machine
open Sys2Proof

def exec (i : Instr) (s : State) : Host.Outcome State Fault Refusal :=
  match i with
  | .configWrite slot a val => Sys2Proof.Machine.execConfigWrite slot a val s
  | .wheelStart slot w => Sys2Proof.Machine.execWheelStart slot w s
  | .wheelStop slot w => Sys2Proof.Machine.execWheelStop slot w s
  | .wheelPark slot w => Sys2Proof.Machine.execWheelPark slot w s
  | .wheelRelease slot w => Sys2Proof.Machine.execWheelRelease slot w s
  | .wheelClear slot w => Sys2Proof.Machine.execWheelClear slot w s
  | .setpointWrite slot f c mv => Sys2Proof.Machine.execSetpointWrite slot f c mv s
  | .vsetWrite slot d mv => Sys2Proof.Machine.execVsetWrite slot d mv s
  | .groupSetpointWrite slot g mv => Sys2Proof.Machine.execGroupSetpointWrite slot g mv s
  | .ilimitWrite slot w ma => Sys2Proof.Machine.execIlimitWrite slot w ma s
  | .memberCountWrite slot g n => Sys2Proof.Machine.execMemberCountWrite slot g n s
  | .messageForward hop msg spent => Sys2Proof.Machine.execMessageForward hop msg spent s
  | .uncorrectableFlit l cls => Sys2Proof.Machine.execUncorrectableFlit l cls s
  | .linkHandshakeTimeout l => Sys2Proof.Machine.execLinkHandshakeTimeout l s
  | .linkIdleTimeout l => Sys2Proof.Machine.execLinkIdleTimeout l s
  | .idleCheckFlit st => Sys2Proof.Machine.execIdleCheckFlit st s
  | .clusterLinkPark f c => Sys2Proof.Machine.execClusterLinkPark f c s
  | .linkSound l => Sys2Proof.Machine.execLinkSound l s
  | .offsetExchange st t1 t2 t3 t4 => Sys2Proof.Machine.execOffsetExchange st t1 t2 t3 t4 s
  | .tileTakesTokenWord f t => Sys2Proof.Machine.execTileTakesTokenWord f t s
  | .activitySnapshotRequest f t => Sys2Proof.Machine.execActivitySnapshotRequest f t s
  | .activitySnapshotReceive f t counts slots hints => Sys2Proof.Machine.execActivitySnapshotReceive f t counts slots hints s
  | .fenceAssert f t => Sys2Proof.Machine.execFenceAssert f t s
  | .fenceDeassert f t => Sys2Proof.Machine.execFenceDeassert f t s
  | .sensorConversionRound f c readings cut => Sys2Proof.Machine.execSensorConversionRound f c readings cut s
  | .cycleLimit f c m prev => Sys2Proof.Machine.execCycleLimit f c m prev s
  | .hiccupEntry f c m => Sys2Proof.Machine.execHiccupEntry f c m s
  | .hiccupRestart f c m => Sys2Proof.Machine.execHiccupRestart f c m s
  | .restartRampEnd f c m => Sys2Proof.Machine.execRestartRampEnd f c m s
  | .hiccupWindowClose f c m => Sys2Proof.Machine.execHiccupWindowClose f c m s
  | .clusterHiccupRestart f c => Sys2Proof.Machine.execClusterHiccupRestart f c s
  | .clusterHiccupEnd f c => Sys2Proof.Machine.execClusterHiccupEnd f c s
  | .mrOpenDetect f c m => Sys2Proof.Machine.execMrOpenDetect f c m s
  | .slotRotationAdvance f c => Sys2Proof.Machine.execSlotRotationAdvance f c s
  | .slotMapRebuild f c => Sys2Proof.Machine.execSlotMapRebuild f c s
  | .sensorWindowJudge f c => Sys2Proof.Machine.execSensorWindowJudge f c s
  | .enableMaskWrite slot f c mask => Sys2Proof.Machine.execEnableMaskWrite slot f c mask s
  | .winsClear slot f c v => Sys2Proof.Machine.execWinsClear slot f c v s
  | .clusterInputInstant f c ia ib vin => Sys2Proof.Machine.execClusterInputInstant f c ia ib vin s
  | .clusterOutputInstant f c => Sys2Proof.Machine.execClusterOutputInstant f c s
  | .feedforwardReceive f c step elapsed => Sys2Proof.Machine.execFeedforwardReceive f c step elapsed s
  | .posReqReceive f c mv => Sys2Proof.Machine.execPosReqReceive f c mv s
  | .ithermReceive f c ma => Sys2Proof.Machine.execIthermReceive f c ma s
  | .plausibilityLoss f c => Sys2Proof.Machine.execPlausibilityLoss f c s
  | .feTimerExpire f c => Sys2Proof.Machine.execFeTimerExpire f c s
  | .feedbackFrozen f c => Sys2Proof.Machine.execFeedbackFrozen f c s
  | .feedbackReturn f c => Sys2Proof.Machine.execFeedbackReturn f c s
  | .holdExpire f c => Sys2Proof.Machine.execHoldExpire f c s
  | .tileImplausible f c byEst => Sys2Proof.Machine.execTileImplausible f c byEst s
  | .parkMessageReceive f c => Sys2Proof.Machine.execParkMessageReceive f c s
  | .parkDelayExpire f c => Sys2Proof.Machine.execParkDelayExpire f c s
  | .winClear slot f c v => Sys2Proof.Machine.execWinClear slot f c v s
  | .winnerChangeReceive f c => Sys2Proof.Machine.execWinnerChangeReceive f c s
  | .closeMarkerReceive f c => Sys2Proof.Machine.execCloseMarkerReceive f c s
  | .taskRelease e t => Sys2Proof.Machine.execTaskRelease e t s
  | .activationCommit e t => Sys2Proof.Machine.execActivationCommit e t s
  | .deadlineAbandon e t => Sys2Proof.Machine.execDeadlineAbandon e t s
  | .insnNop e => Sys2Proof.Machine.execInsnNop e s
  | .insnIn e fmt d p n => Sys2Proof.Machine.execInsnIn e fmt d p n s
  | .insnOut e port a x => Sys2Proof.Machine.execInsnOut e port a x s
  | .insnLdv e fmt d line => Sys2Proof.Machine.execInsnLdv e fmt d line s
  | .insnStv e line a => Sys2Proof.Machine.execInsnStv e line a s
  | .insnSete e fmt d x => Sys2Proof.Machine.execInsnSete e fmt d x s
  | .insnNorm e fmt d a => Sys2Proof.Machine.execInsnNorm e fmt d a s
  | .insnMvm e fmt d line v => Sys2Proof.Machine.execInsnMvm e fmt d line v s
  | .insnMvma e d line v => Sys2Proof.Machine.execInsnMvma e d line v s
  | .insnMova e fmt d a => Sys2Proof.Machine.execInsnMova e fmt d a s
  | .insnVcat e fmt d a v => Sys2Proof.Machine.execInsnVcat e fmt d a v s
  | .insnVext e fmt d a x => Sys2Proof.Machine.execInsnVext e fmt d a x s
  | .insnVadd e fmt d a v => Sys2Proof.Machine.execInsnVadd e fmt d a v s
  | .insnVsub e fmt d a v => Sys2Proof.Machine.execInsnVsub e fmt d a v s
  | .insnVmul e fmt d a v => Sys2Proof.Machine.execInsnVmul e fmt d a v s
  | .insnVscl e fmt d a sh => Sys2Proof.Machine.execInsnVscl e fmt d a sh s
  | .insnVmax e fmt d a v => Sys2Proof.Machine.execInsnVmax e fmt d a v s
  | .insnVmin e fmt d a v => Sys2Proof.Machine.execInsnVmin e fmt d a v s
  | .insnMins e fmt d a => Sys2Proof.Machine.execInsnMins e fmt d a s
  | .insnClamp e fmt d a v => Sys2Proof.Machine.execInsnClamp e fmt d a v s
  | .insnSatu e fmt d a w => Sys2Proof.Machine.execInsnSatu e fmt d a w s
  | .insnSel e fmt d a c => Sys2Proof.Machine.execInsnSel e fmt d a c s
  | .insnSeln e fmt d a c => Sys2Proof.Machine.execInsnSeln e fmt d a c s
  | .insnPwl e fmt d a line => Sys2Proof.Machine.execInsnPwl e fmt d a line s
  | .insnRelu e fmt d a => Sys2Proof.Machine.execInsnRelu e fmt d a s
  | .insnRls e fmt line phi err => Sys2Proof.Machine.execInsnRls e fmt line phi err s
  | .insnSupv e ch a v => Sys2Proof.Machine.execInsnSupv e ch a v s
  | .insnEnd e => Sys2Proof.Machine.execInsnEnd e s
  | .image slot e data => Sys2Proof.Machine.execImage slot e data s
  | .verify slot e v => Sys2Proof.Machine.execVerify slot e v s
  | .swap slot e => Sys2Proof.Machine.execSwap slot e s
  | .swapRevert slot e => Sys2Proof.Machine.execSwapRevert slot e s
  | .swapFlip e => Sys2Proof.Machine.execSwapFlip e s
  | .taskEnable slot e t => Sys2Proof.Machine.execTaskEnable slot e t s
  | .taskDisable slot e t => Sys2Proof.Machine.execTaskDisable slot e t s
  | .taskUnload slot e t => Sys2Proof.Machine.execTaskUnload slot e t s
  | .engineFail e cause => Sys2Proof.Machine.execEngineFail e cause s
  | .spareImageLoadDone f => Sys2Proof.Machine.execSpareImageLoadDone f s
  | .handback slot f c => Sys2Proof.Machine.execHandback slot f c s
  | .generalEngineError e corrected mask => Sys2Proof.Machine.execGeneralEngineError e corrected mask s
  | .stickyClear slot e m => Sys2Proof.Machine.execStickyClear slot e m s
  | .traceArm slot x => Sys2Proof.Machine.execTraceArm slot x s
  | .traceStop slot x => Sys2Proof.Machine.execTraceStop slot x s
  | .traceReset slot x => Sys2Proof.Machine.execTraceReset slot x s
  | .traceTriggerCmd slot x => Sys2Proof.Machine.execTraceTriggerCmd slot x s
  | .traceTrigger x => Sys2Proof.Machine.execTraceTrigger x s
  | .tracePostCountDone x => Sys2Proof.Machine.execTracePostCountDone x s
  | .modulatorTrip r => Sys2Proof.Machine.execModulatorTrip r s
  | .heldTripAssign r => Sys2Proof.Machine.execHeldTripAssign r s
  | .onTimeEnd r p => Sys2Proof.Machine.execOnTimeEnd r p s
  | .phaseCycleLimit r p => Sys2Proof.Machine.execPhaseCycleLimit r p s
  | .zeroCrossing r p => Sys2Proof.Machine.execZeroCrossing r p s
  | .fallbackMidTimer r p => Sys2Proof.Machine.execFallbackMidTimer r p s
  | .stgEnLeadExpire r => Sys2Proof.Machine.execStgEnLeadExpire r s
  | .stgEnDrop r => Sys2Proof.Machine.execStgEnDrop r s
  | .railInRegulation r => Sys2Proof.Machine.execRailInRegulation r s
  | .railStartTimeout r => Sys2Proof.Machine.execRailStartTimeout r s
  | .railUndervoltage r => Sys2Proof.Machine.execRailUndervoltage r s
  | .axIlimitTimer r => Sys2Proof.Machine.execAxIlimitTimer r s
  | .phaseOpenDetect r p => Sys2Proof.Machine.execPhaseOpenDetect r p s
  | .phaseDropCmd slot r p => Sys2Proof.Machine.execPhaseDropCmd slot r p s
  | .phaseRestore slot r p => Sys2Proof.Machine.execPhaseRestore slot r p s
  | .senseFallbackExit r p => Sys2Proof.Machine.execSenseFallbackExit r p s
  | .railOvercurrent r => Sys2Proof.Machine.execRailOvercurrent r s
  | .railHiccupRestart r => Sys2Proof.Machine.execRailHiccupRestart r s
  | .railRetryWindowClose r => Sys2Proof.Machine.execRailRetryWindowClose r s
  | .railOvervoltage r => Sys2Proof.Machine.execRailOvervoltage r s
  | .ovDischargeEnd r => Sys2Proof.Machine.execOvDischargeEnd r s
  | .stageFault r => Sys2Proof.Machine.execStageFault r s
  | .ibusUndervoltage f => Sys2Proof.Machine.execIbusUndervoltage f s
  | .ibusRecover f => Sys2Proof.Machine.execIbusRecover f s
  | .remoteSenseLost r => Sys2Proof.Machine.execRemoteSenseLost r s
  | .remoteSenseReturn r => Sys2Proof.Machine.execRemoteSenseReturn r s
  | .rDropLearn r start stop => Sys2Proof.Machine.execRDropLearn r start stop s
  | .converterStartReads n failed tries status vin vout => Sys2Proof.Machine.execConverterStartReads n failed tries status vin vout s
  | .firstContact n acked cap voutMode rev vendor model => Sys2Proof.Machine.execFirstContact n acked cap voutMode rev vendor model s
  | .converterPoll k => Sys2Proof.Machine.execConverterPoll k s
  | .pmbusAlert k addr => Sys2Proof.Machine.execPmbusAlert k addr s
  | .pmbusTransactionDone n cmd ack pec data pt => Sys2Proof.Machine.execPmbusTransactionDone n cmd ack pec data pt s
  | .pmbusLineTimeout k => Sys2Proof.Machine.execPmbusLineTimeout k s
  | .pmbusRecoveryDone k held => Sys2Proof.Machine.execPmbusRecoveryDone k held s
  | .converterEnable slot n => Sys2Proof.Machine.execConverterEnable slot n s
  | .converterDisable slot n => Sys2Proof.Machine.execConverterDisable slot n s
  | .converterRestore slot n => Sys2Proof.Machine.execConverterRestore slot n s
  | .restoreHoldExpire n => Sys2Proof.Machine.execRestoreHoldExpire n s
  | .passThroughRequest slot n cmd len => Sys2Proof.Machine.execPassThroughRequest slot n cmd len s
  | .dxenDropTimer f => Sys2Proof.Machine.execDxenDropTimer f s
  | .adcTimerTrigger f q tmr => Sys2Proof.Machine.execAdcTimerTrigger f q tmr s
  | .swTrig slot f q mask => Sys2Proof.Machine.execSwTrig slot f q mask s
  | .holdClose f q sq => Sys2Proof.Machine.execHoldClose f q sq s
  | .frontendSlotStart f q => Sys2Proof.Machine.execFrontendSlotStart f q s
  | .conversionResult f q code ovr => Sys2Proof.Machine.execConversionResult f q code ovr s
  | .sliceSwap f q => Sys2Proof.Machine.execSliceSwap f q s
  | .sliceCalibrationDone f q ok => Sys2Proof.Machine.execSliceCalibrationDone f q ok s
  | .refEnWrite slot f q v => Sys2Proof.Machine.execRefEnWrite slot f q v s
  | .refReady f q => Sys2Proof.Machine.execRefReady f q s
  | .sequenceWrite slot f q n word => Sys2Proof.Machine.execSequenceWrite slot f q n word s
  | .comparatorConfigWrite slot f q n word => Sys2Proof.Machine.execComparatorConfigWrite slot f q n word s
  | .telemetryWindow10us st => Sys2Proof.Machine.execTelemetryWindow10us st s
  | .telemetryWindow1ms st => Sys2Proof.Machine.execTelemetryWindow1ms st s
  | .telemetryWindow1s st => Sys2Proof.Machine.execTelemetryWindow1s st s
  | .holdClear slot a v => Sys2Proof.Machine.execHoldClear slot a v s
  | .domainTablePublish ms => Sys2Proof.Machine.execDomainTablePublish ms s
  | .desc slot f g data => Sys2Proof.Machine.execDesc slot f g data s
  | .learningWindowEnd f => Sys2Proof.Machine.execLearningWindowEnd f s
  | .energyReplyReceive f t => Sys2Proof.Machine.execEnergyReplyReceive f t s
  | .freezeTileCmd slot f mask => Sys2Proof.Machine.execFreezeTileCmd slot f mask s
  | .thawTileCmd slot f mask => Sys2Proof.Machine.execThawTileCmd slot f mask s
  | .restartLearningCmd slot f mask => Sys2Proof.Machine.execRestartLearningCmd slot f mask s
  | .serviceSplit f => Sys2Proof.Machine.execServiceSplit f s
  | .ledgerAddIssue f => Sys2Proof.Machine.execLedgerAddIssue f s
  | .jobOpen slot id => Sys2Proof.Machine.execJobOpen slot id s
  | .jobClose slot id => Sys2Proof.Machine.execJobClose slot id s
  | .flushReply f h => Sys2Proof.Machine.execFlushReply f h s
  | .jobFree slot h => Sys2Proof.Machine.execJobFree slot h s
  | .jobFind slot id => Sys2Proof.Machine.execJobFind slot id s
  | .flushAck slot n => Sys2Proof.Machine.execFlushAck slot n s
  | .bind slot p data => Sys2Proof.Machine.execBind slot p data s
  | .bindingReceive f p => Sys2Proof.Machine.execBindingReceive f p s
  | .windowStart f => Sys2Proof.Machine.execWindowStart f s
  | .inputFreeze f => Sys2Proof.Machine.execInputFreeze f s
  | .forcedZero f t => Sys2Proof.Machine.execForcedZero f t s
  | .budgetArbiterPeriod => Sys2Proof.Machine.execBudgetArbiterPeriod s
  | .hubFigureReceive f => Sys2Proof.Machine.execHubFigureReceive f s
  | .partClaim slot desc => Sys2Proof.Machine.execPartClaim slot desc s
  | .partRelease slot n => Sys2Proof.Machine.execPartRelease slot n s
  | .pace slot p v => Sys2Proof.Machine.execPace slot p v s
  | .paceLapse p => Sys2Proof.Machine.execPaceLapse p s
  | .thermalFiguresReceive f => Sys2Proof.Machine.execThermalFiguresReceive f s
  | .inrushRequest d => Sys2Proof.Machine.execInrushRequest d s
  | .inrushGrant f => Sys2Proof.Machine.execInrushGrant f s
  | .inrushTimeoutExpire f => Sys2Proof.Machine.execInrushTimeoutExpire f s
  | .reservationRelease d => Sys2Proof.Machine.execReservationRelease d s
  | .signatureReceive f t => Sys2Proof.Machine.execSignatureReceive f t s
  | .curdLearn => Sys2Proof.Machine.execCurdLearn s
  | .hintReceive f t word => Sys2Proof.Machine.execHintReceive f t word s
  | .hintAct f t => Sys2Proof.Machine.execHintAct f t s
  | .hintExpire f t => Sys2Proof.Machine.execHintExpire f t s
  | .posReqSend f t => Sys2Proof.Machine.execPosReqSend f t s
  | .curdClear slot v => Sys2Proof.Machine.execCurdClear slot v s
  | .thrClear slot f t v => Sys2Proof.Machine.execThrClear slot f t v s
  | .arbStaleTimer f => Sys2Proof.Machine.execArbStaleTimer f s
  | .thermalUpdate f mismatch => Sys2Proof.Machine.execThermalUpdate f mismatch s
  | .diodeCorrection f => Sys2Proof.Machine.execDiodeCorrection f s
  | .diodeTimeout f k => Sys2Proof.Machine.execDiodeTimeout f k s
  | .diodeStartTimeout f => Sys2Proof.Machine.execDiodeStartTimeout f s
  | .params slot f data => Sys2Proof.Machine.execParams slot f data s
  | .elytronTrip => Sys2Proof.Machine.execElytronTrip s
  | .tripRampdownDone => Sys2Proof.Machine.execTripRampdownDone s
  | .tripAutoRestart => Sys2Proof.Machine.execTripAutoRestart s
  | .tripRestartComplete => Sys2Proof.Machine.execTripRestartComplete s
  | .restartWindowClose => Sys2Proof.Machine.execRestartWindowClose s
  | .pendingClear => Sys2Proof.Machine.execPendingClear s
  | .tripRestartCmd slot => Sys2Proof.Machine.execTripRestartCmd slot s
  | .tripInhibitSet slot => Sys2Proof.Machine.execTripInhibitSet slot s
  | .tripInhibitRemove slot => Sys2Proof.Machine.execTripInhibitRemove slot s
  | .tripTest slot => Sys2Proof.Machine.execTripTest slot s
  | .tcrit slot v => Sys2Proof.Machine.execTcrit slot v s
  | .vio18Loss => Sys2Proof.Machine.execVio18Loss s
  | .vio18Present straps opt0 opt1 => Sys2Proof.Machine.execVio18Present straps opt0 opt1 s
  | .vstbyLoss => Sys2Proof.Machine.execVstbyLoss s
  | .seqArm slot v => Sys2Proof.Machine.execSeqArm slot v s
  | .domainOn slot d => Sys2Proof.Machine.execDomainOn slot d s
  | .domainOff slot d => Sys2Proof.Machine.execDomainOff slot d s
  | .fieldOn slot f => Sys2Proof.Machine.execFieldOn slot f s
  | .fieldOff slot f => Sys2Proof.Machine.execFieldOff slot f s
  | .dieOn slot => Sys2Proof.Machine.execDieOn slot s
  | .dieOff slot => Sys2Proof.Machine.execDieOff slot s
  | .domainPowerGood d => Sys2Proof.Machine.execDomainPowerGood d s
  | .domainStartTimeout d => Sys2Proof.Machine.execDomainStartTimeout d s
  | .stopDrainExpire d => Sys2Proof.Machine.execStopDrainExpire d s
  | .auxRailDischarged f => Sys2Proof.Machine.execAuxRailDischarged f s
  | .powerOnReset brownout => Sys2Proof.Machine.execPowerOnReset brownout s
  | .aonRange => Sys2Proof.Machine.execAonRange s
  | .resetPin => Sys2Proof.Machine.execResetPin s
  | .resetArm slot v => Sys2Proof.Machine.execResetArm slot v s
  | .coreResetCmd slot => Sys2Proof.Machine.execCoreResetCmd slot s
  | .systemResetCmd slot => Sys2Proof.Machine.execSystemResetCmd slot s
  | .resetRelease straps opt0 opt1 => Sys2Proof.Machine.execResetRelease straps opt0 opt1 s
  | .resetStretchEnd => Sys2Proof.Machine.execResetStretchEnd s
  | .watchdogExpire => Sys2Proof.Machine.execWatchdogExpire s
  | .wdogKick slot v => Sys2Proof.Machine.execWdogKick slot v s
  | .criticalError item => Sys2Proof.Machine.execCriticalError item s
  | .blockResetStart slot => Sys2Proof.Machine.execBlockResetStart slot s
  | .blockSelfTestDone u pass => Sys2Proof.Machine.execBlockSelfTestDone u pass s
  | .rindOpenCmd slot => Sys2Proof.Machine.execRindOpenCmd slot s
  | .bootSourceDone answered => Sys2Proof.Machine.execBootSourceDone answered s
  | .firmwareReady => Sys2Proof.Machine.execFirmwareReady s
  | .clockGood n => Sys2Proof.Machine.execClockGood n s
  | .clkGoodTimeout n => Sys2Proof.Machine.execClkGoodTimeout n s
  | .refclkLoss => Sys2Proof.Machine.execRefclkLoss s
  | .faultRaise code st k resend => Sys2Proof.Machine.execFaultRaise code st k resend s
  | .faultActionReceive code st k => Sys2Proof.Machine.execFaultActionReceive code st k s
  | .faultAckReceive st code k => Sys2Proof.Machine.execFaultAckReceive st code k s
  | .conditionEndReport code st k => Sys2Proof.Machine.execConditionEndReport code st k s
  | .faultEscalation code st k => Sys2Proof.Machine.execFaultEscalation code st k s
  | .fltClear slot word => Sys2Proof.Machine.execFltClear slot word s
  | .fltClearAll slot => Sys2Proof.Machine.execFltClearAll slot s
  | .wireFault f pair => Sys2Proof.Machine.execWireFault f pair s
  | .wireFaultEnd f pair => Sys2Proof.Machine.execWireFaultEnd f pair s
  | .resendRequest f => Sys2Proof.Machine.execResendRequest f s
  | .injArm slot => Sys2Proof.Machine.execInjArm slot s
  | .injReq slot word => Sys2Proof.Machine.execInjReq slot word s
  | .injectionApply e cls mask => Sys2Proof.Machine.execInjectionApply e cls mask s
  | .memoryAccess pad agent addr wide data clash err => Sys2Proof.Machine.execMemoryAccess pad agent addr wide data clash err s
  | .add32 pad agent addr v clash err => Sys2Proof.Machine.execAdd32 pad agent addr v clash err s
  | .add64 pad agent addr v clash err => Sys2Proof.Machine.execAdd64 pad agent addr v clash err s
  | .swap32 pad agent addr v clash err => Sys2Proof.Machine.execSwap32 pad agent addr v clash err s
  | .swap64 pad agent addr v clash err => Sys2Proof.Machine.execSwap64 pad agent addr v clash err s
  | .owner slot pad b w => Sys2Proof.Machine.execOwner slot pad b w s
  | .scrubPass pad b errs uncorr => Sys2Proof.Machine.execScrubPass pad b errs uncorr s
  | .repairCtrl slot pad b w => Sys2Proof.Machine.execRepairCtrl slot pad b w s
  | .repairHandoverEnd pad b uncorr newErr => Sys2Proof.Machine.execRepairHandoverEnd pad b uncorr newErr s
  | .pageMoveDone pad kind id addr len dest result => Sys2Proof.Machine.execPageMoveDone pad kind id addr len dest result s
  | .hostTierSize slot v => Sys2Proof.Machine.execHostTierSize slot v s
  | .traceDump slot v => Sys2Proof.Machine.execTraceDump slot v s
  | .read slot a => Sys2Proof.Machine.execRead slot a s
  | .write slot a val => Sys2Proof.Machine.execWrite slot a val s
  | .segReadInit slot a => Sys2Proof.Machine.execSegReadInit slot a s
  | .segRead slot a offset count => Sys2Proof.Machine.execSegRead slot a offset count s
  | .segWriteInit slot a total => Sys2Proof.Machine.execSegWriteInit slot a total s
  | .segWrite slot a offset data => Sys2Proof.Machine.execSegWrite slot a offset data s
  | .segEnd slot a count => Sys2Proof.Machine.execSegEnd slot a count s
  | .abortCmd slot => Sys2Proof.Machine.execAbortCmd slot s
  | .sessionClose slot => Sys2Proof.Machine.execSessionClose slot s
  | .notify slot => Sys2Proof.Machine.execNotify slot s
  | .xferTimeout slot => Sys2Proof.Machine.execXferTimeout slot s
  | .sessionIdle slot => Sys2Proof.Machine.execSessionIdle slot s
  | .mctpPacket b packet => Sys2Proof.Machine.execMctpPacket b packet s
  | .mctpAssemblyTimeout b src tag => Sys2Proof.Machine.execMctpAssemblyTimeout b src tag s
  | .setEndpointId b eid fromOwner => Sys2Proof.Machine.execSetEndpointId b eid fromOwner s
  | .getEndpointId b => Sys2Proof.Machine.execGetEndpointId b s
  | .getEndpointUuid b => Sys2Proof.Machine.execGetEndpointUuid b s
  | .getMctpVersionSupport b msgType => Sys2Proof.Machine.execGetMctpVersionSupport b msgType s
  | .getMessageTypeSupport b => Sys2Proof.Machine.execGetMessageTypeSupport b s
  | .getVendorDefinedMessageSupport b selector => Sys2Proof.Machine.execGetVendorDefinedMessageSupport b selector s
  | .i3cAddressAssign viaStatic addr => Sys2Proof.Machine.execI3cAddressAssign viaStatic addr s
  | .i3cPrivateRead => Sys2Proof.Machine.execI3cPrivateRead s
  | .pcieCrossingUp => Sys2Proof.Machine.execPcieCrossingUp s
  | .pcieCrossingDown hostReset => Sys2Proof.Machine.execPcieCrossingDown hostReset s
  | .windowBadAccess isWrite => Sys2Proof.Machine.execWindowBadAccess isWrite s
  | .partClaimGo ch desc => Sys2Proof.Machine.execPartClaimGo ch desc s
  | .bindGo ch p data => Sys2Proof.Machine.execBindGo ch p data s
  | .windowDictRead ch a => Sys2Proof.Machine.execWindowDictRead ch a s
  | .windowDictWrite ch a len data => Sys2Proof.Machine.execWindowDictWrite ch a len data s
  | .windowSegmentRead ch a offset len => Sys2Proof.Machine.execWindowSegmentRead ch a offset len s
  | .windowSegmentWrite ch a offset total data => Sys2Proof.Machine.execWindowSegmentWrite ch a offset total data s
  | .windowSegEnd ch => Sys2Proof.Machine.execWindowSegEnd ch s
  | .windowAbort ch => Sys2Proof.Machine.execWindowAbort ch s
  | .noteAck ch => Sys2Proof.Machine.execNoteAck ch s
  | .imageOpen slot => Sys2Proof.Machine.execImageOpen slot s
  | .imageEraseDone k => Sys2Proof.Machine.execImageEraseDone k s
  | .imgChunk slot data k => Sys2Proof.Machine.execImgChunk slot data k s
  | .imageCheck slot => Sys2Proof.Machine.execImageCheck slot s
  | .imageCheckDone answered => Sys2Proof.Machine.execImageCheckDone answered s
  | .imageSwitch slot => Sys2Proof.Machine.execImageSwitch slot s
  | .imageConfirm slot => Sys2Proof.Machine.execImageConfirm slot s
  | .manifestInstall slot => Sys2Proof.Machine.execManifestInstall slot s
  | .imageAbort slot => Sys2Proof.Machine.execImageAbort slot s
  | .rollbackCommit slot ok => Sys2Proof.Machine.execRollbackCommit slot ok s
  | .keyRevoke slot k => Sys2Proof.Machine.execKeyRevoke slot k s
  | .trialExpire => Sys2Proof.Machine.execTrialExpire s
  | .mirrorRefillDone => Sys2Proof.Machine.execMirrorRefillDone s
  | .extest cells => Sys2Proof.Machine.execExtest cells s
  | .idcode => Sys2Proof.Machine.execIdcode s
  | .samplePreload cells => Sys2Proof.Machine.execSamplePreload cells s
  | .tapClamp => Sys2Proof.Machine.execTapClamp s
  | .highz => Sys2Proof.Machine.execHighz s
  | .loopbackTest => Sys2Proof.Machine.execLoopbackTest s
  | .bypass => Sys2Proof.Machine.execBypass s
  | .loopbackUpdateDr pin cur => Sys2Proof.Machine.execLoopbackUpdateDr pin cur s
  | .loopbackConversion code => Sys2Proof.Machine.execLoopbackConversion code s
  | .tapReset => Sys2Proof.Machine.execTapReset s
  | .fieldRailDischarged f => Sys2Proof.Machine.execFieldRailDischarged f s
  | .vbakLoss => Sys2Proof.Machine.execVbakLoss s
  | .vbakReturn => Sys2Proof.Machine.execVbakReturn s
  | .aonInRange => Sys2Proof.Machine.execAonInRange s
  | .pmbusLineReleased k => Sys2Proof.Machine.execPmbusLineReleased k s
  | .disec disable => Sys2Proof.Machine.execDisec disable s
  | .injArmExpire => Sys2Proof.Machine.execInjArmExpire s
  | .resetArmExpire => Sys2Proof.Machine.execResetArmExpire s
  | .clusterEngineReloadDone f c => Sys2Proof.Machine.execClusterEngineReloadDone f c s
  | .flashProgramDone ok => Sys2Proof.Machine.execFlashProgramDone ok s

end Sys2Proof.Machine
end

