-- ==== Sys2Proof/WellFormed.lean ====
section
/-!
DEFINITION. The commands that name existing units and no reserved operand: what the syntax alone can tell of a command that
the block can execute.
-/
namespace Sys2Proof
open Sys2Proof.Machine

/-- An MR of a cluster (R7). -/
def mrOk (c : ClusterId) (m : MrId) : Bool := m.val < mrCount c
/-- A phase of a rail (R7). -/
def phaseOk (r : RailId) (p : PhaseId) : Bool := p.val < phaseCount r

/-- A well-formed command: MRs and phases that exist (R7), engine operands that R131 to R136 do not reserve, one reading per
sensor and per MR, and a snapshot of 48 counters and 8 slot records of five (R228, R229). -/
def Instr.wf : Instr → Bool
  | .configWrite _ _ _ => true
  | .wheelStart _ _ => true
  | .wheelStop _ _ => true
  | .wheelPark _ _ => true
  | .wheelRelease _ _ => true
  | .wheelClear _ _ => true
  | .setpointWrite _ _ _ _ => true
  | .vsetWrite _ _ _ => true
  | .groupSetpointWrite _ _ _ => true
  | .ilimitWrite _ _ _ => true
  | .memberCountWrite _ _ _ => true
  | .messageForward _ _ _ => true
  | .uncorrectableFlit _ _ => true
  | .linkHandshakeTimeout _ => true
  | .linkIdleTimeout _ => true
  | .idleCheckFlit _ => true
  | .clusterLinkPark _ _ => true
  | .linkSound _ => true
  | .offsetExchange _ _ _ _ _ => true
  | .tileTakesTokenWord _ _ => true
  | .activitySnapshotRequest _ _ => true
  | .activitySnapshotReceive _ _ counts slots _ => counts.length == 48 && slots.length == 8 && slots.all (fun x => x.counts.length == 5)
  | .fenceAssert _ _ => true
  | .fenceDeassert _ _ => true
  | .sensorConversionRound _ c readings _ => readings.length == sensorCount c
  | .cycleLimit _ c m _ => mrOk c m
  | .hiccupEntry _ c m => mrOk c m
  | .hiccupRestart _ c m => mrOk c m
  | .restartRampEnd _ c m => mrOk c m
  | .hiccupWindowClose _ c m => m.all (mrOk c)
  | .clusterHiccupRestart _ _ => true
  | .clusterHiccupEnd _ _ => true
  | .mrOpenDetect _ c m => mrOk c m.mr
  | .slotRotationAdvance _ _ => true
  | .slotMapRebuild _ _ => true
  | .sensorWindowJudge _ _ => true
  | .enableMaskWrite _ _ _ _ => true
  | .winsClear _ _ _ _ => true
  | .clusterInputInstant _ c ia ib _ => ia.length == mrCount c && ib.length == mrCount c
  | .clusterOutputInstant _ _ => true
  | .feedforwardReceive _ _ _ _ => true
  | .posReqReceive _ _ _ => true
  | .ithermReceive _ _ _ => true
  | .plausibilityLoss _ _ => true
  | .feTimerExpire _ _ => true
  | .feedbackFrozen _ _ => true
  | .feedbackReturn _ _ => true
  | .holdExpire _ _ => true
  | .tileImplausible _ _ _ => true
  | .parkMessageReceive _ _ => true
  | .parkDelayExpire _ _ => true
  | .winClear _ _ _ _ => true
  | .winnerChangeReceive _ _ => true
  | .closeMarkerReceive _ _ => true
  | .taskRelease _ _ => true
  | .activationCommit _ _ => true
  | .deadlineAbandon _ _ => true
  | .insnNop _ => true
  | .insnIn _ _ d p n => isV d.toNat && 1 ≤ n.toNat && n.toNat ≤ 32 && p.toNat + n.toNat ≤ 64
  | .insnOut _ port a _ => port.toNat < 64 && (a == 0x14 || isV a.toNat)
  | .insnLdv _ fmt d _ => fmt == 3 && isV d.toNat
  | .insnStv _ _ a => isV a.toNat
  | .insnSete _ _ d _ => isV d.toNat
  | .insnNorm _ _ d a => isV d.toNat && isV a.toNat
  | .insnMvm _ _ d _ v => (isV d.toNat || isAcc d.toNat) && isV v.toNat
  | .insnMvma _ d _ v => isAcc d.toNat && isV v.toNat
  | .insnMova _ _ d a => isV d.toNat && isAcc a.toNat
  | .insnVcat _ _ d a v => isV d.toNat && isV a.toNat && isV v.toNat
  | .insnVext _ _ d a _ => isV d.toNat && isV a.toNat
  | .insnVadd _ _ d a v => isV d.toNat && isV a.toNat && isV v.toNat
  | .insnVsub _ _ d a v => isV d.toNat && isV a.toNat && isV v.toNat
  | .insnVmul _ _ d a v => isV d.toNat && isV a.toNat && isV v.toNat
  | .insnVscl _ _ d a _ => isV d.toNat && isV a.toNat
  | .insnVmax _ _ d a v => isV d.toNat && isV a.toNat && isV v.toNat
  | .insnVmin _ _ d a v => isV d.toNat && isV a.toNat && isV v.toNat
  | .insnMins _ _ d a => isV d.toNat && isV a.toNat
  | .insnClamp _ _ d a v => isV d.toNat && isV a.toNat && isV v.toNat
  | .insnSatu _ _ d a w => isV d.toNat && isV a.toNat && 1 ≤ w.toNat && w.toNat ≤ 16
  | .insnSel _ _ d a c => isV d.toNat && isV a.toNat && isCond 8 c.toNat
  | .insnSeln _ _ d a c => isV d.toNat && isV a.toNat && isCond 8 c.toNat
  | .insnPwl _ _ d a _ => isV d.toNat && isV a.toNat
  | .insnRelu _ _ d a => isV d.toNat && isV a.toNat
  | .insnRls _ fmt _ phi err => fmt.toNat < 2 && isV phi.toNat && isV err.toNat
  | .insnSupv _ ch a v => ch.toNat < 4 && isV a.toNat && isV v.toNat
  | .insnEnd _ => true
  | .image _ _ _ => true
  | .verify _ _ _ => true
  | .swap _ _ => true
  | .swapRevert _ _ => true
  | .swapFlip _ => true
  | .taskEnable _ _ _ => true
  | .taskDisable _ _ _ => true
  | .taskUnload _ _ _ => true
  | .engineFail _ _ => true
  | .spareImageLoadDone _ => true
  | .handback _ _ _ => true
  | .generalEngineError _ _ _ => true
  | .stickyClear _ _ _ => true
  | .traceArm _ _ => true
  | .traceStop _ _ => true
  | .traceReset _ _ => true
  | .traceTriggerCmd _ _ => true
  | .traceTrigger _ => true
  | .tracePostCountDone _ => true
  | .modulatorTrip _ => true
  | .heldTripAssign _ => true
  | .onTimeEnd r p => phaseOk r p
  | .phaseCycleLimit r p => phaseOk r p.phase
  | .zeroCrossing r p => phaseOk r p.phase
  | .fallbackMidTimer r p => phaseOk r p
  | .stgEnLeadExpire _ => true
  | .stgEnDrop _ => true
  | .railInRegulation _ => true
  | .railStartTimeout _ => true
  | .railUndervoltage _ => true
  | .axIlimitTimer _ => true
  | .phaseOpenDetect r p => phaseOk r p
  | .phaseDropCmd _ _ _ => true
  | .phaseRestore _ _ _ => true
  | .senseFallbackExit r p => phaseOk r p
  | .railOvercurrent _ => true
  | .railHiccupRestart _ => true
  | .railRetryWindowClose _ => true
  | .railOvervoltage _ => true
  | .ovDischargeEnd _ => true
  | .stageFault _ => true
  | .ibusUndervoltage _ => true
  | .ibusRecover _ => true
  | .remoteSenseLost _ => true
  | .remoteSenseReturn _ => true
  | .rDropLearn _ _ _ => true
  | .converterStartReads _ _ _ _ _ _ => true
  | .firstContact _ _ _ _ _ _ _ => true
  | .converterPoll _ => true
  | .pmbusAlert _ _ => true
  | .pmbusTransactionDone _ _ _ _ _ _ => true
  | .pmbusLineTimeout _ => true
  | .pmbusRecoveryDone _ _ => true
  | .converterEnable _ _ => true
  | .converterDisable _ _ => true
  | .converterRestore _ _ => true
  | .restoreHoldExpire _ => true
  | .passThroughRequest _ _ _ _ => true
  | .dxenDropTimer _ => true
  | .adcTimerTrigger _ _ _ => true
  | .swTrig _ _ _ _ => true
  | .holdClose _ _ _ => true
  | .frontendSlotStart _ _ => true
  | .conversionResult _ _ _ _ => true
  | .sliceSwap _ _ => true
  | .sliceCalibrationDone _ _ _ => true
  | .refEnWrite _ _ _ _ => true
  | .refReady _ _ => true
  | .sequenceWrite _ _ _ _ _ => true
  | .comparatorConfigWrite _ _ _ _ _ => true
  | .telemetryWindow10us _ => true
  | .telemetryWindow1ms _ => true
  | .telemetryWindow1s _ => true
  | .holdClear _ _ _ => true
  | .domainTablePublish _ => true
  | .desc _ _ _ _ => true
  | .learningWindowEnd _ => true
  | .energyReplyReceive _ _ => true
  | .freezeTileCmd _ _ _ => true
  | .thawTileCmd _ _ _ => true
  | .restartLearningCmd _ _ _ => true
  | .serviceSplit _ => true
  | .ledgerAddIssue _ => true
  | .jobOpen _ _ => true
  | .jobClose _ _ => true
  | .flushReply _ _ => true
  | .jobFree _ _ => true
  | .jobFind _ _ => true
  | .flushAck _ _ => true
  | .bind _ _ _ => true
  | .bindingReceive _ _ => true
  | .windowStart _ => true
  | .inputFreeze _ => true
  | .forcedZero _ _ => true
  | .budgetArbiterPeriod => true
  | .hubFigureReceive _ => true
  | .partClaim _ _ => true
  | .partRelease _ _ => true
  | .pace _ _ _ => true
  | .paceLapse _ => true
  | .thermalFiguresReceive _ => true
  | .inrushRequest _ => true
  | .inrushGrant _ => true
  | .inrushTimeoutExpire _ => true
  | .reservationRelease _ => true
  | .signatureReceive _ _ => true
  | .curdLearn => true
  | .hintReceive _ _ _ => true
  | .hintAct _ _ => true
  | .hintExpire _ _ => true
  | .posReqSend _ _ => true
  | .curdClear _ _ => true
  | .thrClear _ _ _ _ => true
  | .arbStaleTimer _ => true
  | .thermalUpdate _ _ => true
  | .diodeCorrection _ => true
  | .diodeTimeout _ _ => true
  | .diodeStartTimeout _ => true
  | .params _ _ _ => true
  | .elytronTrip => true
  | .tripRampdownDone => true
  | .tripAutoRestart => true
  | .tripRestartComplete => true
  | .restartWindowClose => true
  | .pendingClear => true
  | .tripRestartCmd _ => true
  | .tripInhibitSet _ => true
  | .tripInhibitRemove _ => true
  | .tripTest _ => true
  | .tcrit _ _ => true
  | .vio18Loss => true
  | .vio18Present _ _ _ => true
  | .vstbyLoss => true
  | .seqArm _ _ => true
  | .domainOn _ _ => true
  | .domainOff _ _ => true
  | .fieldOn _ _ => true
  | .fieldOff _ _ => true
  | .dieOn _ => true
  | .dieOff _ => true
  | .domainPowerGood _ => true
  | .domainStartTimeout _ => true
  | .stopDrainExpire _ => true
  | .auxRailDischarged _ => true
  | .powerOnReset _ => true
  | .aonRange => true
  | .resetPin => true
  | .resetArm _ _ => true
  | .coreResetCmd _ => true
  | .systemResetCmd _ => true
  | .resetRelease _ _ _ => true
  | .resetStretchEnd => true
  | .watchdogExpire => true
  | .wdogKick _ _ => true
  | .criticalError _ => true
  | .blockResetStart _ => true
  | .blockSelfTestDone _ _ => true
  | .rindOpenCmd _ => true
  | .bootSourceDone _ => true
  | .firmwareReady => true
  | .clockGood _ => true
  | .clkGoodTimeout _ => true
  | .refclkLoss => true
  | .faultRaise _ _ _ _ => true
  | .faultActionReceive _ _ _ => true
  | .faultAckReceive _ _ _ => true
  | .conditionEndReport _ _ _ => true
  | .faultEscalation _ _ _ => true
  | .fltClear _ _ => true
  | .fltClearAll _ => true
  | .wireFault _ _ => true
  | .wireFaultEnd _ _ => true
  | .resendRequest _ => true
  | .injArm _ => true
  | .injReq _ _ => true
  | .injectionApply _ _ _ => true
  | .memoryAccess _ _ _ _ _ _ _ => true
  | .add32 _ _ _ _ _ _ => true
  | .add64 _ _ _ _ _ _ => true
  | .swap32 _ _ _ _ _ _ => true
  | .swap64 _ _ _ _ _ _ => true
  | .owner _ _ _ _ => true
  | .scrubPass _ _ _ _ => true
  | .repairCtrl _ _ _ _ => true
  | .repairHandoverEnd _ _ _ _ => true
  | .pageMoveDone _ _ _ _ _ _ _ => true
  | .hostTierSize _ _ => true
  | .traceDump _ _ => true
  | .read _ _ => true
  | .write _ _ _ => true
  | .segReadInit _ _ => true
  | .segRead _ _ _ _ => true
  | .segWriteInit _ _ _ => true
  | .segWrite _ _ _ _ => true
  | .segEnd _ _ _ => true
  | .abortCmd _ => true
  | .sessionClose _ => true
  | .notify _ => true
  | .xferTimeout _ => true
  | .sessionIdle _ => true
  | .mctpPacket _ _ => true
  | .mctpAssemblyTimeout _ _ _ => true
  | .setEndpointId _ _ _ => true
  | .getEndpointId _ => true
  | .getEndpointUuid _ => true
  | .getMctpVersionSupport _ _ => true
  | .getMessageTypeSupport _ => true
  | .getVendorDefinedMessageSupport _ _ => true
  | .i3cAddressAssign _ _ => true
  | .i3cPrivateRead => true
  | .pcieCrossingUp => true
  | .pcieCrossingDown _ => true
  | .windowBadAccess _ => true
  | .partClaimGo _ _ => true
  | .bindGo _ _ _ => true
  | .windowDictRead _ _ => true
  | .windowDictWrite _ _ _ _ => true
  | .windowSegmentRead _ _ _ _ => true
  | .windowSegmentWrite _ _ _ _ _ => true
  | .windowSegEnd _ => true
  | .windowAbort _ => true
  | .noteAck _ => true
  | .imageOpen _ => true
  | .imageEraseDone _ => true
  | .imgChunk _ _ _ => true
  | .imageCheck _ => true
  | .imageCheckDone _ => true
  | .imageSwitch _ => true
  | .imageConfirm _ => true
  | .manifestInstall _ => true
  | .imageAbort _ => true
  | .rollbackCommit _ _ => true
  | .keyRevoke _ _ => true
  | .trialExpire => true
  | .mirrorRefillDone => true
  | .extest _ => true
  | .idcode => true
  | .samplePreload _ => true
  | .tapClamp => true
  | .highz => true
  | .loopbackTest => true
  | .bypass => true
  | .loopbackUpdateDr _ _ => true
  | .loopbackConversion _ => true
  | .tapReset => true
  | .fieldRailDischarged _ => true
  | .vbakLoss => true
  | .vbakReturn => true
  | .aonInRange => true
  | .pmbusLineReleased _ => true
  | .disec _ => true
  | .injArmExpire => true
  | .resetArmExpire => true
  | .clusterEngineReloadDone _ _ => true
  | .flashProgramDone _ => true

end Sys2Proof
end

