-- ==== Sys2Proof/Safety.lean ====
section
/-!
DEFINITION. The terms the statements use: a safe step, the invariant of the stores, frames, and a request that is admitted.
-/
namespace Sys2Proof.Machine
open Sys2Proof

/-- A step that answers a next state: neither a fault nor a refusal. -/
def Safe (o : Out) : Prop := ∃ t, o = .next t

/-- What holds in every state: the register and scratchpad stores are in their canonical form (keys rising, and no listed
scratchpad byte that reads 0 unlisted), and the session of management firmware is open, as R401 says it always is. -/
structure State.Inv (s : State) : Prop where
  regs : tblRising s.regs = true
  mem : Memory.wf s.mem = true
  slot0 : (s.session 0).isOpen = true

/-- Every dictionary object is as before but those listed. -/
def RegsKept (s t : State) (l : List (Nat × Obj)) : Prop :=
  ∀ k, (∀ p ∈ l, k ≠ rkey p.1 p.2.index p.2.sub) → tblFind t.regs k = tblFind s.regs k
/-- Every entry of a table is as before but those of the keys listed. -/
def TblKept {α : Type} (a b : Tbl α) (l : List Nat) : Prop := ∀ k, k ∉ l → tblFind b k = tblFind a k

/-- A write request reaches the dictionary server and passes its checks before the object's own rule (R401, R406). -/
abbrev State.Admitted (s : State) (slot : Slot) (st : Nat) (o : Obj) (len : Nat) : Prop :=
  s.hears slot = true ∧ (s.touch slot).admitWrite slot st o.index o.sub len = none
/-- A write request that is refused with an abort: its response, and with the value code CFG_RANGE and REJECT (R15, R34, R406). -/
abbrev State.turned (s : State) (slot : Slot) (st : Nat) (o : Obj) (a : Abort) : State :=
  (s.touch slot).refuse slot 2 st o.index o.sub a
/-- A write of one object: the session, the station, the object, and the length. -/
structure WriteReq where
  slot : Slot
  st : Nat
  obj : Obj
  len : Nat
deriving DecidableEq, Repr
/-- The write that a command stands for, where it has a row of the table of its own. -/
def writeOf (i : Instr) : Option WriteReq :=
  match i with
  | .setpointWrite slot f c _ => some ⟨slot, clSt f c, (WheelRef.cluster f c).obj 4, 2⟩
  | .vsetWrite slot d _ => some ⟨slot, hubSt, O.VSET.at d.val, 2⟩
  | .groupSetpointWrite slot g _ => some ⟨slot, 0x8000 + g.val, ⟨0x2010, 4⟩, 2⟩
  | .ilimitWrite slot w _ => some ⟨slot, w.station, w.obj 8, 4⟩
  | .memberCountWrite slot g _ => some ⟨slot, 0x8000 + g.val, ⟨0x2011, 0⟩, 1⟩
  | .enableMaskWrite slot f c _ => some ⟨slot, clSt f c, O.ENABLE_MASK, 4⟩
  | .winsClear slot f c _ => some ⟨slot, clSt f c, O.WINS_CLEAR, 1⟩
  | .winClear slot f c _ => some ⟨slot, clSt f c, O.WIN_CLEAR, 1⟩
  | .image slot e data => some ⟨slot, engSt e, engObj O.IMAGE e, data.length⟩
  | .verify slot e _ => some ⟨slot, engSt e, engObj O.VERIFY e, 1⟩
  | .swap slot e | .swapRevert slot e => some ⟨slot, engSt e, engObj O.SWAP e, 1⟩
  | .taskEnable slot e t | .taskDisable slot e t | .taskUnload slot e t => some ⟨slot, engSt e, taskObj O.TASK_CTRL e t, 1⟩
  | .handback slot f _ => some ⟨slot, fSt f, O.HANDBACK, 1⟩
  | .stickyClear slot e _ => some ⟨slot, engSt e, engObj O.STICKY e, 2⟩
  | .traceArm slot x | .traceStop slot x | .traceReset slot x | .traceTriggerCmd slot x => some ⟨slot, traceSt x, O.TRACE_CTRL, 1⟩
  | .phaseDropCmd slot r _ | .phaseRestore slot r _ => some ⟨slot, hubSt, O.PH_CTRL.at r.val, 2⟩
  | .converterEnable slot n | .converterDisable slot n | .converterRestore slot n => some ⟨slot, hubSt, O.DX_CTRL.at n.val, 1⟩
  | .passThroughRequest slot _ _ _ => some ⟨slot, hubSt, O.PT_REQ, 3⟩
  | .swTrig slot f q _ => some ⟨slot, fSt f, O.SW_TRIG.at q.val, 4⟩
  | .refEnWrite slot f q _ => some ⟨slot, fSt f, O.REF_EN.at q.val, 1⟩
  | .sequenceWrite slot f q n _ => some ⟨slot, fSt f, (O.SEQ.at q.val).nth n.val, 4⟩
  | .comparatorConfigWrite slot f q n _ => some ⟨slot, fSt f, (O.CMP_CFG.at q.val).nth n.val, 4⟩
  | .holdClear slot a _ => some ⟨slot, (telAddr a).1, ⟨(telAddr a).2.1, (telAddr a).2.2⟩, 1⟩
  | .desc slot f g data => some ⟨slot, fSt f, O.DESC.at g.val, data.length⟩
  | .freezeTileCmd slot f _ | .thawTileCmd slot f _ | .restartLearningCmd slot f _ => some ⟨slot, fSt f, O.FREEZE_CTRL, 4⟩
  | .jobOpen slot _ => some ⟨slot, hubSt, O.JOB_OPEN, 8⟩
  | .jobClose slot _ => some ⟨slot, hubSt, O.JOB_CLOSE, 8⟩
  | .jobFree slot _ => some ⟨slot, hubSt, O.JOB_FREE, 2⟩
  | .jobFind slot _ => some ⟨slot, hubSt, O.JOB_FIND, 8⟩
  | .flushAck slot _ => some ⟨slot, hubSt, O.FLUSH_ACK, 2⟩
  | .bind slot p data => some ⟨slot, hubSt, partObj 0x2A40 p, data.length⟩
  | .partClaim slot d => some ⟨slot, hubSt, O.PART_CLAIM, d.length⟩
  | .partRelease slot _ => some ⟨slot, hubSt, O.PART_RELEASE, 2⟩
  | .pace slot p _ => some ⟨slot, hubSt, partObj 0x2B28 p, 2⟩
  | .curdClear slot _ => some ⟨slot, hubSt, O.CURD_CLEAR, 1⟩
  | .thrClear slot f t _ => some ⟨slot, fSt f, O.THR_CLEAR.at t.val, 1⟩
  | .params slot f data => some ⟨slot, fSt f, O.PARAMS, data.length⟩
  | .tripRestartCmd slot | .tripInhibitSet slot | .tripInhibitRemove slot | .tripTest slot => some ⟨slot, hubSt, O.TRIP_CTRL, 1⟩
  | .tcrit slot _ => some ⟨slot, hubSt, O.TCRIT, 2⟩
  | .seqArm slot _ => some ⟨slot, hubSt, O.SEQ_ARM, 1⟩
  | .domainOn slot _ | .domainOff slot _ | .fieldOn slot _ | .fieldOff slot _ | .dieOn slot | .dieOff slot =>
    some ⟨slot, hubSt, O.SEQ_REQ, 4⟩
  | .resetArm slot _ => some ⟨slot, hubSt, O.RESET_ARM, 1⟩
  | .coreResetCmd slot | .systemResetCmd slot => some ⟨slot, hubSt, O.RESET_CTRL, 1⟩
  | .wdogKick slot _ => some ⟨slot, hubSt, O.WDOG_KICK, 1⟩
  | .blockResetStart slot | .rindOpenCmd slot => some ⟨slot, hubSt, O.BLK_CTRL, 1⟩
  | .fltClear slot _ => some ⟨slot, hubSt, O.FLT_CLEAR, 8⟩
  | .fltClearAll slot => some ⟨slot, hubSt, O.FLT_CLEAR_ALL, 1⟩
  | .injArm slot => some ⟨slot, hubSt, O.INJ_ARM, 1⟩
  | .injReq slot _ => some ⟨slot, hubSt, O.INJ_REQ, 4⟩
  | .owner slot pad b _ => some ⟨slot, padSt pad, O.OWNER.at b.val, 2⟩
  | .repairCtrl slot pad b _ => some ⟨slot, padSt pad, O.REPAIR_CTRL.at b.val, 2⟩
  | .hostTierSize slot _ => some ⟨slot, hubSt, O.HOST_TIER_SIZE, 4⟩
  | .traceDump slot _ => some ⟨slot, hubSt, O.TRACE_DUMP, 2⟩
  | .imageOpen slot | .imageCheck slot | .imageSwitch slot | .imageConfirm slot | .manifestInstall slot | .imageAbort slot
  | .rollbackCommit slot _ => some ⟨slot, hubSt, O.IMG_CTRL, 1⟩
  | .imgChunk slot data _ => some ⟨slot, hubSt, O.IMG_CHUNK, data.length⟩
  | .keyRevoke slot _ => some ⟨slot, hubSt, O.KEY_REVOKE, 1⟩
  | _ => none
/-- The block stands in no power-on or system reset and its core is up. -/
abbrev State.Up (s : State) : Prop := s.rst.held = none ∧ s.rst.coreUp = true

/-- Engine `e` runs the bank `b` of class `c`. -/
abbrev State.Runs (s : State) (e : EngId) (c : Nat) (b : Bank) : Prop := (s.eng e).running = some c ∧ (s.eng e).bank c = some b
/-- It does, and `w` is the next word of its program (R139). -/
abbrev State.At (s : State) (e : EngId) (c : Nat) (b : Bank) (w : Nat) : Prop :=
  s.Runs e c b ∧ ((s.eng e).image b.task).bind (fun x => x.words[b.pc]?) = some w
/-- Elements rounded once into register `d`: at its held exponent, in the format of FMT or the held one (R125, R126). -/
def Bank.rounded (b : Bank) (fmt : BitVec 2) (d : Byte) (xs : List Dy) : Block × Bool :=
  roundBlock (destFmt fmt (b.reg d.toNat).fmt) (b.reg d.toNat).exp xs
/-- The bank after an instruction that writes register `d`: the next word, and whether this activation has saturated. -/
def Bank.wrote (b : Bank) (d : Byte) (x : Block) (sat : Bool) : Bank :=
  { b with v := b.v.set d.toNat x, pc := b.pc + 1, satNow := b.satNow || sat }
/-- An instruction ends with the bank `nb` in use; the engine's store, every other engine and all but the sticky flags, a raised
ENG_SAT, the trace unit and the free-value count are as they were. -/
def InsnLeaves (s t : State) (e : EngId) (c : Nat) (nb : Bank) : Prop :=
  t.Runs e c nb ∧ (t.eng e).mem = (s.eng e).mem ∧ TblKept s.engines t.engines [e.val] ∧
    { t with engines := s.engines, regs := s.regs, flt := s.flt, traces := s.traces, mem := s.mem, free := s.free } = s

end Sys2Proof.Machine
end

