-- ==== Sys2Proof/Certificates/Slice0/Obligations.lean ====
section
/-!
DEFINITION. The statements for the provers. Each names the rules it formalises in OBLIGATIONS.json. Values that the statements
call free are drawn by `State.draw`; no statement rests on one.
-/
open Sys2Proof Sys2Proof.Machine

/-! ### The whole block -/

/-- A step runs the command at the front of the queue on the state with the queue's rest.
With nothing waiting the block idles (assumption 1, the model's choice): one nanosecond passes, in which each station's own count moves on
by 0 or 1 as its oscillator drifts (R54, assumption 4), and the traces on their way move (R152); nothing else changes. -/
def Obligations.StepRunsTheFrontCommand : Prop :=
  (∀ (c : Instr) (rest : List Instr) (s : State), step { s with pending := c :: rest } = exec c { s with pending := rest }) ∧
  (∀ s : State, s.pending = [] → ∃ t, step s = .next t ∧ t.now = s.now + 1 ∧
    (∀ x : Station, t.time x.addr = s.time x.addr ∨ t.time x.addr = (s.time x.addr + 1) % 2 ^ 64) ∧ t.free = s.free + 161 ∧
    { t with now := s.now, skew := s.skew, free := s.free, traces := s.traces, regs := s.regs, mem := s.mem } = s)

/-- No well-formed command is refused, in any state: each has a next state. -/
def Obligations.WellFormedCommandsRun : Prop := ∀ (c : Instr) (s : State), c.wf = true → Safe (exec c s)

/-- What reset leaves, at the values the spec gives (State.reset stands in a power-on reset, assumption 6): no command waits, every
Wheel is STOPPED, every rail is off, there is no fault record and no group, management firmware's session has NOTE_SEV 2 and every other
slot is free, SESSION_IDLE, XFER_TIMEOUT and HOST_WRITE are at their defaults, and neither the sequencer nor the core is up. -/
def Obligations.ResetStateValues : Prop :=
  State.reset.pending = [] ∧
  (∀ w, State.reset.wstate w = .stopped) ∧ (∀ r, State.reset.railState r = 0) ∧ State.reset.flt = {} ∧ State.reset.groups = [] ∧
  (State.reset.session 0).noteSev = 2 ∧ (∀ k : Slot, k ≠ 0 → (State.reset.session k).isOpen = false) ∧
  State.reset.rd hubSt O.SESSION_IDLE = 60000 ∧ State.reset.rd hubSt O.XFER_TIMEOUT = 100 ∧ State.reset.rd hubSt O.HOST_WRITE = 0 ∧
  State.reset.seq.armed = false ∧ State.reset.rst.coreUp = false

/-- The invariant of the stores and of slot 0 holds at reset. -/
def Obligations.InvAtReset : Prop := State.reset.Inv

/-- Every step keeps the invariant: the stores stay in their canonical form, and slot 0 stays open (R401). -/
def Obligations.EveryStepKeepsInv : Prop := ∀ s t : State, s.Inv → step s = .next t → t.Inv

/-- No command touches what waits behind it: a step takes the front of the queue and leaves the rest as it was. -/
def Obligations.QueueIsFirstInFirstOut : Prop :=
  ∀ (c : Instr) (rest : List Instr) (s t : State), step { s with pending := c :: rest } = .next t → t.pending = rest

/-! ### Wheels (chapter 02) -/

/-- Park, Release and Clear at a cluster whose command is admitted and on which no CONTAIN or STOP acts (R38, R39): Park stops the
cells of a regulating cluster by command; Release returns one whose park's cause has gone and whose link is sound; Clear returns a
LATCHED one whose faults are all cleared, and ends its hiccup episode or short (R79, R86). Each is answered with no abort. In any other state, and a Release
whose park's cause stands, each is refused with the state abort code, every object as it was. What a Release and a Clear leave beside STATE is the model's reading (assumption 16).
What parking a cluster does to the Wheel (R114, R37): it is PARKED, with its cause; one that is LATCHED stays LATCHED. -/
def Obligations.ClusterCommandsAct : Prop :=
  (∀ (s : State) (slot : Slot) (f : FieldId) (c : ClusterId), s.Admitted slot (clSt f c) ((WheelRef.cluster f c).obj 3) 1 →
    let s' := s.touch slot
    let w : WheelRef := .cluster f c
    s.actionOn w = false →
    ((s.cstate f c ∈ [.starting, .running, .derated, .holding] →
        exec (.wheelPark slot w) s = .next ((s'.parkCluster f c .command).drive.respond slot { op := 2 })) ∧
      (s.cstate f c ∉ [.starting, .running, .derated, .holding] →
        exec (.wheelPark slot w) s = .next (s'.respond slot { op := 2, abort := abortCode .state })) ∧
      (s.cstate f c = .parked → (s.link (.cl f c)).failed = false → s.parkGone f c = true → (s.wheel w).parkCause ≠ .noSpare →
        exec (.wheelRelease slot w) s = .next ((s'.clusterReturn f c).drive.respond slot { op := 2 })) ∧
      (s.cstate f c = .parked → (s.link (.cl f c)).failed = false → s.parkGone f c = true → (s.wheel w).parkCause = .noSpare →
        exec (.wheelRelease slot w) s = .next ((s'.putEng (cle f c)
          { s.eng (cle f c) with closed := false, loading := some c.val }).respond slot { op := 2 })) ∧
      (s.cstate f c ≠ .parked ∨ s.parkGone f c = false → exec (.wheelRelease slot w) s = .next (s'.respond slot { op := 2, abort := abortCode .state })) ∧
      (s.cstate f c = .latched → s.wheelFaulted w = false →
        exec (.wheelClear slot w) s = .next ((((if s.shortState f c = 0 then s' else s'.endEpisode f c).setWState w
          .stopped).clusterReturn f c).drive.respond slot { op := 2 })) ∧
      ((s'.endEpisode f c).shortState f c = 0 ∧ ∀ m : MrId, m.val < mrCount c → ((s'.endEpisode f c).mr f c m).hiccups = 0) ∧
      (s.cstate f c ≠ .latched ∨ s.wheelFaulted w = true →
        exec (.wheelClear slot w) s = .next (s'.respond slot { op := 2, abort := abortCode .state })))) ∧
  (∀ (s : State) (f : FieldId) (c : ClusterId) (cause : ParkCause),
    (s.cstate f c ≠ .latched →
      (s.parkCluster f c cause).cstate f c = .parked ∧ ((s.parkCluster f c cause).wheel (.cluster f c)).parkCause = cause) ∧
    (s.cstate f c = .latched → (s.parkCluster f c cause).cstate f c = .latched))

/-- Start and Stop at a domain, field or die Wheel go to the sequencer (R38): a Start of a STOPPED or STOPPING one is answered with no abort when
the sequencer takes it (code 0 or 13 of R323), and refused with the state abort code when it does not; a Stop of one that is on is taken from the first configured state on, and refused with
the state abort code before it (R322). At
an MR or a cluster both are refused with the state abort code and change no object. A Clear of a LATCHED domain, field or die takes it to
STOPPED, with the latch of its rail ended. While a CONTAIN or STOP acts on a Wheel every command is refused (R39). At a group a command goes to each member at whose level it is accepted, and REJECT shows a
refusal (R38, R457). The order of these checks is the model's reading (assumption 15). -/
def Obligations.StartAndStopGoToTheSequencer : Prop :=
  ∀ (s : State) (slot : Slot) (w : WheelRef), s.Admitted slot w.station (w.obj 3) 1 →
    let s' := s.touch slot
    (s.actionOn w = false →
      (∀ f c m, w = .mr f c m ∨ w = .cluster f c →
        exec (.wheelStart slot w) s = .next (s'.respond slot { op := 2, abort := abortCode .state }) ∧
        exec (.wheelStop slot w) s = .next (s'.respond slot { op := 2, abort := abortCode .state })) ∧
      ((∃ d, w = .domain d) ∨ (∃ f, w = .field f) ∨ w = .die →
        (s.wstate w = .stopped ∨ s.wstate w = .stopping →
          let r := s'.submit (wheelTarget w) true (.session slot) false
          (r.2 = 0 ∨ r.2 = 13 → exec (.wheelStart slot w) s = .next (r.1.drive.respond slot { op := 2 })) ∧
          (r.2 ≠ 0 → r.2 ≠ 13 → exec (.wheelStart slot w) s = .next (r.1.respond slot { op := 2, abort := abortCode .state }))) ∧
        (s.wstate w ∈ [.starting, .running, .derated, .holding] →
          let r := s'.submit (wheelTarget w) false (.session slot) false
          (s.rst.configured = true → (r.2 = 0 ∨ r.2 = 13) ∧ exec (.wheelStop slot w) s = .next (r.1.drive.respond slot { op := 2 })) ∧
          (s.rst.configured = false → r.2 = 1 ∧
            exec (.wheelStop slot w) s = .next (r.1.respond slot { op := 2, abort := abortCode .state }))) ∧
        (s.wstate w = .stopped → (s.job (wheelTarget w)).any SeqJob.on = true →
          let r := s'.submit (wheelTarget w) false (.session slot) false
          (s.rst.configured = true → (r.2 = 0 ∨ r.2 = 13) ∧ exec (.wheelStop slot w) s = .next (r.1.drive.respond slot { op := 2 })) ∧
          (s.rst.configured = false → r.2 = 1 ∧
            exec (.wheelStop slot w) s = .next (r.1.respond slot { op := 2, abort := abortCode .state }))) ∧
        (s.wstate w ≠ .stopped → s.wstate w ≠ .stopping →
          exec (.wheelStart slot w) s = .next (s'.respond slot { op := 2, abort := abortCode .state })) ∧
        (s.wstate w ∉ [.starting, .running, .derated, .holding] → ¬ (s.wstate w = .stopped ∧ (s.job (wheelTarget w)).any SeqJob.on = true) →
          exec (.wheelStop slot w) s = .next (s'.respond slot { op := 2, abort := abortCode .state })) ∧
        exec (.wheelPark slot w) s = .next (s'.respond slot { op := 2, abort := abortCode .state }) ∧
        exec (.wheelRelease slot w) s = .next (s'.respond slot { op := 2, abort := abortCode .state }) ∧
        (s.wstate w ≠ .latched ∨ s.wheelFaulted w = true →
          exec (.wheelClear slot w) s = .next (s'.respond slot { op := 2, abort := abortCode .state }))) ∧
      (∀ d, w = .domain d → s.dstate d = .latched → s.wheelFaulted w = false →
        let x := (s'.setWState w .stopped).wr hubSt (O.LATCH_CAUSE.at d.val) 0
        let y := if isAux d ∧ s.railState (domRail d) = 5 then
            (x.wr hubSt (O.RAIL_STATE.at (domRail d).val) 0).wr hubSt (O.HICCUPS.at (domRail d).val) 0 else x
        exec (.wheelClear slot w) s = .next ((y.judgeField (domField d)).drive.respond slot { op := 2 })) ∧
      (∀ f, w = .field f → s.wstate w = .latched → s.wheelFaulted w = false →
        let x := s'.setWState w .stopped
        let y : State := { x with flt := { x.flt with stops := x.flt.stops.filter (· != f.val) } }
        let z := if s.railState (frRail f) = 5 then
            (y.wr hubSt (O.RAIL_STATE.at f.val) 0).wr hubSt (O.HICCUPS.at f.val) 0 else y
        exec (.wheelClear slot w) s = .next (z.judgeDie.drive.respond slot { op := 2 })) ∧
      (w = .die → s.wstate w = .latched → s.wheelFaulted w = false →
        exec (.wheelClear slot w) s = .next ((s'.setWState w .stopped).respond slot { op := 2 }))) ∧
    (s.actionOn w = true → (∀ g, w ≠ .group g) → ∀ i, i ∈ [Instr.wheelStart slot w, .wheelStop slot w, .wheelPark slot w,
        .wheelRelease slot w, .wheelClear slot w] → exec i s = .next (s'.respond slot { op := 2, abort := abortCode .state })) ∧
    (∀ g code i, w = .group g → (code, i) ∈ [(1, Instr.wheelStart slot w), (2, .wheelStop slot w), (3, .wheelPark slot w),
        (4, .wheelRelease slot w), (5, .wheelClear slot w)] →
      let r := ((s'.groupMembers (0x8000 + g.val)).filter (commandAt code)).foldl (fun (p : State × Bool) m =>
        let q := p.1.commandN slot code 256 m
        (q.1, p.2 || q.2.isSome)) (s', false)
      exec i s = .next ((r.1.putWheel w { r.1.wheel w with refused := r.2 }).respond slot { op := 2 }))

/-- Park at an MR that is not itself PARKED or LATCHED, in every state of its cluster, retires it with CAUSE 3 and enters the Moult log; Release of a parked one whose cause has gone, in a
cluster that is not shorted, returns it, as a Clear returns a LATCHED one; in any other state each is refused with the state abort code
(R38, R72, R76; assumption 16 for what a Clear leaves).
A retired MR (R72): its cell is off for good with its cause, its Wheel is PARKED, and RETIRE_TIME holds the count. -/
def Obligations.MrCommandsAct : Prop :=
  (∀ (s : State) (slot : Slot) (f : FieldId) (c : ClusterId) (m : MrId),
    let w : WheelRef := .mr f c m
    let s' := s.touch slot
    let n := (s.mr f c m).cause
    let gone := n = 3 ∨ n = 4 ∨ (n = 1 ∧ s.faultOpen F.MR_OC_RETIRE (clSt f c) m.val = false) ∨
      (n = 2 ∧ s.faultOpen F.MR_OPEN_RETIRE (clSt f c) m.val = false)
    s.Admitted slot (clSt f c) (w.obj 3) 1 → s.actionOn w = false →
    ((s'.mrState f c m ≠ .parked → s'.mrState f c m ≠ .latched →
        exec (.wheelPark slot w) s = .next
          (((((s'.retireMr f c m 3).parkExhausted f c).hiccupEdge s' f c).mltLog 10 0 (clSt f c) m.val 0).drive.respond slot { op := 2 })) ∧
      (s'.mrState f c m = .parked ∨ s'.mrState f c m = .latched →
        exec (.wheelPark slot w) s = .next (s'.respond slot { op := 2, abort := abortCode .state })) ∧
      (s.wstate w = .parked → s.shortState f c = 0 → gone →
        exec (.wheelRelease slot w) s = .next
          ((if n = 3 then (s'.returnMr f c m).mltLog 11 0 (clSt f c) m.val 0 else s'.returnMr f c m).drive.respond slot { op := 2 })) ∧
      (s.wstate w ≠ .parked ∨ s.shortState f c ≠ 0 ∨ ¬ gone →
        exec (.wheelRelease slot w) s = .next (s'.respond slot { op := 2, abort := abortCode .state })) ∧
      (s.wstate w = .latched → s.wheelFaulted w = false →
        exec (.wheelClear slot w) s = .next ((s'.returnMr f c m).drive.respond slot { op := 2 })) ∧
      (s.wstate w ≠ .latched ∨ s.wheelFaulted w = true →
        exec (.wheelClear slot w) s = .next (s'.respond slot { op := 2, abort := abortCode .state })))) ∧
  (∀ (s : State) (f : FieldId) (c : ClusterId) (m : MrId) (cause : Nat),
    let t := s.retireMr f c m cause
    (t.mr f c m).cell = .retired ∧ (t.mr f c m).cause = cause ∧ t.wstate (.mr f c m) = .parked ∧
      t.rd (clSt f c) (O.RETIRE_TIME.at m.val) = s.time (clSt f c))

/-- An accepted SETPOINT write to a regulating cluster raises CMD_SEQ by one, modulo 16,384, and fills the pending slot; a write it
replaces is counted in SUPERSEDED; at a cluster that does not regulate it becomes SETPOINT at once. Nothing else changes but the writer's
session. -/
def Obligations.SetpointWriteFillsTheSlot : Prop :=
  ∀ (s : State) (slot : Slot) (f : FieldId) (c : ClusterId) (mv : BitVec 16),
    s.Admitted slot (clSt f c) ((WheelRef.cluster f c).obj 4) 2 → s.takes (.cluster f c) mv.toNat = true →
    (s.cstate f c ∉ [.starting, .running, .derated, .holding] →
      ∃ t, exec (.setpointWrite slot f c mv) s = .next t ∧ t.setpoint f c = mv.toNat ∧
        t.rd (clSt f c) O.CMD_SEQ = (s.rd (clSt f c) O.CMD_SEQ + 1) % 16384 ∧ (t.loop f c).slot = (s.loop f c).slot ∧
        slot.val ∈ (t.loop f c).writers ∧ (t.session slot).resp = { op := 2 } ∧
        RegsKept s t [(clSt f c, O.CMD_SEQ), (clSt f c, ⟨0x2010, 4⟩)] ∧ TblKept s.loops t.loops [gid f c] ∧
        { t with regs := s.regs, loops := s.loops, tr := s.tr } = s) ∧
    (s.cstate f c ∈ [.starting, .running, .derated, .holding] →
    ∃ t, exec (.setpointWrite slot f c mv) s = .next t ∧
      t.rd (clSt f c) O.CMD_SEQ = (s.rd (clSt f c) O.CMD_SEQ + 1) % 16384 ∧
      (t.loop f c).slot = some ⟨mv.toNat, (s.rd (clSt f c) O.CMD_SEQ + 1) % 16384⟩ ∧
      slot.val ∈ (t.loop f c).writers ∧
      t.rd (clSt f c) O.SUPERSEDED =
        (if (s.loop f c).slot.isSome then satAdd max32 (s.rd (clSt f c) O.SUPERSEDED) 1 else s.rd (clSt f c) O.SUPERSEDED) ∧
      (t.session slot).resp = { op := 2 } ∧
      RegsKept s t [(clSt f c, O.CMD_SEQ), (clSt f c, O.SUPERSEDED)] ∧ TblKept s.loops t.loops [gid f c] ∧
      TblKept s.tr.sessions t.tr.sessions [slot.val] ∧ { t with regs := s.regs, loops := s.loops, tr := s.tr } = s)

/-- A SETPOINT or VSET write outside the Wheel's limits, and a group write that a member would refuse, are rejected whole with the
value abort code: the holding station raises CFG_RANGE, REJECT is set in the Wheel's record, and no object changes.
An accepted VSET write reaches every cluster of a switched domain, or moves an auxiliary rail's target; an accepted group write
reaches every member in member order; an ILIMIT write stores the limit (R30, R43, R45; nested groups as in assumption 17). -/
def Obligations.SetpointsAreCheckedAndSpread : Prop :=
  (∀ (s : State) (slot : Slot) (mv : BitVec 16),
    (∀ f c, s.Admitted slot (clSt f c) ((WheelRef.cluster f c).obj 4) 2 → s.takes (.cluster f c) mv.toNat = false →
      ∃ t, exec (.setpointWrite slot f c mv) s = .next t ∧ (t.session slot).resp = { op := 2, abort := abortCode .value } ∧
        (t.wheel (.cluster f c)).reject = true ∧ t.wstate (.cluster f c) = s.wstate (.cluster f c) ∧ t.flt = (s.cfgRange (clSt f c)).flt ∧
        { t with wheels := s.wheels, flt := s.flt, traces := s.traces, tr := s.tr } = s) ∧
    (∀ d, s.Admitted slot hubSt (O.VSET.at d.val) 2 → s.takes (.domain d) mv.toNat = false →
      ∃ t, exec (.vsetWrite slot d mv) s = .next t ∧ (t.session slot).resp = { op := 2, abort := abortCode .value } ∧
        (t.wheel (.domain d)).reject = true ∧ t.wstate (.domain d) = s.wstate (.domain d) ∧
        t.flt = (s.cfgRange hubSt).flt ∧ { t with wheels := s.wheels, flt := s.flt, traces := s.traces, tr := s.tr } = s) ∧
    (∀ g : Fin 0x8000, s.Admitted slot (0x8000 + g.val) ⟨0x2010, 4⟩ 2 → s.hasSetpoint 257 (.group g) = true →
      s.takesAll 257 mv.toNat (.group g) = false →
      ∃ t, exec (.groupSetpointWrite slot g mv) s = .next t ∧ (t.session slot).resp = { op := 2, abort := abortCode .value } ∧
        (t.wheel (.group g)).reject = true ∧ t.flt = (s.cfgRange hubSt).flt ∧
        { t with wheels := s.wheels, flt := s.flt, traces := s.traces, tr := s.tr } = s) ∧
    (∀ g : Fin 0x8000, s.Admitted slot (0x8000 + g.val) ⟨0x2010, 4⟩ 2 → s.hasSetpoint 257 (.group g) = false →
      exec (.groupSetpointWrite slot g mv) s = .next (s.turned slot (0x8000 + g.val) ⟨0x2010, 4⟩ .readOnly))) ∧
  (∀ (s : State) (slot : Slot),
    (∀ (d : DomId) (mv : BitVec 16), s.Admitted slot hubSt (O.VSET.at d.val) 2 → s.takes (.domain d) mv.toNat = true →
      (isAux d = false → exec (.vsetWrite slot d mv) s = .next (((domClusters d).foldl
        (fun x c => x.acceptSetpoint (domField d) c mv.toNat (some slot)) ((s.touch slot).wr hubSt (O.VSET.at d.val) mv.toNat)).respond
          slot { op := 2 })) ∧
      (isAux d = true → exec (.vsetWrite slot d mv) s = .next (((s.touch slot).railSet (domRail d) mv.toNat).respond slot { op := 2 }))) ∧
    (∀ (g : Fin 0x8000) (mv : BitVec 16), s.Admitted slot (0x8000 + g.val) ⟨0x2010, 4⟩ 2 → s.hasSetpoint 257 (.group g) = true →
      s.takesAll 257 mv.toNat (.group g) = true →
      exec (.groupSetpointWrite slot g mv) s = .next
        (((s.groupMembers (0x8000 + g.val)).foldl (fun x m => x.putSetpointAll 256 mv.toNat (some slot) m)
          ((s.touch slot).wrRaw (0x8000 + g.val) 0x2010 4 mv.toNat)).respond slot { op := 2 })) ∧
    (∀ (w : WheelRef) (ma : BitVec 32), s.Admitted slot w.station (w.obj 8) 4 →
      ∃ t, exec (.ilimitWrite slot w ma) s = .next t ∧ t.ilimit w = ma.toNat ∧ (t.session slot).resp = { op := 2 } ∧
        RegsKept s t [(w.station, w.obj 8)] ∧ { t with regs := s.regs, tr := s.tr } = s))

/-- MEMBER_COUNT (R40, R42): a count of 1 to 64 whose staged entries all name existing Wheels, none repeated, none reaching the group
itself, none in 8 other groups, makes the group of exactly those members; a check that fails rejects the write whole with the value
abort code; a 257th group is refused with the exhaustion abort code; a count of 0 deletes the group, and at an address with none changes no
object. -/
def Obligations.MemberCountMakesTheGroup : Prop :=
  ∀ (s : State) (slot : Slot) (g : Fin 0x8000) (n : Byte),
    let addr := 0x8000 + g.val
    let l := (s.staged addr n.toNat).map wordWheel
    s.Admitted slot addr ⟨0x2011, 0⟩ 1 →
    ((1 ≤ n.toNat → n.toNat ≤ 64 → s.membersOk addr l = true → s.groupExists addr = false → s.groups.length < 256 →
        ∃ t, exec (.memberCountWrite slot g n) s = .next t ∧ t.groups = s.groups ++ [⟨addr, (l.filterMap id).map wheelWord⟩] ∧
          t.groupExists addr = true ∧ (t.session slot).resp = { op := 2 } ∧ t.wheels = s.wheels ∧
          { t with groups := s.groups, regs := s.regs, tr := s.tr } = s) ∧
      (1 ≤ n.toNat → n.toNat ≤ 64 → s.membersOk addr l = false →
        ∃ t, exec (.memberCountWrite slot g n) s = .next t ∧ t.groups = s.groups ∧ t.regs = s.regs ∧
          (t.session slot).resp = { op := 2, abort := abortCode .value } ∧ t = s.turned slot addr ⟨0x2011, 0⟩ .value) ∧
      (1 ≤ n.toNat → n.toNat ≤ 64 → s.membersOk addr l = true → s.groupExists addr = false → 256 ≤ s.groups.length →
        exec (.memberCountWrite slot g n) s = .next ((s.touch slot).respond slot { op := 2, abort := abortCode .exhaustion })) ∧
      (1 ≤ n.toNat → n.toNat ≤ 64 → s.membersOk addr l = true → s.groupExists addr = true →
        ∃ t, exec (.memberCountWrite slot g n) s = .next t ∧ (t.session slot).resp = { op := 2 } ∧
          t.groups = s.groups.map (fun h => if h.addr = addr then ⟨addr, (l.filterMap id).map wheelWord⟩ else h) ∧
          { t with groups := s.groups, regs := s.regs, tr := s.tr } = s) ∧
      (64 < n.toNat → exec (.memberCountWrite slot g n) s = .next (s.turned slot addr ⟨0x2011, 0⟩ .value)) ∧
      (n = 0 → s.groupExists addr = true → exec (.memberCountWrite slot g n) s =
        .next ((((s.touch slot).deleteGroup 257 addr).restamp (s.touch slot) []).respond slot { op := 2 }) ∧
        (s.deleteGroup 257 addr).groupExists addr = false) ∧
      (n = 0 → s.groupExists addr = false → exec (.memberCountWrite slot g n) s = .next ((s.touch slot).respond slot { op := 2 })))

/-! ### The station network and the tile crossings (chapter 02) -/

/-- A link fails on an unacknowledged handshake, on 2 µs with no flit, and on a second uncorrectable flit within 1 ms; an uncorrectable flit is
discarded, a class-0 one resent once from the sending hop's buffer and any other lost with its message, unless it fails a field link, where
R53 says what becomes of that message (R52; stations and INST as in
assumption 18). The failure of a cluster's link is NET_LINK_CL at its field station, and a compute cluster's tile goes
to code 0: the newest word of its crossing and the word chosen next both have code 0; that of one of a
field's links is NET_LINK_FH, and of both NET_FIELD_ISOL, with every code of the field at 0 and its field turned off (R53).
A failed link that is sound again fails no longer and reports the end of its fault: NET_LINK_CL of a cluster's, NET_LINK_FH of a field's
where its other link is sound too, and NET_FIELD_ISOL where both had failed; a cluster whose link is failed parks itself if it is on, with
the link as cause, and a CONTAIN that waits for that park then takes it to LATCHED; the idle check flit arrives at every sound link of its station (R52, R53). -/
def Obligations.LinksFailAndReturn : Prop :=
  (∀ (s : State) (l : LinkRef),
    ((s.link l).failed = true → exec (.linkHandshakeTimeout l) s = .next s) ∧
    (∀ f c, l = .cl f c → (s.link l).failed = false → ∃ t, exec (.linkHandshakeTimeout l) s = .next t ∧ (t.link l).failed = true ∧
      t.flt.outbox = (s.raise F.NET_LINK_CL (fSt f) c.val 0).flt.outbox ∧
      (isCompute c = true → let u := t.tile f (clusterTile c)
        u.prev = 0 ∧ u.next % 512 = 0 ∧ u.waiting.getD (u.words.getLast?.getD 1) % 512 = 0) ∧
      TblKept s.tiles t.tiles [tileKey f (clusterTile c)] ∧
      { t with net := s.net, flt := s.flt, tiles := s.tiles, traces := s.traces } = s) ∧
    (∀ f n, l = .fh f n → (s.link l).failed = false →
      let x := (if s.activeLink f = l then s.loseTransit f else s).putLink l { s.link l with failed := true }
      (x.link l).failed = true ∧
      (x.fieldCut f = false → exec (.linkHandshakeTimeout l) s = .next (x.raise F.NET_LINK_FH hubSt f.val 0)) ∧
      (x.fieldCut f = true → exec (.linkHandshakeTimeout l) s =
        .next ((((x.raise F.NET_FIELD_ISOL hubSt f.val 0).zeroField f).submit (.field f) false .parent false).1).drive)) ∧
    ((s.link l).lastFlit + 2000 ≤ s.time l.watch → ∃ t, exec (.linkIdleTimeout l) s = .next t ∧ (t.link l).failed = true ∧
      exec (.linkHandshakeTimeout l) s = .next t) ∧
    (s.time l.watch < (s.link l).lastFlit + 2000 → exec (.linkIdleTimeout l) s = .next s) ∧
    (∀ (up : Bool) (cls : NetClass),
      let again : Bool := (s.link l).lastBad.any (fun b => s.time l.watch ≤ b + 1000000)
      let x : State := { s with net := { s.net with
        transit := if s.carries l then (if again ∧ isFieldLink l then flitOut else dropFlit) (linkOutput up l) cls s.net.transit
          else s.net.transit } }
      let y := x.putLink l { s.link l with
        lastBad := some (s.time l.watch), lastFlit := s.time l.watch, resent := (s.link l).resent + (if cls = 0 then 1 else 0) }
      ((∀ b, (s.link l).lastBad = some b → b + 1000000 < s.time l.watch) → exec (.uncorrectableFlit ⟨l, up⟩ cls) s = .next y) ∧
      (∀ b, (s.link l).lastBad = some b → s.time l.watch ≤ b + 1000000 → ∃ t, exec (.uncorrectableFlit ⟨l, up⟩ cls) s = .next t ∧
        (t.link l).failed = true ∧ exec (.linkHandshakeTimeout l) y = .next t))) ∧
  (∀ (s : State) (l : LinkRef) (f : FieldId) (c : ClusterId) (st : Station),
    ((s.link l).failed = false → exec (.linkSound l) s = .next s) ∧
    ((s.link l).failed = true → ∃ t, exec (.linkSound l) s = .next t ∧ (t.link l).failed = false ∧ (t.link l).lastBad = none ∧
      (∀ g d, l = .cl g d → (s.link l).contain = false → t.flt = (s.endCondition F.NET_LINK_CL (fSt g) d.val).flt) ∧
      (∀ g n, l = .fh g n → (∀ k : Fin 2, k ≠ n → (s.link (.fh g k)).failed = false) → t.flt = (s.endCondition F.NET_LINK_FH hubSt g.val).flt) ∧
      (∀ g n, l = .fh g n → s.fieldCut g = true → t.flt = (s.endCondition F.NET_FIELD_ISOL hubSt g.val).flt) ∧
      ((s.link l).contain = false → { t with net := s.net, flt := s.flt } = s)) ∧
    (∀ g d, l = .cl g d → (s.link l).failed = true → (s.link l).contain = true →
      let x := s.putLink l { s.link l with failed := false, lastBad := none, lastFlit := s.time l.watch }
      exec (.linkSound l) s = .next ((x.containLink g d).drive.endCondition F.NET_LINK_CL (fSt g) d.val)) ∧
    ((s.link (.cl f c)).failed = true → s.cstate f c ∈ [.starting, .running, .derated, .holding] →
      exec (.clusterLinkPark f c) s = .next ((s.parkCluster f c .link).containLink f c).drive) ∧
    (((s.link (.cl f c)).contain = false → s.containLink f c = s) ∧
      ((s.link (.cl f c)).contain = true → (s.containLink f c).cstate f c = .latched)) ∧
    ((s.link (.cl f c)).failed = false ∨ s.cstate f c ∉ [.starting, .running, .derated, .holding] →
      exec (.clusterLinkPark f c) s = .next s) ∧
    (∃ t, exec (.idleCheckFlit st) s = .next t ∧
      (∀ k ∈ linksOf st, (t.link k).failed = (s.link k).failed ∧
        (t.link k).lastFlit = (if (s.link k).failed then (s.link k).lastFlit else s.time k.watch)) ∧ { t with net := s.net } = s))

/-- A message is carried hop by hop along the tree (R47): a hop takes the next message that its neighbour's output delivers over a sound link,
its flits granted by class (R49), or a new message of its own; ELAPSED takes the time spent, saturating at 262,143. At its destination it
raises MSG_COUNT of its class and ELAPSED_MAX takes the larger ELAPSED (R51); elsewhere it enters the buffer of the next hop's output; a
class-0 header with LEN above 1 counts as a check error (R48, R51), and a message to a reserved address goes nowhere (the model's choice,
assumption 18; the order of equal grants is assumption 47).
The offset exchange of R55 gives half the difference and half the sum of the two spans, each rounded towards zero. A tile takes the
newest word of its crossing (assumption 18) and a waiting word then enters (R56). A snapshot is requested while fewer than four are unanswered, and else
ACT_STALLS counts (R57). -/
def Obligations.MessagesAndOffsets : Prop :=
  (∀ (s : State) (hop : Station) (msg : NetMsg) (spent : BitVec 18),
    let e := min 262143 (msg.elapsed.toNat + spent.toNat)
    (s.sender hop msg = none → msg.src.toNat = hop.addr → exec (.messageForward hop msg spent) s = .next (s.routeMsg hop msg e)) ∧
    (s.sender hop msg = none → msg.src.toNat ≠ hop.addr → exec (.messageForward hop msg spent) s = .next s) ∧
    (∀ a l r, s.sender hop msg = some a.addr → s.linkBetween a hop = some l → s.nextOut a.addr hop.addr = some r →
      exec (.messageForward hop msg spent) s = .next (((s.crossed a.addr hop.addr r.2).flitOn l).routeMsg hop msg e)) ∧
    (∀ (a : OutArb) (w : Nat → Bool), (w 0 = true → grantClass a w = some 0) ∧
      (w 0 = false → w 2 = true → 7 ≤ a.since2 → grantClass a w = some 2) ∧
      (w 0 = false → w 2 = false → w 3 = true → 30 ≤ a.since3 → grantClass a w = some 3) ∧
      (w 0 = false → w 1 = true → a.since2 < 7 → a.since3 < 30 → grantClass a w = some 1)) ∧
    (let t := s.routeMsg hop msg e;
      (msg.cls = 0 → 1 < msg.len.val → tblGet 0 t.net.checkErrs hop.addr = tblGet 0 s.net.checkErrs hop.addr + 1 ∧
        t.net.transit = s.net.transit ∧ { t with net := s.net } = s) ∧
      (¬ (msg.cls = 0 ∧ 1 < msg.len.val) →
        (destOf msg.dest.toNat = some hop → t.rd hop.addr (O.ELAPSED_MAX.nth msg.cls.val) =
            max (s.rd hop.addr (O.ELAPSED_MAX.nth msg.cls.val)) e ∧
          t.rd hop.addr (O.MSG_COUNT.nth msg.cls.val) = (s.rd hop.addr (O.MSG_COUNT.nth msg.cls.val) + 1) % 2 ^ 64 ∧
          t.net.transit = s.net.transit ∧
          RegsKept s t [(hop.addr, O.ELAPSED_MAX.nth msg.cls.val), (hop.addr, O.MSG_COUNT.nth msg.cls.val)] ∧
          { t with regs := s.regs, net := s.net } = s) ∧
        (∀ d, destOf msg.dest.toNat = some d → d ≠ hop → t.net.transit = s.net.transit ++
            [{ src := hop.addr, dst := (nextHop hop d).addr, msg := { msg with elapsed := BitVec.ofNat 18 e } }] ∧
          { t with net := s.net } = s) ∧
        (destOf msg.dest.toNat = none → t = s)))) ∧
  (∀ (s : State) (f : FieldId) (t : TileId),
    (∀ (st : Station) (t1 t2 t3 t4 : BitVec 64), ∃ u, exec (.offsetExchange st t1 t2 t3 t4) s = .next u ∧
      u.net.offset = some ⟨st.addr, (((t2.toNat : Int) - t1.toNat) + ((t3.toNat : Int) - t4.toNat)).tdiv 2,
        (((t4.toNat : Int) - t1.toNat) - ((t3.toNat : Int) - t2.toNat)).tdiv 2⟩ ∧ { u with net := s.net } = s) ∧
    (∃ u, exec (.tileTakesTokenWord f t) s = .next u ∧ (u.tile f t).words = (s.tile f t).waiting.toList ∧ (u.tile f t).waiting = none ∧
      (∀ w, (s.tile f t).words.getLast? = some w → (u.tile f t).taken = some w) ∧ TblKept s.tiles u.tiles [tileKey f t] ∧
      { u with tiles := s.tiles } = s) ∧
    ((s.tile f t).asked < 4 → ∃ u, exec (.activitySnapshotRequest f t) s = .next u ∧ (u.tile f t).asked = (s.tile f t).asked + 1 ∧
      TblKept s.tiles u.tiles [tileKey f t] ∧ { u with tiles := s.tiles } = s) ∧
    (4 ≤ (s.tile f t).asked → ∃ u, exec (.activitySnapshotRequest f t) s = .next u ∧
      u.rd (fSt f) (O.ACT_STALLS.at t.val) = satAdd max32 (s.rd (fSt f) (O.ACT_STALLS.at t.val)) 1 ∧
      RegsKept s u [(fSt f, O.ACT_STALLS.at t.val)] ∧ { u with regs := s.regs } = s))

/-! ### Micro-regulator cells and droop sensors (chapter 03) -/

/-- A limited period of a cell that issues pulses (R60, R64, R68): its end is kept for LIM_NOW, LIM_COUNT counts, and the run of limited
periods goes on where the period before was limited, else restarts at 1; a period of the restart ramp does not count. 2 µs after the
restart normal switching resumes with the run at 0; HICCUP_OFF after the entry the ramp starts with TRIM 0; RETRY_WINDOW after its opening the
window closes and empties the hiccup count unless a cluster hiccup holds it (R69). None of these comes earlier. MRs 16-23 of a service cluster do not exist, and a command about one is refused by name. -/
def Obligations.MrLimitAndHiccup : Prop :=
  ∀ (s : State) (f : FieldId) (c : ClusterId) (m : MrId),
    let x := s.mr f c m
    let now := s.time (clSt f c)
    let off := s.rd (clSt f c) O.HICCUP_OFF
    let window := s.rd (clSt f c) O.RETRY_WINDOW
    (m.val < mrCount c →
      (∀ prev : Bool, (s.mr f c m).pulses = false → exec (.cycleLimit f c m prev) s = .next s) ∧
      (∀ prev : Bool, (s.mr f c m).pulses = true →
        ∃ t, exec (.cycleLimit f c m prev) s = .next t ∧ (t.mr f c m).limAt = some (s.time (clSt f c)) ∧
          (t.mr f c m).limRun = (if (s.mr f c m).cell = .restartRamp then 0 else if prev then (s.mr f c m).limRun + 1 else 1) ∧
          (t.mr f c m).cell = (s.mr f c m).cell ∧
          t.rd (clSt f c) (O.LIM_COUNT.at m.val) = satAdd max32 (s.rd (clSt f c) (O.LIM_COUNT.at m.val)) 1 ∧
          RegsKept s t [(clSt f c, O.LIM_COUNT.at m.val)] ∧ TblKept s.mrs t.mrs [mrKey f c m] ∧
          { t with regs := s.regs, mrs := s.mrs } = s) ∧
      (x.cell ≠ .restartRamp ∨ now < x.rampAt + 2000 → exec (.restartRampEnd f c m) s = .next s) ∧
      (x.cell ≠ .hiccupOff ∨ now < x.hicAt + off → exec (.hiccupRestart f c m) s = .next s) ∧
      (x.cell = .restartRamp → x.rampAt + 2000 ≤ now →
        ∃ t, exec (.restartRampEnd f c m) s = .next t ∧ (t.mr f c m).cell = .switching ∧ (t.mr f c m).limRun = 0 ∧
          (t.mr f c m).hiccups = (s.mr f c m).hiccups ∧ TblKept s.mrs t.mrs [mrKey f c m] ∧ { t with mrs := s.mrs } = s) ∧
      (x.cell = .hiccupOff → x.hicAt + off ≤ now →
        ∃ t, exec (.hiccupRestart f c m) s = .next t ∧ (t.mr f c m).cell = .restartRamp ∧ (t.mr f c m).limRun = 0 ∧
          t.rd (clSt f c) (O.MR_TRIM.at m.val) = 0 ∧ RegsKept s t [(clSt f c, O.MR_TRIM.at m.val)] ∧ TblKept s.mrs t.mrs [mrKey f c m] ∧
          { t with regs := s.regs, mrs := s.mrs } = s) ∧
      (s.shortState f c ≠ 1 → x.winAt + window ≤ now →
        ∃ t, exec (.hiccupWindowClose f c (some m)) s = .next t ∧ (t.mr f c m).hiccups = 0 ∧ (t.mr f c m).windowOpen = false ∧
          (t.mr f c m).cell = (s.mr f c m).cell ∧ TblKept s.mrs t.mrs [mrKey f c m] ∧ { t with mrs := s.mrs } = s) ∧
      (s.shortState f c = 1 ∨ now < x.winAt + window → exec (.hiccupWindowClose f c (some m)) s = .next s)) ∧
    (mrCount c ≤ m.val → ∀ i, (∃ prev, i = .cycleLimit f c m prev) ∨ (∃ a b n, i = .mrOpenDetect f c ⟨m, a, b, n⟩) ∨
      i ∈ [Instr.hiccupEntry f c m, .restartRampEnd f c m, .hiccupRestart f c m, .hiccupWindowClose f c (some m)] →
      exec i s = .refused .noSuchUnit) ∧
    ((s.cellsOf f c).winAt + window ≤ now → ∃ t, exec (.hiccupWindowClose f c none) s = .next t ∧ (t.cellsOf f c).hiccups = 0 ∧
      (t.cellsOf f c).windowOpen = false ∧ TblKept s.cells t.cells [gid f c] ∧ { t with cells := s.cells } = s) ∧
    (now < (s.cellsOf f c).winAt + window → exec (.hiccupWindowClose f c none) s = .next s)

/-- LIM_RUN limited periods in a row put an MR in hiccup with its outputs off and raise its count and MR_HICCUP_TOTAL, but for a cluster in
hiccup (R68, R69); the share of R77 starts a cluster hiccup; the HICCUP_LIMIT-th hiccup of the cell retires it with CAUSE 1. A cell open for
OPEN_RUN periods, by the currents of R71, is retired with CAUSE 2. -/
def Obligations.HiccupsRetire : Prop :=
  ∀ (s : State) (f : FieldId) (c : ClusterId) (m : MrId), m.val < mrCount c →
    (((s.mr f c m).cell = .starting ∨ (s.mr f c m).cell = .switching) → s.rd (clSt f c) O.LIM_RUN ≤ (s.mr f c m).limRun →
      let r := s.mr f c m
      let now := s.time (clSt f c)
      (s.shortState f c ≠ 1 →
        let x := (s.putMr f c m { r with
            cell := .hiccupOff, limRun := 0, hiccups := r.hiccups + 1, windowOpen := true, slot := 0, duty := 0
            hicAt := now, winAt := if r.windowOpen then r.winAt else now }).inc32 (clSt f c) (O.MR_HICCUP_TOTAL.at m.val)
        (x.mr f c m).cell = .hiccupOff ∧ (x.mr f c m).hiccups = r.hiccups + 1 ∧
        (x.hiccupMany f c = true → exec (.hiccupEntry f c m) s = .next (x.clusterHiccup f c).drive) ∧
        (x.hiccupMany f c = false → s.rd (clSt f c) O.HICCUP_LIMIT ≤ r.hiccups + 1 →
          exec (.hiccupEntry f c m) s = .next (((x.retireMr f c m 1).parkExhausted f c).hiccupEdge x f c).drive) ∧
        (x.hiccupMany f c = false → r.hiccups + 1 < s.rd (clSt f c) O.HICCUP_LIMIT → exec (.hiccupEntry f c m) s = .next x.drive)) ∧
      (s.shortState f c = 1 →
        let x := s.putMr f c m { r with
          cell := .hiccupOff, limRun := 0, slot := 0, duty := 0
          hicAt := now, winAt := if r.windowOpen then r.winAt else now }
        exec (.hiccupEntry f c m) s = .next (if x.hiccupMany f c then x.clusterHiccup f c else x).drive)) ∧
    ((s.mr f c m).limRun < s.rd (clSt f c) O.LIM_RUN → exec (.hiccupEntry f c m) s = .next s) ∧
    (∀ ia ib run : BitVec 16,
      (((s.mr f c m).cell = .starting ∨ (s.mr f c m).cell = .switching) → s.shortState f c ≠ 1 → 40 ≤ (s.mr f c m).duty →
        s.rd (clSt f c) O.MC_OPEN_RUN ≤ run.toNat → s.openMr f c ia.toNat ib.toNat = true →
        exec (.mrOpenDetect f c ⟨m, ia, ib, run⟩) s = .next (((s.retireMr f c m 2).parkExhausted f c).hiccupEdge s f c).drive) ∧
      ((s.mr f c m).duty < 40 ∨ run.toNat < s.rd (clSt f c) O.MC_OPEN_RUN ∨ s.openMr f c ia.toNat ib.toNat = false →
        exec (.mrOpenDetect f c ⟨m, ia, ib, run⟩) s = .next s))

/-- The rotation count advances by one each ROT_PERIOD, and not while ROT_PERIOD is 0 (R62); a map that waits is rebuilt once (R63). A
cluster hiccup ends with SHORT_STATE 0 and every MR's own count discarded (R79), and restarts every MR in it together (R77). -/
def Obligations.SlotsAndClusterHiccup : Prop :=
  ∀ (s : State) (f : FieldId) (c : ClusterId),
    (s.rd (clSt f c) O.ROT_PERIOD ≠ 0 →
      ∃ t, exec (.slotRotationAdvance f c) s = .next t ∧ (t.cellsOf f c).rotation = (s.cellsOf f c).rotation + 1 ∧
        (t.cellsOf f c).rebuild = true ∧ { t with cells := s.cells } = s) ∧
    (s.rd (clSt f c) O.ROT_PERIOD = 0 → exec (.slotRotationAdvance f c) s = .next s) ∧
    ((s.cellsOf f c).rebuild = false → exec (.slotMapRebuild f c) s = .next s) ∧
    ((s.cellsOf f c).rebuild = true →
      ∃ t, exec (.slotMapRebuild f c) s = .next t ∧ (t.cellsOf f c).rebuild = false ∧
        { t with cells := s.cells, mrs := s.mrs, regs := s.regs } = s) ∧
    (s.shortState f c = 1 →
      ((s.cstate f c).isOn = true → (mrsOf c).all (fun m => (s.mr f c m).cell != .clusterHiccup) = true → s.hiccupMany f c = false →
        ∃ t, exec (.clusterHiccupEnd f c) s = .next t ∧ t.shortState f c = 0 ∧ (t.cellsOf f c).episodeEnd = some (s.time (clSt f c)) ∧
          (∀ m : MrId, m.val < mrCount c → (t.mr f c m).hiccups = 0 ∧ (t.mr f c m).cell = (s.mr f c m).cell) ∧
          RegsKept s t [(clSt f c, O.SHORT_STATE)] ∧ TblKept s.cells t.cells [gid f c] ∧
          { t with regs := s.regs, mrs := s.mrs, cells := s.cells } = s) ∧
      let off := (s.cellsOf f c).hicAt + s.rd (clSt f c) O.HICCUP_OFF;
      (s.time (clSt f c) < off → exec (.clusterHiccupRestart f c) s = .next s) ∧
      ((s.cstate f c).isOn = true → off ≤ s.time (clSt f c) →
        ∃ t, exec (.clusterHiccupRestart f c) s = .next t ∧
          (∀ m : MrId, m.val < mrCount c → (s.mr f c m).cell = .clusterHiccup → (t.mr f c m).cell = .restartRamp) ∧
          t.shortState f c = 1 ∧ { t with mrs := s.mrs, regs := s.regs } = s) ∧
      ((s.cstate f c).isOn = false → exec (.clusterHiccupRestart f c) s = .next s ∧ exec (.clusterHiccupEnd f c) s = .next s)) ∧
    (s.shortState f c ≠ 1 → exec (.clusterHiccupRestart f c) s = .next s ∧ exec (.clusterHiccupEnd f c) s = .next s)

/-- Sensors: a conversion round shows every reading in VALUE, holds the lowest unmasked one for the next input instant (R81,
R82). ENABLE_MASK takes a mask of existing sensors with enough of them and rejects every other value (R84; a 1 for a sensor that is not
there is assumption 51, the model's choice); WINS_CLEAR 1 clears at the next sample boundary, and a value other than 0 or 1 is rejected (R88,
R11). The end of a 1 ms window, each multiple of 1,000,000 ns of the station's count and once, shows the means, masks only where the cluster's state allowed it throughout the window, and starts the next
(R83; the rounding of the mean is the model's choice, assumption 12). -/
def Obligations.SensorsAndMasks : Prop :=
  ∀ (s : State) (f : FieldId) (c : ClusterId) (slot : Slot),
    (∀ (rs : List (BitVec 10)) (cut : BitVec 16), rs.length = sensorCount c →
      ∃ t, exec (.sensorConversionRound f c rs cut) s = .next t ∧
        (∀ n : SensorId, ∀ h : n.val < rs.length, t.rd (clSt f c) (O.VALUE.at n.val) = (rs[n.val]).toNat) ∧
        (t.cellsOf f c).held = keepLow (s.cellsOf f c).held (lowestReading ((((sensorsOf c).zip (rs.map BitVec.toNat)).filter
          (fun p => ((sensorsOf c).filter (s.sensorLive f c)).contains p.1)).map (fun p => (p.1.val, p.2)))) ∧
        { t with regs := s.regs, sensors := s.sensors, cells := s.cells, mrs := s.mrs } = s) ∧
    (let few := s.sensorsFew f c
      let many := s.sensorsMany f c
      let up := (s.cstate f c).judges
      let judged := (s.cellsOf f c).judged && up
      let med := twiceMedian (((sensorsOf c).filter (s.sensorLive f c)).map (fun n => (s.sensor f c n).sum))
      let x := if judged then (sensorsOf c).foldl (fun s n => s.judgeSensor f c med (s.cellsOf f c).setHigh n) s else s
      let y := (sensorsOf c).foldl (fun s n => s.closeSensorWindow f c judged n) x
      let z := match (s.cellsOf f c).low with
        | none => y
        | some m => (y.wr (clSt f c) O.SC_MIN_1MS m.value).wr (clSt f c) O.MIN_1MS_INDEX m.index
      let w := z.putCells f c { s.cellsOf f c with judged := up, setHigh := true, low := none }
      let key := markKey 17 (clSt f c)
      let due := s.time (clSt f c) % 1000000 = 0 ∧ tblGet 0 s.marks key ≠ s.time (clSt f c) + 1
      (¬ due → exec (.sensorWindowJudge f c) s = .next s) ∧
      (due → exec (.sensorWindowJudge f c) s = .next ((w.masksChanged f c many few).mark key (clSt f c))) ∧
      (judged = false → x = s) ∧
      ∀ n : SensorId, n.val < sensorCount c → (w.sensor f c n).count = 0 ∧ (w.sensor f c n).low = 1023 ∧
        ((s.sensor f c n).count ≠ 0 →
          w.rd (clSt f c) (O.MEAN_1MS.at n.val) = divRound (s.sensor f c n).sum (s.sensor f c n).count)) ∧
    (∀ mask : BitVec 32, s.Admitted slot (clSt f c) O.ENABLE_MASK 4 →
      (mask.toNat < 2 ^ sensorCount c → (if isCompute c then 4 else 2) ≤ countOf (sensorCount c) (bit mask.toNat) →
        ∃ t, exec (.enableMaskWrite slot f c mask) s = .next t ∧ (t.session slot).resp = { op := 2 } ∧
          (s.rd (clSt f c) O.MASKED_MASK = 0 → t.rd (clSt f c) O.ENABLE_MASK = mask.toNat) ∧
          (t.sensorsFew f c = false → { t with regs := s.regs, sensors := s.sensors, flt := s.flt, traces := s.traces, tr := s.tr } = s)) ∧
      (2 ^ sensorCount c ≤ mask.toNat ∨ countOf (sensorCount c) (bit mask.toNat) < (if isCompute c then 4 else 2) →
        exec (.enableMaskWrite slot f c mask) s =
          .next ((((s.touch slot).respond slot { op := 2, abort := abortCode .value })).cfgRange (clSt f c)))) ∧
    (∀ v : Byte, s.Admitted slot (clSt f c) O.WINS_CLEAR 1 →
      (v = 1 → ∃ t, exec (.winsClear slot f c v) s = .next t ∧ (t.loop f c).winsClear = true ∧ TblKept s.loops t.loops [gid f c] ∧
        (t.session slot).resp = { op := 2 } ∧ { t with loops := s.loops, tr := s.tr } = s) ∧
      (v = 0 → exec (.winsClear slot f c v) s = .next ((s.touch slot).respond slot { op := 2 })) ∧
      (v ≠ 0 → v ≠ 1 → ∃ t, exec (.winsClear slot f c v) s = .next t ∧ (t.session slot).resp = { op := 2, abort := abortCode .value } ∧
        t.loops = s.loops ∧ t.regs = s.regs ∧ t = s.turned slot (clSt f c) O.WINS_CLEAR .value))

/-! ### Cluster voltage loops (chapter 04) -/

/-- At every input instant VIN and ISUM, the sum of the phase currents of the MRs not retired, are taken; in a cluster that is STARTING, RUNNING
or DERATED a full slot is emptied and its value becomes SETPOINT (R91, R99; the order within the instant is assumption 25). The sequencer
then goes on. -/
def Obligations.InputInstantTakesTheSlot : Prop :=
  ∀ (s : State) (f : FieldId) (c : ClusterId) (ia ib : List (BitVec 16)) (vin : BitVec 16),
    ∃ x : State, exec (.clusterInputInstant f c ia ib vin) s = .next x.drive ∧ x.rd (clSt f c) O.LP_VIN = vin.toNat ∧
      x.rd (clSt f c) O.ISUM = ((mrsOf c).filter (s.mrLive f c)).foldl (fun a m => a + mrCurrent ia ib m) 0 ∧
      (∀ w, s.cstate f c ∈ [.starting, .running, .derated] → (s.loop f c).slot = some w →
        (x.loop f c).slot = none ∧ x.setpoint f c = w.value) ∧
      (s.cstate f c = .holding → (x.loop f c).slot = (s.loop f c).slot) ∧
      x.groups = s.groups ∧ x.net = s.net ∧ x.supply = s.supply ∧ x.ledger = s.ledger ∧ x.ests = s.ests ∧ x.adcs = s.adcs ∧
      x.therms = s.therms ∧ x.tap = s.tap ∧ x.memory = s.memory ∧ x.marks = s.marks ∧ x.pending = s.pending ∧ x.now = s.now

/-- The output instant of a cluster that is on or whose program was activated: what its engine has finished commits; without a commit the output
is late, the code applied stays as it was and LATE_RUN counts; after a commit the code of the program becomes the code applied and LATE_RUN is
0; with too few sensors unmasked its feedback is then lost. Any other cluster only commits (R84, R91-R93; the order within the instant is
assumption 25). -/
def Obligations.OutputInstantLatchesTheCode : Prop :=
  ∀ (s : State) (f : FieldId) (c : ClusterId),
    let y := match (s.eng (s.loopEngine f c)).finished 0 with
      | some d => s.commit (s.loopEngine f c) d
      | none => s
    ((y.cstate f c).isOn = true ∨ (y.loop f c).activated = true →
      ∃ x : State, exec (.clusterOutputInstant f c) s = .next (if x.sensorsFew f c then x.feedbackLost f c 3 else x) ∧
        ((y.loop f c).committed = false → (x.loop f c).late = true ∧ (x.loop f c).uPrev = (y.loop f c).uPrev ∧
          x.rd (clSt f c) O.LATE_RUN = min max8 (y.rd (clSt f c) O.LATE_RUN + 1)) ∧
        (∀ u, (y.loop f c).committed = true → (y.loop f c).outCode = some u →
          (x.loop f c).late = false ∧ (x.loop f c).uPrev = u ∧ x.rd (clSt f c) O.LATE_RUN = 0) ∧
        { x with
          regs := y.regs, loops := y.loops, mrs := y.mrs, engines := y.engines, flt := y.flt, traces := y.traces
          mem := y.mem, poison := y.poison } = y) ∧
    ((y.cstate f c).isOn = false → (y.loop f c).activated = false → exec (.clusterOutputInstant f c) s = .next y)

/-- The messages to a cluster: a tile's oldest feed-forward message carries Δc × G, a service cluster's its step; one older than 1,000 ns counts in
FF_LATE and adds nothing, a timely one waits for the next input instant (R98); a pre-position request, a thermal figure and a close marker wait
for it too (R94, R102, R236); the changes of winner reach the field station in order, each once (R97). -/
def Obligations.ClusterMessages : Prop :=
  ∀ (s : State) (f : FieldId) (c : ClusterId),
    (∀ (step : BitVec 32) (age : BitVec 18),
      (isCompute c = true → (s.tile f (clusterTile c)).feed = [] → exec (.feedforwardReceive f c step age) s = .next s) ∧
      (∀ m rest, isCompute c = true → (s.tile f (clusterTile c)).feed = m :: rest →
        ∃ t, exec (.feedforwardReceive f c step age) s = .next t ∧ (t.tile f (clusterTile c)).feed = rest ∧
          TblKept s.tiles t.tiles [tileKey f (clusterTile c)] ∧
          (1000 < age.toNat → t.rd (clSt f c) O.FF_LATE = satAdd max32 (s.rd (clSt f c) O.FF_LATE) 1 ∧
            RegsKept s t [(clSt f c, O.FF_LATE)] ∧ { t with regs := s.regs, tiles := s.tiles } = s) ∧
          (age.toNat ≤ 1000 → (t.loop f c).feedIn = (s.loop f c).feedIn + m.1 * m.2 ∧ TblKept s.loops t.loops [gid f c] ∧
            { t with loops := s.loops, tiles := s.tiles } = s)) ∧
      (isCompute c = false →
        (1000 < age.toNat → ∃ t, exec (.feedforwardReceive f c step age) s = .next t ∧
          t.rd (clSt f c) O.FF_LATE = satAdd max32 (s.rd (clSt f c) O.FF_LATE) 1 ∧ RegsKept s t [(clSt f c, O.FF_LATE)] ∧
          { t with regs := s.regs } = s) ∧
        (age.toNat ≤ 1000 → ∃ t, exec (.feedforwardReceive f c step age) s = .next t ∧
          (t.loop f c).feedIn = (s.loop f c).feedIn + step.toInt ∧ TblKept s.loops t.loops [gid f c] ∧ { t with loops := s.loops } = s))) ∧
    (let x := s.tile f (clusterTile c);
      (∀ (mv : Byte) rest, isCompute c = true → x.posOut = mv.toNat :: rest → ∃ t, exec (.posReqReceive f c mv) s = .next t ∧
        (t.loop f c).posReq = mv.toNat ∧ (t.loop f c).setNow = (s.loop f c).setNow ∧ (t.tile f (clusterTile c)).posOut = rest ∧
        TblKept s.loops t.loops [gid f c] ∧ TblKept s.tiles t.tiles [tileKey f (clusterTile c)] ∧
        { t with loops := s.loops, tiles := s.tiles } = s) ∧
      (∀ mv : Byte, isCompute c = false ∨ x.posOut.head? ≠ some mv.toNat → exec (.posReqReceive f c mv) s = .next s) ∧
      (∀ m rest, isCompute c = true → x.markers = m :: rest → ∃ t, exec (.closeMarkerReceive f c) s = .next t ∧
        (t.loop f c).marker = (s.loop f c).marker ++ [m] ∧ (t.tile f (clusterTile c)).markers = rest ∧
        TblKept s.loops t.loops [gid f c] ∧ TblKept s.tiles t.tiles [tileKey f (clusterTile c)] ∧
        { t with loops := s.loops, tiles := s.tiles } = s) ∧
      (isCompute c = false ∨ x.markers = [] → exec (.closeMarkerReceive f c) s = .next s)) ∧
    (∀ ma : BitVec 32, let l := tblGet [] (s.therm f).sent c.val;
      (∀ rest, l = ma.toNat :: rest → ∃ t, exec (.ithermReceive f c ma) s = .next t ∧ (t.loop f c).itherm = some ma.toNat ∧
        tblGet [] (t.therm f).sent c.val = rest ∧ TblKept s.loops t.loops [gid f c] ∧ TblKept s.therms t.therms [f.val] ∧
        { t with loops := s.loops, therms := s.therms } = s) ∧
      (l.head? ≠ some ma.toNat → exec (.ithermReceive f c ma) s = .next s)) ∧
    (∀ w rest, (s.loop f c).winMsgs = w :: rest → ∃ t, exec (.winnerChangeReceive f c) s = .next t ∧ (t.loop f c).winMsgs = rest ∧
      tblGet 0 (t.arb f).winners c.val = w ∧ TblKept s.loops t.loops [gid f c] ∧ TblKept s.arbs t.arbs [f.val] ∧
      { t with loops := s.loops, arbs := s.arbs } = s) ∧
    ((s.loop f c).winMsgs = [] → exec (.winnerChangeReceive f c) s = .next s)

/-- Lost feedback (R105-R107, R109): RESID_RUN residuals out of bound in an order-3 loop, a following-error timer at FE_TIME in an
order-5 loop, and MIN or ISUM the same at 64 input instants while the code spans 8 codes or more, each puts a RUNNING or DERATED cluster in
HOLDING, and a STARTING one in LATCHED; below the bound, or with a code that spans fewer, nothing changes. -/
def Obligations.LostFeedbackHolds : Prop :=
  (∀ (s : State) (f : FieldId) (c : ClusterId) (cause : Nat), s.cstate f c = .running ∨ s.cstate f c = .derated →
    (s.feedbackLost f c cause).cstate f c = .holding ∧ ((s.feedbackLost f c cause).loop f c).loss = cause ∧
      ((s.feedbackLost f c cause).wheel (.cluster f c)).prior = s.cstate f c) ∧
  (∀ (s : State) (f : FieldId) (c : ClusterId) (cause : Nat), s.cstate f c = .starting → s.feedbackLost f c cause =
    ((s.raiseLoop (if cause = 1 then F.CL_FB_FROZEN else F.CL_FB_LOST) f c).latchCluster f c).drive) ∧
  (∀ (s : State) (f : FieldId) (c : ClusterId),
    (s.rd (clSt f c) O.ORDER = 3 → s.rd (clSt f c) O.RESID_RUN ≤ (s.loop f c).residRun →
      exec (.plausibilityLoss f c) s = .next (s.feedbackLost f c 2)) ∧
    ((s.loop f c).residRun < s.rd (clSt f c) O.RESID_RUN → exec (.plausibilityLoss f c) s = .next s) ∧
    (s.rd (clSt f c) O.ORDER = 5 → s.rd (clSt f c) O.FE_TIME ≤ (s.loop f c).feTimer →
      exec (.feTimerExpire f c) s = .next (s.feedbackLost f c 2)) ∧
    ((s.loop f c).feTimer < s.rd (clSt f c) O.FE_TIME → exec (.feTimerExpire f c) s = .next s) ∧
    (s.checksStill f c = false → (s.loop f c).samples.length = 64 → 64 ≤ (s.loop f c).minRun ∨ 64 ≤ (s.loop f c).isumRun →
      spans8 ((s.loop f c).samples.map Sample.code) = true → exec (.feedbackFrozen f c) s = .next (s.feedbackLost f c 1)) ∧
    (spans8 ((s.loop f c).samples.map Sample.code) = false → exec (.feedbackFrozen f c) s = .next s) ∧
    ((s.loop f c).minRun < 64 → (s.loop f c).isumRun < 64 → exec (.feedbackFrozen f c) s = .next s))

/-- The ways out of HOLDING and the parks of R112 to R114: RECOVER_RUN good samples take the Wheel back to its prior state with the
estimate reseeded (R110); HOLD_TIME's end begins a park, or at CONTAIN and STOP latches the cluster in its place (R111; when it does is
assumption 100), and so does a tile that for DEAD_TIME has advanced no counter while its cluster
draws more than DEAD_IMIN, or has drawn DEAD_MARGIN above its estimate (R113); the park message makes the park pend, and after PARK_DELAY the
Wheel is parked (R114); a block reset that waited for the cells follows where they are off (R345).
A tile's fence (R26, R112, R289): seen asserted, the tile's code goes to 0; a cluster that is on begins its park, a STOPPED one is parked at
once, and in any other state it is recorded for the cluster's return (assumption 23); seen deasserted, FENCE_CAUSE returns to 0 unless the
controller fences the tile too. WIN_CLEAR 1 clears the winner totals at the next input instant (R121). -/
def Obligations.HoldingEndsAndParks : Prop :=
  (∀ (s : State) (f : FieldId) (c : ClusterId),
    (s.cstate f c = .holding → s.rd (clSt f c) O.RECOVER_RUN ≤ (s.loop f c).goodRun → (s.loop f c).minRun < s.rd (clSt f c) O.RECOVER_RUN →
      (s.loop f c).isumRun < s.rd (clSt f c) O.RECOVER_RUN → s.sensorsFew f c = false →
      ∃ t, exec (.feedbackReturn f c) s = .next t ∧ (t.loop f c).reseed = true ∧ (t.loop f c).resume = true ∧
        ((s.wheel (.cluster f c)).prior = .running ∨ (s.wheel (.cluster f c)).prior = .derated → (t.cstate f c).isUp = true) ∧
        TblKept s.loops t.loops [gid f c] ∧ { t with loops := s.loops, wheels := s.wheels, cells := s.cells, regs := s.regs } = s) ∧
    ((s.loop f c).goodRun < s.rd (clSt f c) O.RECOVER_RUN ∨ s.cstate f c ≠ .holding → exec (.feedbackReturn f c) s = .next s) ∧
    (let held := (s.loop f c).holdAt + s.rd (clSt f c) O.HOLD_TIME;
    (s.cstate f c = .holding → (s.loop f c).parkFor = .none → held ≤ s.time (clSt f c) → 4 ≤ s.sevOf F.CL_HOLD_EXPIRE →
      let x := s.raiseLoop F.CL_HOLD_EXPIRE f c
      let y := if x.sevOf F.CL_HOLD_EXPIRE = 4 then x.containCluster f c else x.latchCluster f c
      exec (.holdExpire f c) s = .next y.drive ∧ y.cstate f c = .latched) ∧
    (s.cstate f c = .holding → (s.loop f c).parkFor = .none → held ≤ s.time (clSt f c) → s.sevOf F.CL_HOLD_EXPIRE < 4 →
      ∃ t, exec (.holdExpire f c) s = .next t ∧ (t.loop f c).parkFor = .holdExpire ∧ { t with loops := s.loops, tiles := s.tiles } = s) ∧
    (s.cstate f c ≠ .holding ∨ (s.loop f c).parkFor ≠ .none ∨ s.time (clSt f c) < held → exec (.holdExpire f c) s = .next s)) ∧
    (∀ byEst : Bool,
      let gone (now u : Nat) : Bool := decide (u + s.rd (clSt f c) O.DEAD_TIME ≤ now)
      let holds : Bool := if byEst then (s.loop f c).excessSince.any (gone (s.time (clSt f c)))
        else (s.loop f c).deadSince.any (gone (s.time (clSt f c))) && gone (s.time (fSt f)) (s.tile f (clusterTile c)).advancedAt
      (isCompute c = true → s.cstate f c ∈ [.starting, .running, .derated, .holding] → holds = true → (s.loop f c).parkFor = .none →
        ∃ t, exec (.tileImplausible f c byEst) s = .next t ∧
          (t.loop f c).parkFor = .implausible ∧ { t with loops := s.loops, tiles := s.tiles } = s) ∧
      (isCompute c = false ∨ s.cstate f c ∉ [.starting, .running, .derated, .holding] ∨ holds = false ∨ (s.loop f c).parkFor ≠ .none →
        exec (.tileImplausible f c byEst) s = .next s)) ∧
    ((s.loop f c).parkFor ≠ .none → (s.loop f c).parking = none → ∃ t, exec (.parkMessageReceive f c) s = .next t ∧
      (t.loop f c).parking = some (s.time (clSt f c)) ∧ { t with loops := s.loops } = s) ∧
    ((s.loop f c).parkFor = .none → exec (.parkMessageReceive f c) s = .next s) ∧
    (∀ u, (s.loop f c).parkFor ≠ .none → (s.loop f c).parking = some u → u + s.rd (clSt f c) O.PARK_DELAY ≤ s.time (clSt f c) →
      exec (.parkDelayExpire f c) s = .next (s.parkEnd f c (s.loop f c).parkFor).drive) ∧
    ((s.loop f c).parkFor = .none ∨ (∀ u, (s.loop f c).parking = some u → s.time (clSt f c) < u + s.rd (clSt f c) O.PARK_DELAY) →
      ((s.loop f c).resetDue = false ∨ (s.cstate f c).isOn = true → exec (.parkDelayExpire f c) s = .next s) ∧
      ((s.loop f c).resetDue = true → (s.cstate f c).isOn = false →
        exec (.parkDelayExpire f c) s = .next (s.resetCluster f c).drive))) ∧
  (∀ (s : State) (f : FieldId) (t : TileId) (slot : Slot),
    ((s.tile f t).fence = false →
      let c := tileCluster t
      let x := s.putTile f t { s.tile f t with fence := true }
      let y := (if bit (s.rd (fSt f) O.FENCE_CTRL) t.val then x else x.wr (fSt f) (O.FENCE_CAUSE.at t.val) 1).zeroTile f t
      (y.tile f t).fence = true ∧ { y with tiles := s.tiles, regs := s.regs } = s ∧
      (s.cstate f c ∈ [.starting, .running, .derated, .holding] → exec (.fenceAssert f t) s = .next (y.parkBegin f c .fence) ∧
        ((s.loop f c).parkFor = .none → ((y.parkBegin f c .fence).loop f c).parkFor = .fence)) ∧
      (s.cstate f c = .stopped → exec (.fenceAssert f t) s = .next ((y.parkCluster f c .fence).raiseLoop F.CL_FENCE f c)) ∧
      (s.cstate f c ∈ [.stopping, .parked, .latched] → exec (.fenceAssert f t) s = .next y)) ∧
    ((s.tile f t).fence = true → exec (.fenceAssert f t) s = .next s) ∧
    (∃ u, exec (.fenceDeassert f t) s = .next u ∧ (u.tile f t).fence = false ∧
      (bit (s.rd (fSt f) O.FENCE_CTRL) t.val = false → u.rd (fSt f) (O.FENCE_CAUSE.at t.val) = 0) ∧
      RegsKept s u [(fSt f, O.FENCE_CAUSE.at t.val)] ∧ TblKept s.tiles u.tiles [tileKey f t] ∧
      { u with tiles := s.tiles, regs := s.regs } = s) ∧
    (∀ (c : ClusterId), s.Admitted slot (clSt f c) O.WIN_CLEAR 1 →
      (∃ u, exec (.winClear slot f c 1) s = .next u ∧ (u.loop f c).winClear = true ∧ (u.session slot).resp = { op := 2 } ∧
        { u with loops := s.loops, tr := s.tr } = s) ∧
      exec (.winClear slot f c 0) s = .next ((s.touch slot).respond slot { op := 2 })))

/-! ### Loop engines (chapter 05) -/

/-- Elementwise instructions (R133) run where their word is the next of the running program: the exact result of each element pair, with the
broadcast of R129, is rounded once into the destination (R126), and the next word follows. VADD, VSUB, VMUL, VMAX and VMIN take two registers,
VSCL and RELU one; SEL takes the elements whose condition bit is set and SELN those whose bit is clear (R136). At any other word none runs. -/
def Obligations.ElementwiseInstructions : Prop :=
  ∀ (s : State) (e : EngId) (fmt : BitVec 2) (d a v : Byte),
    let two := [(Instr.insnVadd e fmt d a v, Dy.add, 0x0D), (.insnVsub e fmt d a v, Dy.sub, 0x0E), (.insnVmul e fmt d a v, Dy.mul, 0x0F),
      (.insnVmax e fmt d a v, Dy.max, 0x11), (.insnVmin e fmt d a v, Dy.min, 0x12)]
    (∀ c b, isV d.toNat = true → isV a.toNat = true →
      (∀ i, i ∈ two → ∀ p q, s.At e c b (insnWord i.2.2 fmt d a v) → isV v.toNat = true →
        broadcast (b.reg a.toNat).vals (b.reg v.toNat).vals = some (p, q) →
        let z := b.rounded fmt d (List.zipWith i.2.1 p q)
        ∃ t, exec i.1 s = .next t ∧ InsnLeaves s t e c (b.wrote d z.1 z.2)) ∧
      (s.At e c b (insnWord 0x10 fmt d a v) → let z := b.rounded fmt d ((b.reg a.toNat).vals.map (fun x => ⟨x.m, x.e + v.toInt⟩))
        ∃ t, exec (.insnVscl e fmt d a v) s = .next t ∧ InsnLeaves s t e c (b.wrote d z.1 z.2)) ∧
      (s.At e c b (insnWord 0x19 fmt d a 0) → let z := b.rounded fmt d ((b.reg a.toNat).vals.map (fun x => if x.m < 0 then Dy.zero else x))
        ∃ t, exec (.insnRelu e fmt d a) s = .next t ∧ InsnLeaves s t e c (b.wrote d z.1 z.2)) ∧
      (∀ m p q, condBits b v.toNat = some m → broadcast (b.reg a.toNat).vals (b.reg d.toNat).vals = some (p, q) →
        (s.At e c b (insnWord 0x16 fmt d a v) → let z := b.rounded fmt d ((List.range p.length).map (fun i =>
            if m.testBit i = true then p.getD i Dy.zero else q.getD i Dy.zero))
          ∃ t, exec (.insnSel e fmt d a v) s = .next t ∧ InsnLeaves s t e c (b.wrote d z.1 z.2)) ∧
        (s.At e c b (insnWord 0x17 fmt d a v) → let z := b.rounded fmt d ((List.range p.length).map (fun i =>
            if m.testBit i = false then p.getD i Dy.zero else q.getD i Dy.zero))
          ∃ t, exec (.insnSeln e fmt d a v) s = .next t ∧ InsnLeaves s t e c (b.wrote d z.1 z.2)))) ∧
    (∀ i, i ∈ two.map (fun x => (x.1, insnWord x.2.2 fmt d a v)) ++ [(.insnVscl e fmt d a v, insnWord 0x10 fmt d a v),
        (.insnRelu e fmt d a, insnWord 0x19 fmt d a 0), (.insnSel e fmt d a v, insnWord 0x16 fmt d a v),
        (.insnSeln e fmt d a v, insnWord 0x17 fmt d a v)] →
      (∀ c b, ¬ s.At e c b i.2) → exec i.1 s = .next s)

/-- Moves (R133, R135), each where its word is the next: IN reads n ports at their scales, LDV the stored vector with its format and exponent;
OUT, STV and SUPV hold their effect for the commit; SETE re-rounds at a new exponent, NORM renormalises (R128); MOVA, VCAT and VEXT copy; NOP
only passes to the next word. -/
def Obligations.MoveInstructions : Prop :=
  ∀ (s : State) (e : EngId) (c : Nat) (b : Bank) (fmt : BitVec 2) (d a v : Byte),
    (s.At e c b (insnWord 0x00 3 0 0 0) → ∃ t, exec (.insnNop e) s = .next t ∧ InsnLeaves s t e c { b with pc := b.pc + 1 }) ∧
    (∀ p n : Byte, s.At e c b (insnWord 0x01 fmt d p n) → isV d.toNat = true → 1 ≤ n.toNat → n.toNat ≤ 32 → p.toNat + n.toNat ≤ 64 →
      let scale (q : Nat) : Int := ((s.eng e).image b.task).elim 0 (fun x => x.portScale q)
      let z := b.rounded fmt d ((List.range n.toNat).map (fun i =>
        ⟨tblGet 0 b.ports (p.toNat + i), nativeExp e (p.toNat + i) - scale (p.toNat + i)⟩))
      ∃ t, exec (.insnIn e fmt d p n) s = .next t ∧ InsnLeaves s t e c (b.wrote d z.1 z.2)) ∧
    (∀ (port i : Byte) (y : Int), s.At e c b (insnWord 0x02 3 port a i) → port.toNat < 64 → isV a.toNat = true →
      (b.reg a.toNat).m[i.toNat]? = some y →
      ∃ t, exec (.insnOut e port a i) s = .next t ∧
        InsnLeaves s t e c { b with held := b.held ++ [.out port.toNat ⟨y, (b.reg a.toNat).exp⟩], pc := b.pc + 1 }) ∧
    (∀ (port i : Byte), s.At e c b (insnWord 0x02 3 port 0x14 i) → port.toNat < 64 → ∃ t, exec (.insnOut e port 0x14 i) s = .next t ∧
      InsnLeaves s t e c { b with held := b.held ++ [.out port.toNat ⟨b.widx, 0⟩], pc := b.pc + 1 }) ∧
    (∀ x, s.At e c b (insnWord 0x03 3 d a 0) → isV d.toNat = true → loadVec (s.eng e).mem a.toNat = some x →
      ∃ t, exec (.insnLdv e 3 d a) s = .next t ∧ InsnLeaves s t e c (b.wrote d x false)) ∧
    (s.At e c b (insnWord 0x04 3 v a 0) → isV a.toNat = true → ∃ t, exec (.insnStv e v a) s = .next t ∧
      InsnLeaves s t e c { b with held := b.held ++ [.store v.toNat (vecBytes (b.reg a.toNat))], pc := b.pc + 1 }) ∧
    (s.At e c b (insnWord 0x05 fmt d 0 v) → isV d.toNat = true →
      let z := roundBlock (destFmt fmt (b.reg d.toNat).fmt) v.toInt (b.reg d.toNat).vals
      ∃ t, exec (.insnSete e fmt d v) s = .next t ∧ InsnLeaves s t e c (b.wrote d z.1 z.2)) ∧
    (s.At e c b (insnWord 0x06 fmt d a 0) → isV d.toNat = true → isV a.toNat = true →
      let z := normBlock (destFmt fmt (b.reg d.toNat).fmt) 1 (b.reg a.toNat).vals (b.reg a.toNat).exp
      ∃ t, exec (.insnNorm e fmt d a) s = .next t ∧ InsnLeaves s t e c (b.wrote d z.1 (z.2 % 2 == 1))) ∧
    (s.At e c b (insnWord 0x0A fmt d a 0) → isV d.toNat = true → isAcc a.toNat = true →
      let z := b.rounded fmt d (b.a.getD (a.toNat - 0x10) {}).vals
      ∃ t, exec (.insnMova e fmt d a) s = .next t ∧ InsnLeaves s t e c (b.wrote d z.1 z.2)) ∧
    (s.At e c b (insnWord 0x0B fmt d a v) → isV d.toNat = true → isV a.toNat = true → isV v.toNat = true →
      (b.reg a.toNat).m.length + (b.reg v.toNat).m.length ≤ 32 →
      let z := b.rounded fmt d ((b.reg a.toNat).vals ++ (b.reg v.toNat).vals)
      ∃ t, exec (.insnVcat e fmt d a v) s = .next t ∧ InsnLeaves s t e c (b.wrote d z.1 z.2)) ∧
    (∀ (i : Byte) (y : Int), s.At e c b (insnWord 0x0C fmt d a i) → isV d.toNat = true → isV a.toNat = true →
      (b.reg a.toNat).m[i.toNat]? = some y →
      let z := b.rounded fmt d [⟨y, (b.reg a.toNat).exp⟩]
      ∃ t, exec (.insnVext e fmt d a i) s = .next t ∧ InsnLeaves s t e c (b.wrote d z.1 z.2)) ∧
    (∀ (ch : Byte) p q, s.At e c b (insnWord 0x1B 3 ch a v) → ch.toNat < 4 → isV a.toNat = true → isV v.toNat = true →
      broadcast (b.reg a.toNat).vals (b.reg v.toNat).vals = some (p, q) →
      ∃ t r, exec (.insnSupv e ch a v) s = .next t ∧ InsnLeaves s t e c { b with
        held := b.held ++ [.supv ch.toNat ((List.zipWith (fun (g h : Dy) => h.lt g.abs) p q).any id) r], pc := b.pc + 1 })

/-- Products and functions (R127, R133, R134), each where its word is the next: MVM forms the matrix product exactly in an accumulator or rounds
it into a register; MVMA adds it to an accumulator; PWL is piecewise linear; MINS leaves the lowest element and its index in WIDX; CLAMP and
SATU limit without SAT; RLS holds its new weights and matrix for the commit (rounded as in assumption 27). -/
def Obligations.ProductInstructions : Prop :=
  ∀ (s : State) (e : EngId) (c : Nat) (b : Bank) (fmt : BitVec 2) (d a v : Byte), isV v.toNat = true →
    (∀ m, loadMat (s.eng e).mem a.toNat = some m → m.cols = (b.reg v.toNat).m.length →
      (s.At e c b (insnWord 0x08 fmt d a v) → isV d.toNat = true →
        let z := b.rounded fmt d (mvm m (b.reg v.toNat)).vals
        ∃ t, exec (.insnMvm e fmt d a v) s = .next t ∧ InsnLeaves s t e c (b.wrote d z.1 z.2)) ∧
      (s.At e c b (insnWord 0x08 fmt d a v) → isAcc d.toNat = true → ∃ t, exec (.insnMvm e fmt d a v) s = .next t ∧
        InsnLeaves s t e c { b with a := b.a.set (d.toNat - 0x10) (mvm m (b.reg v.toNat)), pc := b.pc + 1 }) ∧
      (∀ z, s.At e c b (insnWord 0x09 3 d a v) → isAcc d.toNat = true →
        mvma (b.a.getD (d.toNat - 0x10) {}) (mvm m (b.reg v.toNat)) = some z →
        ∃ t, exec (.insnMvma e d a v) s = .next t ∧
          InsnLeaves s t e c { b with a := b.a.set (d.toNat - 0x10) z.1, pc := b.pc + 1 })) ∧
    (isV d.toNat = true →
      (s.At e c b (insnWord 0x18 fmt d v a) →
        let z := b.rounded fmt d (((b.reg v.toNat).vals.map (pwlAt (s.eng e).mem a.toNat)).map Prod.fst)
        ∃ t, exec (.insnPwl e fmt d v a) s = .next t ∧ InsnLeaves s t e c (b.wrote d z.1 z.2)) ∧
      (s.At e c b (insnWord 0x13 fmt d v 0) → let lo := lowestAt (b.reg v.toNat).m
        let z := b.rounded fmt d [⟨lo.1, (b.reg v.toNat).exp⟩]
        ∃ t, exec (.insnMins e fmt d v) s = .next t ∧ InsnLeaves s t e c { b.wrote d z.1 z.2 with widx := lo.2 }) ∧
      (∀ lo hi, s.At e c b (insnWord 0x14 fmt d v a) → isV a.toNat = true → (b.reg a.toNat).vals = [lo, hi] →
        let z := b.rounded fmt d ((b.reg v.toNat).vals.map (fun q => if hi.lt lo then lo else Dy.max lo (Dy.min hi q)))
        ∃ t, exec (.insnClamp e fmt d v a) s = .next t ∧ InsnLeaves s t e c (b.wrote d z.1 false)) ∧
      (s.At e c b (insnWord 0x15 fmt d v a) → 1 ≤ a.toNat → a.toNat ≤ 16 →
        let z := b.rounded fmt d ((b.reg v.toNat).vals.map (fun q => ⟨clampInt 0 (2 ^ a.toNat - 1) (roundAt q 0), 0⟩))
        ∃ t, exec (.insnSatu e fmt d v a) s = .next t ∧ InsnLeaves s t e c (b.wrote d z.1 false))) ∧
    (∀ x, s.At e c b (insnWord 0x1A fmt a v d) → isV d.toNat = true → fmt.toNat ≤ 1 → loadRls (s.eng e).mem a.toNat = some x →
      let f := b.reg v.toNat
      let z := rlsStep x (if f.m.length = 1 then { f with m := List.replicate x.n (f.m.getD 0 0) } else f)
        ⟨(b.reg d.toNat).m.getD 0 0, (b.reg d.toNat).exp⟩
      let w := rlsBlock x.w.fmt x.w.exp z.1.1 z.1.2 (fmt == 1) s.free
      let p := rlsBlock x.p.fmt x.p.exp z.2.1 z.2.2 (fmt == 1) (s.free + w.2.2)
      ∃ t, exec (.insnRls e fmt a v d) s = .next t ∧ ∃ nb, InsnLeaves s t e c nb ∧
        nb.held = b.held ++ [.store x.wLine (vecBytes w.1), .store x.pLine (matBytes x.p.fmt p.1.exp x.n x.n p.1.m)] ∧
        nb.v = b.v ∧ nb.a = b.a ∧ nb.pc = b.pc + 1)

/-- Activations (R139, R140): at a count that PHASE and PERIOD name, a task of an enabled, loaded, sound general engine is released: an
unfinished class-3 activation skips it and counts, another is abandoned for it, and it becomes ready with its deadline; END completes the
activation and its held effects wait for the commit, but those of class 3 take effect now; the commit applies the held stores at the latch
instant; an activation of class 0 to 2 not at END at its latch instant is abandoned, none of its effects taking effect. An engine whose
next word is another executes nothing. -/
def Obligations.ActivationsRunAndCommit : Prop :=
  ∀ (s : State) (e : EngId) (k : TaskId),
    let due : Prop := ((s.time (engSt e) : Int) - s.taskPhase e k) % (s.taskPeriod e k : Int) = 0
    (¬ due → exec (.taskRelease e k) s = .next s) ∧
    (due → k ≠ 0 ∨ isCle e = true ∨ 216 ≤ e.val ∨ 4 < engNum e → exec (.taskRelease e k) s = .next (s.releaseTask e k)) ∧
    (due → ∀ f : FieldId, engStation e = .field f → k = 0 →
      (engNum e < 4 → exec (.taskRelease e k) s = .next ((s.estInputs e f k).releaseTask e k)) ∧
      (engNum e = 4 → exec (.taskRelease e k) s = .next (s.learnRelease e f k))) ∧
    (isCle e = false → s.rd (engSt e) (taskObj O.TASK_STATE e k) = 2 → (s.eng e).failed = false → (s.eng e).closed = false →
      ((s.eng e).image k.val).isSome = true →
      ((s.eng e).busy k.val = false → s.releaseTask e k = (s.putEng e { s.eng e with
        ready := (s.eng e).ready ++ [⟨k.val, s.taskClass e k, s.time (engSt e) + s.taskDeadline e k⟩] }).schedule e generalPorts) ∧
      ((s.eng e).busy k.val = true → s.taskClass e k = 3 → s.releaseTask e k = s.inc32 (engSt e) (taskObj O.SKIPS e k))) ∧
    (∀ c b, s.At e c b (insnWord 0x3F 3 0 0 0) →
      let r : EngRec := { s.eng e with banks := tblSet none (s.eng e).banks c none }
      let t : TaskId := Fin.ofNat 8 b.task
      ∃ held, (outerRail e = none → held = b.held) ∧
        let s' := s.putEng e { r with running := r.lowestBank, done := r.done ++ [⟨b.task, b.due, held⟩] }
        (s'.taskClass e t ≠ 3 → exec (.insnEnd e) s = .next ((s'.settleUnload e t).schedule e generalPorts)) ∧
        (s'.taskClass e t = 3 →
          exec (.insnEnd e) s = .next (((s'.commit e ⟨b.task, b.due, held⟩).settleUnload e t).schedule e generalPorts))) ∧
    ((∀ c b, ¬ s.At e c b (insnWord 0x3F 3 0 0 0)) → exec (.insnEnd e) s = .next s) ∧
    ((s.eng e).running = none → exec (.insnNop e) s = .next s) ∧
    (∀ d, (s.eng e).finished k.val = some d → d.due ≤ s.time (engSt e) → exec (.activationCommit e k) s = .next (s.commit e d) ∧
      ((s.commit e d).eng e).mem = heldStores d.held (s.eng e).mem ∧ ((s.commit e d).eng e).banks = (s.eng e).banks) ∧
    ((∀ d, (s.eng e).finished k.val = some d → s.time (engSt e) < d.due) → exec (.activationCommit e k) s = .next s) ∧
    (s.taskClass e k ≤ 2 → s.overdue e k = true →
      exec (.deadlineAbandon e k) s = .next ((s.abandon e k true).schedule e generalPorts) ∧
      ((s.abandon e k true).eng e).busy k.val = false ∧ ((s.abandon e k true).eng e).mem = (s.eng e).mem) ∧
    (s.overdue e k = false ∨ 2 < s.taskClass e k → exec (.deadlineAbandon e k) s = .next s)

/-- Images (R15, R138, R143-R145): a write of IMAGE of at most 5,220 bytes fills the shadow of the task that TARGET names and sets LOAD_STATE 2,
a longer one is aborted with the length code; VERIFY gives LOAD_STATE 3, or 4 with LOAD_ERR and ENG_LOAD_REJECT; SWAP 1 in verified and 2 in
previous wait for the next activation start, where the programs change places, once no activation of the old one is under way. -/
def Obligations.ImagesLoadAndSwap : Prop :=
  ∀ (s : State) (slot : Slot) (e : EngId),
    let st := engSt e
    (∀ data : List Byte, s.Admitted slot st (engObj O.IMAGE e) data.length →
      (data.length ≤ 5220 → (s.eng e).swapDue = 0 → ∃ t, exec (.image slot e data) s = .next t ∧ (t.eng e).shadow = data ∧
        (t.eng e).shadowImg = none ∧ (t.eng e).shadowTask = s.rd st (engObj O.TARGET e) ∧ (t.eng e).mem = (s.eng e).mem ∧
        t.rd st (engObj O.LOAD_STATE e) = 2 ∧ t.rd st (engObj O.LOAD_ERR e) = 0 ∧ (t.session slot).resp = { op := 2 } ∧
        TblKept s.engines t.engines [e.val] ∧ { t with engines := s.engines, regs := s.regs, tr := s.tr } = s) ∧
      (data.length ≤ 5220 → (s.eng e).swapDue ≠ 0 → exec (.image slot e data) s = .next (s.turned slot st (engObj O.IMAGE e) .state)) ∧
      (5220 < data.length → exec (.image slot e data) s = .next (s.turned slot st (engObj O.IMAGE e) .length))) ∧
    (∀ v : Byte, s.Admitted slot st (engObj O.VERIFY e) 1 →
      (v = 1 → s.rd st (engObj O.LOAD_STATE e) ≠ 1 → (s.eng e).swapDue = 0 →
        (((s.touch slot).loadError e).1 = 0 → ∃ t, exec (.verify slot e v) s = .next t ∧ t.rd st (engObj O.LOAD_STATE e) = 3 ∧
          (t.eng e).shadowImg.isSome = true ∧ t.flt = s.flt ∧ (t.session slot).resp = { op := 2 } ∧ TblKept s.engines t.engines [e.val] ∧
          { t with regs := s.regs, engines := s.engines, memory := s.memory, tr := s.tr } = s) ∧
        (((s.touch slot).loadError e).1 ≠ 0 → ∃ t, exec (.verify slot e v) s = .next t ∧ t.rd st (engObj O.LOAD_STATE e) = 4 ∧
          t.rd st (engObj O.LOAD_ERR e) = ((s.touch slot).loadError e).1 ∧ (t.eng e).shadowImg = none ∧
          t.flt = (s.raise F.ENG_LOAD_REJECT st (engNum e) 0).flt ∧ (t.session slot).resp = { op := 2 } ∧
          TblKept s.engines t.engines [e.val] ∧ { t with regs := s.regs, engines := s.engines, flt := s.flt, traces := s.traces, tr := s.tr } = s)) ∧
      (v = 1 → s.rd st (engObj O.LOAD_STATE e) = 1 ∨ (s.eng e).swapDue ≠ 0 →
        exec (.verify slot e v) s = .next (s.turned slot st (engObj O.VERIFY e) .state)) ∧
      (v = 0 → exec (.verify slot e v) s = .next ((s.touch slot).respond slot { op := 2 })) ∧
      (1 < v.toNat → exec (.verify slot e v) s = .next (s.turned slot st (engObj O.VERIFY e) .value))) ∧
    (s.Admitted slot st (engObj O.SWAP e) 1 →
      ((s.eng e).failed = false → isSpare e = false →
        (s.rd st (engObj O.LOAD_STATE e) = 3 → ∃ t, exec (.swap slot e) s = .next t ∧ (t.eng e).swapDue = 1 ∧
          (t.eng e).images = (s.eng e).images ∧ (t.session slot).resp = { op := 2 } ∧ { t with engines := s.engines, tr := s.tr } = s) ∧
        (s.rd st (engObj O.LOAD_STATE e) = 5 → (s.eng e).written = false → ∃ t, exec (.swapRevert slot e) s = .next t ∧
          (t.eng e).swapDue = 2 ∧ (t.session slot).resp = { op := 2 } ∧ { t with engines := s.engines, tr := s.tr } = s)) ∧
      ((s.eng e).failed = true ∨ s.rd st (engObj O.LOAD_STATE e) ≠ 3 →
        exec (.swap slot e) s = .next (s.turned slot st (engObj O.SWAP e) .state)) ∧
      ((s.eng e).failed = true ∨ s.rd st (engObj O.LOAD_STATE e) ≠ 5 ∨ (s.eng e).written = true →
        exec (.swapRevert slot e) s = .next (s.turned slot st (engObj O.SWAP e) .state))) ∧
    (let k : TaskId := Fin.ofNat 8 (s.eng e).shadowTask;
      ((s.eng e).swapDue ≠ 0 → (s.eng e).shadowTask < 8 → (s.eng e).busy k.val = false → (s.eng e).finished k.val = none →
        exec (.swapFlip e) s = .next (s.swapNow e k) ∧
          ((s.swapNow e k).eng e).image k.val = (s.eng e).shadowImg ∧ ((s.swapNow e k).eng e).shadowImg = (s.eng e).image k.val ∧
          ((s.swapNow e k).eng e).swapDue = 0 ∧ (s.swapNow e k).rd st (engObj O.LOAD_STATE e) = 5) ∧
      ((s.eng e).swapDue = 0 ∨ (s.eng e).busy (s.eng e).shadowTask = true ∨ ((s.eng e).finished (s.eng e).shadowTask).isSome = true →
        exec (.swapFlip e) s = .next s))

/-- Tasks (R141, R154): enabling a loaded task that passes admission sets TASK_STATE 2, one that fails is refused with the state abort
code; disabling returns 2 to 1; unloading sets 0 and drops the image, or waits for the end of an activation under way (assumption 30). A cluster
engine's task refuses all three. STICKY bits written 1 clear, and a reserved bit is ignored (R12, R16, R155). -/
def Obligations.TasksAreAdmitted : Prop :=
  ∀ (s : State) (slot : Slot) (e : EngId) (k : TaskId),
    let st := engSt e
    let ctrl := taskObj O.TASK_CTRL e k
    (s.Admitted slot st ctrl 1 →
      (isCle e = true → ∀ i, i ∈ [Instr.taskEnable slot e k, .taskDisable slot e k, .taskUnload slot e k] →
        exec i s = .next (s.turned slot st ctrl .state)) ∧
      ((s.eng e).image k.val = none → exec (.taskEnable slot e k) s = .next (s.turned slot st ctrl .state)) ∧
      (∀ x, isCle e = false → (s.eng e).image k.val = some x →
        let passes := s.standbyOk e (s.admitLine e k x) && admits (s.admitted e k.val ++ [s.admitLine e k x])
        ((s.eng e).failed = false → (s.eng e).closed = false → passes = true →
          ∃ t, exec (.taskEnable slot e k) s = .next t ∧ t.rd st (taskObj O.TASK_STATE e k) = 2 ∧
            k.val ∈ (t.eng e).firsts ∧ (t.session slot).resp = { op := 2 } ∧
            { t with engines := s.engines, regs := s.regs, tr := s.tr } = s) ∧
        ((s.eng e).failed = true ∨ (s.eng e).closed = true ∨ passes = false →
          exec (.taskEnable slot e k) s = .next (s.turned slot st ctrl .state))) ∧
      (isCle e = false →
        (s.rd st (taskObj O.TASK_STATE e k) = 2 → ∃ t, exec (.taskDisable slot e k) s = .next t ∧
          t.rd st (taskObj O.TASK_STATE e k) = 1 ∧ (t.session slot).resp = { op := 2 } ∧ { t with regs := s.regs, tr := s.tr } = s) ∧
        (s.rd st (taskObj O.TASK_STATE e k) ≠ 2 → exec (.taskDisable slot e k) s = .next ((s.touch slot).respond slot { op := 2 })) ∧
        ((s.eng e).busy k.val = false → ∃ t, exec (.taskUnload slot e k) s = .next t ∧ t.rd st (taskObj O.TASK_STATE e k) = 0 ∧
          (t.eng e).image k.val = none ∧ (t.session slot).resp = { op := 2 } ∧
          { t with engines := s.engines, regs := s.regs, tr := s.tr } = s) ∧
        ((s.eng e).busy k.val = true → ∃ t, exec (.taskUnload slot e k) s = .next t ∧ k.val ∈ (t.eng e).unload ∧
          t.rd st (taskObj O.TASK_STATE e k) ≠ 2 ∧ (t.eng e).images = (s.eng e).images ∧ (t.eng e).banks = (s.eng e).banks ∧
          (t.session slot).resp = { op := 2 } ∧ { t with engines := s.engines, regs := s.regs, tr := s.tr } = s))) ∧
    (∀ m : BitVec 16, s.Admitted slot st (engObj O.STICKY e) 2 → ∃ t, exec (.stickyClear slot e m) s = .next t ∧
      t.rd st (engObj O.STICKY e) = s.rd st (engObj O.STICKY e) &&& ((m.toNat % 0x80) ^^^ 0x7F) ∧
      RegsKept s t [(st, engObj O.STICKY e)] ∧ { t with regs := s.regs, tr := s.tr } = s)

/-- Failure and the spare (R146-R149): an engine that runs a loop, or a spare, fails once and stands in block reset; the spare whose load
ends takes the loop over with RESEED; HANDBACK of a tested, verified engine with the image the spare runs is accepted and gives the loop back
at the cluster's next input instant, and is refused otherwise; a corrected error counts, an uncorrectable one on a general engine abandons
and disables; a reload that ends returns the engine and its cluster. -/
def Obligations.EnginesFailAndReturn : Prop :=
  ∀ (s : State) (f : FieldId) (c : ClusterId),
    (∀ (e : EngId) (cause : Fin 3),
      (isCle e = true ∨ isSpare e = true → (s.eng e).failed = false →
        ∃ t, exec (.engineFail e cause) s = .next t ∧ t = s.engineFails e (cause.val + 1) ∧ (t.eng e).failed = true ∧
          (t.eng e).closed = true ∧ (t.eng e).banks = [] ∧
          { t with regs := s.regs, engines := s.engines, loops := s.loops, wheels := s.wheels, cells := s.cells, tiles := s.tiles, flt := s.flt, traces := s.traces, rst := s.rst, moult := s.moult, mem := s.mem, poison := s.poison, tr := s.tr } = s) ∧
      ((s.eng e).failed = true ∨ (isCle e = false ∧ isSpare e = false) → exec (.engineFail e cause) s = .next s)) ∧
    (∀ x, (s.eng (spareOf f)).loading = some c.val → (s.eng (spareOf f)).shadowImg = some x → (s.eng (spareOf f)).failed = false →
      ∃ t, exec (.spareImageLoadDone f) s = .next t ∧ t.spareFor f = some c ∧ (t.eng (spareOf f)).image 0 = some x ∧
        (t.eng (spareOf f)).loading = none ∧ (t.loop f c).reseed = true ∧
        TblKept s.loops t.loops [gid f c] ∧ TblKept s.engines t.engines [(spareOf f).val] ∧
        { t with regs := s.regs, engines := s.engines, loops := s.loops, flt := s.flt, traces := s.traces, moult := s.moult, mem := s.mem, poison := s.poison } = s) ∧
    ((s.eng (spareOf f)).loading = none ∨ (s.eng (spareOf f)).failed = true → exec (.spareImageLoadDone f) s = .next s) ∧
    (∀ (slot : Slot), s.Admitted slot (fSt f) O.HANDBACK 1 →
      let ready := ∃ x, (s.eng (cle f c)).shadowImg = some x ∧ s.spareFor f = some c ∧ (s.eng (cle f c)).tested = true ∧
        s.rd (clSt f c) (engObj O.LOAD_STATE (cle f c)) = 3 ∧ ((s.eng (spareOf f)).image 0).elim 0 Image.id = x.id
      (ready → ∃ t, exec (.handback slot f c) s = .next t ∧ (t.eng (spareOf f)).handback = true ∧ t.spareFor f = some c ∧
        (t.session slot).resp = { op := 2 } ∧ { t with engines := s.engines, tr := s.tr } = s) ∧
      (¬ ready → exec (.handback slot f c) s = .next (s.turned slot (fSt f) O.HANDBACK .state))) ∧
    (s.spareFor f = some c → (s.eng (spareOf f)).handback = true → (s.eng (cle f c)).shadowImg.isSome = true →
      let t := s.handBack f c
      t.spareFor f = none ∧ (t.eng (cle f c)).image 0 = (s.eng (cle f c)).shadowImg ∧
        (t.eng (cle f c)).failed = false ∧ (t.eng (cle f c)).closed = false ∧ (t.loop f c).reseed = true) ∧
    (∀ (e : EngId) (mask : Byte), exec (.generalEngineError e true mask) s = .next (s.engCorrected e) ∧
      (s.engCorrected e).rd (engSt e) (engObj O.EG_CORR_COUNT e) = satAdd max32 (s.rd (engSt e) (engObj O.EG_CORR_COUNT e)) 1 ∧
      (s.engCorrected e).engines = s.engines) ∧
    (∀ (e : EngId) (mask : Byte), isCle e = false → exec (.generalEngineError e false mask) s = .next (s.generalError e mask.toNat)) ∧
    ((s.eng (cle f c)).loading ≠ none → s.cstate f c = .parked →
      ∃ x : State, exec (.clusterEngineReloadDone f c) s = .next ((x.clusterReturn f c).drive) ∧ (x.eng (cle f c)).loading = none ∧
        (x.eng (cle f c)).failed = false ∧ (x.eng (cle f c)).closed = false ∧ (x.eng (cle f c)).images = (s.eng (cle f c)).images ∧
        (∀ y, (s.eng (cle f c)).image 0 = some y → (x.eng (cle f c)).mem =
          memWrite (memWrite (s.eng (cle f c)).mem (y.cbase * 16) y.consts) (y.wbase * 16) y.init) ∧
        (x.loop f c).reseed = true ∧ { x with engines := s.engines, loops := s.loops } = s) ∧
    ((s.eng (cle f c)).loading = none ∨ s.cstate f c ≠ .parked → exec (.clusterEngineReloadDone f c) s = .next s)

/-- The trace unit (R150, R156): arming with its banks owned starts the ring at entry 0 with two time markers, and goes to TRACE_STATE 4
without them; the selected source firing takes state 1 to 2 with TRIG_TIME, and in any other case nothing happens; after POST_COUNT more
entries it is done; stop gives 3 and reset 0. -/
def Obligations.TraceUnitRuns : Prop :=
  ∀ (s : State) (slot : Slot) (x : TraceId), let st := traceSt x
    (s.Admitted slot st O.TRACE_CTRL 1 →
      (s.traceOwns x = true → s.rd st O.TRIG_SRC ≠ 0 → ∃ t, exec (.traceArm slot x) s = .next t ∧ t.rd st O.TRACE_STATE = 1 ∧
        t.rd st O.WRITE_PTR = 2 ∧ (t.trace x).count = 2 ∧ (t.session slot).resp = { op := 2 } ∧ { t with regs := s.regs, traces := s.traces, mem := s.mem, poison := s.poison, tr := s.tr } = s) ∧
      (s.traceOwns x = true → s.rd st O.TRIG_SRC = 0 → ∃ t, exec (.traceArm slot x) s = .next t ∧ t.rd st O.TRACE_STATE = 2 ∧
        t.rd st O.TRIG_TIME = s.time st ∧ (t.session slot).resp = { op := 2 } ∧
        { t with regs := s.regs, traces := s.traces, mem := s.mem, poison := s.poison, tr := s.tr } = s) ∧
      (s.traceOwns x = false → ∃ t, exec (.traceArm slot x) s = .next t ∧ t.rd st O.TRACE_STATE = 4 ∧
        RegsKept s t [(st, O.TRACE_STATE)] ∧ { t with regs := s.regs, tr := s.tr } = s) ∧
      (s.rd st O.TRACE_STATE = 1 ∨ s.rd st O.TRACE_STATE = 2 → ∃ t, exec (.traceStop slot x) s = .next t ∧
        t.rd st O.TRACE_STATE = 3 ∧ RegsKept s t [(st, O.TRACE_STATE)] ∧ { t with regs := s.regs, tr := s.tr } = s) ∧
      (s.rd st O.TRACE_STATE ≠ 1 → s.rd st O.TRACE_STATE ≠ 2 →
        exec (.traceStop slot x) s = .next ((s.touch slot).respond slot { op := 2 })) ∧
      (∃ t, exec (.traceReset slot x) s = .next t ∧ t.rd st O.TRACE_STATE = 0 ∧ (t.trace x).count = 0 ∧
        RegsKept s t [(st, O.TRACE_STATE)] ∧ { t with regs := s.regs, traces := s.traces, tr := s.tr } = s) ∧
      (s.rd st O.TRIG_SRC = 5 → exec (.traceTriggerCmd slot x) s = .next (((s.touch slot).traceFire x).respond slot { op := 2 })) ∧
      (s.rd st O.TRIG_SRC ≠ 5 → exec (.traceTriggerCmd slot x) s = .next ((s.touch slot).respond slot { op := 2 }))) ∧
    ((s.trace x).fired = true → s.rd st O.TRACE_STATE = 1 → ∃ t, exec (.traceTrigger x) s = .next t ∧ t.rd st O.TRACE_STATE = 2 ∧
      t.rd st O.TRIG_TIME = s.time st ∧ (t.trace x).left = s.rd st O.POST_COUNT ∧ (t.trace x).fired = false ∧
      { t with regs := s.regs, traces := s.traces, mem := s.mem } = s) ∧
    ((s.trace x).fired = false ∨ s.rd st O.TRACE_STATE ≠ 1 → exec (.traceTrigger x) s = .next s) ∧
    (s.rd st O.TRACE_STATE = 2 → (s.trace x).left = 0 → ∃ t, exec (.tracePostCountDone x) s = .next t ∧ t.rd st O.TRACE_STATE = 3 ∧
      RegsKept s t [(st, O.TRACE_STATE)] ∧ { t with regs := s.regs } = s) ∧
    (s.rd st O.TRACE_STATE ≠ 2 ∨ (s.trace x).left ≠ 0 → exec (.tracePostCountDone x) s = .next s)

/-! ### Package stages and rails (chapters 06 and 07) -/

/-- The modulator (R162-R167): where the comparator's condition holds, a trip outside the blanking of a rail that switches and leads issues an
on-time to the next eligible phase of the ring and moves the pointer past it, or is held and counted; a held trip goes to the first phase that
becomes eligible. The on-time ends low T_ON after its start, in the hub's count in which that falls; the current's zero crossing, or in fallback the computed fall time, takes the output to mid level; a
limited pulse ends the on-time with its limit flag. A phase that the rail lacks does not exist. -/
def Obligations.ModulatorDrivesThePhases : Prop :=
  ∀ (s : State) (r : RailId) (p : PhaseId) (uv : BitVec 32),
    let now := s.time hubSt
    let goes : Prop := s.railSwitching r = true ∧ (s.rail r).lead = true ∧ (s.rail r).discharge = false ∧
      (∀ u, (s.rail r).lastTrip = some u → u + s.rd hubSt (O.TBLANK.at r.val) ≤ now) ∧ s.tripMet r uv.toNat = true
    (goes → let x := (s.putRail r { s.rail r with lastTrip := some now }).takeOutputs r
      (∀ j, x.nextRing r = some j → ∃ t, exec (.modulatorTrip ⟨r, uv⟩) s = .next t ∧ (t.phase r (ringPhase r j)).pwm = .high ∧
        (t.phase r (ringPhase r j)).onAt = some now ∧ (t.rail r).ptr = (j + 1) % phaseCount r ∧ (t.rail r).lastTrip = some now ∧
        { t with regs := s.regs, rails := s.rails, phases := s.phases, adcs := s.adcs } = s) ∧
      (x.nextRing r = none → ∃ t, exec (.modulatorTrip ⟨r, uv⟩) s = .next t ∧ (t.rail r).held = (s.rail r).held + 1 ∧
        t.rd hubSt (O.RING_HELD.at r.val) = satAdd max32 (s.rd hubSt (O.RING_HELD.at r.val)) 1 ∧
        { t with regs := s.regs, rails := s.rails, phases := s.phases } = s)) ∧
    (¬ goes → exec (.modulatorTrip ⟨r, uv⟩) s = .next s) ∧
    (∀ j, s.railSwitching r = true → (s.rail r).lead = true → 0 < (s.rail r).held → s.nextRing r = some j →
      ∃ t, exec (.heldTripAssign r) s = .next t ∧ (t.phase r (ringPhase r j)).pwm = .high ∧ (t.rail r).held = (s.rail r).held - 1 ∧
        TblKept s.phases t.phases [phaseKey r (ringPhase r j)] ∧ TblKept s.rails t.rails [r.val] ∧
        { t with regs := s.regs, rails := s.rails, phases := s.phases, adcs := s.adcs } = s) ∧
    (s.railSwitching r = false ∨ (s.rail r).lead = false ∨ (s.rail r).held = 0 ∨ s.nextRing r = none →
      exec (.heldTripAssign r) s = .next s) ∧
    (p.val < phaseCount r →
      let x := s.phase r p
      let done := x.pwm = .high ∧ ∀ u, x.onAt = some u → 4 * u + x.ton ≤ 4 * now + 3
      (done → ∃ t, exec (.onTimeEnd r p) s = .next t ∧ (t.phase r p).pwm = .low ∧
        (t.phase r p).offAt = some now ∧ (t.phase r p).limRun = 0 ∧ TblKept s.phases t.phases [phaseKey r p] ∧
        { t with regs := s.regs, phases := s.phases, adcs := s.adcs } = s) ∧
      (¬ done → exec (.onTimeEnd r p) s = .next s) ∧
      (let zero := x.pwm = .low ∧ s.railSwitching r = true ∧ x.fallback = false ∧
          uv.toNat ≤ s.imonAt r p (s.rd hubSt (O.ZCD.at r.val));
        (zero → ∃ t, exec (.zeroCrossing r ⟨p, uv⟩) s = .next t ∧ (t.phase r p).pwm = .mid ∧ (t.phase r p).crossed = true ∧
          TblKept s.phases t.phases [phaseKey r p] ∧ { t with phases := s.phases } = s) ∧
        (¬ zero → exec (.zeroCrossing r ⟨p, uv⟩) s = .next s)) ∧
      (let fell := x.pwm = .low ∧ s.railSwitching r = true ∧ x.fallback = true ∧ s.fallTimeOver r p = true;
        (fell → ∃ t, exec (.fallbackMidTimer r p) s = .next t ∧ (t.phase r p).pwm = .mid ∧ TblKept s.phases t.phases [phaseKey r p] ∧
          { t with phases := s.phases } = s) ∧
        (¬ fell → exec (.fallbackMidTimer r p) s = .next s)) ∧
      (let armed := x.pwm = .high ∧ x.fallback = false ∧ s.railSwitching r = true ∧ (∀ u, x.onAt = some u → u + 25 ≤ now) ∧
          s.imonAt r p (s.rd hubSt (O.ICYC_PH.at r.val)) ≤ uv.toNat;
        let y := s.ocCount r p
        let run := if s.railState r = 2 ∧ y.ocMet r = false then x.limRun + 1 else 0
        (armed → run < s.rd hubSt (O.PH_LIM_RUN.at r.val) → ∃ t, exec (.phaseCycleLimit r ⟨p, uv⟩) s = .next t ∧
          (t.phase r p).pwm = .low ∧ (t.phase r p).limNow = true ∧ (t.phase r p).limRun = run ∧ t.rails = y.rails ∧
          { t with regs := s.regs, phases := s.phases, rails := s.rails, adcs := s.adcs } = s) ∧
        (armed → s.rd hubSt (O.PH_LIM_RUN.at r.val) ≤ run → ∃ u : State, (u.phase r p).limNow = true ∧
          { u with regs := s.regs, phases := s.phases, rails := s.rails, adcs := s.adcs } = s ∧ exec (.phaseCycleLimit r ⟨p, uv⟩) s =
            .next (((u.dropPhase r p 4).raise F.PH_OC hubSt (phaseInst r p) (u.phaseStatus r p)).drive)) ∧
        (¬ armed → exec (.phaseCycleLimit r ⟨p, uv⟩) s = .next s))) ∧
    (phaseCount r ≤ p.val → ∀ i, i ∈ [Instr.onTimeEnd r p, .zeroCrossing r ⟨p, uv⟩, .fallbackMidTimer r p, .phaseCycleLimit r ⟨p, uv⟩,
      .phaseOpenDetect r p, .senseFallbackExit r p] → exec i s = .refused .noSuchUnit)

/-- Phases leave and rejoin the ring (R175-R177, R195): OPEN_RUN periods with a low mean while the rail regulates drop a phase with PH_OPEN;
PH_CTRL drops a phase by command and restores one whose fault is cleared, with TRIM 0, and refuses to restore one whose fault stands with the
state abort code; sense fallback ends after 1 ms without its condition, once PH_SNS_FAIL is cleared. A phase that is dropped while another stays
in the ring keeps its reason. -/
def Obligations.PhasesLeaveAndRejoin : Prop :=
  ∀ (s : State) (r : RailId) (p : PhaseId), p.val < phaseCount r →
    (∀ (q : PhaseId) (why : Nat), q ≠ p → q.val < phaseCount r → s.phaseIn r q = true → why ≠ 0 →
      ((s.dropPhase r p why).phase r p).dropped = why ∧ ((s.dropPhase r p why).phase r p).pwm = .mid) ∧
    (s.railState r = 2 → s.phaseIn r p = true → s.rd hubSt (O.RL_OPEN_RUN.at r.val) ≤ (s.phase r p).openRun →
      exec (.phaseOpenDetect r p) s =
        .next (((s.dropPhase r p 3).raise F.PH_OPEN hubSt (phaseInst r p) (s.phaseStatus r p)).drive)) ∧
    (s.railState r ≠ 2 ∨ s.phaseIn r p = false ∨ (s.phase r p).openRun < s.rd hubSt (O.RL_OPEN_RUN.at r.val) →
      exec (.phaseOpenDetect r p) s = .next s) ∧
    (∀ slot : Slot, s.Admitted slot hubSt (O.PH_CTRL.at r.val) 2 →
      (s.phaseIn r p = true → exec (.phaseDropCmd slot r p) s =
        .next (((s.touch slot).dropPhase r p 5).drive.respond slot { op := 2 })) ∧
      (s.phaseIn r p = false → exec (.phaseDropCmd slot r p) s = .next ((s.touch slot).respond slot { op := 2 })) ∧
      (s.phaseFree r p = true → ∃ t, exec (.phaseRestore slot r p) s = .next t ∧ t.phaseIn r p = true ∧ (t.phase r p).trim = 0 ∧
        (t.phase r p).limRun = 0 ∧ (t.session slot).resp = { op := 2 } ∧ TblKept s.phases t.phases [phaseKey r p] ∧
        { t with phases := s.phases, rails := s.rails, flt := s.flt, traces := s.traces, wheels := s.wheels, cells := s.cells, regs := s.regs, tr := s.tr } = s) ∧
      (s.phaseFree r p = false → exec (.phaseRestore slot r p) s = .next (s.turned slot hubSt (O.PH_CTRL.at r.val) .state))) ∧
    (let q := s.adc (railField r) (phaseAdc r p);
      let ends := (s.phase r p).fallback = true ∧ (s.phase r p).snsAt + 1000000 ≤ s.time hubSt ∧ q.failed = false ∧ q.closed = false ∧
        s.phaseFault F.PH_SNS_FAIL r p = false
      (ends → ∃ t, exec (.senseFallbackExit r p) s = .next t ∧ (t.phase r p).fallback = false ∧ (t.phase r p).snsCause = 0 ∧
        (t.phase r p).dropped = (s.phase r p).dropped ∧ TblKept s.phases t.phases [phaseKey r p] ∧
        { t with phases := s.phases, rails := s.rails, flt := s.flt, traces := s.traces, wheels := s.wheels, cells := s.cells, regs := s.regs } = s) ∧
      (¬ ends → exec (.senseFallbackExit r p) s = .next s))

/-- Rails (R161, R168-R182): STG_EN leads by 50 µs and drops 10 µs after mid level; a starting or restarting rail that has stayed within ±3 % for
100 µs comes into regulation with RAIL_STATE 2, or times out with RAIL_START_FAIL; undervoltage for 10 µs, a stage fault and the last
hiccup latch it with RAIL_STATE 5; an over-current below RAIL_HICCUP_LIMIT is a hiccup with RAIL_STATE 3, from which it restarts; an overvoltage
drives every output low until the discharge ends. The states where two rules meet are the model's reading (assumption 31).
The bus, the excess of an auxiliary rail and the sense (R174, R182, R184, R185): IBUS_UV holds both rails of the field at mid level, and its
recovery ends the condition and restarts a rail that was held; AX_ILIMIT is raised once the excess has stood for 100 µs; a remote sense that has disagreed for
4 µs changes SENSE_SRC to 1 with SENSE_LOST and returns to 0 with the first agreeing average after that is cleared; R_DROP moves by a
sixteenth of its error as the 1 ms window that the command names ends, and only under load (rounded as in assumption 12). -/
def Obligations.RailsAndTheirBus : Prop :=
  (∀ (s : State) (r : RailId),
    let now := s.time hubSt
    ((s.rail r).stgEn = true → (s.rail r).stgAt + 50000 ≤ now → ∃ t, exec (.stgEnLeadExpire r) s = .next t ∧ (t.rail r).lead = true ∧
      TblKept s.rails t.rails [r.val] ∧ { t with rails := s.rails } = s) ∧
    ((s.rail r).stgEn = false ∨ now < (s.rail r).stgAt + 50000 → exec (.stgEnLeadExpire r) s = .next s) ∧
    ((s.rail r).stgDrop = true → (s.rail r).offAt + 10000 ≤ now → ∃ t, exec (.stgEnDrop r) s = .next t ∧ (t.rail r).stgEn = false ∧
      (t.rail r).stgDrop = false ∧ TblKept s.rails t.rails [r.val] ∧ { t with rails := s.rails } = s) ∧
    ((s.rail r).stgDrop = false ∨ now < (s.rail r).offAt + 10000 → exec (.stgEnDrop r) s = .next s) ∧
    (s.railState r = 1 ∨ s.railState r = 4 →
      (∀ u, (s.rail r).regFrom = some u → u + 100000 ≤ now →
        (isFR r = true → exec (.railInRegulation r) s = .next ((s.wr hubSt (O.RAIL_STATE.at r.val) 2).drive)) ∧
        (isFR r = false → exec (.railInRegulation r) s =
          .next ((s.wr hubSt (O.RAIL_STATE.at r.val) 2).domainDone (fieldDomain (railField r) 7)).drive)) ∧
      ((∀ u, (s.rail r).regFrom = some u → now < u + 100000) → exec (.railInRegulation r) s = .next s) ∧
      ((s.rail r).startAt + s.rd hubSt (O.SS_TIMEOUT.at r.val) ≤ now →
        (s.wstate (railWheel r) = .starting → exec (.railStartTimeout r) s =
          .next ((((s.latchRail r F.RAIL_START_FAIL).railOff r 5).raise F.RAIL_START_FAIL hubSt r.val 0).drive)) ∧
        (s.wstate (railWheel r) ≠ .starting → exec (.railStartTimeout r) s =
          .next (((s.railOff r 0).raise F.RAIL_START_FAIL hubSt r.val 0).drive))) ∧
      (now < (s.rail r).startAt + s.rd hubSt (O.SS_TIMEOUT.at r.val) → exec (.railStartTimeout r) s = .next s)) ∧
    (s.railState r ≠ 1 → s.railState r ≠ 4 → exec (.railInRegulation r) s = .next s ∧ exec (.railStartTimeout r) s = .next s) ∧
    (∀ u, s.railState r = 2 → (s.rail r).uvFrom = some u → u + 10000 ≤ now → exec (.railUndervoltage r) s = .next ((s.railUv r).drive)) ∧
    (s.railState r ≠ 2 ∨ (∀ u, (s.rail r).uvFrom = some u → now < u + 10000) → exec (.railUndervoltage r) s = .next s) ∧
    (∀ code, (s.railOff r code).railState r = code ∧ ((s.railOff r code).rail r).lead = false ∧
      ∀ p : PhaseId, p ∈ phasesOf r → ((s.railOff r code).phase r p).pwm = .mid) ∧
    (let y := s.ocRoll r;
      (s.railSwitching r = true → y.ocMet r = true →
        let n := s.rd hubSt (O.HICCUPS.at r.val) + 1
        let code := railCode r F.FR_SHORT F.AX_SHORT
        ∃ v x : State, { v with rails := s.rails } = s ∧ TblKept s.rails v.rails [r.val] ∧ (v.rail r).held = 0 ∧ (v.rail r).hicAt = now ∧
          x = ((((v.wr hubSt (O.HICCUPS.at r.val) (min max8 n)).inc32 hubSt (O.RT_HICCUP_TOTAL.at r.val)).pwmAll r .mid).wr hubSt
            (O.RAIL_STATE.at r.val) 3).raise F.RAIL_OC hubSt r.val 0 ∧
          (n < s.rd hubSt (O.RAIL_HICCUP_LIMIT.at r.val) → exec (.railOvercurrent r) s = .next ((x.railDomainsOff r).drive)) ∧
          (s.rd hubSt (O.RAIL_HICCUP_LIMIT.at r.val) ≤ n → exec (.railOvercurrent r) s =
            .next ((((x.latchRail r code).railOff r 5).raise code hubSt r.val 0).drive))) ∧
      (s.railSwitching r = false ∨ y.ocMet r = false → exec (.railOvercurrent r) s = .next y)) ∧
    (s.railState r = 3 → (s.rail r).hicAt + s.rd hubSt (O.RAIL_HICCUP_OFF.at r.val) ≤ now →
      exec (.railHiccupRestart r) s = .next ((s.railStart r 4).drive)) ∧
    (s.railState r ≠ 3 ∨ now < (s.rail r).hicAt + s.rd hubSt (O.RAIL_HICCUP_OFF.at r.val) → exec (.railHiccupRestart r) s = .next s) ∧
    (s.rd hubSt (O.HICCUPS.at r.val) < s.rd hubSt (O.RAIL_HICCUP_LIMIT.at r.val) →
      (s.rail r).retryAt + s.rd hubSt (O.RAIL_RETRY_WINDOW.at r.val) ≤ now → ∃ t, exec (.railRetryWindowClose r) s = .next t ∧
      t.rd hubSt (O.HICCUPS.at r.val) = 0 ∧ RegsKept s t [(hubSt, O.HICCUPS.at r.val)] ∧ { t with regs := s.regs } = s) ∧
    (s.rd hubSt (O.RAIL_HICCUP_LIMIT.at r.val) ≤ s.rd hubSt (O.HICCUPS.at r.val) ∨
      now < (s.rail r).retryAt + s.rd hubSt (O.RAIL_RETRY_WINDOW.at r.val) → exec (.railRetryWindowClose r) s = .next s) ∧
    (∀ u, (s.rail r).discharge = false → (s.rail r).ovFrom = some u → u + 1000 ≤ now →
      exec (.railOvervoltage r) s = .next ((s.railOv r).drive) ∧ ((s.railOv r).rail r).discharge = true ∧
      ∀ p : PhaseId, p ∈ phasesOf r → ((s.railOv r).phase r p).pwm = .low) ∧
    ((s.rail r).discharge = true ∨ (∀ u, (s.rail r).ovFrom = some u → now < u + 1000) → exec (.railOvervoltage r) s = .next s) ∧
    ((s.rail r).discharge = true → (s.rail r).ovAt + 100000 ≤ now → exec (.ovDischargeEnd r) s = .next (s.dischargeEnd r)) ∧
    ((s.rail r).discharge = false ∨ now < (s.rail r).ovAt + 100000 → exec (.ovDischargeEnd r) s = .next s) ∧
    (let t := s.dischargeEnd r;
      (t.rail r).discharge = false ∧ (t.rail r).stgDrop = (s.rail r).stgEn ∧ (∀ p : PhaseId, p ∈ phasesOf r → (t.phase r p).pwm = .mid) ∧
        { t with rails := s.rails, phases := s.phases } = s) ∧
    (s.pinsLive = false → exec (.stageFault r) s = .next s) ∧
    (s.pinsLive = true → let y := s.raise F.STG_FAULT hubSt r.val 0
      (s.railState r = 5 → exec (.stageFault r) s = .next (if (s.rail r).discharge = true then y.dischargeEnd r else y)) ∧
      (s.railState r ≠ 5 → let x := (y.latchRail r F.STG_FAULT).railOff r 5
        exec (.stageFault r) s = .next ((x.putRail r { x.rail r with stgFlt := true }).drive)))) ∧
  (∀ (s : State) (f : FieldId) (r : RailId),
    (exec (.ibusUndervoltage f) s =
      .next ((((s.holdRail (axRail f)).holdRail (frRail f)).raise F.IBUS_UV hubSt f.val 0).drive)) ∧
    (∃ y : State, exec (.ibusRecover f) s = .next y.drive ∧ y.flt.ends = s.flt.ends ++ [⟨F.IBUS_UV, hubSt, f.val⟩] ∧
      (y.rail (frRail f)).ibLow = false ∧ (y.rail (axRail f)).ibLow = false ∧
      (s.railState (frRail f) = 6 → s.sevOf F.IBUS_UV < 4 → s.vFb (frRail f) < s.ovLevel (frRail f) → y.railState (frRail f) = 1)) ∧
    (∀ u, isFR r = false → (s.rail r).axFrom = some u → u + 100000 ≤ s.time hubSt → (s.rail r).axLimit = false →
      ∃ t, exec (.axIlimitTimer r) s = .next t ∧ (t.rail r).axLimit = true ∧ t.flt = (s.raise F.AX_ILIMIT hubSt r.val 0).flt ∧
        { t with rails := s.rails, flt := s.flt, traces := s.traces } = s) ∧
    (isFR r = true ∨ (∀ u, (s.rail r).axFrom = some u → s.time hubSt < u + 100000) ∨ (s.rail r).axLimit = true → exec (.axIlimitTimer r) s = .next s) ∧
    (let lost := s.railSwitching r = true ∧ s.senses r = true ∧ s.rd hubSt (O.SENSE_SRC.at r.val) = 0 ∧
        ∃ u, (s.rail r).snsFrom = some u ∧ u + 4000 ≤ s.time hubSt;
      (lost → ∃ t, exec (.remoteSenseLost r) s = .next t ∧
        t.rd hubSt (O.SENSE_SRC.at r.val) = 1 ∧ RegsKept s t [(hubSt, O.SENSE_SRC.at r.val)] ∧
        t.flt = (s.raise F.SENSE_LOST hubSt r.val 0).flt ∧ { t with regs := s.regs, flt := s.flt, traces := s.traces } = s) ∧
      (¬ lost → exec (.remoteSenseLost r) s = .next s)) ∧
    (let back := s.hasRecord F.SENSE_LOST hubSt r.val = false ∧ s.matched ⟨F.SENSE_LOST, hubSt, r.val⟩ = false ∧ s.senseAgrees r = true;
      (back → ∃ t, exec (.remoteSenseReturn r) s = .next t ∧ t.rd hubSt (O.SENSE_SRC.at r.val) = 0 ∧
        RegsKept s t [(hubSt, O.SENSE_SRC.at r.val)] ∧ TblKept s.rails t.rails [r.val] ∧ { t with regs := s.regs, rails := s.rails } = s) ∧
      (¬ back → exec (.remoteSenseReturn r) s = .next s)) ∧
    (∀ start stop : BitVec 64,
      let x := s.rail r
      let old := s.rd hubSt (O.R_DROP.at r.val)
      let ends : Prop := start.toNat + 1000000 = stop.toNat ∧ stop.toNat = s.time hubSt ∧ s.periodic (markKey 1 r.val) hubSt 1000000 0 = true
      (ends → ∃ t, exec (.rDropLearn r start stop) s = .next t ∧
        (t.rail r).remMs = {} ∧ (t.rail r).locMs = {} ∧ (t.rail r).curMs = {} ∧ RegsKept s t [(hubSt, O.R_DROP.at r.val)] ∧
        { t with regs := s.regs, rails := s.rails, marks := s.marks } = s ∧
        (s.rd hubSt (O.SENSE_SRC.at r.val) = 0 → s.railSwitching r = true → (s.railPhases r * 4000 * x.curMs.n : Int) ≤ x.curMs.sum →
          0 < x.curMs.sum → 0 < x.locMs.n → 0 < x.remMs.n →
          let d := x.locMs.n * x.remMs.n * x.curMs.sum
          let e := 500000000 * (x.locMs.sum * x.remMs.n - x.remMs.sum * x.locMs.n) * x.curMs.n
          (t.rd hubSt (O.R_DROP.at r.val) : Int) = clampInt 0 500000 (divRne (15 * old * d + e) (16 * d).toNat)) ∧
        (s.rd hubSt (O.SENSE_SRC.at r.val) = 1 ∨ s.railSwitching r = false ∨ x.curMs.sum < (s.railPhases r * 4000 * x.curMs.n : Int) →
          t.rd hubSt (O.R_DROP.at r.val) = old)) ∧
      (¬ ends → exec (.rDropLearn r start stop) s = .next s)))

/-! ### Bus converters and their segments (chapter 06) -/

/-- DX_CTRL and the start of a converter (R186, R191, R192, R198): enable takes a disabled one to DX_STATE 1 with its enable high; disable takes
1, 2 and 3 to 5 with its enable low; restore of a faulted one whose record is cleared holds the enable low and starts again when the hold
ends. Each command in any other state is refused with the state abort code. START_TIME after the enable, and after first contact, the start
reads are judged: a failed start gives 6, a good one 2, or 3 where PEC_REQ asks for what the converter lacks. -/
def Obligations.ConvertersStartAndStop : Prop :=
  ∀ (s : State) (slot : Slot) (n : ConvId),
    let now := s.time hubSt
    (s.Admitted slot hubSt (O.DX_CTRL.at n.val) 1 →
      (s.dxState n = 0 ∨ s.dxState n = 5 → ∃ t, exec (.converterEnable slot n) s = .next t ∧ t.dxState n = 1 ∧
        (t.conv n).enable = true ∧ (t.session slot).resp = { op := 2 } ∧ RegsKept s t [(hubSt, O.DX_STATE.at n.val)] ∧
        TblKept s.convs t.convs [n.val] ∧ { t with regs := s.regs, convs := s.convs, tr := s.tr } = s) ∧
      (s.dxState n ≠ 0 → s.dxState n ≠ 5 →
        exec (.converterEnable slot n) s = .next (s.turned slot hubSt (O.DX_CTRL.at n.val) .state)) ∧
      (s.dxState n = 1 ∨ s.dxState n = 2 → exec (.converterDisable slot n) s =
        .next ((((s.touch slot).dxDisable n 5).dxChanged n).respond slot { op := 2 })) ∧
      (s.dxState n = 3 → exec (.converterDisable slot n) s =
        .next (((((s.touch slot).endCondition F.DX_COMM hubSt n.val).dxDisable n 5).dxChanged n).respond slot { op := 2 })) ∧
      (s.dxState n ∉ [1, 2, 3] → exec (.converterDisable slot n) s = .next (s.turned slot hubSt (O.DX_CTRL.at n.val) .state)) ∧
      ((s.dxDisable n 5).dxState n = 5 ∧ ((s.dxDisable n 5).conv n).enable = false) ∧
      (let may := (s.dxState n = 4 ∨ s.dxState n = 6) ∧ s.dxFaulted n = false;
        (may → ∃ t, exec (.converterRestore slot n) s = .next t ∧ (t.conv n).restoring = true ∧ (t.conv n).contacted = false ∧
          (t.conv n).contactDue = true ∧ (t.conv n).due = [0x03] ∧ (t.conv n).enable = false ∧ (t.session slot).resp = { op := 2 } ∧
          TblKept s.convs t.convs [n.val] ∧ { t with convs := s.convs, tr := s.tr } = s) ∧
        (¬ may → exec (.converterRestore slot n) s = .next (s.turned slot hubSt (O.DX_CTRL.at n.val) .state)))) ∧
    (let held := (s.conv n).restoring = true ∧ (s.conv n).contactDue = false ∧ (s.conv n).due = [] ∧ (s.conv n).restAt + 10000000 ≤ now;
      (held → ∃ t, exec (.restoreHoldExpire n) s = .next t ∧ t.dxState n = 1 ∧ (t.conv n).enable = true ∧
        (t.conv n).restoring = false ∧ RegsKept s t [(hubSt, O.DX_STATE.at n.val)] ∧ TblKept s.convs t.convs [n.val] ∧
        { t with regs := s.regs, convs := s.convs } = s) ∧
      (¬ held → exec (.restoreHoldExpire n) s = .next s)) ∧
    (∀ (failed : Bool) (tries : Fin 10) (status vin vout : BitVec 16),
      let due := s.dxState n = 1 ∧ (s.conv n).contactDue = false ∧ (s.conv n).enAt + s.rd hubSt (O.START_TIME.at n.val) ≤ now
      let x := s.inc hubSt (O.COMM_ERR.at n.val) max32 tries.val
      let mv := satU 16 (linear11 vin.toNat 1000)
      let out := s.voutMv n vout.toNat
      let y := ((x.wr hubSt (O.DX_STATUS.at n.val) status.toNat).dxVin n mv).wr hubSt (O.VOUT.at n.val) out
      let good := status.toNat &&& 0x78 = 0 ∧ 80 * out ≤ 11 * mv ∧ 9 * mv ≤ 80 * out
      let bare := s.rd hubSt O.PEC_REQ = 1 ∧ (s.conv n).contacted = true ∧ (s.conv n).pec = false
      (¬ due → exec (.converterStartReads n failed tries status vin vout) s = .next s) ∧
      (due → failed = true → exec (.converterStartReads n failed tries status vin vout) s = .next (x.dxDown n 6 F.DX_START_FAIL)) ∧
      (due → failed = false → ¬ good →
        exec (.converterStartReads n failed tries status vin vout) s = .next (y.dxDown n 6 F.DX_START_FAIL)) ∧
      (due → failed = false → good → bare → exec (.converterStartReads n failed tries status vin vout) s =
        .next ((y.wr hubSt (O.DX_STATE.at n.val) 3).dxChanged n)) ∧
      (due → failed = false → good → ¬ bare → ∃ z : State, z.dxState n = 2 ∧ (z.conv n).failRun = 0 ∧
        (∀ c, c ∈ statusBytes status.toNat → c ∈ (z.conv n).due) ∧
        { z with regs := s.regs, convs := s.convs } = { y with regs := s.regs, convs := s.convs } ∧
        exec (.converterStartReads n failed tries status vin vout) s = .next (z.dxChanged n)))

/-- The segments (R187-R189, R193, R456): a due first contact takes the converter's identity and format; a poll begins on a sound segment once
POLL_PERIOD has passed; an alert puts its converter ahead; a line held low starts recovery, which ends with the segment sound or stuck;
released it is sound again.
Transactions (R188-R190, R193, R332): a read that is due ends it, and its reading goes to its object; a failed one counts in COMM_ERR and,
from the third in a row, loses the converter; a pass-through read is taken when none is in progress and refused with the state abort code
otherwise, and its bytes go to PT_DATA unconverted; the enables of a field fall 1 ms after its rails have. The PMBus formats are presumed
(assumption 32); the refusal of a second pass-through read is the model's reading (assumption 33). -/
def Obligations.SegmentsAndTransactions : Prop :=
  (∀ (s : State) (n : ConvId) (k : SegId),
    (∀ (acked : Bool) (cap m rev : Byte) (v w : List Byte),
      let x := s.conv n
      let due := x.contactDue = true ∧ 0x03 ∉ x.due ∧ s.segWorks (convSeg n) = true ∧
        ¬ (s.dxState n = 1 ∧ s.time hubSt < x.enAt + s.rd hubSt (O.START_TIME.at n.val))
      (¬ due → exec (.firstContact n acked cap m rev v w) s = .next s) ∧
      (due → acked = false → ∃ t, exec (.firstContact n acked cap m rev v w) s = .next t ∧ (t.conv n).contactDue = false ∧
        (t.conv n).contacted = x.contacted ∧
        t.rd hubSt (O.COMM_ERR.at n.val) = satAdd max32 (s.rd hubSt (O.COMM_ERR.at n.val)) 1 ∧
        RegsKept s t [(hubSt, O.COMM_ERR.at n.val)] ∧ { t with regs := s.regs, convs := s.convs, segs := s.segs } = s) ∧
      (due → acked = true → ∃ t, (t.conv n).contacted = true ∧ (t.conv n).contactDue = false ∧ (t.conv n).onOff = some 0x17 ∧
        (t.conv n).pec = bit cap.toNat 7 ∧ (t.conv n).voutMode = m.toNat ∧ t.blob hubSt (O.MFR_ID.at n.val) = v.take 16 ∧
        t.blob hubSt (O.MFR_MODEL.at n.val) = w.take 16 ∧ t.rd hubSt (O.PMBUS_REV.at n.val) = rev.toNat ∧
        { t with regs := s.regs, blobs := s.blobs, convs := s.convs, segs := s.segs } = s ∧
        (let y := if m.toNat / 32 = 0 ∧ 0x22 ≤ rev.toNat then t else t.raiseDx F.DX_FORMAT n;
          exec (.firstContact n acked cap m rev v w) s = .next (if s.rd hubSt O.PEC_REQ = 1 ∧ bit cap.toNat 7 = false then y.dxLost n else y)))) ∧
    (let free := s.segWorks k = true ∧ (∀ u, (s.seg k).pollAt = some u → u + s.rd hubSt O.POLL_PERIOD ≤ s.time hubSt) ∧
        (∀ m, m ∈ segConvs k → (s.conv m).due = []) ∧ s.passOn k = none;
      (free → ∃ t, exec (.converterPoll k) s = .next t ∧
        (t.seg k).polls = (s.seg k).polls + 1 ∧ (t.seg k).pollAt = some (s.time hubSt) ∧
        (∀ m, m ∈ segConvs k → (s.conv m).enable = true → s.dxState m = 2 → (t.conv m).due = pollReads ((s.seg k).polls + 1)) ∧
        { t with segs := s.segs, convs := s.convs } = s) ∧
      (¬ free → exec (.converterPoll k) s = .next s)) ∧
    (∀ (a : BitVec 7),
      (s.segWorks k = false → exec (.pmbusAlert k a) s = .next s) ∧
      (∀ m : ConvId, s.segWorks k = true → (segConvs k).find? (fun q => s.rd hubSt (O.ADDR.at q.val) == a.toNat) = some m →
        ∃ t, exec (.pmbusAlert k a) s = .next t ∧ m.val ∈ (t.seg k).urgent ∧ { t with segs := s.segs } = s) ∧
      (s.segWorks k = true → (∀ m ∈ segConvs k, s.rd hubSt (O.ADDR.at m.val) ≠ a.toNat) → ∃ t, exec (.pmbusAlert k a) s = .next t ∧
        t.rd hubSt O.ALERTS_UNKNOWN = satAdd max32 (s.rd hubSt O.ALERTS_UNKNOWN) 1 ∧ { t with regs := s.regs } = s)) ∧
    (s.rd hubSt (segObj k) = 0 → ∃ t, exec (.pmbusLineTimeout k) s = .next t ∧ t.rd hubSt (segObj k) = 1 ∧
      RegsKept s t [(hubSt, segObj k)] ∧ { t with regs := s.regs } = s) ∧
    (s.rd hubSt (segObj k) ≠ 0 → exec (.pmbusLineTimeout k) s = .next s) ∧
    (s.rd hubSt (segObj k) = 1 → ∃ t, exec (.pmbusRecoveryDone k false) s = .next t ∧ t.rd hubSt (segObj k) = 0 ∧
      RegsKept s t [(hubSt, segObj k)] ∧ { t with regs := s.regs } = s) ∧
    (s.rd hubSt (segObj k) = 1 → exec (.pmbusRecoveryDone k true) s =
      .next ((segConvs k).foldl (fun x m => (x.dxStuck m).judgeField (convField m))
        ((s.wr hubSt (segObj k) 2).raise F.PB_STUCK hubSt k.val 0))) ∧
    (∀ b : Bool, s.rd hubSt (segObj k) ≠ 1 → exec (.pmbusRecoveryDone k b) s = .next s) ∧
    (s.rd hubSt (segObj k) = 2 → exec (.pmbusLineReleased k) s =
      .next (((segConvs k).foldl (fun x m => x.judgeField (convField m)) (s.wr hubSt (segObj k) 0)).endCondition F.PB_STUCK hubSt k.val)) ∧
    (s.rd hubSt (segObj k) ≠ 2 → exec (.pmbusLineReleased k) s = .next s)) ∧
  (∀ (s : State) (n : ConvId),
    (∀ (cmd : Byte) (ack pec : Bool) (data : List Byte),
      let k := convSeg n
      let res : Nat := if ack = false then 1 else if pec = false then 2 else 0
      let due := s.segWorks k = true ∧ s.pmDue n cmd.toNat = true ∧ ∀ q, s.passOn k = some q → q.behind = true
      (due → exec (.pmbusTransactionDone n cmd ack pec data false) s = .next ((s.segClock k).dxTransfer n cmd.toNat res data)) ∧
      (¬ due → exec (.pmbusTransactionDone n cmd ack pec data false) s = .next s) ∧
      (∀ q, s.segWorks k = true → s.passOn k = some q → q.conv = n.val → q.cmd = cmd.toNat → q.behind = false →
        ∃ y : State, y.pass = none ∧ y.rd hubSt O.PT_STATE = 2 + res ∧
          y.blob hubSt O.PT_DATA = (if res = 0 then data.take (min q.len 32) else []) ∧
          { y with regs := s.regs, blobs := s.blobs, segs := s.segs, pass := s.pass } = s ∧
          exec (.pmbusTransactionDone n cmd ack pec data true) s =
            .next (if res = 0 then y.putConv n { y.conv n with failRun := 0 } else y.dxFail n)) ∧
      (s.segWorks k = false ∨ (∀ q, s.passOn k = some q → q.conv ≠ n.val ∨ q.cmd ≠ cmd.toNat ∨ q.behind = true) →
        exec (.pmbusTransactionDone n cmd ack pec data true) s = .next s)) ∧
    (let y := (s.inc32 hubSt (O.COMM_ERR.at n.val)).putConv n { s.conv n with failRun := (s.conv n).failRun + 1, clean := false };
      ((s.conv n).failRun < 2 → s.dxFail n = y) ∧ (2 ≤ (s.conv n).failRun → s.dxFail n = y.dxLost n)) ∧
    (∀ w : Nat, (s.dxReading n 0x89 w).rd hubSt (O.IIN.at n.val) = satU 32 (linear11 w 1000) ∧
      RegsKept s (s.dxReading n 0x89 w) [(hubSt, O.IIN.at n.val)]) ∧
    (∀ (slot : Slot) (cmd len : Byte), s.Admitted slot hubSt O.PT_REQ 3 →
      let may := (0 < len.toNat ∧ (pmReads.contains cmd.toNat = true ∨ 0xD0 ≤ cmd.toNat)) ∨ (len = 0 ∧ cmd = 0x03)
      (len.toNat ≤ 32 → may → s.pass = none → ∃ t b, exec (.passThroughRequest slot n cmd len) s = .next t ∧
        t.pass = some ⟨n.val, cmd.toNat, len.toNat, b⟩ ∧
        t.rd hubSt O.PT_STATE = 1 ∧ (t.session slot).resp = { op := 2 } ∧ RegsKept s t [(hubSt, O.PT_STATE)] ∧
        { t with regs := s.regs, pass := s.pass, tr := s.tr } = s) ∧
      (len.toNat ≤ 32 → may → s.pass ≠ none → exec (.passThroughRequest slot n cmd len) s = .next (s.turned slot hubSt O.PT_REQ .state)) ∧
      (len.toNat ≤ 32 → ¬ may → exec (.passThroughRequest slot n cmd len) s = .next (s.turned slot hubSt O.PT_REQ .readOnly)) ∧
      (32 < len.toNat → exec (.passThroughRequest slot n cmd len) s = .next (s.turned slot hubSt O.PT_REQ .value))) ∧
    (∀ f : FieldId,
      let mid (r : RailId) : Prop := s.railLive r = false ∧ (s.rail r).offAt + 1000000 ≤ s.time hubSt
      (f.val ∈ s.seq.dxDrop → mid (frRail f) → mid (axRail f) → ∃ y : State, exec (.dxenDropTimer f) s = .next ((y.judgeField f).drive) ∧
        f.val ∉ y.seq.dxDrop ∧ (∀ m ∈ fieldConvs f, s.dxState m ∈ [1, 2, 3] → y.dxState m = 5 ∧ (y.conv m).enable = false) ∧
        { y with regs := s.regs, convs := s.convs, seq := s.seq, flt := s.flt } = s) ∧
      (f.val ∉ s.seq.dxDrop ∨ ¬ mid (frRail f) ∨ ¬ mid (axRail f) → exec (.dxenDropTimer f) s = .next s)))

/-! ### Conversion (chapter 07) -/

/-- Triggers, holds and slots (R202, R207-R209): a timer fires at the multiples of its PERIOD, once each, and a trigger starts a run of each
enabled sequence it names; at its sample instant an urgent run with every hold free closes them all, and with one occupied is dropped and
counted; a slot passes the hold that R202 puts first to the free slice that has been idle longest (assumption 34). A converter that has failed
passes nothing. -/
def Obligations.ConversionsAreScheduled : Prop :=
  ∀ (s : State) (f : FieldId) (q : AdcId),
    let st := fSt f
    let now := s.time st
    (∀ tmr : Fin 2,
      let key := markKey 2 (2 * adcKey f q + tmr.val)
      let due := s.periodic key st (s.rd st ((if tmr = 0 then O.TMR0_PERIOD else O.TMR1_PERIOD).at q.val))
        (s.rd st ((if tmr = 0 then O.TMR0_PHASE else O.TMR1_PHASE).at q.val))
      (due = true → exec (.adcTimerTrigger f q tmr) s = .next ((s.mark key st).adcTriggers f q (fun w => seqTrig w == tmr.val))) ∧
      (due = false → exec (.adcTimerTrigger f q tmr) s = .next s)) ∧
    (∀ (slot : Slot) (mask : BitVec 32), s.Admitted slot st (O.SW_TRIG.at q.val) 4 →
      exec (.swTrig slot f q mask) s = .next (((List.range 24).foldl (fun x n => if bit mask.toNat n then x.adcTrigger f q n else x)
        (s.touch slot)).respond slot { op := 2 })) ∧
    (∀ n, seqEn (s.adcSeq f q n) = true → (s.adc f q).failed = false → (s.adc f q).closed = false → seqUrgent (s.adcSeq f q n) = true →
      ∃ r, ((s.adcTrigger f q n).adc f q).runs = (s.adc f q).runs ++ [r] ∧ r.seq = n ∧ r.urgent = true ∧ r.firedAt = now ∧
        r.delay = seqDelay (s.adcSeq f q n) ∧
        r.entries.map Prod.fst = (List.range (seqLen (s.adcSeq f q n))).map (fun k => seqFirst (s.adcSeq f q n) + k)) ∧
    (∀ n, seqEn (s.adcSeq f q n) = false → s.adcTrigger f q n = s) ∧
    (∀ (sq : Fin 24) r, (s.adc f q).runs.find? (fun x => x.seq == sq.val && x.dueAt now) = some r →
      exec (.holdClose f q sq) s = .next (((s.adc f q).before r now ++ [r]).foldl (fun x y => x.closeRun f q y) s)) ∧
    (∀ r,
      (r.urgent = true → r.entries.any (fun e => (s.adc f q).occupied e.2) = false →
        ((s.closeRun f q r).adc f q).holds = (s.adc f q).holds ++ r.entries.map (holdOf r now false) ∧
        ((s.closeRun f q r).adc f q).runs = (s.adc f q).runs.erase r ∧
        TblKept s.adcs (s.closeRun f q r).adcs [adcKey f q] ∧ { s.closeRun f q r with adcs := s.adcs } = s) ∧
      (r.urgent = true → r.entries.any (fun e => (s.adc f q).occupied e.2) = true →
        (s.closeRun f q r).rd st (O.URGENT_DROP.at q.val) = satAdd max32 (s.rd st (O.URGENT_DROP.at q.val)) 1 ∧
        ((s.closeRun f q r).adc f q).holds = (s.adc f q).holds ∧ ((s.closeRun f q r).adc f q).runs = (s.adc f q).runs.erase r ∧
        { s.closeRun f q r with regs := s.regs, adcs := s.adcs } = s) ∧
      (r.urgent = false → ((s.closeRun f q r).adc f q).holds = (s.adc f q).holds ++
        (r.entries.filter (fun e => !(s.adc f q).occupied e.2)).map (holdOf r now false) ∧ { s.closeRun f q r with adcs := s.adcs } = s)) ∧
    (∀ sq : Fin 24, (s.adc f q).runs.find? (fun x => x.seq == sq.val && x.dueAt now) = none → exec (.holdClose f q sq) s = .next s) ∧
    (let y := s.settleSwap f q;
      let free := (y.adc f q).failed = false ∧ (y.adc f q).closed = false ∧ ∀ u, (y.adc f q).lastSlot = some u → 125 ≤ 2 * (now - u)
      (free → ∀ h k, pickHold (y.adc f q).holds = some h → (y.adc f q).freeSlice now = some k →
        ∃ t, exec (.frontendSlotStart f q) s = .next t ∧ (t.adc f q).slots = (y.adc f q).slots + 1 ∧
          (t.adc f q).flight = (y.adc f q).flight ++ [{ h with slice := k, slot := now, rnr := s.rd st (O.REF_STATE.at q.val) != 2 }] ∧
          { t with adcs := y.adcs } = y) ∧
      (¬ free ∨ pickHold (y.adc f q).holds = none ∨ (y.adc f q).freeSlice now = none →
        exec (.frontendSlotStart f q) s = .next y))

/-- Results and slices (R203-R205, R211-R213): the oldest conversion in flight ends with its word in RESULT, CONV_COUNT counting; one made
before the reference was ready is counted in RNR_COUNT and goes no further, but for a diode's, which it is no valid conversion of (R304); a sound one goes to its unit; every CAL_PERIOD the active slice
is due to swap with the spare, and a slice that fails its calibration leaves SLICES (assumption 34 for the choice of slices). -/
def Obligations.ResultsAndSlices : Prop :=
  ∀ (s : State) (f : FieldId) (q : AdcId),
    let st := fSt f
    let y := s.settleSwap f q
    (∀ (code : BitVec 12) (ovr : Bool) h rest, (y.adc f q).flight = h :: rest → (y.adc f q).failed = false → (y.adc f q).closed = false →
      let o := (O.RESULT.at q.val).nth h.entry
      let c := if ovr then (if code.toNat = 0 then 0 else 0xFFF) else code.toNat
      let z := settle { y.adc f q with flight := rest } h.slot ovr
      let word := flagAt ovr 31 + flagAt z.1 30 + flagAt h.rnr 29 + flagAt h.late 27 + h.slice * 2 ^ 24
        + (bits (s.rd st o) 23 16 + 1) % 256 * 2 ^ 16 + c
      ∃ x : State, x.rd st o = word ∧ x.rd st ((O.RESULT_TIME.at q.val).nth h.entry) = h.time ∧ (x.adc f q).flight = rest ∧
        x.rd st (O.CONV_COUNT.at q.val) = (s.rd st (O.CONV_COUNT.at q.val) + 1) % 2 ^ 64 ∧
        (h.rnr = true → x.rd st (O.RNR_COUNT.at q.val) = satAdd max32 (s.rd st (O.RNR_COUNT.at q.val)) 1) ∧
        (z.1 = true → x.rd st (O.SETTLE_COUNT.at q.val) = satAdd max32 (s.rd st (O.SETTLE_COUNT.at q.val)) 1) ∧
        { x with regs := s.regs, adcs := s.adcs, flt := s.flt, traces := s.traces } = s ∧
        exec (.conversionResult f q code ovr) s =
          .next (if z.1 || h.rnr then (if h.channel = 11 ∧ q.val < 2 then x.diodeBad f (Fin.ofNat 2 q.val) else x)
            else (x.takeResult f q h c word ovr).drive)) ∧
    (∀ code ovr, (y.adc f q).flight = [] ∨ (y.adc f q).failed = true ∨ (y.adc f q).closed = true →
      exec (.conversionResult f q code ovr) s = .next y) ∧
    (let due := (s.adc f q).failed = false ∧ (s.adc f q).closed = false ∧ (s.adc f q).calib = none ∧ (s.adc f q).swapDue = false ∧
        s.rd st (O.CAL_PERIOD.at q.val) ≠ 0 ∧ (s.adc f q).swapAt + s.rd st (O.CAL_PERIOD.at q.val) ≤ s.time st;
      (due → exec (.sliceSwap f q) s =
        .next ((s.putAdc f q { s.adc f q with swapDue := true, swapAt := s.time st }).settleSwap f q)) ∧
      (¬ due → exec (.sliceSwap f q) s = .next s)) ∧
    (∀ a r, (s.adc f q).swapDue = true → (s.adc f q).active = a :: r →
      (∀ u, tblFind (s.adc f q).used a = some u → u + 250 ≤ s.time st) → (y.adc f q).calib = some a ∧ y.rd st (O.SPARE_SLICE.at q.val) = a ∧
        (y.adc f q).active = (if s.rd st (O.SPARE_SLICE.at q.val) = 0xFF then r else r ++ [s.rd st (O.SPARE_SLICE.at q.val)]) ∧
        { y with regs := s.regs, adcs := s.adcs } = s) ∧
    ((s.adc f q).swapDue = false → y = s) ∧
    (∀ a, (s.adc f q).calib = some a →
      (∃ t, exec (.sliceCalibrationDone f q true) s = .next t ∧ (t.adc f q).calib = none ∧
        ((s.adc f q).calBack = true → a ∈ (t.adc f q).active ∧ t.rd st (O.SPARE_SLICE.at q.val) = 0xFF) ∧
        { t with regs := s.regs, adcs := s.adcs } = s) ∧
      (∃ x : State, (x.adc f q).calib = none ∧ x.rd st (O.SPARE_SLICE.at q.val) = 0xFF ∧ x.rd st (O.SLICES.at q.val) =
          (let m := s.rd st (O.SLICES.at q.val); if bit m a = true then m - 2 ^ a else m) ∧
        { x with regs := s.regs, adcs := s.adcs } = s ∧ exec (.sliceCalibrationDone f q false) s =
          .next (let z := x.raise F.ADC_SLICE_FAIL st q.val 0; if (s.adc f q).active = [] then (z.failAdc f q 1 0).drive else z))) ∧
    ((s.adc f q).calib = none → ∀ ok, exec (.sliceCalibrationDone f q ok) s = .next s) ∧
    (s.rd st (O.REF_STATE.at q.val) = 1 → ∃ t, exec (.refReady f q) s = .next t ∧ t.rd st (O.REF_STATE.at q.val) = 2 ∧
      t.rd st (O.REF_READY_TIME.at q.val) = s.time st ∧ RegsKept s t [(st, O.REF_STATE.at q.val), (st, O.REF_READY_TIME.at q.val)] ∧
      tblGet 0 (t.therm f).readyAt q.val = (if tblGet 0 (s.therm f).readyAt q.val = 0 then s.time st + 1 else tblGet 0 (s.therm f).readyAt q.val) ∧
      { t with regs := s.regs, therms := s.therms } = s) ∧
    (s.rd st (O.REF_STATE.at q.val) ≠ 1 → exec (.refReady f q) s = .next s)

/-- The converter's writes (R205, R206, R214): REF_EN 1 starts the buffer, 0 stops it only with the rail off or latched, any other value is
rejected; a descriptor or a comparator whose checks pass is stored, one that fails is rejected whole with CFG_RANGE (the checks are read
as in assumption 35). -/
def Obligations.ConverterWritesAreChecked : Prop :=
  ∀ (s : State) (slot : Slot) (f : FieldId) (q : AdcId),
    (s.Admitted slot (fSt f) (O.REF_EN.at q.val) 1 →
      (s.rd (fSt f) (O.REF_EN.at q.val) ≠ 1 → ∃ t, exec (.refEnWrite slot f q 1) s = .next t ∧ t.rd (fSt f) (O.REF_EN.at q.val) = 1 ∧
        t.rd (fSt f) (O.REF_STATE.at q.val) = 1 ∧ (t.session slot).resp = { op := 2 } ∧ { t with regs := s.regs, tr := s.tr } = s) ∧
      (s.rd (fSt f) (O.REF_EN.at q.val) = 1 → exec (.refEnWrite slot f q 1) s = .next ((s.touch slot).respond slot { op := 2 })) ∧
      (s.railState (adcRail f q) = 0 ∨ s.railState (adcRail f q) = 5 → ∃ t, exec (.refEnWrite slot f q 0) s = .next t ∧
        t.rd (fSt f) (O.REF_EN.at q.val) = 0 ∧ t.rd (fSt f) (O.REF_STATE.at q.val) = 0 ∧ (t.session slot).resp = { op := 2 } ∧
        { t with regs := s.regs, tr := s.tr } = s) ∧
      (s.railState (adcRail f q) ≠ 0 → s.railState (adcRail f q) ≠ 5 →
        exec (.refEnWrite slot f q 0) s = .next (s.turned slot (fSt f) (O.REF_EN.at q.val) .state)) ∧
      (∀ v : Byte, 1 < v.toNat → exec (.refEnWrite slot f q v) s = .next (s.turned slot (fSt f) (O.REF_EN.at q.val) .value))) ∧
    (∀ (n : Fin 24) (w : BitVec 32), let o := (O.SEQ.at q.val).nth n.val
      s.Admitted slot (fSt f) o 4 →
      (s.seqOk f q n.val (w.toNat - flagAt (bit w.toNat 11) 11) = true → ∃ t, exec (.sequenceWrite slot f q n w) s = .next t ∧
        t.adcSeq f q n.val = w.toNat - flagAt (bit w.toNat 11) 11 ∧ (t.session slot).resp = { op := 2 } ∧
        RegsKept s t [(fSt f, o)] ∧ { t with regs := s.regs, tr := s.tr } = s) ∧
      (s.seqOk f q n.val (w.toNat - flagAt (bit w.toNat 11) 11) = false → exec (.sequenceWrite slot f q n w) s =
        .next (((s.touch slot).respond slot { op := 2, abort := abortCode .value }).cfgRange (fSt f)))) ∧
    (∀ (n : Fin 4) (w : BitVec 32), let o := (O.CMP_CFG.at q.val).nth n.val
      let v := w.toNat - bits w.toNat 30 29 * 2 ^ 29
      s.Admitted slot (fSt f) o 4 →
      (cmpOk v (s.rd (fSt f) (O.CMP_HYST.at q.val)) = true → ∃ t, exec (.comparatorConfigWrite slot f q n w) s = .next t ∧
        t.cmpCfg f q n.val = v ∧ (t.session slot).resp = { op := 2 } ∧
        RegsKept s t [(fSt f, o), (fSt f, (O.CMP_STAT.at q.val).nth n.val)] ∧ { t with regs := s.regs, tr := s.tr } = s) ∧
      (cmpOk v (s.rd (fSt f) (O.CMP_HYST.at q.val)) = false → exec (.comparatorConfigWrite slot f q n w) s =
        .next (((s.touch slot).respond slot { op := 2, abort := abortCode .value }).cfgRange (fSt f))))

/-- Telemetry windows and publications (R215-R220): at the multiples of 10 µs, 1 ms and 1 s of a station's own count, once each, its windows
close: the 10 µs window of a cluster shows its samples' rounded averages, the lowest voltage and the highest current and power, and starts
empty; a hold clear waits for the next window end; a publication carries the domains without a new figure over (assumption 36 for the
sequence numbers). At any other count nothing closes. -/
def Obligations.WindowsCloseAndPublish : Prop :=
  ∀ (s : State) (f : FieldId) (c : ClusterId) (d : Station),
    (∀ i, i ∈ [(Instr.telemetryWindow10us d, 3, 10000), (.telemetryWindow1ms d, 4, 1000000), (.telemetryWindow1s d, 5, 1000000000)] →
      (s.periodic (markKey i.2.1 d.addr) d.addr i.2.2 0 = false → exec i.1 s = .next s) ∧
      (s.periodic (markKey i.2.1 d.addr) d.addr i.2.2 0 = true → ∃ t, exec i.1 s = .next t ∧ t.now = s.now ∧ t.skew = s.skew ∧
        t.pending = s.pending ∧ t.wheels = s.wheels ∧ t.loops = s.loops ∧ t.flt = s.flt ∧ t.engines = s.engines ∧ t.mem = s.mem ∧ t.tr = s.tr)) ∧
    (let x := s.mark (markKey 3 (clSt f c)) (clSt f c);
      s.periodic (markKey 3 (clSt f c)) (clSt f c) 10000 0 = true → ∃ t, exec (.telemetryWindow10us (.cluster f c)) s = .next t ∧
        ((s.tel (clSt f c) 0x2800).v.n ≠ 0 → t.rdRaw (clSt f c) 0x2800 1 = satU 16 (s.tel (clSt f c) 0x2800).v.avg ∧
          t.rdRaw (clSt f c) 0x2800 2 = satU 16 (s.tel (clSt f c) 0x2800).v.lo) ∧
        ((s.tel (clSt f c) 0x2800).i.n ≠ 0 → t.rdRaw (clSt f c) 0x2800 3 = satU 32 (s.tel (clSt f c) 0x2800).i.avg ∧
          t.rdRaw (clSt f c) 0x2800 4 = satU 32 (s.tel (clSt f c) 0x2800).i.hi) ∧
        (t.tel (clSt f c) 0x2800).v = {} ∧ (t.tel (clSt f c) 0x2800).i = {} ∧ (t.tel (clSt f c) 0x2800).p = {} ∧
        { t with regs := s.regs, tels := s.tels, mrs := s.mrs } = x) ∧
    (s.periodic (markKey 3 hubSt) hubSt 10000 0 = true → exec (.telemetryWindow10us .hub) s = .next (s.mark (markKey 3 hubSt) hubSt).hubFine) ∧
    (s.periodic (markKey 3 (fSt f)) (fSt f) 10000 0 = true →
      exec (.telemetryWindow10us (.field f)) s = .next ((s.mark (markKey 3 (fSt f)) (fSt f)).fieldFine f)) ∧
    (s.periodic (markKey 4 hubSt) hubSt 1000000 0 = true →
      exec (.telemetryWindow1ms .hub) s = .next ((s.mark (markKey 4 hubSt) hubSt).hubCoarse 7)) ∧
    (s.periodic (markKey 4 (fSt f)) (fSt f) 1000000 0 = true →
      exec (.telemetryWindow1ms (.field f)) s = .next ((s.mark (markKey 4 (fSt f)) (fSt f)).fieldCoarse f 7)) ∧
    (s.periodic (markKey 4 (clSt f c)) (clSt f c) 1000000 0 = true → ∃ t, exec (.telemetryWindow1ms (.cluster f c)) s = .next t ∧
      (t.tel (clSt f c) 0x2800).v1 = {} ∧
      ((s.tel (clSt f c) 0x2800).v1.n ≠ 0 → t.rdRaw (clSt f c) 0x2800 7 = satU 16 (s.tel (clSt f c) 0x2800).v1.avg) ∧
      { t with regs := s.regs, tels := s.tels, marks := s.marks } = s) ∧
    (s.periodic (markKey 5 (clSt f c)) (clSt f c) 1000000000 0 = true → ∃ t, exec (.telemetryWindow1s (.cluster f c)) s = .next t ∧
      (t.tel (clSt f c) 0x2800).v2 = {} ∧
      ((s.tel (clSt f c) 0x2800).v2.n ≠ 0 → t.rdRaw (clSt f c) 0x2800 0x0D = satU 16 (s.tel (clSt f c) 0x2800).v2.avg) ∧
      { t with regs := s.regs, tels := s.tels, marks := s.marks } = s) ∧
    (∀ (slot : Slot) (a : TelRef), let o : Obj := ⟨(telAddr a).2.1, (telAddr a).2.2⟩
      s.Admitted slot (telAddr a).1 o 1 →
      (∀ g, a = .temp g → ∃ t, exec (.holdClear slot a 1) s = .next t ∧ (t.therm g).clear = true ∧ (t.session slot).resp = { op := 2 } ∧
        { t with therms := s.therms, tr := s.tr } = s) ∧
      ((∀ g, a ≠ .temp g) → ∃ t, exec (.holdClear slot a 1) s = .next t ∧ (t.tel (telAddr a).1 (telAddr a).2.1).clear = true ∧
        (t.session slot).resp = { op := 2 } ∧ { t with tels := s.tels, tr := s.tr } = s) ∧
      exec (.holdClear slot a 0) s = .next ((s.touch slot).respond slot { op := 2 }) ∧
      (∀ v : Byte, 1 < v.toNat → exec (.holdClear slot a v) s = .next (s.turned slot (telAddr a).1 o .value))) ∧
    (∀ ms : Bool,
      let due := s.periodic (markKey (if ms then 7 else 6) hubSt) hubSt (if ms then 1000000 else 10000) 0
      (due = false → exec (.domainTablePublish ms) s = .next s) ∧
      (due = true → ms = false → ∃ t, exec (.domainTablePublish ms) s = .next t ∧ t.pub.seq10 = (s.pub.seq10 + 1) % 2 ^ 32 ∧
        t.pub.new10 = [] ∧ t.blob hubSt O.DOM_I_10US = s.domTable ((s.pub.seq10 + 1) % 2 ^ 32) 3 s.pub.new10 ∧
        { t with blobs := s.blobs, pub := s.pub, marks := s.marks } = s) ∧
      (due = true → ms = true → ∃ t, exec (.domainTablePublish ms) s = .next t ∧ t.pub.seq1 = (s.pub.seq1 + 1) % 2 ^ 32 ∧ t.pub.new1 = [] ∧
        t.blob hubSt O.DOM_IMAX_1MS = s.domTable ((s.pub.seq1 + 1) % 2 ^ 32) 0x0A s.pub.new1 ∧
        { t with blobs := s.blobs, pub := s.pub, marks := s.marks } = s))

/-! ### The thermal model (chapter 10) -/

/-- The thermal unit (R299-R305): a parameter block that passes its checks is stored, one that fails is rejected with TH_PARAM_REJECT; 2,500 ns
after each multiple of 10 µs an update counts in UPDATES, a datapath mismatch fails the unit, and the first update with a valid diode starts it;
once in 1 ms the correction follows the mean residuals, and with none, or with CORR_GAIN 0, the offset stays; a diode without a valid conversion for 1 ms is
invalid. Rounding and the diodes' corners are assumption 37. -/
def Obligations.ThermalUnitRuns : Prop :=
  ∀ (s : State) (f : FieldId),
    let st := fSt f
    (∀ (slot : Slot) (data : List Byte), s.Admitted slot st O.PARAMS data.length →
      (data.length = 860 → paramsOk data = true → ∃ t, exec (.params slot f data) s = .next t ∧ t.blob st O.PARAMS = data ∧
        (t.session slot).resp = { op := 2 } ∧ { t with blobs := s.blobs, tr := s.tr } = s) ∧
      (data.length = 860 → paramsOk data = false → exec (.params slot f data) s = .next
        ((((s.touch slot).raise F.TH_PARAM_REJECT st 0 0).respond slot { op := 2, abort := abortCode .value }).cfgRange st)) ∧
      (data.length ≠ 860 → exec (.params slot f data) s = .next (s.turned slot st O.PARAMS .length))) ∧
    (∀ mm : Bool, (s.periodic (markKey 14 f.val) st 10000 2500 = false → exec (.thermalUpdate f mm) s = .next s) ∧
      (s.periodic (markKey 14 f.val) st 10000 2500 = true → ∃ t, exec (.thermalUpdate f mm) s = .next t ∧
      t.rd st O.UPDATES = (s.rd st O.UPDATES + 1) % 2 ^ 64 ∧
      (mm = true ∨ s.rd st O.UNIT_STATE = 2 → t.rd st O.UNIT_STATE = 2) ∧
      (mm = false → s.rd st O.UNIT_STATE = 0 → (s.therm f).d0.valid = true → t.rd st O.UNIT_STATE = 1) ∧
      { t with regs := s.regs, therms := s.therms, flt := s.flt, trip := s.trip, traces := s.traces, marks := s.marks } = s)) ∧
    (s.periodic (markKey 15 f.val) st 1000000 0 = false → exec (.diodeCorrection f) s = .next s) ∧
    (s.periodic (markKey 15 f.val) st 1000000 0 = true →
      exec (.diodeCorrection f) s = .next ((s.mark (markKey 15 f.val) st).correctDiodes f)) ∧
    (let t := s.correctDiodes f;
      ((s.therm f).d0.meanResid = none → (s.therm f).d1.meanResid = none →
        t.rd st O.BOUND_MS = 0 ∧ t.rd st O.T_OFS = s.rd st O.T_OFS ∧ t.flt = s.flt ∧ { t with regs := s.regs, therms := s.therms } = s) ∧
      (∀ v, (s.therm f).d0.meanResid = some v → (s.therm f).d1.meanResid = none → s.hasRecord F.TH_DIODE_SPLIT st 0 = false →
        s.matched ⟨F.TH_DIODE_SPLIT, st, 0⟩ = false → s.rd st O.UNIT_STATE ≠ 2 → s.rd st O.CORR_GAIN ≠ 0 →
        let rate : Int := s.rd st O.CORR_RATE
        let cap : Int := s.rd st O.CORR_MAX
        t.rdS st O.RESID_0 = clampInt (-32768) 32767 v ∧
          t.rdS st O.T_OFS = clampInt (-32768) 32767 (clampInt (-cap) cap
            (s.rdS st O.T_OFS + clampInt (-rate) rate (divRne (v * s.rd st O.CORR_GAIN) 1000)))) ∧
      (s.rd st O.CORR_GAIN = 0 → t.rd st O.T_OFS = s.rd st O.T_OFS)) ∧
    (∀ i : Fin 2,
      (((s.therm f).diode i).valid = true → ((s.therm f).diode i).last + 1000000 ≤ s.time st →
        ∃ t, exec (.diodeTimeout f i) s = .next t ∧ ((t.therm f).diode i).valid = false ∧
          { t with regs := s.regs, therms := s.therms, flt := s.flt, trip := s.trip, traces := s.traces } = s) ∧
      (((s.therm f).diode i).valid = false ∨ s.time st < ((s.therm f).diode i).last + 1000000 → exec (.diodeTimeout f i) s = .next s)) ∧
    (let late := (∀ k, k < 2 → tblGet 0 (s.therm f).readyAt k ≠ 0 ∧ tblGet 0 (s.therm f).readyAt k + 10000000 ≤ s.time st + 1) ∧
        (s.therm f).seen = false ∧ (s.therm f).startLost = false;
      (late → ∃ t, exec (.diodeStartTimeout f) s = .next t ∧ (t.therm f).startLost = true ∧
        t.flt = (s.raise F.TH_DIODE_LOST st 0 0).flt ∧ { t with therms := s.therms, flt := s.flt, traces := s.traces } = s) ∧
      (¬ late → exec (.diodeStartTimeout f) s = .next s))

/-! ### Estimation, learning and the ledger (chapter 08) -/

/-- Activity and services (R228-R230, R242): a snapshot is kept with its time, and one with no hint queues none; the first of a tile feeds
no estimator (assumption 39); once in each 10 µs the service energy is split, and without the auxiliary figure the window is lost and
counted; with or without it both counts start again.
Learning (R232-R240, R253): a descriptor that passes its checks is stored, its reserved bits read as 0 (R16), and one that fails is
rejected; at each multiple of 1 ms every tile's interval closes and the next starts; an energy reply adds to E_MEAS and, of a live tile
with a whole interval, gives Y_1MS and ERR_1MS; the freeze command freezes the tiles named and no other, and the thaw ends only a commanded
freeze. The rounding of Y_1MS is assumption 12. -/
def Obligations.ActivityAndLearning : Prop :=
  (∀ (s : State) (f : FieldId) (k : TileId),
    (∀ (counts : List (BitVec 32)) (slots : List SnapSlot) (hints : List (BitVec 32)),
      ∃ t, exec (.activitySnapshotReceive f k counts slots hints) s = .next t ∧
        (t.tile f k).counts = (List.range 48).map (fun j => (counts.getD j 0).toNat) ∧ (t.tile f k).snapAt = s.time (fSt f) ∧
        (t.tile f k).asked = (s.tile f k).asked - 1 ∧ (t.tile f k).binds = (s.estr f).binds ∧
        (hints = [] → t.arbs = s.arbs) ∧ ((s.tile f k).counts = [] → (t.tile f k).input = (s.tile f k).input ∧ t.ests = s.ests) ∧
        t.wheels = s.wheels ∧ t.loops = s.loops ∧
        { t with tiles := s.tiles, arbs := s.arbs, ests := s.ests, regs := s.regs, flt := s.flt, traces := s.traces, mem := s.mem, poison := s.poison } = s) ∧
    (let win := s.time (fSt f) / 10000 + 1;
      (tblGet 0 s.marks (markKey 10 f.val) = win → exec (.serviceSplit f) s = .next s) ∧
      (tblGet 0 s.marks (markKey 10 f.val) ≠ win → ∃ t, exec (.serviceSplit f) s = .next t ∧ (t.arb f).axPower = none ∧
        (t.estr f).shares = [] ∧ (t.estr f).whole = [0, 0, 0, 0, 0] ∧ tblGet 0 t.marks (markKey 10 f.val) = win ∧
        { t with regs := s.regs, ests := s.ests, arbs := s.arbs, marks := s.marks } = s ∧
        ((s.arb f).axPower = none → t.rd (fSt f) O.SVC_WIN_LOST = satAdd max32 (s.rd (fSt f) O.SVC_WIN_LOST) 1 ∧
          (t.estr f).buckets = (s.estr f).buckets) ∧
        (∀ ax, (s.arb f).axPower = some ax → t.regs = s.regs)))) ∧
  (∀ (s : State) (slot : Slot) (f : FieldId),
    let st := fSt f
    (∀ (g : Fin 4) (data : List Byte), s.Admitted slot st (O.DESC.at g.val) data.length →
      (data.length = 256 → descOk data = true → ∃ t, exec (.desc slot f g data) s = .next t ∧
        t.blob st (O.DESC.at g.val) = descStored data ∧ (t.session slot).resp = { op := 2 } ∧
        { t with blobs := s.blobs, ests := s.ests, tiles := s.tiles, flt := s.flt, traces := s.traces, regs := s.regs, tr := s.tr } = s) ∧
      (data.length = 256 → descOk data = false → exec (.desc slot f g data) s = .next (s.turned slot st (O.DESC.at g.val) .value)) ∧
      (data.length ≠ 256 → exec (.desc slot f g data) s = .next (s.turned slot st (O.DESC.at g.val) .length))) ∧
    (s.periodic (markKey 8 f.val) st 1000000 0 = false → exec (.learningWindowEnd f) s = .next s) ∧
    (s.periodic (markKey 8 f.val) st 1000000 0 = true → ∃ t, exec (.learningWindowEnd f) s = .next t ∧
      { t with tiles := s.tiles, regs := s.regs, marks := s.marks, free := s.free } = s ∧ ∀ k : TileId,
      (let w : Closed := ⟨s.time st, meanOf (s.tile f k).estSum (s.tile f k).estN,
        (s.tile f k).gap || decide ((s.tile f k).snapAt + 10000 < s.time st)⟩;
        (t.tile f k).closed = ((s.tile f k).closed ++ [w]).drop ((s.tile f k).closed.length - 3)) ∧
      (t.tile f k).markers = (s.tile f k).markers ++ [s.time st] ∧
      (t.tile f k).estSum = 0 ∧ (t.tile f k).estN = 0 ∧ (t.tile f k).gap = false ∧ (t.tile f k).w = (s.tile f k).w) ∧
    (∀ k : TileId, ((s.loop f (tileCluster k)).reply = [] → exec (.energyReplyReceive f k) s = .next s) ∧
      (∀ q rest, (s.loop f (tileCluster k)).reply = q :: rest →
        let endAt := q.1; let energy := q.2.1; let spoilt := q.2.2
        let frac := tblGet 0 (s.estr f).measFrac k.val + energy * 100
        let own := (s.tile f k).closed.find? (fun w => w.endAt == endAt)
        ∃ t, exec (.energyReplyReceive f k) s = .next t ∧ (t.loop f (tileCluster k)).reply = rest ∧
          TblKept s.loops t.loops [gid f (tileCluster k)] ∧ TblKept s.tiles t.tiles [tileKey f k] ∧
          { t with loops := s.loops, tiles := s.tiles, ests := s.ests, regs := s.regs, flt := s.flt, traces := s.traces } = s ∧
          (t.tile f k).closed = (s.tile f k).closed.filter (fun w => decide (endAt < w.endAt)) ∧
          t.rd st (O.E_MEAS.at k.val) = (s.rd st (O.E_MEAS.at k.val) + frac / 1000000) % 2 ^ 64 ∧
          (∀ w, own = some w → spoilt = false → w.gap = false → s.time st ≤ endAt + 100000 → s.tileLive f k = true →
            t.rd st (O.Y_1MS.at k.val) = satU 32 (divRne energy 10000) ∧
            t.rd st (O.ERR_1MS.at k.val) = toBits 32 (w.est - divRne energy 10000)) ∧
          (spoilt = true ∨ own = none ∨ endAt + 100000 < s.time st ∨ s.tileLive f k = false →
            t.rd st (O.Y_1MS.at k.val) = s.rd st (O.Y_1MS.at k.val) ∧ (t.tile f k).learn = (s.tile f k).learn))) ∧
    (∀ mask : BitVec 16, s.Admitted slot st O.FREEZE_CTRL 4 →
      (∃ t, exec (.freezeTileCmd slot f mask) s = .next t ∧ (t.session slot).resp = { op := 2 } ∧
        { t with tiles := s.tiles, regs := s.regs, tr := s.tr } = s ∧ ∀ k : TileId,
        (mask.getLsbD k.val = true → bit (t.tile f k).frozen 1 = true) ∧
        (mask.getLsbD k.val = false → (t.tile f k).frozen = (s.tile f k).frozen)) ∧
      (∃ t, exec (.thawTileCmd slot f mask) s = .next t ∧ (t.session slot).resp = { op := 2 } ∧
        { t with tiles := s.tiles, regs := s.regs, tr := s.tr } = s ∧ ∀ k : TileId,
        (mask.getLsbD k.val = true → bit (t.tile f k).frozen 1 = false ∧ bit (t.tile f k).frozen 0 = bit (s.tile f k).frozen 0) ∧
        (mask.getLsbD k.val = false → (t.tile f k).frozen = (s.tile f k).frozen)) ∧
      (∃ t, exec (.restartLearningCmd slot f mask) s = .next t ∧ (t.session slot).resp = { op := 2 } ∧
        { t with tiles := s.tiles, regs := s.regs, tr := s.tr } = s ∧ ∀ k : TileId,
        (mask.getLsbD k.val = true → (s.descFor f (estGroup k)).isSome = true →
          t.rd st (O.DIS_COUNT.at k.val) = 0 ∧ (t.tile f k).goodRun = 0) ∧
        (mask.getLsbD k.val = false ∨ s.descFor f (estGroup k) = none → t.tile f k = s.tile f k))))

/-- Jobs (R246, R247, R254): an identifier not yet open takes the lowest free usable handle, its entry opened with the identifier, else that of
the oldest closed entry, which goes to the flush ring, else, as where the ring's bank is out of reach (assumption 106), it is charged to the
overflow entry; one already open answers its handle; 0 is
refused with result 3; closing an open one sets its entry closing and clears its bindings; a closed one is freed, and no other; finding answers
the handle, or result 2. That a close clears the hub's bindings is assumption 42. -/
def Obligations.JobsOpenAndClose : Prop :=
  ∀ (s : State) (slot : Slot),
    (∀ id : BitVec 64, s.Admitted slot hubSt O.JOB_OPEN 8 →
      (id = 0 → ∃ t, exec (.jobOpen slot id) s = .next t ∧ (t.session slot).opResult = 3 * 2 ^ 28 + 2 ^ 24 ∧
        (t.session slot).resp = { op := 2 } ∧ { t with tr := s.tr } = s) ∧
      (id ≠ 0 → id.toNat ∈ s.ledger.overflow → ∃ t, exec (.jobOpen slot id) s = .next t ∧
        (t.session slot).opResult = 2 ^ 28 + 2 ^ 24 + 0xFFF ∧ (t.session slot).resp = { op := 2 } ∧ { t with tr := s.tr } = s) ∧
      (id ≠ 0 → id.toNat ∉ s.ledger.overflow → s.findJob id.toNat = none →
        let free := (List.range 4095).find? (fun h =>
          !s.usedHandles.contains h && s.handleUsable h && s.bankState hubSt (entryBank h) == 0)
        let x := s.touch slot
        (∀ h, free = some h → ∃ t, exec (.jobOpen slot id) s = .next t ∧ (t.session slot).opResult = 2 ^ 24 + h ∧
          t.entry h 0 8 = id.toNat ∧ t.entryState h = 1 ∧ t.entry h 0x20 8 = s.time hubSt ∧ (t.session slot).resp = { op := 2 } ∧
          { t with mem := s.mem, poison := s.poison, tr := s.tr } = s) ∧
        (free = none → s.oldestClosed = none →
          exec (.jobOpen slot id) s = .next ((x.chargeOverflow slot id.toNat).respond slot { op := 2 })) ∧
        (∀ h, free = none → s.oldestClosed = some h →
          (s.ledger.count < 512 → s.bankReaches hubSt s.ringBank 0x2000 = true → exec (.jobOpen slot id) s =
            .next ((((x.evict h).newEntry h id.toNat).opDone slot 0 1 h).respond slot { op := 2 })) ∧
          (s.ledger.count < 512 → s.bankReaches hubSt s.ringBank 0x2000 = false → exec (.jobOpen slot id) s =
            .next (((x.knock hubSt s.ringBank 0x2000).chargeOverflow slot id.toNat).respond slot { op := 2 })) ∧
          (512 ≤ s.ledger.count → exec (.jobOpen slot id) s =
            .next (((x.raise F.LEDGER_FLUSH_FULL hubSt 0 0).chargeOverflow slot id.toNat).respond slot { op := 2 })))) ∧
      (∀ h, h < 4096 → id ≠ 0 → id.toNat ∉ s.ledger.overflow → s.findJob id.toNat = some h →
        ∃ t, exec (.jobOpen slot id) s = .next t ∧ (t.session slot).opResult = 2 ^ 24 + h ∧ (t.session slot).resp = { op := 2 } ∧
          (s.entryState h ≠ 3 → { t with tr := s.tr } = s) ∧
          { t with mem := s.mem, poison := s.poison, tr := s.tr } = s)) ∧
    (∀ id : BitVec 64, s.Admitted slot hubSt O.JOB_CLOSE 8 →
      (id.toNat ∈ s.ledger.overflow → ∃ t, exec (.jobClose slot id) s = .next t ∧ (t.session slot).opResult = 2 * 2 ^ 24 + 0xFFF ∧
        t.ledger.overflow = s.ledger.overflow.erase id.toNat ∧ { t with ledger := s.ledger, tr := s.tr } = s) ∧
      (∀ h, id.toNat ∉ s.ledger.overflow → h < 4096 → id ≠ 0 → s.findJob id.toNat = some h → s.entryState h = 1 →
        ∃ t, exec (.jobClose slot id) s = .next t ∧
        t.entryState h = 2 ∧ (t.session slot).opResult = 2 * 2 ^ 24 + h ∧
        (∀ p l, tblFind t.ledger.binds p = some l → h ≠ 0xFFFF → h ∉ l) ∧
        { t with ledger := s.ledger, ests := s.ests, tiles := s.tiles, mem := s.mem, poison := s.poison, tr := s.tr } = s) ∧
      (id.toNat ∉ s.ledger.overflow → (∀ h, s.findJob id.toNat = some h → id = 0 ∨ s.entryState h ≠ 1) →
        ∃ t, exec (.jobClose slot id) s = .next t ∧ (t.session slot).opResult = 2 * 2 ^ 28 + 2 * 2 ^ 24 ∧
        { t with tr := s.tr } = s)) ∧
    (∀ h : BitVec 16, s.Admitted slot hubSt O.JOB_FREE 2 →
      (h.toNat < 0xFFF → s.entryState h.toNat = 3 → ∃ t, exec (.jobFree slot h) s = .next t ∧ t.entryState h.toNat = 0 ∧
        t.entry h.toNat 0 8 = 0 ∧ (t.session slot).opResult = 3 * 2 ^ 24 + h.toNat ∧
        { t with mem := s.mem, poison := s.poison, tr := s.tr } = s) ∧
      (0xFFF ≤ h.toNat ∨ s.entryState h.toNat ≠ 3 → ∃ t, exec (.jobFree slot h) s = .next t ∧
        (t.session slot).opResult = 4 * 2 ^ 28 + 3 * 2 ^ 24 + h.toNat % 4096 ∧ { t with tr := s.tr } = s)) ∧
    (∀ id : BitVec 64, s.Admitted slot hubSt O.JOB_FIND 8 →
      (∀ h, h < 4096 → id ≠ 0 → s.findJob id.toNat = some h → ∃ t, exec (.jobFind slot id) s = .next t ∧
        (t.session slot).opResult = 4 * 2 ^ 24 + h ∧ { t with tr := s.tr } = s) ∧
      (id = 0 ∨ s.findJob id.toNat = none → ∃ t, exec (.jobFind slot id) s = .next t ∧
        (t.session slot).opResult = 2 * 2 ^ 28 + 4 * 2 ^ 24 ∧ { t with tr := s.tr } = s))

/-- The flush ring, bindings and adds (R243, R247-R249): FLUSH_ACK removes that many records and rejects more than are there; a binding of
a claimed partition to open handles is stored, and of an unclaimed one refused with the state abort code; a field station takes the hub's
binding; every LEDGER_PERIOD the add of whole µJ leaves only fractions in the buckets; the eighth reply closes an entry. -/
def Obligations.FlushesAndBindings : Prop :=
  ∀ (s : State) (slot : Slot) (f : FieldId),
    (∀ n : BitVec 16, s.Admitted slot hubSt O.FLUSH_ACK 2 →
      (n.toNat ≤ s.ledger.count → ∃ t, exec (.flushAck slot n) s = .next t ∧ t.ledger.count = s.ledger.count - n.toNat ∧
        t.ledger.head = (s.ledger.head + n.toNat) % 512 ∧ (t.session slot).resp = { op := 2 } ∧
        { t with ledger := s.ledger, tr := s.tr } = s) ∧
      (s.ledger.count < n.toNat → exec (.flushAck slot n) s =
        .next (((s.touch slot).respond slot { op := 2, abort := abortCode .value }).cfgRange hubSt))) ∧
    (∀ (p : PartId) (data : List Byte), let o := partObj 0x2A40 p
      s.Admitted slot hubSt o data.length → data.length = 32 →
      let open_ := ∀ h ∈ bindList data, h = 0xFFFF ∨ h = 0xFFF ∨ h < 0xFFF ∧ s.entryState h = 1
      (s.part p.val = none → exec (.bind slot p data) s = .next (s.turned slot hubSt o .state)) ∧
      (s.part p.val ≠ none → open_ →
        ∃ t, exec (.bind slot p data) s = .next t ∧ (t.session slot).resp = { op := 2 } ∧
          t.ledger.binds = putBind s.ledger.binds p.val (bindList data) ∧ { t with ledger := s.ledger, tr := s.tr } = s) ∧
      (s.part p.val ≠ none → ¬ open_ → exec (.bind slot p data) s = .next (s.turned slot hubSt o .value))) ∧
    (∀ p : PartId,
      (s.fieldCut f = false → ∃ t, exec (.bindingReceive f p) s = .next t ∧
        (t.estr f).binds = putBind (s.estr f).binds p.val (tblGet [] s.ledger.binds p.val) ∧ TblKept s.ests t.ests [f.val] ∧
        { t with ests := s.ests } = s) ∧
      (s.fieldCut f = true → exec (.bindingReceive f p) s = .next s)) ∧
    (let due := s.periodic (markKey 9 f.val) (fSt f) (s.rd (fSt f) O.LEDGER_PERIOD) 0;
      (s.fieldCut f = true ∨ due = false → exec (.ledgerAddIssue f) s = .next s) ∧
      (s.fieldCut f = false → due = true → tblRising (s.estr f).buckets = true → ∃ t, exec (.ledgerAddIssue f) s = .next t ∧
        (∀ h, tblGet {} (t.estr f).buckets h = ⟨(tblGet {} (s.estr f).buckets h).attr % 1024, (tblGet {} (s.estr f).buckets h).svc % 1024,
          (tblGet {} (s.estr f).buckets h).meas % 1024⟩) ∧
        { t with ests := s.ests, regs := s.regs, flt := s.flt, traces := s.traces, mem := s.mem, poison := s.poison, marks := s.marks } = s) ∧
    (∀ h : Fin 4096,
      let got := tblGet 0 s.ledger.replies h.val
      let ready := s.entryState h.val = 2 ∧ bit got f.val = false ∧ s.fieldCut f = false ∧ s.bankState hubSt (entryBank h.val) ≠ 2
      (¬ ready → exec (.flushReply f h) s = .next s) ∧
      (ready → ∃ t, exec (.flushReply f h) s = .next t ∧ tblFind (t.estr f).buckets h.val = none ∧
        (got + 2 ^ f.val = 0xFF → t.entryState h.val = 3 ∧ t.entry h.val 0x28 8 = s.time hubSt) ∧
        (got + 2 ^ f.val ≠ 0xFF → tblGet 0 t.ledger.replies h.val = got + 2 ^ f.val) ∧ TblKept s.ests t.ests [f.val] ∧
        { t with ests := s.ests, ledger := s.ledger, regs := s.regs, flt := s.flt, traces := s.traces, mem := s.mem, poison := s.poison } = s)))

/-! ### Budgets and issue rates (chapter 09) -/

/-- Partitions (R263, R286, R287): a claim that no case refuses takes its number, or the lowest free one, with its descriptor; a refused
one leaves only its code; a release frees the claim and unbinds its queues; a pace of 0 to 256 of a claimed partition is set with its
lapse, and lapses to 256 with PACE_LAPSE. CURD_CLEAR 1 waits for the next period. -/
def Obligations.PartitionsAreClaimed : Prop :=
  ∀ (s : State) (slot : Slot),
    (∀ d : List Byte, s.Admitted slot hubSt O.PART_CLAIM d.length →
      (d.length ≠ 32 → exec (.partClaim slot d) s = .next (s.turned slot hubSt O.PART_CLAIM .length)) ∧
      (d.length = 32 → s.claimCode d = 0 →
        let p := if descNat d 0 2 = 0xFFFF then s.freePart else descNat d 0 2
        ∃ t, exec (.partClaim slot d) s = .next t ∧ (t.session slot).partResult = 2 ^ 24 + p % 1024 ∧ (t.session slot).resp = { op := 2 } ∧
          t.part p = some { weight := descNat d 2 1, pmin := descNat d 4 4, pmax := descNat d 8 4, mask := descNat d 0x10 16 } ∧
          { t with budget := s.budget, tr := s.tr } = s) ∧
      (d.length = 32 → s.claimCode d ≠ 0 → ∃ t, exec (.partClaim slot d) s = .next t ∧ (t.session slot).partResult =
        s.claimCode d * 2 ^ 28 + 2 ^ 24 + (if descNat d 0 2 < 1024 then descNat d 0 2 else 0) ∧ (t.session slot).resp = { op := 2 } ∧
        { t with tr := s.tr } = s)) ∧
    (∀ n : BitVec 16, s.Admitted slot hubSt O.PART_RELEASE 2 →
      (s.part n.toNat = none → ∃ t, exec (.partRelease slot n) s = .next t ∧
        (t.session slot).partResult = 5 * 2 ^ 28 + 2 * 2 ^ 24 + n.toNat % 1024 ∧ { t with tr := s.tr } = s) ∧
      (s.part n.toNat ≠ none → ∃ t, exec (.partRelease slot n) s = .next t ∧ t.part n.toNat = none ∧
        (t.session slot).partResult = 2 * 2 ^ 24 + n.toNat % 1024 ∧ tblFind t.ledger.binds n.toNat = none ∧
        { t with tr := s.tr, budget := s.budget, ledger := s.ledger, ests := s.ests, tiles := s.tiles, arbs := s.arbs } = s)) ∧
    (∀ (p : PartId) (v : BitVec 16), s.Admitted slot hubSt (partObj 0x2B28 p) 2 →
      (∀ x, v.toNat ≤ 256 → s.part p.val = some x → ∃ t, exec (.pace slot p v) s = .next t ∧ (t.session slot).resp = { op := 2 } ∧
        t.part p.val = some { x with pace := v.toNat, lapse := s.time hubSt + s.rd hubSt O.PACE_TTL } ∧
        { t with budget := s.budget, arbs := s.arbs, tr := s.tr } = s) ∧
      (v.toNat ≤ 256 → s.part p.val = none → exec (.pace slot p v) s = .next ((s.turned slot hubSt (partObj 0x2B28 p) .state).noteFast slot)) ∧
      (256 < v.toNat → exec (.pace slot p v) s = .next ((s.turned slot hubSt (partObj 0x2B28 p) .value).noteFast slot))) ∧
    (∀ p : PartId, (∀ x, s.part p.val = some x → x.pace < 256 → x.lapse ≤ s.time hubSt →
        ∃ t, exec (.paceLapse p) s = .next t ∧ t.part p.val = some { x with pace := 256 } ∧
          t.flt = (s.raise F.PACE_LAPSE hubSt p.val 0).flt ∧
          { t with budget := s.budget, arbs := s.arbs, flt := s.flt, traces := s.traces } = s) ∧
      (¬ (∃ x, s.part p.val = some x ∧ x.pace < 256 ∧ x.lapse ≤ s.time hubSt) → exec (.paceLapse p) s = .next s)) ∧
    (∀ v : Byte, s.Admitted slot hubSt O.CURD_CLEAR 1 →
      (v.toNat ≤ 1 → ∃ t, exec (.curdClear slot v) s = .next t ∧ t.budget.curdClear = (s.budget.curdClear || v == 1) ∧
        (t.session slot).resp = { op := 2 } ∧ { t with budget := s.budget, tr := s.tr } = s) ∧
      (1 < v.toNat → exec (.curdClear slot v) s = .next (s.turned slot hubSt O.CURD_CLEAR .value)))

/-- The hub's period and predictions (R267, R268, R280, R283): once at each multiple of 10,000 ns of the hub's count the arbiter runs: the
die credit falls by 10,000 above DIE_PCONT and else rises by 1,000 to PEAK_TIME; a signature is watched and, where its key is found,
counted; an observation is learnt from once, when its time is over; a hint acts at its instant, a heavy one as a prediction of source 3, a
light one of source 4, and a type 4 ends the prediction (assumption 44 for what a hint displaces). -/
def Obligations.PeriodsAndPredictions : Prop :=
  ∀ (s : State) (f : FieldId) (k : TileId),
    (s.periodic (markKey 13 0) hubSt 10000 0 = false → exec .budgetArbiterPeriod s = .next s) ∧
    (s.periodic (markKey 13 0) hubSt 10000 0 = true → ∃ t, exec .budgetArbiterPeriod s = .next t ∧ t.rd hubSt O.DIE_CREDIT =
        (if s.rd hubSt O.DIE_PCONT < s.pDie then s.rd hubSt O.DIE_CREDIT - 10000
          else min (s.rd hubSt O.PEAK_TIME) (s.rd hubSt O.DIE_CREDIT + 1000)) ∧
      tblGet 0 t.marks (markKey 13 0) = s.time hubSt + 1 ∧
      t.budget.capFault = false ∧ t.budget.curdClear = false ∧ (t.tile f k).low = false ∧ t.wheels = s.wheels ∧ t.loops = s.loops ∧
      { t with budget := s.budget, ledger := s.ledger, tiles := s.tiles, arbs := s.arbs, regs := s.regs, flt := s.flt, traces := s.traces, mem := s.mem, poison := s.poison, moult := s.moult, marks := s.marks } = s) ∧
    ((s.tile f k).sigOut = none → exec (.signatureReceive f k) s = .next s) ∧
    (∀ key, (s.tile f k).sigOut = some key →
      (s.curdFind 1 key = none → ∃ t, exec (.signatureReceive f k) s = .next t ∧ (t.tile f k).sigOut = none ∧
        t.budget.obs.length = s.budget.obs.length + 1 ∧
        { t with tiles := s.tiles, budget := s.budget, regs := s.curdKnock.regs, flt := s.curdKnock.flt, traces := s.curdKnock.traces } = s.curdKnock) ∧
      (∀ n, s.curdFind 1 key = some n → ∃ t, exec (.signatureReceive f k) s = .next t ∧ (t.tile f k).sigOut = none ∧
        t.rd hubSt O.CURD_HITS = (s.rd hubSt O.CURD_HITS + 1) % 2 ^ 64 ∧
        { t with tiles := s.tiles, budget := s.budget, regs := s.regs, flt := s.flt, traces := s.traces, mem := s.mem, poison := s.poison, free := s.free } = s)) ∧
    (∀ o rest, s.budget.obs = o :: rest →
      (o.time + 100000 ≤ s.time hubSt → ∃ t, exec .curdLearn s = .next t ∧ t.budget.obs = rest ∧
        { t with budget := s.budget, mem := s.mem, poison := s.poison, regs := s.curdKnock.regs } = s.curdKnock) ∧
      (s.time hubSt < o.time + 100000 → exec .curdLearn s = .next s)) ∧
    (s.budget.obs = [] → exec .curdLearn s = .next s) ∧
    (let due := (s.tile f k).hintDue.find? (fun h => decide (hintAt h ≤ s.time (fSt f)));
      (∀ h, due = some h →
        let till := h.time + hintLead h.word + 1000000
        (hintType h.word = 1 → exec (.hintAct f k) s = .next ((s.putTile f k { s.tile f k with hintDue := (s.tile f k).hintDue.erase h
          }).phaseMark f k h.seen (h.word % 2 ^ 16))) ∧
        (hintType h.word ≠ 1 → ∃ t, exec (.hintAct f k) s = .next t ∧ (t.tile f k).hintDue = (s.tile f k).hintDue.erase h ∧
          (t.tile f k).hint = (if hintType h.word = 2 then some ⟨3, hintInt h.word, false, till⟩
            else if hintType h.word = 3 then some ⟨4, hintInt h.word, true, till⟩ else none) ∧
          TblKept s.tiles t.tiles [tileKey f k] ∧ { t with tiles := s.tiles } = s)) ∧
      (due = none → exec (.hintAct f k) s = .next s))

/-- Windows and codes of a field station (R56-R58, R257-R261, R266, R268, R273, R292): at each multiple of 1,000 ns of its count a tile
takes the code chosen for it, or 0 while a forced cause holds; 600 ns later the freeze of inputs empties the inbox, moves the field credit
and chooses the next words, a forced tile's being its forced zero; the hub's figures arrive in order; a silent hub raises ARB_STALE once;
each node's thermal candidate moves by its gain, once for each update, and is 0 while the unit has failed with no valid diode.
That a forced zero into a full crossing counts a stall is assumption 46. -/
def Obligations.WindowsChooseTheCodes : Prop :=
  ∀ (s : State) (f : FieldId),
    let st := fSt f
    (s.periodic (markKey 12 f.val) st 1000 0 = false → exec (.windowStart f) s = .next s) ∧
    (s.periodic (markKey 12 f.val) st 1000 0 = true → ∃ t, exec (.windowStart f) s = .next t ∧
      tblGet 0 t.marks (markKey 12 f.val) = s.time st + 1 ∧
      { t with tiles := s.tiles, arbs := s.arbs, regs := s.regs, flt := s.flt, traces := s.traces, mem := s.mem, poison := s.poison, marks := s.marks, tr := s.tr } = s ∧ ∀ k : TileId,
      (t.tile f k).prev = (if (s.forcedReason f k).isSome then 0 else (s.tile f k).next % 512) ∧
      (t.tile f k).codeN = (s.tile f k).codeN + 1 ∧ (t.tile f k).fence = (s.tile f k).fence) ∧
    (s.periodic (markKey 11 f.val) st 1000 600 = false → exec (.inputFreeze f) s = .next s) ∧
    (s.periodic (markKey 11 f.val) st 1000 600 = true →
      ((s.arb f).roomOn = true → exec (.inputFreeze f) s = .next ((s.mark (markKey 11 f.val) st).freezeInputs f)) ∧
      ((s.arb f).roomOn = false → ∃ t, exec (.inputFreeze f) s = .next t ∧ (t.arb f).inbox = [] ∧ (t.arb f).capDrop = false ∧
        t.rd st O.FR_CREDIT = (if s.railPhases (frRail f) * 40000 < s.rdRaw hubSt (0x2880 + f.val) 3
          then s.rd st O.FR_CREDIT - 1000 else min (s.rd hubSt O.PEAK_TIME) (s.rd st O.FR_CREDIT + 100)) ∧
        t.rd st O.C_PK ≤ 256 ∧ tblGet 0 t.marks (markKey 11 f.val) = s.time st + 1 ∧
        (∀ (k : TileId) r, s.forcedReason f k = some r → (t.tile f k).next = tokenWord 0 r false false 0) ∧
        { t with regs := s.regs, tiles := s.tiles, arbs := s.arbs, marks := s.marks } = s)) ∧
    (∀ k : TileId,
      ((s.forcedReason f k).isSome = false → exec (.forcedZero f k) s = .next s) ∧
      (∀ r, s.forcedReason f k = some r → ∃ t, exec (.forcedZero f k) s = .next t ∧ (t.tile f k).prev = 0 ∧
        (t.tile f k).next = tokenWord 0 r false false 0 ∧
        t.rd st (O.TOKEN_STALLS.at k.val) = (if 4 ≤ (s.tile f k).words.length then satAdd max32 (s.rd st (O.TOKEN_STALLS.at k.val)) 1
          else s.rd st (O.TOKEN_STALLS.at k.val)) ∧
        RegsKept s t [(st, O.TOKEN_STALLS.at k.val)] ∧ TblKept s.tiles t.tiles [tileKey f k] ∧ { t with regs := s.regs, tiles := s.tiles } = s)) ∧
    (∀ g rest, (s.arb f).sent = g :: rest → ∃ t, exec (.hubFigureReceive f) s = .next t ∧ (t.arb f).sent = rest ∧
      (t.arb f).inbox = (s.arb f).inbox ++ [g] ∧ (t.arb f).stale = ((s.arb f).stale && !g.period) ∧
      (g.period = true → t.rd st O.ARB_TIME = s.time st) ∧ RegsKept s t [(st, O.ARB_TIME)] ∧
      (g.period = false ∨ (s.arb f).stale = false → t.flt = s.flt) ∧ { t with regs := s.regs, arbs := s.arbs, flt := s.flt } = s) ∧
    ((s.arb f).sent = [] → exec (.hubFigureReceive f) s = .next s) ∧
    (s.rd st O.ARB_TIME + 100000 ≤ s.time st → (s.arb f).stale = false → ∃ t, exec (.arbStaleTimer f) s = .next t ∧
      (t.arb f).stale = true ∧ t.flt = (s.raise F.ARB_STALE st 0 0).flt ∧
      { t with arbs := s.arbs, flt := s.flt, traces := s.traces } = s) ∧
    (s.time st < s.rd st O.ARB_TIME + 100000 ∨ (s.arb f).stale = true → exec (.arbStaleTimer f) s = .next s) ∧
    ((s.therm f).fresh = false → exec (.thermalFiguresReceive f) s = .next s) ∧
    ((s.therm f).fresh = true → ∃ t, exec (.thermalFiguresReceive f) s = .next t ∧ (t.therm f).fresh = false ∧
      (∀ n, n < 19 → ((tblGet 256 (t.arb f).therm n : Nat) : Int) =
        if s.rd st O.UNIT_STATE = 2 ∧ (s.therm f).d0.valid = false ∧ (s.therm f).d1.valid = false then 0
        else clampInt 0 256 (((tblGet 256 (s.arb f).therm n : Nat) : Int) +
          rndTz (s.rd hubSt O.THERM_GAIN * (s.rdS hubSt O.THROTTLE_TEMP - s.rdS st (O.T_J.at n))) 64)) ∧
      { t with arbs := s.arbs, therms := s.therms } = s)

/-- Reservations and hints (R274-R278, R282-R285, R297): a turn-on that reserves joins the queue, or finds 8 waiting and ends with code 9;
the head is granted once the headroom covers it, and its domain ramps; INRUSH_TIMEOUT after a request became the head the make-room
ceiling starts with ROOM_FORCED; a reservation ends 100 µs after its domain is up, or when no turn-on of it is left; a full hint queue
loses its oldest word; predictions end with their life; a pre-position message is sent at its instant. -/
def Obligations.ReservationsAndHints : Prop :=
  ∀ (s : State) (slot : Slot) (f : FieldId) (k : TileId) (d : DomId),
    (let x := s.arb (domField d);
      let asks := (s.job (.domain d)).any (fun j => j.on && j.step == .reserving) && !x.queue.contains d.val && !x.granted.contains d.val;
      (asks = false → exec (.inrushRequest d) s = .next s) ∧
      (asks = true → x.queue.length < 8 → ∃ t, exec (.inrushRequest d) s = .next t ∧ (t.arb (domField d)).queue = x.queue ++ [d.val] ∧
        (t.arb (domField d)).headAt = (if x.queue = [] then s.time (fSt (domField d)) else x.headAt) ∧ { t with arbs := s.arbs } = s) ∧
      (∀ j, s.job (.domain d) = some j → asks = true → 8 ≤ x.queue.length → exec (.inrushRequest d) s = .next (s.closeJob j 9).drive)) ∧
    ((s.arb f).queue = [] → exec (.inrushGrant f) s = .next s ∧ exec (.inrushTimeoutExpire f) s = .next s) ∧
    (∀ n rest, (s.arb f).queue = n :: rest →
      let g : DomId := Fin.ofNat 64 n
      ((s.inrush g : Int) ≤ s.readHeadroom f →
        let u := (s.putArb f { s.arb f with
          queue := rest, headAt := s.headSince f rest, granted := (s.arb f).granted ++ [n], amounts := tblSet 0 (s.arb f).amounts n (s.inrush g)
          roomOn := false }).wr (fSt f) O.C_ROOM 256
        exec (.inrushGrant f) s = .next ((((u.putArb f { u.arb f with limit := u.coreLimit f }).setHeadroom f).rampDomain g).drive)) ∧
      (s.readHeadroom f < s.inrush g → exec (.inrushGrant f) s = .next s) ∧
      ((s.arb f).roomOn = false → (s.arb f).headAt + s.rd hubSt O.INRUSH_TIMEOUT ≤ s.time (fSt f) →
        ∃ t, exec (.inrushTimeoutExpire f) s = .next t ∧ (t.arb f).roomOn = true ∧
        t.rd (fSt f) O.ROOM_ACTS = satAdd max32 (s.rd (fSt f) O.ROOM_ACTS) 1 ∧ t.flt = (s.raise F.ROOM_FORCED (fSt f) n 0).flt ∧
        { t with regs := s.regs, arbs := s.arbs, flt := s.flt, traces := s.traces } = s) ∧
      ((s.arb f).roomOn = true ∨ s.time (fSt f) < (s.arb f).headAt + s.rd hubSt O.INRUSH_TIMEOUT →
        exec (.inrushTimeoutExpire f) s = .next s)) ∧
    (let up := (s.dstate d).isUp && decide (s.rd hubSt (O.ON_TIME.at d.val) + 100000 ≤ s.time hubSt);
      let gone := !(s.dstate d).isUp && !s.turningOn d;
      (d.val ∈ (s.arb (domField d)).granted → (up || gone) = true → ∃ t, exec (.reservationRelease d) s = .next t ∧
        d.val ∉ (t.arb (domField d)).granted ∧ tblFind (t.arb (domField d)).amounts d.val = none ∧ { t with arbs := s.arbs } = s) ∧
      (d.val ∉ (s.arb (domField d)).granted ∨ (up || gone) = false → exec (.reservationRelease d) s = .next s)) ∧
    (∀ w : BitVec 32, ((s.arb f).hints.length < 64 → ∃ t, exec (.hintReceive f k w) s = .next t ∧
        (t.arb f).hints = (s.arb f).hints ++ [⟨k.val, w.toNat, s.time (fSt f), s.curdSeen f k⟩] ∧ { t with arbs := s.arbs } = s) ∧
      (64 ≤ (s.arb f).hints.length → ∃ t, exec (.hintReceive f k w) s = .next t ∧
        (t.arb f).hints = (s.arb f).hints.drop 1 ++ [⟨k.val, w.toNat, s.time (fSt f), s.curdSeen f k⟩] ∧
        t.rd (fSt f) O.HINT_DROPS = satAdd max32 (s.rd (fSt f) O.HINT_DROPS) 1 ∧ { t with arbs := s.arbs, regs := s.regs } = s)) ∧
    (∃ t, exec (.hintExpire f k) s = .next t ∧ (t.tile f k).hint = (s.tile f k).hint.filter (fun q => decide (s.time (fSt f) < q.till)) ∧
      (t.tile f k).curd = (s.tile f k).curd.filter (fun q => decide (s.time (fSt f) < q.till)) ∧ { t with tiles := s.tiles } = s) ∧
    (s.time (fSt f) % 1000 ≠ 0 → exec (.posReqSend f k) s = .next s) ∧
    (s.time (fSt f) % 1000 = 0 →
      let due := (s.tile f k).pos.filter (fun m => decide (m.1 ≤ s.time (fSt f)))
      ∃ t, exec (.posReqSend f k) s = .next t ∧ (t.tile f k).posOut = (s.tile f k).posOut ++ due.map Prod.snd ∧
        (t.tile f k).pos = (s.tile f k).pos.filter (fun m => decide (s.time (fSt f) < m.1)) ∧
        (∀ m, due.getLast? = some m → t.rd (fSt f) (O.POS_REQ.at k.val) = m.2) ∧ RegsKept s t [(fSt f, O.POS_REQ.at k.val)] ∧
        TblKept s.tiles t.tiles [tileKey f k] ∧ { t with regs := s.regs, tiles := s.tiles } = s) ∧
    (∀ v : Byte, s.Admitted slot (fSt f) (O.THR_CLEAR.at k.val) 1 →
      (v.toNat ≤ 1 → ∃ t, exec (.thrClear slot f k v) s = .next t ∧ (t.tile f k).thrClear = ((s.tile f k).thrClear || v == 1) ∧
        (t.session slot).resp = { op := 2 } ∧ { t with tiles := s.tiles, tr := s.tr } = s) ∧
      (1 < v.toNat → exec (.thrClear slot f k v) s = .next (s.turned slot (fSt f) (O.THR_CLEAR.at k.val) .value)))

/-! ### The Elytron trip (chapter 10) -/

/-- The trip (R308-R315): a fire takes the trip to state 1, or keeps it locked, with its cause, time and count; when every domain is off it
waits in 2, or locks in 4 after the third restart of the window; a restart by rule or command needs the die cool, the wait over and, by
rule, no inhibit and no LOCKED, and the first by rule opens the window; the restart's end, the window's and the pending flag's follow. TCRIT is taken
within its limits and rejected outside. The waits across a reset are assumption 38, the window's earliest end assumption 78. -/
def Obligations.TheTripRuns : Prop :=
  ∀ (s : State) (slot : Slot),
    (s.trip.fires = [] → exec .elytronTrip s = .next s) ∧
    (∀ x rest, s.trip.fires = x :: rest →
      exec .elytronTrip s = .next ((s.putTrip { s.trip with fires := rest }).fireTrip x) ∧
      (s.seq.jobs = [] → s.seq.waiting = [] → ∃ t, exec .elytronTrip s = .next t ∧
        t.trip.state = (if s.trip.state = 4 then 4 else 1) ∧ t.trip.cause = x.cause ∧ t.trip.field = x.field ∧ t.trip.node = x.node ∧
        t.trip.last = some (s.time hubSt) ∧ t.trip.fires = rest ∧ t.rd hubSt O.TRIP_TIME = s.time hubSt ∧
        t.rd hubSt O.TRIP_TOTAL = satAdd max32 (s.rd hubSt O.TRIP_TOTAL) 1 ∧ t.engines = s.engines ∧ t.therms = s.therms ∧ t.groups = s.groups ∧
        t.net = s.net ∧ t.ledger = s.ledger ∧ t.memory = s.memory ∧ t.mem = s.mem ∧ t.supply = s.supply ∧ t.rst = s.rst)) ∧
    (let off := allDomains.all (fun d => (s.dstate d).isStopped);
      (s.trip.state = 1 → off = true →
        (s.trip.windowOpen = true → 3 ≤ s.rd hubSt O.AUTO_RESTARTS → ∃ t, exec .tripRampdownDone s = .next t ∧ t.trip.state = 4 ∧
          t.trip.locked = true ∧ t.flt = (s.raise F.TRIP_LOCKED hubSt 0 0).flt ∧
          { t with trip := s.trip, flt := s.flt, traces := s.traces } = s) ∧
        (s.trip.windowOpen = false ∨ s.rd hubSt O.AUTO_RESTARTS < 3 →
          exec .tripRampdownDone s = .next { s with trip := { s.trip with state := 2 } })) ∧
      (s.trip.state ≠ 1 ∨ off = false → exec .tripRampdownDone s = .next s)) ∧
    (let may := s.trip.state == 2 && !s.trip.locked && s.coolOk && s.waitOk && !s.tripInhibit;
      (may = true → exec .tripAutoRestart s = .next (State.beginRestart { s.wr hubSt O.AUTO_RESTARTS (min 3 (s.rd hubSt O.AUTO_RESTARTS + 1)) with
        trip := if s.trip.windowOpen then s.trip else { s.trip with windowOpen := true, windowStart := s.time hubSt } })) ∧
      (may = false → exec .tripAutoRestart s = .next s)) ∧
    (s.trip.state = 3 ∧ s.job .restart = none →
      exec .tripRestartComplete s = .next { s with trip := { s.trip with state := 0, set := [] } }) ∧
    (s.trip.state ≠ 3 ∨ s.job .restart ≠ none → exec .tripRestartComplete s = .next s) ∧
    (let due := s.trip.windowOpen && decide (570000000000 ≤ s.time hubSt - s.trip.windowStart + s.trip.windowPast);
      (due = true → ∃ t, exec .restartWindowClose s = .next t ∧ t.trip = { s.trip with windowOpen := false } ∧
        t.rd hubSt O.AUTO_RESTARTS = 0 ∧ RegsKept s t [(hubSt, O.AUTO_RESTARTS)] ∧ { t with trip := s.trip, regs := s.regs } = s) ∧
      (due = false → exec .restartWindowClose s = .next s)) ∧
    (let done := s.trip.pending && s.coolOk && decide (s.trip.resetAt + s.rd hubSt O.RESTART_WAIT * 1000000 ≤ s.time hubSt);
      (done = true → exec .pendingClear s = .next { s with trip := { s.trip with pending := false } }) ∧
      (done = false → exec .pendingClear s = .next s)) ∧
    (s.Admitted slot hubSt O.TRIP_CTRL 1 →
      ((s.trip.state = 2 ∨ s.trip.state = 4 ∨ s.trip.locked = true) → s.coolOk = true → s.waitOk = true →
        exec (.tripRestartCmd slot) s = .next ((s.touch slot).beginRestart.respond slot { op := 2 })) ∧
      (¬ ((s.trip.state = 2 ∨ s.trip.state = 4 ∨ s.trip.locked = true) ∧ s.coolOk = true ∧ s.waitOk = true) →
        exec (.tripRestartCmd slot) s = .next (s.turned slot hubSt O.TRIP_CTRL .state)) ∧
      (∃ t, exec (.tripInhibitSet slot) s = .next t ∧ t.trip = { s.trip with inhibit := true } ∧ (t.session slot).resp = { op := 2 } ∧
        { t with trip := s.trip, tr := s.tr } = s) ∧
      (∃ t, exec (.tripInhibitRemove slot) s = .next t ∧ t.trip = { s.trip with inhibit := false } ∧
        (t.session slot).resp = { op := 2 } ∧ { t with trip := s.trip, tr := s.tr } = s) ∧
      (∃ t, exec (.tripTest slot) s = .next t ∧ t.trip = { s.trip with fires := s.trip.fires ++ [⟨3, 0, 0, 0⟩] } ∧
        (t.session slot).resp = { op := 2 } ∧ { t with trip := s.trip, tr := s.tr } = s)) ∧
    (∀ v : BitVec 16, s.Admitted slot hubSt O.TCRIT 2 →
      (let ok := 5760 ≤ v.toInt ∧ v.toInt ≤ s.rdS hubSt O.TCRIT_CAP ∧ s.rdS hubSt O.THROTTLE_TEMP + 128 ≤ v.toInt ∧
          (∀ f : FieldId, s.rdS (fSt f) O.DERATE_TEMP + 64 ≤ v.toInt);
        (ok → ∃ t, exec (.tcrit slot v) s = .next t ∧ t.tcrit = v.toInt ∧
          (t.session slot).resp = { op := 2 } ∧ RegsKept s t [(hubSt, O.TCRIT)] ∧ { t with regs := s.regs, tr := s.tr } = s) ∧
        (¬ ok → exec (.tcrit slot v) s = .next (s.turned slot hubSt O.TCRIT .value))))

/-! ### Supplies and the sequencer (chapter 11) -/

/-- Requests to the sequencer (R322-R324, R336, R337): SEQ_ARM 1 arms, except while an intrusive instruction of the test access port stands
(R452), and 0 disarms; each of the six requests goes to the sequencer with its target, and while the sequencer is not armed a turn-on is
refused with result code 1, phase 5, and counted in REFUSALS.
The sequencer's waits and VIO18 (R318, R328, R331): the power-good of a ramping domain ends its turn-on and DOM_SS_TIMEOUT after its
clusters started latches it; STOP_DRAIN after its turn-off was accepted a domain falls; a rail turned off that reads below 50 mV stops its
Wheel; the loss of VIO18 ends the turn-ons and drops the conversions of its pins, and with a rail switching it stops every output (R439,
assumptions 71 and 105). -/
def Obligations.SequencerRequestsAndWaits : Prop :=
  (∀ (s : State) (slot : Slot),
    (∀ v : Byte, s.Admitted slot hubSt O.SEQ_ARM 1 →
      (v.toNat ≤ 1 → ∃ t, exec (.seqArm slot v) s = .next t ∧
        t.seq = { s.seq with armed := if v = 0 then false else if s.tapIntrusive then s.seq.armed else true } ∧
        t.rst = { s.rst with configured := s.rst.configured || v == 1 && !s.tapIntrusive } ∧
        (t.session slot).resp = { op := 2 } ∧ { t with seq := s.seq, rst := s.rst, tr := s.tr } = s) ∧
      (1 < v.toNat → exec (.seqArm slot v) s = .next (s.turned slot hubSt O.SEQ_ARM .value))) ∧
    (s.Admitted slot hubSt O.SEQ_REQ 4 →
      (∀ i t on, (i, t, on) ∈ [(Instr.dieOn slot, SeqTarget.die, true), (.dieOff slot, .die, false)] ∨
          (∃ d, (i, t, on) ∈ [(Instr.domainOn slot d, SeqTarget.domain d, true), (.domainOff slot d, .domain d, false)]) ∨
          (∃ f, (i, t, on) ∈ [(Instr.fieldOn slot f, SeqTarget.field f, true), (.fieldOff slot f, .field f, false)]) →
        exec i s = .next (((s.touch slot).submit t on (.session slot) false).1.drive.respond slot { op := 2 })) ∧
      (∀ d : DomId, s.seq.armed = false → s.seq.jobs = [] → s.seq.waiting = [] → ∃ t, exec (.domainOn slot d) s = .next t ∧
        (t.session slot).seqResult = 2 ^ 28 + 2 ^ 24 + 5 * 2 ^ 20 + d.val ∧
        t.rd hubSt O.REFUSALS = satAdd max32 (s.rd hubSt O.REFUSALS) 1 ∧ RegsKept s t [(hubSt, O.REFUSALS)] ∧
        { t with regs := s.regs, tr := s.tr } = s))) ∧
  (∀ (s : State) (f : FieldId) (d : DomId),
    (let ramps := (s.job (.domain d)).any (fun j => j.on && j.step == .ramping) && !isAux d;
      let late := (s.job (.domain d)).any (fun j => decide (j.since + s.rd hubSt O.DOM_SS_TIMEOUT ≤ s.time hubSt));
      let good := ((domClusters d).filter (s.taking (domField d))).all (s.clusterGood (domField d));
      (ramps = true → good = true → exec (.domainPowerGood d) s = .next (s.domainDone d).drive) ∧
      (ramps = false ∨ good = false → exec (.domainPowerGood d) s = .next s) ∧
      (ramps = true → late = true → exec (.domainStartTimeout d) s = .next (((((domClusters d).filter (s.taking (domField d))).foldl
        (fun x c => x.clusterStopped (domField d) c) s).raise F.DOM_START_FAIL hubSt d.val 0).latchDomain d F.DOM_START_FAIL).drive) ∧
      (ramps = false ∨ late = false → exec (.domainStartTimeout d) s = .next s)) ∧
    (s.drainDue d = false → exec (.stopDrainExpire d) s = .next s) ∧
    (s.drainDue d = true →
      (∀ j, s.job (.domain d) = some j → j.on = false →
        (j.step = .draining → exec (.stopDrainExpire d) s = .next ((s.setJob { j with step := .falling }).domainFall d).drive) ∧
        (j.step ≠ .draining → exec (.stopDrainExpire d) s = .next s)) ∧
      ((s.job (.domain d)).all SeqJob.on = true →
        (s.dstate d = .stopping → exec (.stopDrainExpire d) s = .next (s.domainFall d).drive) ∧
        (s.dstate d ≠ .stopping → exec (.stopDrainExpire d) s = .next s))) ∧
    (let w := fieldDomain f 7;
      (s.dstate w = .stopping → s.railLive (axRail f) = false → s.vFb (axRail f) < 50000000000 → exec (.auxRailDischarged f) s =
        .next (((s.setWState (.domain w) .stopped).judgeField f).drive)) ∧
      (s.dstate w ≠ .stopping ∨ s.railLive (axRail f) = true ∨ 50000000000 ≤ s.vFb (axRail f) → exec (.auxRailDischarged f) s = .next s)) ∧
    (s.wstate (.field f) = .stopping → s.railLive (frRail f) = false → s.vFb (frRail f) < 50000000000 →
      exec (.fieldRailDischarged f) s = .next (((s.setWState (.field f) .stopped).judgeDie).drive)) ∧
    (s.wstate (.field f) ≠ .stopping ∨ s.railLive (frRail f) = true ∨ 50000000000 ≤ s.vFb (frRail f) →
      exec (.fieldRailDischarged f) s = .next s) ∧
    (s.supply.vio18 = false → exec .vio18Loss s = .next s) ∧
    (let x : State := { s with supply := { s.supply with vio18 := false }, tap := {}, adcs := (s.adcs.map (fun (e : Nat × AdcRec) =>
        (e.1, e.2.pinsOff))).filter (fun e => decide (e.2 ≠ ({} : AdcRec))) };
      (s.supply.vio18 = true → (∀ r : RailId, s.railSwitching r = false) → exec .vio18Loss s = .next x.jobsUnpowered.drive) ∧
      (s.seq.jobs = [] → x.jobsUnpowered = x) ∧
      (∀ r : RailId, s.supply.vio18 = true → s.railSwitching r = true →
      let y : State := { x.jobsUnpowered.outputsOff with seq := { x.jobsUnpowered.outputsOff.seq with drains := [] } }
      exec .vio18Loss s = .next (((allFields.foldl State.zeroField y).raise F.SUP_VIO_LOST hubSt 0 0).drive))))

/-! ### Block resets and the test access port (chapters 12 and 17) -/

/-- Block resets (R346, R350, R358): a request that names no unit, finds a reset of higher level due, or whose unit does not accept it, is
refused with its result code in BLK_STATE; an accepted one resets the unit inside its closed Rind, and its self-test is then to come; the Rind
opens after it, and a block that fails it stays closed with BLK_FAIL. The test access port (R450-R453): an instruction that is not intrusive takes effect while it
is powered; an intrusive one disarms the sequencer, or acts as BYPASS and is refused while anything switches; a reset selects IDCODE; the
loopback takes its pin and, 100 µs later, its code is valid. What each reset spares is assumption 72, and the port's corners assumption 97. -/
def Obligations.BlockResetsAndTap : Prop :=
  ∀ (s : State) (slot : Slot),
    (s.Admitted slot hubSt O.BLK_CTRL 1 →
      let u := blkUnit (s.rd hubSt O.BLK_REQ)
      let higher := s.rst.held.isSome || s.flt.escWait != [] || s.moult.ops.any (fun o => match o with | .slotSeq _ _ => true | _ => false)
      (∀ n, (u = none → n = 2) → (∀ x, u = some x → (higher = true → n = 4) ∧ (higher = false → s.blkAccepts x = false ∧ n = 1)) →
        ∃ t, exec (.blockResetStart slot) s = .next t ∧ t.rd hubSt O.BLK_STATE = n ∧
          (t.session slot).resp = { op := 2, abort := abortCode .state } ∧ RegsKept s t [(hubSt, O.BLK_STATE)] ∧
          { t with regs := s.regs, tr := s.tr } = s) ∧
      (∀ x, u = some x → higher = false → s.blkAccepts x = true → exec (.blockResetStart slot) s =
        .next ((((s.touch slot).setBlk 1 0).resetUnit x).drive.respond slot { op := 2 })) ∧
      (∀ x, u = some x → s.unitClosed x = true → s.unitTested x = true → x ∉ s.rst.contained → blkIsCle x = false →
        exec (.rindOpenCmd slot) s = .next (((s.touch slot).openUnit x).respond slot { op := 2 })) ∧
      (u = none ∨ (∃ x, u = some x ∧ (s.unitClosed x = false ∨ s.unitTested x = false ∨ x ∈ s.rst.contained ∨ blkIsCle x = true)) →
        ∃ t, exec (.rindOpenCmd slot) s = .next t ∧
          t.rd hubSt O.BLK_STATE = (if u = none then 2 else s.rd hubSt O.BLK_STATE / 2 ^ 28 * 2 ^ 28 + 1) ∧
          (t.session slot).resp = { op := 2, abort := abortCode .state } ∧ { t with regs := s.regs, tr := s.tr } = s)) ∧
    (∀ (e : EngId) (f : FieldId) (q : AdcId) (x : TraceId), (s.resetUnit (.engine e)).unitClosed (.engine e) = true ∧
      ((s.resetUnit (.engine e)).eng e).images = [] ∧ (s.resetUnit (.adc f q)).unitClosed (.adc f q) = true ∧
      (s.resetUnit (.trace x)).unitClosed (.trace x) = true ∧ (s.resetUnit (.field f)).unitClosed (.field f) = true) ∧
    (∀ u : BlkUnit,
      let mine := blkUnit (s.rd hubSt O.BLK_REQ) = some u
      (u ∈ s.rst.testing →
        let x : State := { s with rst := { s.rst with testing := s.rst.testing.filter (· != u) } }
        exec (.blockSelfTestDone u true) s = .next (if mine then (x.passUnit u).setBlk 2 0 else x.passUnit u) ∧
        (∃ t, exec (.blockSelfTestDone u false) s = .next t ∧ t.flt = (s.raise F.BLK_FAIL hubSt 0 0).flt ∧ t.rst = x.rst ∧
          t.unitClosed u = s.unitClosed u ∧ (mine → t.rd hubSt O.BLK_STATE = 3 * 2 ^ 28 + 3) ∧ RegsKept s t [(hubSt, O.BLK_STATE)] ∧
          { t with regs := s.regs, flt := s.flt, traces := s.traces, rst := s.rst } = s)) ∧
      (∀ p, u ∉ s.rst.testing → exec (.blockSelfTestDone u p) s = .next s) ∧
      u ∈ (s.resetUnit u).rst.testing) ∧
    (∀ (f : FieldId) (q : AdcId), (s.passUnit (.adc f q)).unitClosed (.adc f q) = false) ∧
    (s.tapPowered = true →
      (∀ i k, (i, k) ∈ [(Instr.idcode, TapInstr.idcode), (.samplePreload none, .samplePreload), (.bypass, .bypass)] →
        exec i s = .next { s with tap := { s.tap with instr := k, refused := false } }) ∧
      (∀ c : BitVec 988, exec (.samplePreload (some c)) s =
          .next { s with tap := { s.tap with instr := .samplePreload, refused := false, cells := c.toNat } } ∧
        (s.tapQuiet = true → exec (.extest (some c)) s = .next { s with
          tap := { s.tap with instr := .extest, refused := false, cells := c.toNat }, seq := { s.seq with armed := false } }) ∧
        (s.tapQuiet = false → exec (.extest (some c)) s = .next { s with tap := { s.tap with instr := .bypass, refused := true } })) ∧
      (∀ i k, (i, k) ∈ [(Instr.extest none, TapInstr.extest), (.tapClamp, .clamp), (.highz, .highz), (.loopbackTest, .loopback)] →
        (s.tapQuiet = true → exec i s =
          .next { s with tap := { s.tap with instr := k, refused := false }, seq := { s.seq with armed := false } }) ∧
        (s.tapQuiet = false → exec i s = .next { s with tap := { s.tap with instr := .bypass, refused := true } })) ∧
      (s.tap.instr = .loopback →
        (∀ (pin : BitVec 9) (cur : Fin 4), exec (.loopbackUpdateDr pin cur) s = .next { s with tap := { s.tap with
          pin := pin.toNat, current := if cur = 3 then 0 else cur.val, valid := false
          code := if s.pinServed pin.toNat then s.tap.code else 0, since := s.time hubSt } }) ∧
        (∀ code : BitVec 12,
          (s.pinServed s.tap.pin = true → exec (.loopbackConversion code) s = .next { s with tap := { s.tap with
            code := code.toNat, valid := decide (s.tap.since + 100000 ≤ s.time hubSt) } }) ∧
          (s.pinServed s.tap.pin = false → exec (.loopbackConversion code) s = .next { s with tap := { s.tap with code := 0, valid := false } })))) ∧
    (s.tapPowered = false → ∀ (o : Option (BitVec 988)) i,
      i ∈ [Instr.idcode, .samplePreload o, .bypass, .extest o, .tapClamp, .highz, .loopbackTest] → exec i s = .next s) ∧
    (s.tapPowered = false ∨ s.tap.instr ≠ .loopback → ∀ pin cur code, exec (.loopbackUpdateDr pin cur) s = .next s ∧
      exec (.loopbackConversion code) s = .next s) ∧
    exec .tapReset s = .next { s with tap := {} }

/-! ### Resets and boot (chapter 12) -/

/-- Resets are taken (R311, R316, R317, R338, R341-R350): a system reset by pin or command, and a power-on reset, put everything but what the
level spares at its reset value, show their cause and level and count once; one met while a system reset stands is absorbed; AON's loss
resets and takes the backup domain with it where VBAK is absent; a core reset keeps the Wheels and takes the core down; the command needs the
arming, which lapses after 1 ms; the watchdog's end is a core reset with CORE_WDOG, and a kick starts it again; an error in critical state
acts as R345 says: one in the arbiter tables leaves the copy to take over at the next period (R431), and one of the collector or the
sequencer, for which no fault is named, shows a free RESET_FAULT. A system reset puts a code-0 word of reason 9 into every token crossing
(R347). The readings are assumptions 74, 76 and 107. -/
def Obligations.ResetsAreTaken : Prop :=
  ∀ (s : State) (slot : Slot),
    let sysOf (t : State) (cause : Nat) : Prop := t.rst.held = some 1 ∧ t.rd hubSt O.RESET_CAUSE = cause ∧ t.rd hubSt O.RESET_LEVEL = 1 ∧
      t.rd hubSt O.RESET_COUNT = satAdd max32 (s.rd hubSt O.RESET_COUNT) 1 ∧ t.wheels = [] ∧ t.engines = [] ∧ t.seq.armed = false ∧
      t.rst.coreUp = false ∧ t.pending = s.pending ∧ t.now = s.now
    (s.rst.held = none → s.supply.vio18 = true → s.supply.vstby = true → ∃ t, exec .resetPin s = .next t ∧ sysOf t 3 ∧
      t.rd hubSt O.RESET_FAULT = 0 ∧ (∀ (f : FieldId) (k : TileId), let u := t.tile f k
        u.waiting.getD (u.words.getLast?.getD 1) = tokenWord (s.window f) 9 true false 0 ∧ u.taken = (s.tile f k).taken)) ∧
    (∀ l, s.rst.held = some l → s.supply.vio18 = true → s.supply.vstby = true → ∃ t, exec .resetPin s = .next t ∧ t.rst.held = some l ∧
      t.rd hubSt O.RESET_COUNT = s.rd hubSt O.RESET_COUNT ∧ 3 ∈ t.rst.causes ∧ t.wheels = s.wheels ∧
      { t with regs := s.regs, rst := s.rst } = s) ∧
    (s.supply.vio18 = false ∨ s.supply.vstby = false → exec .resetPin s = .next s) ∧
    (s.Admitted slot hubSt O.RESET_CTRL 1 →
      let live := s.rst.armed && decide (s.time hubSt < s.rst.armedAt + 1000000)
      (live = true → s.supply.vstby = true → ∃ t, exec (.systemResetCmd slot) s = .next t ∧ sysOf t 4) ∧
      (live = true → s.rst.strapWait = false → ∃ t, exec (.coreResetCmd slot) s = .next t ∧ t.rst.coreUp = false ∧
        t.rst.held = none ∧ t.rd hubSt O.RESET_LEVEL = 2 ∧ t.rd hubSt O.RESET_CAUSE = 5 ∧ t.rst.armed = false ∧ t.wheels = s.wheels ∧
        t.rails = s.rails ∧ t.loops = s.loops ∧ t.mem = s.mem ∧ (t.session slot).resp = { op := 2 } ∧ t.phases = s.phases ∧
        t.convs = s.convs ∧ t.therms = s.therms ∧ t.seq = s.seq ∧ t.groups = s.groups ∧ t.supply = s.supply ∧ t.now = s.now ∧ t.pending = s.pending) ∧
      (live = true → exec (.coreResetCmd slot) s = .next (((s.touch slot).coreReset 5).respond slot { op := 2 })) ∧
      (live = false → ∀ i, i ∈ [Instr.systemResetCmd slot, .coreResetCmd slot] → exec i s = .next (s.turned slot hubSt O.RESET_CTRL .state))) ∧
    (∀ v : Byte, s.Admitted slot hubSt O.RESET_ARM 1 →
      (v.toNat ≤ 1 → ∃ t, exec (.resetArm slot v) s = .next t ∧ t.rst = (if v = 1 then { s.rst with armed := true, armedAt := s.time hubSt }
        else s.rst) ∧ (t.session slot).resp = { op := 2 } ∧ { t with rst := s.rst, tr := s.tr } = s) ∧
      (1 < v.toNat → exec (.resetArm slot v) s = .next (s.turned slot hubSt O.RESET_ARM .value))) ∧
    (s.rst.armedAt + 1000000 ≤ s.time hubSt → exec .resetArmExpire s = .next { s with rst := { s.rst with armed := false } }) ∧
    (s.time hubSt < s.rst.armedAt + 1000000 → exec .resetArmExpire s = .next s) ∧
    (∀ b : Bool, ∃ t, exec (.powerOnReset b) s = .next t ∧ t.rst.held = some 0 ∧
      (s.rst.held = none → t.rd hubSt O.RESET_CAUSE = (if b = true ∧ s.supply.vstby = true then 2 else 1)) ∧
      t.rd hubSt O.RESET_LEVEL = 0 ∧ t.now = 0 ∧ t.supply.vstby = true ∧ t.supply.backupValid = true ∧
      t.supply.aonOut = (b && s.supply.vstby) ∧
      (s.rst.held = none → s.supply.backupValid = true → t.rd hubSt O.RESET_COUNT = satAdd max32 (s.rd hubSt O.RESET_COUNT) 1) ∧
      (s.supply.backupValid = false → t.rd hubSt O.RESET_COUNT ≤ 1 ∧ t.supply.bakLost = true) ∧
      t.wheels = [] ∧ t.mem = [] ∧ t.pending = s.pending) ∧
    (∃ t, exec .vstbyLoss s = .next t ∧ t.supply.vstby = false ∧ t.supply.backupValid = (s.supply.backupValid && s.supply.vbak) ∧
      t.rst.held = some 0 ∧ t.wheels = [] ∧ t.pending = s.pending) ∧
    exec .vbakLoss s = .next { s with supply := { s.supply with vbak := false, backupValid := s.supply.backupValid && s.supply.vstby } } ∧
    exec .vbakReturn s = .next { s with supply := { s.supply with vbak := true } } ∧
    (s.supply.aonOut = false → exec .aonRange s =
      .next (({ s with supply := { s.supply with aonOut := true } } : State).raise F.AON_RANGE hubSt 0 0) ∧
      exec .aonInRange s = .next s) ∧
    (s.supply.aonOut = true → exec .aonRange s = .next s ∧ ∃ t, exec .aonInRange s = .next t ∧ t.supply = { s.supply with aonOut := false } ∧
      t.flt = (s.endCondition F.AON_RANGE hubSt 0).flt ∧ t.rst = (if s.rst.held = some 0 then { s.rst with heldAt := s.time hubSt } else s.rst) ∧
      { t with supply := s.supply, flt := s.flt, rst := s.rst } = s) ∧
    (let due := s.rst.wdogDue.any (fun u => decide (u ≤ s.time hubSt));
      (s.rst.held = none → due = true → exec .watchdogExpire s = .next ((s.coreReset 8).raise F.CORE_WDOG hubSt 0 0)) ∧
      (s.rst.held ≠ none ∨ due = false → exec .watchdogExpire s = .next s)) ∧
    (∀ v : Byte, s.Admitted slot hubSt O.WDOG_KICK 1 →
      (v.toNat ≤ 1 → ∃ t, exec (.wdogKick slot v) s = .next t ∧
        t.rst.wdogDue = (if v = 1 then some (s.time hubSt + s.rd hubSt O.WDOG_PERIOD) else s.rst.wdogDue) ∧
        (t.session slot).resp = { op := 2 } ∧ { t with rst := s.rst, tr := s.tr } = s) ∧
      (1 < v.toNat → exec (.wdogKick slot v) s = .next (s.turned slot hubSt O.WDOG_KICK .value))) ∧
    (s.rst.held = none →
      (∀ (e : EngId) (k : Fin 3) (m : Byte),
        (isCle e = true ∨ isSpare e = true → exec (.criticalError (.engine e k m)) s = .next (s.engineFails e (k.val + 1))) ∧
        (isCle e = false ∧ isSpare e = false → k ≠ 1 → exec (.criticalError (.engine e k m)) s = .next (s.generalError e m.toNat)) ∧
        (isCle e = false ∧ isSpare e = false → ∃ t, exec (.criticalError (.engine e 1 m)) s = .next t ∧
          (t.eng e).closed = true ∧ t.rd (engSt e) (engObj O.EG_FAIL_CAUSE e) = 2 ∧ t.wheels = s.wheels ∧ t.rails = s.rails ∧ t.loops = s.loops)) ∧
      (∀ f c, let x := s.raise F.CRIT_CLUSTER hubSt (gid f c) 0
        ((s.cstate f c).isOn = true → exec (.criticalError (.clusterRegs f c)) s =
          .next ((x.putLoop f c { x.loop f c with resetDue := true }).parkBegin f c .blockReset)) ∧
        ((s.cstate f c).isOn = false → exec (.criticalError (.clusterRegs f c)) s =
          .next ((x.resetCluster f c).drive))) ∧
      (s.rd hubSt O.MIRROR_STATE = 0 →
        (∃ t, exec (.criticalError (.arbiter true)) s = .next t ∧ t.rd hubSt O.MIRROR_STATE = 2 ∧
          t.budget = { s.budget with mirrorDue := true } ∧ t.flt = (s.raise F.CRIT_ARB hubSt 0 0).flt ∧ RegsKept s t [(hubSt, O.MIRROR_STATE)] ∧
          { t with regs := s.regs, flt := s.flt, traces := s.traces, budget := s.budget } = s) ∧
        (∃ t, exec (.criticalError (.arbiter false)) s = .next t ∧ t.rd hubSt O.MIRROR_STATE = 1 ∧
          t.flt = (s.raise F.MLT_MIRROR hubSt 0 0).flt ∧ RegsKept s t [(hubSt, O.MIRROR_STATE)] ∧
          { t with regs := s.regs, flt := s.flt, traces := s.traces } = s)) ∧
      (s.rd hubSt O.MIRROR_STATE ≠ 0 → exec (.criticalError (.arbiter false)) s = .next s ∧
        (s.supply.vstby = false → exec (.criticalError (.arbiter true)) s = .next s) ∧
        (s.supply.vstby = true → ∃ t, exec (.criticalError (.arbiter true)) s = .next t ∧ sysOf t 7 ∧ t.rd hubSt O.RESET_FAULT = F.CRIT_ARB)) ∧
      (s.supply.vstby = true → ∀ i, i ∈ [CritItem.collector, .sequencer] → ∃ t, exec (.criticalError i) s = .next t ∧ sysOf t 7)) ∧
    (s.rst.held ≠ none → ∀ i, exec (.criticalError i) s = .next s) ∧
    (s.budget.mirrorDue = true → s.periodic (markKey 13 0) hubSt 10000 0 = true → ∃ t, exec .budgetArbiterPeriod s = .next t ∧
      t.rd hubSt O.MIRROR_STATE = 1 ∧ t.rd hubSt O.MIRROR_TAKEOVERS = satAdd max32 (s.rd hubSt O.MIRROR_TAKEOVERS) 1 ∧
      t.budget.mirrorDue = false ∧ t.budget.parts = s.budget.copyParts ∧ t.ledger.binds = s.budget.copyBinds ∧
      { t with budget := s.budget, ledger := s.ledger, tiles := s.tiles, arbs := s.arbs, regs := s.regs, flt := s.flt, traces := s.traces, mem := s.mem, poison := s.poison, moult := s.moult, marks := s.marks } = s) ∧
    (s.rd hubSt O.MIRROR_STATE = 1 → ∃ t, exec .mirrorRefillDone s = .next t ∧ t.rd hubSt O.MIRROR_STATE = 0 ∧
      t.flt = (s.endCondition F.MLT_MIRROR hubSt 0).flt ∧ { t with regs := s.regs, flt := s.flt } = s) ∧
    (s.rd hubSt O.MIRROR_STATE ≠ 1 → exec .mirrorRefillDone s = .next s)

/-- Release and boot (R341, R347, R348, R351-R356, R423, R440, R447): a release waits 1 ms of AON in range after a power-on reset and 100 µs
after a system reset; with VIO18 it loads the options, without it the straps wait; RESET_RELEASE takes the count; an image that fails its
checks fails its source, a good one starts firmware in stage 4, and the core is up when firmware is ready; a clock that is good sets its
bit, one given up after 1 ms raises CLK_GOOD_TIMEOUT, but for a REFCLK that was good before; REFCLK's loss clears bit 0. The readings are assumption 75; hash and
signature are opaque (assumption 80). -/
def Obligations.ReleaseAndBoot : Prop :=
  ∀ (s : State) (straps : BitVec 4) (o0 o1 : Option (BitVec 32)),
    (let ready := s.rst.held.isSome && s.supply.vstby && decide (s.rst.heldAt + (if s.rst.held = some 0 then 1000000 else 100000) ≤ s.time hubSt)
        && !(s.rst.held == some 0 && s.supply.aonOut);
      (ready = true → s.supply.vio18 = false → ∃ t, exec (.resetRelease straps o0 o1) s = .next t ∧ t.rst.held = none ∧
        t.rst.strapWait = true ∧ t.rst.releasedAt = s.time hubSt ∧ t.rd hubSt O.RESET_RELEASE = s.time hubSt ∧
        RegsKept s t [(hubSt, O.RESET_RELEASE)] ∧ { t with regs := s.regs, rst := s.rst } = s) ∧
      (ready = true → s.supply.vio18 = true → ∃ t, exec (.resetRelease straps o0 o1) s = .next t ∧ t.rst.held = none ∧
        t.rst.strapWait = false ∧ t.rd hubSt O.RESET_RELEASE = s.time hubSt ∧ t.rd hubSt O.STRAPS = straps.toNat ∧
        t.rst.wdogDue = some (s.time hubSt + 2000000000) ∧ t.rst.coreUp = false ∧ t.wheels = s.wheels ∧
        { t with regs := s.regs, rst := s.rst, flt := s.flt, traces := s.traces } = s) ∧
      (ready = false → exec (.resetRelease straps o0 o1) s = .next s)) ∧
    (s.supply.vio18 = true → exec (.vio18Present straps o0 o1) s = .next s) ∧
    (s.supply.vio18 = false →
      (s.rst.strapWait = false → ∃ t, exec (.vio18Present straps o0 o1) s = .next t ∧ t.supply.vio18 = true ∧
        { t with supply := s.supply, flt := s.flt } = s) ∧
      (s.rst.strapWait = true → ∃ t, exec (.vio18Present straps o0 o1) s = .next t ∧ t.supply.vio18 = true ∧ t.rst.strapWait = false ∧
        t.rd hubSt O.STRAPS = straps.toNat ∧ t.rst.coreUp = false ∧ t.wheels = s.wheels ∧
        { t with supply := s.supply, regs := s.regs, rst := s.rst, flt := s.flt, traces := s.traces } = s)) ∧
    (s.rst.held = none → s.rst.releasedAt + s.rd hubSt O.RST_STRETCH ≤ s.time hubSt →
      exec .resetStretchEnd s = .next { s with rst := { s.rst with stretched := true } }) ∧
    (s.rst.held ≠ none ∨ s.time hubSt < s.rst.releasedAt + s.rd hubSt O.RST_STRETCH → exec .resetStretchEnd s = .next s) ∧
    (∀ a : Bool, s.rst.boot.stage ≠ 2 → exec (.bootSourceDone a) s = .next s) ∧
    (∀ a : Bool, s.rst.boot.stage = 2 →
      let b := s.rst.boot
      let img := if b.cur = 2 then s.moult.otpImage else s.bankImage b.cur
      let err := if b.cur = 2 then (if img = [] then 3 else s.oparnError img 1 none)
        else if a = false ∨ s.pinsLive = false then 7 else if s.bankErased b.cur = true then 3 else s.oparnError img 1 none
      (err ≠ 0 → exec (.bootSourceDone a) s = .next (s.sourceFails err)) ∧
      (err = 0 → b.cur = 2 → ∃ t, exec (.bootSourceDone a) s = .next t ∧ t.wheels = s.wheels ∧ t.rst.boot.stage = 4 ∧
        t.rd hubSt O.ACTIVE_BANK = 2 ∧ t.rd hubSt O.CONFIRMED = 1 ∧ t.rst.held = s.rst.held ∧
        { t with rst := s.rst, regs := s.regs, moult := s.moult, manifest := s.manifest, flt := s.flt, traces := s.traces, mem := s.mem, poison := s.poison } = s) ∧
      (err = 0 → b.cur ≠ 2 → (s.bankConfirm b.cur ≠ 0 ∧ b.fallback = false ∧ 2 ≤ s.rd hubSt O.TRIAL_BOOTS →
          exec (.bootSourceDone a) s = .next (s.revertBank b.cur)) ∧
        (¬ (s.bankConfirm b.cur ≠ 0 ∧ b.fallback = false ∧ 2 ≤ s.rd hubSt O.TRIAL_BOOTS) → exec (.bootSourceDone a) s =
          .next (s.startFirmware img b.cur (s.bankSeq b.cur) (s.bankConfirm b.cur == 0))))) ∧
    (s.rst.held = none → s.rst.boot.stage = 4 → exec .firmwareReady s = .next { s with rst := { s.rst with coreUp := true } }) ∧
    (s.rst.held ≠ none ∨ s.rst.boot.stage ≠ 4 → exec .firmwareReady s = .next s) ∧
    (∀ n : Fin 6,
      let waits := s.rst.held.isNone && !s.rst.strapWait && !bit s.rst.clkStuck n.val && !bit (s.rd hubSt O.CLK_GOOD) n.val
        && (n != 0 || s.bootOpts.2.1)
      let goes := waits && (n != 0 || s.supply.vio18)
      let late := (n == 5 || decide (max s.rst.releasedAt (tblGet 0 s.rst.clkFrom n.val) + 1000000 ≤ s.time hubSt)) && (n != 0 || !s.rst.refSeen)
      (goes = true → s.rst.boot.stage ≠ 1 → ∃ t, exec (.clockGood n) s = .next t ∧ bit (t.rd hubSt O.CLK_GOOD) n.val = true ∧
        t.rst = { s.rst with refSeen := s.rst.refSeen || n == 0 } ∧ RegsKept s t [(hubSt, O.CLK_GOOD)] ∧
        { t with regs := s.regs, rst := s.rst } = s) ∧
      (goes = true → exec (.clockGood n) s = .next (State.tryBoot { s.wr hubSt O.CLK_GOOD (s.rd hubSt O.CLK_GOOD + 2 ^ n.val) with
        rst := { s.rst with refSeen := s.rst.refSeen || n == 0 } })) ∧
      (goes = false → exec (.clockGood n) s = .next s) ∧
      (waits = true → late = true → s.rst.boot.stage ≠ 1 → ∃ t, exec (.clkGoodTimeout n) s = .next t ∧ bit t.rst.clkStuck n.val = true ∧
        t.flt = (s.raise F.CLK_GOOD_TIMEOUT hubSt n.val 0).flt ∧ { t with rst := s.rst, flt := s.flt, traces := s.traces } = s) ∧
      (waits = true → late = true → exec (.clkGoodTimeout n) s = .next (State.tryBoot (State.raise { s with
        rst := { s.rst with clkStuck := s.rst.clkStuck + 2 ^ n.val } } F.CLK_GOOD_TIMEOUT hubSt n.val 0))) ∧
      (waits = false ∨ late = false → exec (.clkGoodTimeout n) s = .next s)) ∧
    (bit (s.rd hubSt O.CLK_GOOD) 0 = true → ∃ t, exec .refclkLoss s = .next t ∧ bit (t.rd hubSt O.CLK_GOOD) 0 = false ∧
      RegsKept s t [(hubSt, O.CLK_GOOD)] ∧ { t with regs := s.regs } = s) ∧
    (bit (s.rd hubSt O.CLK_GOOD) 0 = false → exec .refclkLoss s = .next s)

/-! ### Scratchpads and paging (chapter 14) -/

/-- Accesses (R382, R385, R387, R388, R390): an access that is not aligned, past the end, or to a failed bank ends with an error; one to a
bank in repair gets a repair response; one by an agent that is neither the owner nor the agent of port B is counted in OWNER_REFUSED with
MEM_OWNER; an admitted read answers the bytes, a write stores them, an add and a swap answer the old value; where two ports meet at a word of
a dual-port bank the later one is BUSY, and a read that a write overlaps answers a free value (R387 calls the data undefined); a read of a
poisoned or uncorrectable word is an error, on which the bank's owner acts, a corrected one is counted; a read that waited behind an atomic
access answers the bytes, with BUSY. The order of the checks is assumption 94. -/
def Obligations.MemoryAccesses : Prop :=
  ∀ (s : State) (pad : PadRef) (agent : BitVec 16) (addr : BitVec 32) (d : Option (BitVec 64)) (v : BitVec 32) (w : BitVec 64)
    (clash : Clash) (err : WordErr),
    let st := padSt pad; let a := addr.toNat; let b := a / bankSize st
    let mine := agent.toNat / 2 ^ 12 ≠ 0 ∧ (agent.toNat = s.rd st (O.OWNER.at b) ∨ (dualBank st b = true ∧ agent.toNat = s.rd st (O.PORTB_AGENT.at b)))
    let late := dualBank st b && (clash == .later || clash == .waited)
    let x := if late then s.inc32 st (O.BUSY_COUNT.at b) else s
    let y := match err with | .corrected col => x.corrected st b col.val (a % bankSize st / 8) | _ => x
    let bad := s.poisoned st a = true ∨ err = .uncorrectable
    (∀ i n, (i, n) ∈ [(Instr.memoryAccess pad agent addr true d clash err, 8), (.memoryAccess pad agent addr false d clash err, 4),
        (.add32 pad agent addr v clash err, 4), (.swap32 pad agent addr v clash err, 4), (.add64 pad agent addr w clash err, 8),
        (.swap64 pad agent addr w clash err, 8)] →
      (a % n ≠ 0 ∨ padLimit st < a + n → exec i s = .next (s.memReply 1 0 false)) ∧
      (a % n = 0 → a + n ≤ padLimit st →
        (s.bankState st b = 3 → exec i s = .next (s.memReply 1 0 false)) ∧
        (s.bankState st b = 2 → exec i s = .next (s.memReply 2 0 false)) ∧
        (s.bankState st b ≠ 3 → s.bankState st b ≠ 2 → ¬ mine →
          exec i s = .next (((s.inc32 st O.OWNER_REFUSED).raise F.MEM_OWNER st b 0).memReply 1 0 false)))) ∧
    (∀ i n old new, (i, n, old, new) ∈ [(Instr.add32 pad agent addr v clash err, 4, s.padNat st a 4, (s.padNat st a 4 + v.toNat) % 2 ^ 32),
        (.swap32 pad agent addr v clash err, 4, s.padNat st a 4, v.toNat),
        (.add64 pad agent addr w clash err, 8, s.padNat st a 8, (s.padNat st a 8 + w.toNat) % 2 ^ 64),
        (.swap64 pad agent addr w clash err, 8, s.padNat st a 8, w.toNat)] →
      a % n = 0 → a + n ≤ padLimit st → s.bankState st b ≠ 3 → s.bankState st b ≠ 2 → mine →
      (bad → ∃ t, exec i s = .next t ∧ t.memory.resp = ⟨1, 0, late⟩ ∧
        { t with memory := s.memory, regs := s.regs, flt := s.flt, traces := s.traces, tiles := s.tiles, mem := s.mem, poison := s.poison } = s) ∧
      (¬ bad → ∃ t, exec i s = .next t ∧ t.padNat st a n = new ∧ t.memory.resp = ⟨0, old, late⟩ ∧
        TblKept s.mem t.mem ((List.range n).map (fun k => padKey st (a + k))) ∧ { t with mem := s.mem, memory := s.memory } = y)) ∧
    (∀ wide n, (wide, n) ∈ [(true, 8), (false, 4)] → a % n = 0 → a + n ≤ padLimit st → s.bankState st b ≠ 3 → s.bankState st b ≠ 2 → mine →
      (bad → ∃ t, exec (.memoryAccess pad agent addr wide none clash err) s = .next t ∧ t.memory.resp = ⟨1, 0, late⟩ ∧
        { t with memory := s.memory, regs := s.regs, flt := s.flt, traces := s.traces, tiles := s.tiles, mem := s.mem, poison := s.poison } = s) ∧
      (¬ bad → dualBank st b = false ∨ clash = .none ∨ clash = .waited →
        exec (.memoryAccess pad agent addr wide none clash err) s = .next (y.memReply 0 (s.padNat st a n) late)) ∧
      (¬ bad → dualBank st b = true → clash = .first ∨ clash = .later → ∃ t u, exec (.memoryAccess pad agent addr wide none clash err) s = .next t ∧
        u < 2 ^ (8 * n) ∧ t.memory.resp = ⟨0, u, late⟩ ∧ { t with memory := s.memory, free := s.free } = y) ∧
      (bad → wide = false → ∃ t, exec (.memoryAccess pad agent addr wide (some w) clash err) s = .next t ∧ t.memory.resp = ⟨1, 0, late⟩ ∧
        { t with memory := s.memory, regs := s.regs, flt := s.flt, traces := s.traces, tiles := s.tiles, mem := s.mem, poison := s.poison } = s) ∧
      (¬ bad ∨ wide = true → ∃ t, exec (.memoryAccess pad agent addr wide (some w) clash err) s = .next t ∧
        t.padNat st a n = w.toNat % 2 ^ (8 * n) ∧ t.memory.resp = ⟨0, 0, late⟩ ∧ (wide = true → t.poisoned st a = false) ∧
        TblKept s.mem t.mem ((List.range n).map (fun k => padKey st (a + k))) ∧
        { t with mem := s.mem, memory := s.memory, poison := s.poison } = if wide then x else y)) ∧
    (∀ k : State, k = s → s.poisoned st a = true → a % 8 = 0 → a + 8 ≤ padLimit st → s.bankState st b ≠ 3 → s.bankState st b ≠ 2 → mine →
      exec (.memoryAccess pad agent addr true none clash err) k = .next (((x.raise F.MEM_UNCORR st b 0).ownerActs st b (a / 8 * 8)).memReply 1 0 late))

/-- Owners, repair, paging and the host tier (R384-R398): an owner that R384 allows is written with its time, to a bank in service that its
owner does not hold; a scrub pass counts its errors, once in each SCRUB_PERIOD; a repair takes the lowest free spare and holds the bank in
BANK_STATE 2 until the rebuild's end gives it back, or fails it, and one that finds none raises MEM_NO_SPARE; a context lost is counted with
MEM_PAGE_LOST; a tile's snapshot that the store has room for enters it byte by byte, and one that it has not ends with an error and moves
nothing; a host tier is set up with its size once host software has set its base, and a size of 0 ends it; a dump needs a trace that is done
and a host tier. The readings are assumptions 94, 95 and 106. -/
def Obligations.BanksAreOwnedAndRepaired : Prop :=
  ∀ (s : State) (slot : Slot) (pad : PadRef) (b : Fin 64), let st := padSt pad
    (∀ w : BitVec 16, s.Admitted slot st (O.OWNER.at b.val) 2 → let v := w.toNat - bits w.toNat 11 8 * 2 ^ 8
      let busy := s.bankState st b.val ≠ 0 ∨ s.ownerHolds st b.val = true ∨
        (dualBank st b.val = true ∧ v = s.rd st (O.PORTB_AGENT.at b.val) ∧ v ≠ 0)
      (busy → exec (.owner slot pad b w) s = .next (s.turned slot st (O.OWNER.at b.val) .state)) ∧
      (¬ busy → ownerOk st v true = true → ∃ t, exec (.owner slot pad b w) s = .next t ∧ t.rd st (O.OWNER.at b.val) = v ∧
        t.rd st (O.HANDOVER_TIME.at b.val) = s.time st ∧ (t.session slot).resp = { op := 2 } ∧
        RegsKept s t [(st, O.OWNER.at b.val), (st, O.HANDOVER_TIME.at b.val)] ∧ { t with regs := s.regs, tr := s.tr } = s) ∧
      (¬ busy → ownerOk st v true = false → exec (.owner slot pad b w) s = .next (s.turned slot st (O.OWNER.at b.val) .value))) ∧
    (∀ errs uncorr,
      let key := markKey 16 (st * 64 + b.val)
      let period := s.time st / s.rd st O.SCRUB_PERIOD + 1
      let due := b.val < bankCount st ∧ s.bankState st b.val = 0 ∧ tblGet 0 s.marks key ≠ period
      (¬ due → exec (.scrubPass pad b errs uncorr) s = .next s) ∧
      (due → ∃ t, exec (.scrubPass pad b errs uncorr) s = .next t ∧ t.marks = tblSet 0 s.marks key period ∧
        { t with marks := s.marks, memory := s.memory, regs := s.regs, flt := s.flt, traces := s.traces, tiles := s.tiles, mem := s.mem, poison := s.poison } = s) ∧
      (due → 1 < s.rd st O.COL_THRESH → ∀ (col : Fin 72) (w : BitVec 12),
        8 * w.toNat < bankSize st → ∃ t, exec (.scrubPass pad b [⟨col, w⟩] []) s = .next t ∧
          t.rd st (O.BK_CORR_COUNT.at b.val) = satAdd max32 (s.rd st (O.BK_CORR_COUNT.at b.val)) 1 ∧
          t.rd st O.CORR_TOTAL = (s.rd st O.CORR_TOTAL + 1) % 2 ^ 64 ∧ t.rd st (O.LAST_ERR.at b.val) = lastErrWord col.val false w.toNat ∧
          { t with regs := s.regs, marks := s.marks } = s)) ∧
    (∀ w : BitVec 16, s.Admitted slot st (O.REPAIR_CTRL.at b.val) 2 →
      let ok := bits w.toNat 15 8 = 1 ∧ bits w.toNat 7 0 < 72
      (s.bankState st b.val ≠ 0 ∨ (¬ ok ∧ s.freeSpare st b.val = none) →
        exec (.repairCtrl slot pad b w) s = .next (s.turned slot st (O.REPAIR_CTRL.at b.val) .state)) ∧
      (s.bankState st b.val = 0 → s.freeSpare st b.val = none → ok → exec (.repairCtrl slot pad b w) s = .next
        (((s.touch slot).raise F.MEM_NO_SPARE st b.val 0).refuse slot 2 st (O.REPAIR_CTRL.at b.val).index (O.REPAIR_CTRL.at b.val).sub .state)) ∧
      (∀ k, s.bankState st b.val = 0 → s.freeSpare st b.val = some k →
        (ok → ∃ t, exec (.repairCtrl slot pad b w) s = .next t ∧
          t = ((s.touch slot).startRepair st b.val k (bits w.toNat 7 0)).respond slot { op := 2 } ∧ t.bankState st b.val = 2) ∧
        (¬ ok → exec (.repairCtrl slot pad b w) s = .next (s.turned slot st (O.REPAIR_CTRL.at b.val) .value)))) ∧
    (∀ uncorr e,
      (bankCount st ≤ b.val ∨ s.bankState st b.val ≠ 2 → exec (.repairHandoverEnd pad b uncorr e) s = .next s) ∧
      (b.val < bankCount st → s.bankState st b.val = 2 →
        (∃ t, exec (.repairHandoverEnd pad b uncorr e) s = .next t ∧ t.bankState st b.val = (if e then 3 else 0) ∧
          { t with memory := s.memory, regs := s.regs, flt := s.flt, traces := s.traces, tiles := s.tiles, mem := s.mem, poison := s.poison } = s) ∧
        (s.rd st (O.OWNER.at b.val) / 2 ^ 12 ≠ 2 →
          (∃ t, exec (.repairHandoverEnd pad b [] false) s = .next t ∧ t.bankState st b.val = 0 ∧
            t.rd st (O.HANDOVER_TIME.at b.val) = s.time st ∧ { t with regs := s.regs } = s) ∧
          (s.memory.ctxs = [] → ∃ t, exec (.repairHandoverEnd pad b [] true) s = .next t ∧ t.bankState st b.val = 3 ∧
            t.flt = (s.raise F.MEM_BANK_FAIL st b.val 0).flt ∧ { t with regs := s.regs, flt := s.flt, traces := s.traces } = s)))) ∧
    (∀ (k : Fin 6) (id addr len : BitVec 32) dest,
      (s.findCtx st k.val id.toNat = none → exec (.pageMoveDone pad k id addr len dest .lost) s = .next s) ∧
      (∀ x, s.findCtx st k.val id.toNat = some x →
        exec (.pageMoveDone pad k id addr len dest .lost) s = .next (s.loseCtx st x)) ∧
      (∀ x, (s.loseCtx st x).memory.ctxs.contains x = false) ∧
      (∃ t, exec (.pageMoveDone pad k id addr len dest .error) s = .next t ∧
        t.memory.dumps = (if k = 5 then s.memory.dumps.filter (· != id.toNat) else s.memory.dumps) ∧ t.memory.resp = ⟨1, 0, false⟩ ∧ { t with memory := s.memory } = s) ∧
      exec (.pageMoveDone pad k id addr len dest .done) s = .next (s.pageDone pad k.val id.toNat addr.toNat len.toNat dest)) ∧
    (∀ (f : FieldId) (id addr len : BitVec 32), let fs := fSt f; let snap := (s.tile f (Fin.ofNat 16 id.toNat)).snap
      pad = .field f → s.memory.ctxs = [] → s.storeWaits fs addr.toNat len.toNat = false → snap.length = len.toNat →
      (len.toNat ≤ s.storeFree fs → s.storeFits fs addr.toNat len.toNat = true →
        ∃ t, exec (.pageMoveDone pad 2 id addr len (.field f) .done) s = .next t ∧
          t.memory = { s.memory with ctxs := [⟨2, .field f, id.toNat, addr.toNat, len.toNat, []⟩] } ∧
          (∀ k < len.toNat, t.padNat fs (addr.toNat + k) 1 = snap.getD k 0 % 256) ∧
          t.rd fs O.PAGE_MOVES = (s.rd fs O.PAGE_MOVES + 1) % 2 ^ 64 ∧ RegsKept s t [(fs, O.PAGE_MOVES)] ∧
          TblKept s.mem t.mem ((List.range len.toNat).map (fun k => padKey fs (addr.toNat + k))) ∧
          { t with regs := s.regs, mem := s.mem, poison := s.poison, memory := s.memory } = s) ∧
      (s.storeFits fs addr.toNat len.toNat = false ∨ s.storeFree fs < len.toNat →
        exec (.pageMoveDone pad 2 id addr len (.field f) .done) s = .next (s.memReply 1 0 false))) ∧
    (∀ v : BitVec 32, s.Admitted slot hubSt O.HOST_TIER_SIZE 4 →
      (v ≠ 0 → v.toNat ≤ 65536 → ∃ t, exec (.hostTierSize slot v) s = .next t ∧ t.rd hubSt O.HOST_TIER_SIZE = v.toNat ∧
        t.rd hubSt O.HOST_TIER_STATE = (if s.memory.baseSet = true ∧ s.fromHost slot = true then 1 else s.rd hubSt O.HOST_TIER_STATE) ∧ (t.session slot).resp = { op := 2 } ∧
        RegsKept s t [(hubSt, O.HOST_TIER_SIZE), (hubSt, O.HOST_TIER_STATE)] ∧ { t with regs := s.regs, tr := s.tr } = s) ∧
      (v = 0 → exec (.hostTierSize slot v) s = .next (((s.touch slot).endTier.wr hubSt O.HOST_TIER_SIZE 0).respond slot { op := 2 })) ∧
      (65536 < v.toNat → exec (.hostTierSize slot v) s = .next (s.turned slot hubSt O.HOST_TIER_SIZE .value))) ∧
    (∀ v : BitVec 16, s.Admitted slot hubSt O.TRACE_DUMP 2 →
      ((∀ x, addrStation v.toNat = some x → ∃ f c, x = .cluster f c) →
        exec (.traceDump slot v) s = .next (s.turned slot hubSt O.TRACE_DUMP .value)) ∧
      (∀ x, addrStation v.toNat = some x → (∀ f c, x ≠ .cluster f c) →
        (s.rd x.addr O.TRACE_STATE = 3 → s.rd hubSt O.HOST_TIER_STATE = 1 → ∃ t, exec (.traceDump slot v) s = .next t ∧
          v.toNat ∈ t.memory.dumps ∧ (t.session slot).resp = { op := 2 } ∧ { t with memory := s.memory, tr := s.tr } = s) ∧
        (s.rd x.addr O.TRACE_STATE ≠ 3 ∨ s.rd hubSt O.HOST_TIER_STATE ≠ 1 →
          exec (.traceDump slot v) s = .next (s.turned slot hubSt O.TRACE_DUMP .state))))

/-! ### Fault collection and reaction (chapter 13) -/

/-- Faults are collected (R362-R374): a raise that arrives is counted and joins the record of its identity or enters one of its own with a
log entry and the action of its severity; nothing arrives over failed links; an acknowledgement, and the end of a condition, act on what
waits for them; a resend that finds its record adds nothing; an escalation raises the severity by one and at severity 5 becomes a system reset
where ESC_RESET asks, at once or, its STOP not complete, once it is, whether or not its record is cleared by then (R342); an action is performed once and marked; a clear removes what may be cleared; a wire pair
faults and recovers; 20 µs of an outstanding pair, or 100 µs with a wire fault, ask for a resend; an injection is armed for 1 ms, requested
and applied. The readings are assumptions 92 and 93. -/
def Obligations.FaultsAreCollected : Prop :=
  ∀ (s : State) (slot : Slot) (code : BitVec 16) (st : Station) (k : BitVec 16), let id := fltId code st k
    (∀ b : Bool,
      let mine := s.flt.outbox.find? (fun m => m.id == id && (b || !m.arrived))
      let comes := mine.isSome && !s.unreachable st && (!b || s.flt.resends.contains id)
      (comes = false → exec (.faultRaise code st k b) s = .next s) ∧
      (comes = true → ∃ t, exec (.faultRaise code st k b) s = .next t ∧ t.rd hubSt O.RAISES = (s.rd hubSt O.RAISES + 1) % 2 ^ 64 ∧
        (b = true → t.flt.resends = dropFirst (· == id) s.flt.resends) ∧
        RegsKept s t [(hubSt, O.RAISES), (hubSt, O.LOG_NEXT), (hubSt, O.LOG_LOST)] ∧
        { t with regs := s.regs, flt := s.flt, tr := s.tr, traces := s.traces } = s) ∧
      (comes = true → b = true → s.matched id = true → ∃ t, exec (.faultRaise code st k b) s = .next t ∧ t.flt.set = s.flt.set ∧
        t.flt.overflow = s.flt.overflow ∧ t.flt.single = s.flt.single ∧ t.flt.log = s.flt.log ∧ { t with regs := s.regs, flt := s.flt } = s) ∧
      (∀ m, mine = some m → comes = true → b = false → ∃ t, exec (.faultRaise code st k b) s = .next t ∧
        (s.flt.set.any (fun r => r.id == id) = true → t.flt.set = s.flt.set.map (fun r =>
          if r.id = id then { r with count := satAdd max32 r.count 1, present := faultIsCondition id.code } else r)) ∧
        (s.flt.set.any (fun r => r.id == id) = false → s.flt.set.length < 1024 →
          t.flt.set = s.flt.set ++ [newRecord s id (freeFltSlot s.flt.set) (s.sevOf id.code) (s.windowOf id.code)
            (faultIsCondition id.code) m.injected] ∧
          t.rd hubSt O.LOG_NEXT = (s.rd hubSt O.LOG_NEXT + 1) % 2 ^ 32 ∧ t.flt.log.getLast? = some ⟨s.rd hubSt O.LOG_NEXT, id, 0,
            logSev (s.sevOf id.code) m.injected false, m.data, m.time, s.time hubSt⟩ ∧
          t.flt.actions = (s.sendAction id (s.sevOf id.code) id (some (s.rd hubSt O.LOG_NEXT))).flt.actions) ∧
        { t with regs := s.regs, flt := s.flt, tr := s.tr, traces := s.traces } = s)) ∧
    (s.unreachable st = true → exec (.faultAckReceive st code k) s = .next s ∧ exec (.conditionEndReport code st k) s = .next s) ∧
    (s.unreachable st = false → ∃ t, exec (.faultAckReceive st code k) s = .next t ∧
      t.flt.outbox = dropFirst (fun m => m.id == id && m.arrived) s.flt.outbox ∧
      { t with flt := { t.flt with outbox := s.flt.outbox } } = s) ∧
    (let waits := s.flt.outbox.any (fun m => m.id == id && !m.arrived);
      (s.flt.ends.contains id = true → s.unreachable st = false → waits = false →
        ∃ t, exec (.conditionEndReport code st k) s = .next t ∧ t.flt.ends = dropFirst (· == id) s.flt.ends ∧
          t.flt.set = s.flt.set.map (fun r => if r.id = id then { r with present := false } else r) ∧
          { t with flt := { t.flt with ends := s.flt.ends, set := s.flt.set } } = s) ∧
      (s.flt.ends.contains id = false ∨ waits = true → exec (.conditionEndReport code st k) s = .next s)) ∧
    (s.flt.escWait.contains id = true →
      (s.stopDone id = true → exec (.faultEscalation code st k) s = .next (s.systemReset 6 code.toNat)) ∧
      (s.stopDone id = false → exec (.faultEscalation code st k) s = .next s)) ∧
    (s.flt.escWait.contains id = false → ∀ r, s.recordOf id = some r →
      (r.escDue = 0 ∨ s.time hubSt < r.escDue → exec (.faultEscalation code st k) s = .next s) ∧
      (r.escDue ≠ 0 → r.escDue ≤ s.time hubSt →
        (r.sev < 5 → ∃ t, exec (.faultEscalation code st k) s = .next t ∧
          t.flt.set = s.flt.set.map (fun x =>
            if x.id = r.id then { x with sev := x.sev + 1, escDue := (x.escDue + x.window * 1000000) % 2 ^ 64 } else x) ∧
          t.rd hubSt O.ESCALATIONS = satAdd max32 (s.rd hubSt O.ESCALATIONS) 1 ∧ { t with regs := s.regs, flt := s.flt, tr := s.tr } = s) ∧
        (5 ≤ r.sev → s.rd hubSt O.ESC_RESET ≠ 0 → s.stopDone r.id = true →
          exec (.faultEscalation code st k) s = .next (s.systemReset 6 r.id.code)) ∧
        (5 ≤ r.sev → s.rd hubSt O.ESC_RESET ≠ 0 → s.stopDone r.id = false → ∃ t, exec (.faultEscalation code st k) s = .next t ∧
          t.flt.escWait.contains r.id = true ∧ { t with flt := { t.flt with escWait := s.flt.escWait } } = s) ∧
        (5 ≤ r.sev → s.rd hubSt O.ESC_RESET = 0 → exec (.faultEscalation code st k) s = .next s))) ∧
    (s.flt.escWait.contains id = false → s.recordOf id = none → exec (.faultEscalation code st k) s = .next s) ∧
    (s.flt.actions.find? (fun a => a.id == id) = none → exec (.faultActionReceive code st k) s = .next s) ∧
    (∀ a, s.flt.actions.find? (fun a => a.id == id) = some a →
      let u : State := { s with flt := { s.flt with actions := dropFirst (fun a => a.id == id) s.flt.actions } }
      (s.actsOn a.id a.sev = false → exec (.faultActionReceive code st k) s = .next u) ∧
      (s.actsOn a.id a.sev = true → exec (.faultActionReceive code st k) s = .next ((if a.sev = 4 then
        u.contain (targetOf a.id) a.id.code else u.stopAll (stopScope a.id)).drive.setActed a))) ∧
    (∀ w : BitVec 64, s.Admitted slot hubSt O.FLT_CLEAR 8 → exec (.fltClear slot w) s =
      .next (((s.touch slot).clearNamed slot (bits w.toNat 63 48) (bits w.toNat 47 32) (bits w.toNat 31 16)).drive.respond slot { op := 2 })) ∧
    (s.Admitted slot hubSt O.FLT_CLEAR_ALL 1 → exec (.fltClearAll slot) s =
      .next (((s.touch slot).clearNamed slot 0xFFFF 0xFFFF 0xFFFF).drive.respond slot { op := 2 })) ∧
    (∀ a b c r, r ∈ (s.clearFaults slot a b c).flt.set ↔ r ∈ s.flt.set ∧ (clearNames a b c r && clearable r) = false) ∧
    (∀ (f : FieldId) (p : Option ClusterId), let w : WirePair := ⟨f.val, p.map Fin.val⟩
      (s.flt.wires.contains w = false → (∃ t, exec (.wireFault f p) s = .next t ∧ t.flt.wires = s.flt.wires ++ [w] ∧
          t.rd (fSt f) O.WIRE_MASK = s.rd (fSt f) O.WIRE_MASK + 2 ^ wireBit p ∧
          t.rd (fSt f) O.WIRE_FAULTS = satAdd max32 (s.rd (fSt f) O.WIRE_FAULTS) 1 ∧
          RegsKept s t [(fSt f, O.WIRE_MASK), (fSt f, O.WIRE_FAULTS)] ∧ { t with regs := s.regs, flt := s.flt, traces := s.traces } = s) ∧
        exec (.wireFaultEnd f p) s = .next s) ∧
      (s.flt.wires.contains w = true → exec (.wireFault f p) s = .next s ∧ ∃ t, exec (.wireFaultEnd f p) s = .next t ∧
        t.flt.wires.contains w = false ∧ t.rd (fSt f) O.WIRE_MASK = s.rd (fSt f) O.WIRE_MASK - 2 ^ wireBit p ∧
        RegsKept s t [(fSt f, O.WIRE_MASK)] ∧ { t with regs := s.regs, flt := s.flt } = s) ∧
      (let wait := if s.flt.wires.any (fun w => w.field == f.val) then 100000 else 20000;
        let due := s.pairOut f && decide (tblGet 0 s.flt.pairAt f.val + wait ≤ s.time hubSt);
        (due = true → ∃ t, exec (.resendRequest f) s = .next t ∧ t.rd hubSt O.RESENDS = satAdd max32 (s.rd hubSt O.RESENDS) 1 ∧
          t.flt.resends = s.flt.resends ++ (s.flt.outbox.filter (fun m => inField f m.id.station)).map FltMsg.id ∧
          tblGet 0 t.flt.pairAt f.val = s.time hubSt ∧ RegsKept s t [(hubSt, O.RESENDS)] ∧ { t with regs := s.regs, flt := s.flt } = s) ∧
        (due = false → exec (.resendRequest f) s = .next s))) ∧
    (s.Admitted slot hubSt O.INJ_ARM 1 → ∃ t, exec (.injArm slot) s = .next t ∧ t.rd hubSt O.INJ_STATE = 1 ∧
      t.flt = { s.flt with injAt := s.time hubSt } ∧ (t.session slot).resp = { op := 2 } ∧ RegsKept s t [(hubSt, O.INJ_STATE)] ∧
      { t with regs := s.regs, flt := s.flt, tr := s.tr } = s) ∧
    (∀ w : BitVec 32, s.Admitted slot hubSt O.INJ_REQ 4 →
      let there := injPresent (bits w.toNat 31 16) (bits w.toNat 15 12) (bits w.toNat 11 8) (bits w.toNat 7 0)
      let armed := s.rd hubSt O.INJ_STATE == 1 && decide (s.time hubSt < s.flt.injAt + 1000000)
      (armed = true → there = true → ∃ t, exec (.injReq slot w) s = .next t ∧ t.rd hubSt O.INJ_STATE = 2 ∧
        (t.session slot).resp = { op := 2 } ∧
        t.flt.injection = some ⟨bits w.toNat 31 16, bits w.toNat 15 12, bits w.toNat 11 8, bits w.toNat 7 0⟩ ∧
        RegsKept s t [(hubSt, O.INJ_STATE)] ∧ { t with regs := s.regs, flt := s.flt, tr := s.tr } = s) ∧
      (armed = true → there = false → exec (.injReq slot w) s = .next (s.turned slot hubSt O.INJ_REQ .value)) ∧
      (armed = false → ∃ t, exec (.injReq slot w) s = .next t ∧ (t.session slot).resp = { op := 2, abort := abortCode .state } ∧
        t.rd hubSt O.INJ_STATE = (if s.rd hubSt O.INJ_STATE = 2 then 2 else 4) ∧ RegsKept s t [(hubSt, O.INJ_STATE)] ∧
        { t with regs := s.regs, tr := s.tr } = s)) ∧
    (let lapsed := s.rd hubSt O.INJ_STATE == 1 && decide (s.flt.injAt + 1000000 ≤ s.time hubSt);
      (lapsed = true → ∃ t, exec .injArmExpire s = .next t ∧
        t.rd hubSt O.INJ_STATE = (if s.flt.injection.isSome then 2 else 0) ∧ RegsKept s t [(hubSt, O.INJ_STATE)] ∧
        { t with regs := s.regs } = s) ∧
      (lapsed = false → exec .injArmExpire s = .next s)) ∧
    (∀ (e : ColErr) (cls : NetClass) (mask : Byte), (s.flt.injection = none → exec (.injectionApply e cls mask) s = .next s) ∧
      (∀ x, s.flt.injection = some x → ∃ t, exec (.injectionApply e cls mask) s = .next t ∧ t.flt.injected = none ∧
        (s.rd hubSt O.INJ_STATE ≠ 1 → x.checker = 6 → addrStation x.station ≠ none → t.rd hubSt O.INJ_STATE = 3 ∧ t.flt.injection = none)))

/-! ### Updating and repairing in service (chapter 16) -/

/-- An image transfer (R423, R424, R427, R436): it opens with its target erased, takes chunks while open, is checked, and is then ready or
rejected with its error; an abort ends it; a command in another state is refused with the state code. A key is revoked but for the one in
use or the last.
An image is switched to, confirmed, or installed (R425, R427-R429): the switch of a confirmed machine programs the sequence number of the
other bank and then resets the core with cause 9; a confirmation ends the count of CONFIRM_TIME and programs CONFIRM; a manifest is installed at one
instant; a program that does not read back, as while the SPI pins are not driven, is error 8; the fuses, 64 of them, follow ACTIVE_SVN; a trial that runs out is a core reset of cause 8. The
outcomes of flash and fuses are operands (assumption 84), and the readings are assumption 96. -/
def Obligations.ImagesAreTransferred : Prop :=
  (∀ (s : State) (slot : Slot), let i := s.rd hubSt O.IMG_STATE
    let T := s.rd hubSt O.IMG_TARGET
    let no : State := s.turned slot hubSt O.IMG_CTRL .state
    (s.Admitted slot hubSt O.IMG_CTRL 1 →
      (i = 0 ∨ i = 4 ∨ i = 5 ∨ i = 7 → ¬ (T = 4 ∧ s.rst.boot.stage ≠ 5) → ∃ t, exec (.imageOpen slot) s = .next t ∧ t.rd hubSt O.IMG_STATE = 1 ∧ t.rd hubSt O.IMG_ERR = 0 ∧
        t.rd hubSt O.IMG_LEN = 0 ∧ t.rd hubSt O.IMG_INFO = 0 ∧ t.moult.bank = s.otherBank ∧ (t.session slot).resp = { op := 2 } ∧
        (∀ a, t.flashByte a = if T ≠ 4 ∧ t.targetBase T ≤ a ∧ a < t.targetBase T + oparnLimit (targetType T) then 0xFF
          else s.flashByte a) ∧
        (T = 4 → t.moult.buffer = true ∧ t.resident hubSt = [] ∧ ∀ b, 24 ≤ b → b < 56 → t.rd hubSt (O.OWNER.at b) = 0) ∧
        (T ≠ 4 → RegsKept s t [(hubSt, O.IMG_STATE), (hubSt, O.IMG_ERR), (hubSt, O.IMG_LEN), (hubSt, O.IMG_INFO)] ∧
          { t with regs := s.regs, moult := s.moult, tr := s.tr } = s)) ∧
      (¬ (i = 0 ∨ i = 4 ∨ i = 5 ∨ i = 7) ∨ (T = 4 ∧ s.rst.boot.stage ≠ 5) → exec (.imageOpen slot) s = .next no) ∧
      (i = 2 → ∃ t, exec (.imageCheck slot) s = .next t ∧ t.rd hubSt O.IMG_STATE = 3 ∧ (t.session slot).resp = { op := 2 } ∧
        RegsKept s t [(hubSt, O.IMG_STATE)] ∧ { t with regs := s.regs, tr := s.tr } = s) ∧
      (i ≠ 2 → exec (.imageCheck slot) s = .next no) ∧
      (1 ≤ i → i ≤ 4 → ∃ t, exec (.imageAbort slot) s = .next t ∧ t.rd hubSt O.IMG_STATE = 0 ∧ (t.session slot).resp = { op := 2 } ∧
        RegsKept s t [(hubSt, O.IMG_STATE)] ∧ { t with regs := s.regs, tr := s.tr } = s) ∧
      (i = 0 ∨ 4 < i → exec (.imageAbort slot) s = .next no)) ∧
    (i = 1 → ∀ k : Fin 3, let ans := if s.pinsLive then k.val else 2
      (ans = 0 ∨ T = 4 → ∃ t, exec (.imageEraseDone k) s = .next t ∧ t.rd hubSt O.IMG_STATE = 2 ∧ RegsKept s t [(hubSt, O.IMG_STATE)] ∧
        { t with regs := s.regs } = s) ∧
      (ans ≠ 0 → T ≠ 4 → ∃ t, exec (.imageEraseDone k) s = .next t ∧ t.rd hubSt O.IMG_STATE = 5 ∧
        t.rd hubSt O.IMG_ERR = (if ans = 1 then 8 else 7) ∧ { t with regs := s.regs, flt := s.flt, traces := s.traces } = s)) ∧
    (∀ k, i ≠ 1 → exec (.imageEraseDone k) s = .next s) ∧
    (∀ (data : List Byte) (k : Fin 3), s.Admitted slot hubSt O.IMG_CHUNK data.length →
      let off := leNat (data.take 4)
      let n := data.length - 4
      let ans := if s.pinsLive then k.val else 2
      (data.length < 5 ∨ 65540 < data.length → exec (.imgChunk slot data k) s = .next (s.turned slot hubSt O.IMG_CHUNK .length)) ∧
      (5 ≤ data.length → data.length ≤ 65540 →
        (i ≠ 2 → exec (.imgChunk slot data k) s = .next (s.turned slot hubSt O.IMG_CHUNK .state)) ∧
        (i = 2 → oparnLimit (targetType T) < off + n → exec (.imgChunk slot data k) s = .next (s.turned slot hubSt O.IMG_CHUNK .value)) ∧
        (i = 2 → off + n ≤ oparnLimit (targetType T) →
          (ans = 0 ∨ T = 4 → ∃ t, exec (.imgChunk slot data k) s = .next t ∧ t.rd hubSt O.IMG_LEN = max (s.rd hubSt O.IMG_LEN) (off + n) ∧
            (t.session slot).resp = { op := 2 } ∧
            (T ≠ 4 → ∀ k, k < n → (T = 1 → off + k < 0x10 ∨ 0x18 ≤ off + k) →
              t.flashByte (s.targetBase T + off + k) = (data.getD (4 + k) 0).toNat) ∧
            RegsKept s t [(hubSt, O.IMG_LEN)] ∧ { t with regs := s.regs, moult := s.moult, mem := s.mem, poison := s.poison, tr := s.tr } = s) ∧
          (ans ≠ 0 → T ≠ 4 → ∃ t, exec (.imgChunk slot data k) s = .next t ∧ t.rd hubSt O.IMG_STATE = 5 ∧
            t.rd hubSt O.IMG_ERR = (if ans = 1 then 8 else 7) ∧
            { t with regs := s.regs, flt := s.flt, tr := s.tr, traces := s.traces } = s)))) ∧
    (∀ a : Bool, let l := s.targetBytes T (s.rd hubSt O.IMG_LEN)
      let e := s.oparnError l (targetType T) (some (s.rd hubSt O.IMG_LEN))
      let err := if (a = false ∨ s.pinsLive = false) ∧ T ≠ 4 then 7 else if e = 0 ∧ T = 3 ∧ manifestIds (oparnPayload l) = none then 4 else e
      (i = 3 → ∃ t, exec (.imageCheckDone a) s = .next t ∧ t.rd hubSt O.IMG_STATE = (if err = 0 then 4 else 5) ∧
        t.rd hubSt O.IMG_ERR = (if err = 0 then s.rd hubSt O.IMG_ERR else err) ∧
        RegsKept s t [(hubSt, O.IMG_STATE), (hubSt, O.IMG_ERR), (hubSt, O.IMG_INFO)] ∧
        { t with regs := s.regs, flt := s.flt, traces := s.traces } = s) ∧
      (i ≠ 3 → exec (.imageCheckDone a) s = .next s)) ∧
    (∀ k : Byte, s.Admitted slot hubSt O.KEY_REVOKE 1 →
      let last := s.moult.activeKey = some k.toNat ∨
        ((bit (s.rd hubSt O.KEY_SLOTS) k.toNat && !bit (s.rd hubSt O.KEY_REVOKED) k.toNat) = true ∧ k.toNat ≤ 3 ∧
          ∀ j : Fin 4, j.val ≠ k.toNat → (bit (s.rd hubSt O.KEY_SLOTS) j.val && !bit (s.rd hubSt O.KEY_REVOKED) j.val) = false)
      (last → exec (.keyRevoke slot k) s = .next (s.turned slot hubSt O.KEY_REVOKE .state)) ∧
      (¬ last → 3 < k.toNat → exec (.keyRevoke slot k) s = .next (s.turned slot hubSt O.KEY_REVOKE .value)) ∧
      (¬ last → k.toNat ≤ 3 → ∃ t, exec (.keyRevoke slot k) s = .next t ∧ bit (t.rd hubSt O.KEY_REVOKED) k.toNat = true ∧
        (t.session slot).resp = { op := 2 } ∧ RegsKept s t [(hubSt, O.KEY_REVOKED), (hubSt, O.MLOG_NEXT)] ∧
        { t with regs := s.regs, tr := s.tr, moult := s.moult } = s))) ∧
  (∀ (s : State) (slot : Slot), let i := s.rd hubSt O.IMG_STATE
    let T := s.rd hubSt O.IMG_TARGET
    let no : State := s.turned slot hubSt O.IMG_CTRL .state
    (s.Admitted slot hubSt O.IMG_CTRL 1 →
      (i = 4 → T = 1 → s.rd hubSt O.CONFIRMED = 1 → ∃ t, exec (.imageSwitch slot) s = .next t ∧ t.rd hubSt O.IMG_STATE = 6 ∧
        t.moult.ops = s.moult.ops ++ [.slotSeq s.moult.bank
          (if 0xFFFFFFFE ≤ s.rd hubSt O.ACTIVE_SEQ then 1 else s.rd hubSt O.ACTIVE_SEQ + 1)] ∧
        (t.session slot).resp = { op := 2 } ∧ RegsKept s t [(hubSt, O.IMG_STATE)] ∧
        { t with regs := s.regs, moult := s.moult, tr := s.tr } = s) ∧
      (i = 4 → T = 4 → s.rst.boot.stage = 5 → ∃ t, exec (.imageSwitch slot) s = .next t ∧ t.rst.boot.stage = 4 ∧
        t.rd hubSt O.ACTIVE_BANK = 3 ∧ t.rd hubSt O.CONFIRMED = 1 ∧ t.rd hubSt O.IMG_STATE = 0 ∧ (t.session slot).resp = { op := 2 } ∧
        (s.moult.buffer = true → ∀ b, 24 ≤ b → b < 56 → t.rd hubSt (O.OWNER.at b) = 0x5000) ∧
        { t with rst := s.rst, regs := s.regs, moult := s.moult, manifest := s.manifest, flt := s.flt, traces := s.traces, mem := s.mem, poison := s.poison, tr := s.tr } = s) ∧
      (¬ (i = 4 ∧ ((T = 1 ∧ s.rd hubSt O.CONFIRMED = 1) ∨ (T = 4 ∧ s.rst.boot.stage = 5))) → exec (.imageSwitch slot) s = .next no) ∧
      (s.rd hubSt O.CONFIRMED = 0 → s.rst.boot.stage = 4 → ∃ t, exec (.imageConfirm slot) s = .next t ∧
        t.moult.ops = s.moult.ops ++ [.confirm (s.rd hubSt O.ACTIVE_BANK)] ∧ t.rst = { s.rst with trialDue := none } ∧
        (t.session slot).resp = { op := 2 } ∧ { t with moult := s.moult, rst := s.rst, tr := s.tr } = s) ∧
      (s.rd hubSt O.CONFIRMED ≠ 0 ∨ s.rst.boot.stage ≠ 4 → exec (.imageConfirm slot) s = .next no) ∧
      (∀ ids, i = 4 → T = 3 → manifestIds (oparnPayload (s.targetBytes 3 (s.rd hubSt O.IMG_LEN))) = some ids →
        ∃ t, exec (.manifestInstall slot) s = .next t ∧ t.manifest = ids ∧ t.rd hubSt O.MANIFEST_COUNT = ids.length ∧
          t.rd hubSt O.MANIFEST_ID = crc32 (oparnPayload (s.targetBytes 3 (s.rd hubSt O.IMG_LEN))) ∧ t.rd hubSt O.IMG_STATE = 7 ∧
          t.moult.ops = s.moult.ops ++ [.manifest] ∧ (t.session slot).resp = { op := 2 } ∧
          { t with regs := s.regs, moult := s.moult, tr := s.tr, manifest := s.manifest } = s) ∧
      (i = 4 → T = 3 → ∃ t, exec (.manifestInstall slot) s = .next t ∧ t.rd hubSt O.IMG_STATE = 7 ∧
        t.moult.ops = s.moult.ops ++ [.manifest] ∧ { t with regs := s.regs, moult := s.moult, tr := s.tr, manifest := s.manifest } = s) ∧
      (i ≠ 4 ∨ T ≠ 3 → exec (.manifestInstall slot) s = .next no) ∧
      (s.rd hubSt O.CONFIRMED = 1 → s.rd hubSt O.ROLLBACK_CTR < s.rd hubSt O.ACTIVE_SVN →
        (∃ t, exec (.rollbackCommit slot true) s = .next t ∧
          t.rd hubSt O.ROLLBACK_CTR = max (s.rd hubSt O.ROLLBACK_CTR) (min 64 (s.rd hubSt O.ACTIVE_SVN)) ∧
          (t.session slot).resp = { op := 2 } ∧ RegsKept s t [(hubSt, O.ROLLBACK_CTR), (hubSt, O.MLOG_NEXT)] ∧
          { t with regs := s.regs, moult := s.moult, tr := s.tr } = s) ∧
        (∃ t, exec (.rollbackCommit slot false) s = .next t ∧ s.rd hubSt O.ROLLBACK_CTR ≤ t.rd hubSt O.ROLLBACK_CTR ∧
          t.rd hubSt O.ROLLBACK_CTR < s.rd hubSt O.ACTIVE_SVN ∧ t.flt = (s.raise F.MLT_FUSE hubSt 0 0).flt ∧
          RegsKept s t [(hubSt, O.ROLLBACK_CTR), (hubSt, O.MLOG_NEXT)] ∧ { t with regs := s.regs, moult := s.moult, free := s.free, flt := s.flt, traces := s.traces, tr := s.tr } = s)) ∧
      (s.rd hubSt O.CONFIRMED ≠ 1 ∨ s.rd hubSt O.ACTIVE_SVN ≤ s.rd hubSt O.ROLLBACK_CTR →
        ∀ ok, exec (.rollbackCommit slot ok) s = .next no)) ∧
    (s.moult.ops = [] → ∀ ok, exec (.flashProgramDone ok) s = .next s) ∧
    (s.pinsLive = false → exec (.flashProgramDone true) s = exec (.flashProgramDone false) s) ∧
    (∀ b v rest, s.moult.ops = .slotSeq b v :: rest →
      (s.pinsLive = true → exec (.flashProgramDone true) s = .next ((((State.setBankSeq { s with moult := { s.moult with ops := rest } } b v).mltLog 1 0 hubSt 0 v).setImg 0
        ).coreReset 9)) ∧
      (s.pinsLive = true → s.rst.held = none → ∃ t, exec (.flashProgramDone true) s = .next t ∧ t.rd hubSt O.RESET_LEVEL = 2 ∧ t.rd hubSt O.RESET_CAUSE = 9 ∧
        t.rd hubSt O.IMG_STATE = 0 ∧ t.wheels = s.wheels ∧ t.rails = s.rails ∧ t.mem = s.mem) ∧
      (∃ t, exec (.flashProgramDone false) s = .next t ∧ t.rd hubSt O.IMG_STATE = 5 ∧ t.rd hubSt O.IMG_ERR = 8 ∧ t.moult.ops = rest ∧
        { t with regs := s.regs, flt := s.flt, moult := s.moult, traces := s.traces } = s)) ∧
    (∀ b rest, s.moult.ops = .confirm b :: rest →
      (s.pinsLive = true → ∃ t, exec (.flashProgramDone true) s = .next t ∧ t.rd hubSt O.CONFIRMED = 1 ∧ t.rd hubSt O.TRIAL_BOOTS = 0 ∧
        t.bankConfirm b = 0 ∧ t.moult.ops = rest ∧ RegsKept s t [(hubSt, O.CONFIRMED), (hubSt, O.TRIAL_BOOTS), (hubSt, O.MLOG_NEXT)] ∧
        { t with regs := s.regs, moult := s.moult } = s) ∧
      (∃ t, exec (.flashProgramDone false) s = .next t ∧ t.rd hubSt O.IMG_ERR = 8 ∧ t.flt = (s.raise F.MLT_FLASH hubSt 0 0).flt ∧
        { t with regs := s.regs, flt := s.flt, moult := s.moult, traces := s.traces } = s)) ∧
    (∀ rest, s.moult.ops = .manifest :: rest →
      (s.pinsLive = true → ∃ t, exec (.flashProgramDone true) s = .next t ∧ t.moult.ops = rest ∧ t.moult.manifest = [] ∧ { t with moult := s.moult } = s) ∧
      (∃ t, exec (.flashProgramDone false) s = .next t ∧ t.rd hubSt O.IMG_STATE = 5 ∧ t.rd hubSt O.IMG_ERR = 8 ∧ t.moult.ops = rest ∧
        { t with regs := s.regs, flt := s.flt, moult := s.moult, traces := s.traces } = s)) ∧
    (let due := s.rst.trialDue.any (fun u => decide (u ≤ s.time hubSt));
      (s.rst.held = none → due = true → exec .trialExpire s = .next ((s.coreReset 8).raise F.MLT_TRIAL_EXPIRE hubSt 0 0)) ∧
      (s.rst.held ≠ none ∨ due = false → exec .trialExpire s = .next s)))

/-! ### Transports and the dictionary (chapter 15) -/

/-- Requests of a session (R401-R407): a read answers its value, or its length where it is longer than 8 bytes; a transfer opens, moves its
segments in order and ends; ABORT and SESSION_CLOSE end it; a session that is not heard changes nothing; a transfer that has waited
XFER_TIMEOUT is dropped with PHO_XFER_TIMEOUT, an idle MCTP session is freed, and a notification leaves the front of its queue, on I3C
once its last packet is read. The readings are assumptions 73 and 90. -/
def Obligations.SessionsReadAndTransfer : Prop :=
  ∀ (s : State) (slot : Slot) (a : DictAddr), let u := s.touch slot
    let x := s.session slot
    let no (op : Nat) (e : Abort) : Host.Outcome State Fault Refusal := .next (u.respond slot { op := op, abort := abortCode e })
    (s.hears slot = true →
      (∀ v, u.readObj slot a = .ok v →
        exec (.read slot a) s = .next (u.respond slot (if 8 < v.length then { op := 1, abort := abortCode .length, param := v.length }
          else { op := 1, param := v.length, data := v })) ∧
        (x.xfer = none → ∃ t, exec (.segReadInit slot a) s = .next t ∧ (t.session slot).xfer = some (.read a none) ∧
          (t.session slot).resp = { op := 3, param := v.length } ∧ { t with tr := s.tr } = s)) ∧
      (∀ e, u.readObj slot a = .error e → let n := (u.objValue slot a.station.toNat a.index.toNat a.sub.toNat).length
        (e ≠ .state ∨ n ≤ 8 → exec (.read slot a) s = no 1 e) ∧
        (e = .state → 8 < n → exec (.read slot a) s = .next (u.respond slot { op := 1, abort := abortCode .length, param := n })) ∧
        (x.xfer = none → exec (.segReadInit slot a) s = no 3 e)) ∧
      (x.xfer ≠ none → exec (.segReadInit slot a) s = no 3 .protocol ∧
        ∀ n, exec (.segWriteInit slot a n) s = no 5 .protocol) ∧
      (∀ i op, (∃ off n, i = Instr.segRead slot a off n ∧ op = 4) ∨ (∃ off d, i = .segWrite slot a off d ∧ op = 6) ∨
          (∃ n, i = .segEnd slot a n ∧ op = 7) →
        (x.xfer = none → ∃ t, exec i s = .next t ∧ (t.session slot).xfer = none ∧ (t.session slot).timedOut = false ∧
          (t.session slot).resp = { op := op, abort := abortCode (if x.timedOut then .timeout else .protocol) } ∧ { t with tr := s.tr } = s)) ∧
      (∀ (b : DictAddr) (c : Option (List Byte)) (off : BitVec 32) (n : BitVec 16) (d : List Byte), x.xfer = some (.read b c) →
        exec (.segWrite slot a off d) s = no 6 .protocol ∧
        (b ≠ a ∨ n = 0 ∨ segLimit x < n.toNat → exec (.segRead slot a off n) s = no 4 .protocol) ∧
        (b = a → n ≠ 0 → n.toNat ≤ segLimit x →
          (∀ e, s.xferGone slot a = some e → ∃ t, exec (.segRead slot a off n) s = .next t ∧
            (t.session slot).xfer = (if e = .busy then x.xfer else none) ∧ (t.session slot).resp = { op := 4, abort := abortCode e } ∧
            { t with tr := s.tr } = s) ∧
          (∀ e, s.xferGone slot a = none → c = none → u.readObj slot a = .error e → exec (.segRead slot a off n) s = no 4 e) ∧
          (∀ v, s.xferGone slot a = none → c = some v ∨ (c = none ∧ u.readObj slot a = .ok v) → ∃ t, exec (.segRead slot a off n) s = .next t ∧
            (t.session slot).resp = { op := 4, data := (v.drop off.toNat).take n.toNat } ∧
            (t.session slot).xfer = some (.read a (some v)) ∧ { t with tr := s.tr } = s)) ∧
        (∀ n, (b = a → ∃ t, exec (.segEnd slot a n) s = .next t ∧ (t.session slot).xfer = none ∧
            (t.session slot).resp = { op := 7 } ∧ { t with tr := s.tr } = s) ∧
          (b ≠ a → exec (.segEnd slot a n) s = no 7 .protocol))) ∧
      (∀ n : BitVec 32, x.xfer = none →
        let h := bufHolder a.station.toNat
        let q := u.admitInit slot a.station.toNat a.index.toNat a.sub.toNat n.toNat
        let fits := lengthOk a.station.toNat a.index.toNat a.sub.toNat n.toNat
        (∀ e, q = some e → exec (.segWriteInit slot a n) s = .next (u.refuse slot 5 a.station.toNat a.index.toNat a.sub.toNat e)) ∧
        (q = none → fits = false → exec (.segWriteInit slot a n) s = no 5 .length) ∧
        (q = none → fits = true → u.bufUsed h + n.toNat ≤ u.bufBytes h →
          ∃ t, exec (.segWriteInit slot a n) s = .next t ∧ (t.session slot).xfer = some (.write a n.toNat []) ∧
            (t.session slot).resp = { op := 5 } ∧ { t with tr := s.tr } = s) ∧
        (q = none → fits = true → u.bufBytes h < u.bufUsed h + n.toNat → exec (.segWriteInit slot a n) s = no 5 .exhaustion)) ∧
      (∀ (b : DictAddr) (total : Nat) (got data : List Byte) (off : BitVec 32) (n : BitVec 16) (m : BitVec 32), x.xfer = some (.write b total got) →
        let w := u.setXfer slot none
        exec (.segRead slot a off n) s = no 4 .protocol ∧
        (b ≠ a ∨ data = [] ∨ segLimit x < data.length → exec (.segWrite slot a off data) s = no 6 .protocol) ∧
        (b = a → data ≠ [] → data.length ≤ segLimit x →
          let first := if got = [] then firstSegment a.station.toNat a.index.toNat a.sub.toNat u else .ok u
          (∀ e, u.bufGone slot a = some e → ∃ t, exec (.segWrite slot a off data) s = .next t ∧
            (t.session slot).xfer = (if e = .busy then x.xfer else none) ∧ (t.session slot).resp = { op := 6, abort := abortCode e } ∧
            { t with tr := s.tr } = s) ∧
          (u.bufGone slot a = none →
            (off.toNat ≠ got.length → exec (.segWrite slot a off data) s = .next (w.respond slot { op := 6, abort := abortCode .protocol })) ∧
            (off.toNat = got.length → total < got.length + data.length →
              exec (.segWrite slot a off data) s = .next (w.respond slot { op := 6, abort := abortCode .length })) ∧
            (off.toNat = got.length → got.length + data.length ≤ total →
              (∀ e, first = .error e → exec (.segWrite slot a off data) s = .next (w.respond slot { op := 6, abort := abortCode e })) ∧
              (∀ v, first = .ok v → exec (.segWrite slot a off data) s =
                .next ((v.setXfer slot (some (.write a total (got ++ data)))).respond slot { op := 6 })) ∧
              (got ≠ [] ∨ a.index.toNat < 0x2440 ∨ 0x2450 ≤ a.index.toNat →
                ∃ t, exec (.segWrite slot a off data) s = .next t ∧ (t.session slot).xfer = some (.write a total (got ++ data)) ∧
                (t.session slot).resp = { op := 6 } ∧ { t with tr := s.tr } = s)))) ∧
        (b ≠ a → exec (.segEnd slot a m) s = no 7 .protocol) ∧
        (b = a →
          (∀ e, u.bufGone slot a = some e → ∃ t, exec (.segEnd slot a m) s = .next t ∧
            (t.session slot).xfer = (if e = .busy then x.xfer else none) ∧ (t.session slot).resp = { op := 7, abort := abortCode e } ∧
            { t with tr := s.tr } = s) ∧
          (u.bufGone slot a = none →
            let r := objAct slot a.station.toNat a.index.toNat a.sub.toNat got w
            let q := w.admitValue slot a.station.toNat a.index.toNat a.sub.toNat got
            (m.toNat ≠ got.length → exec (.segEnd slot a m) s = .next (w.respond slot { op := 7, abort := abortCode .length })) ∧
            (m.toNat = got.length → q = none →
              exec (.segEnd slot a m) s = .next (r.1.answer slot 7 a.station.toNat a.index.toNat a.sub.toNat r.2)) ∧
            (∀ e, m.toNat = got.length → q = some e →
              exec (.segEnd slot a m) s = .next (w.refuse slot 7 a.station.toNat a.index.toNat a.sub.toNat e))))) ∧
      (∃ t, exec (.abortCmd slot) s = .next t ∧ (t.session slot).xfer = none ∧ (t.session slot).resp = { op := 8 } ∧
        { t with tr := s.tr } = s) ∧
      (∃ t, exec (.sessionClose slot) s = .next t ∧ (t.session slot).resp = { op := 0x11 } ∧
        (5 ≤ slot.val → (t.session slot).isOpen = false ∧ (t.session slot).xfer = none ∧ (t.session slot).notes = []) ∧
        (slot.val < 5 → (t.session slot).xfer = x.xfer ∧ (t.session slot).isOpen = x.isOpen) ∧
        t.loops = (if 5 ≤ slot.val then (s.dropWriter slot).loops else s.loops) ∧ { t with tr := s.tr, loops := s.loops } = s)) ∧
    (s.hears slot = false → ∀ (off n m : BitVec 32) (c : BitVec 16) (d : List Byte) i, i ∈ [Instr.read slot a, .segReadInit slot a,
      .segRead slot a off c, .segWriteInit slot a n, .segWrite slot a off d, .segEnd slot a m, .abortCmd slot, .sessionClose slot] →
      exec i s = .next s) ∧
    (let late := s.rst.held == none && decide (x.xferAt + s.rd hubSt O.XFER_TIMEOUT * 1000000 ≤ s.time hubSt);
      (x.xfer ≠ none → late = true → ∃ t, exec (.xferTimeout slot) s = .next t ∧ (t.session slot).xfer = none ∧
        (t.session slot).timedOut = true ∧ t.flt = (s.raise F.PHO_XFER_TIMEOUT hubSt 0 0).flt ∧
        { t with tr := s.tr, flt := s.flt, traces := s.traces } = s) ∧
      (x.xfer = none ∨ late = false → exec (.xferTimeout slot) s = .next s)) ∧
    (let idle := x.isOpen && x.noteSev == 0 && decide (5 ≤ slot.val) && decide (x.lastActive + s.rd hubSt O.SESSION_IDLE * 1000000 ≤ s.time hubSt);
      (idle = true → ∃ t, exec (.sessionIdle slot) s = .next t ∧ t.session slot = {} ∧ t.loops = (s.dropWriter slot).loops ∧
        { t with tr := s.tr, loops := s.loops } = s) ∧
      (idle = false → exec (.sessionIdle slot) s = .next s)) ∧
    (x.notes = [] ∨ x.isOpen = false ∨ x.carrier = 3 ∨ ¬ s.Up → exec (.notify slot) s = .next s) ∧
    (∀ n rest, x.notes = n :: rest → x.isOpen = true → x.carrier ≠ 3 → s.Up →
      let b : Fin 2 := if x.carrier = 1 then 0 else 1
      (x.carrier = 0 → exec (.notify slot) s = .next (s.takeNote slot)) ∧
      (x.carrier ≠ 0 → s.mctpReach b = false ∨ (b = 0 ∧ (s.binding b).ibiOff = true) → exec (.notify slot) s = .next s) ∧
      (x.carrier ≠ 0 → s.mctpReach b = true → b = 1 → ∃ t, exec (.notify slot) s = .next t ∧
        (t.session slot).lostSince = 0 ∧ (x.lostSince = 0 → (t.session slot).notes = rest) ∧
        (x.lostSince ≠ 0 → (t.session slot).notes.length = rest.length + 1 ∧ t.flt = (s.raise F.PHO_NOTE_LOST hubSt 0 0).flt) ∧
        (t.binding b).out ≠ [] ∧ { t with tr := s.tr, free := s.free, flt := s.flt, traces := s.traces } = s) ∧
      (x.carrier ≠ 0 → s.mctpReach b = true → b = 0 → (s.binding b).ibiOff = false →
        ((∃ m, (slot.val, m) ∈ (s.binding b).notes) → exec (.notify slot) s = .next s) ∧
        ((∀ m, (slot.val, m) ∉ (s.binding b).notes) → ∃ t, exec (.notify slot) s = .next t ∧ t.session slot = x ∧
          (t.binding b).notes = (s.binding b).notes ++ [(slot.val, n)] ∧ (s.binding b).out.length < (t.binding b).out.length ∧
          { t with tr := s.tr, free := s.free } = s)))

/-- MCTP and the host window (R401, R408-R414): a packet is taken, or discarded and counted; a message that is not complete in time is
dropped; the control commands answer as R409 says, and a new endpoint ID ends the binding's sessions; I3C takes its address, its private
reads and DISEC while its clock is good; the PCIe crossing opens the four window channels and, going down, frees them and ends the host
tier; a window command shows its outcome in DICT_STATUS. The bytes of DSP0236 are presumed (assumption 88), and the readings are
assumptions 89 and 91. -/
def Obligations.TransportsCarrySessions : Prop :=
  ∀ (s : State) (b : Fin 2) (ch : ChanId) (a : DictAddr), let k := chanSlot ch
    let x := s.session k
    (s.mctpReach b = true → s.mctpServed b = true →
      (b = 1 → ∀ p, exec (.mctpPacket b p) s = .next (s.takePacket b p)) ∧
      (b = 0 → ∀ p q, exec (.mctpPacket b (p ++ [q])) s = .next (if q = s.pec 0 p then s.takePacket b p else s.inc32 hubSt O.MCTP_DISCARDS)) ∧
      (b = 0 → exec (.mctpPacket b []) s = .next (s.inc32 hubSt O.MCTP_DISCARDS)) ∧
      (∀ p, (p.length ≤ 4 ∨ 68 < p.length → s.takePacket b p = s.inc32 hubSt O.MCTP_DISCARDS)) ∧
      (∀ (e : Byte), e ≠ 0 → e ≠ 0xFF → ∃ t, exec (.setEndpointId b e true) s = .next t ∧ t.eid b = e.toNat ∧
        (t.binding b).ctrl = [0, 0, e, 0] ∧
        (∀ j : Slot, 5 ≤ j.val → (s.session j).isOpen = true → (s.session j).carrier = 1 + b.val → t.session j = {}) ∧
        t.loops = (s.freeBinding b).loops ∧ RegsKept s t [(hubSt, eidObj b)] ∧ { t with regs := s.regs, tr := s.tr, loops := s.loops } = s) ∧
      (∀ (e : Byte) (o : Bool), (e = 0 ∨ e = 0xFF → ∃ t, exec (.setEndpointId b e o) s = .next t ∧ (t.binding b).ctrl = [2] ∧
          { t with tr := s.tr } = s) ∧
        (e ≠ 0 → e ≠ 0xFF → o = false → ∃ t, exec (.setEndpointId b e o) s = .next t ∧
          (t.binding b).ctrl = [0x00, 0x10, BitVec.ofNat 8 (s.eid b), 0x00] ∧ { t with tr := s.tr } = s)) ∧
      (∀ (w : Byte) i l, (i, l) ∈ [(Instr.getEndpointId b, [0, BitVec.ofNat 8 (s.eid b), 0, 0]),
          (.getEndpointUuid b, 0 :: leBytes 16 (Config.uuid (s.rd hubSt O.SERIAL)).toNat),
          (.getMctpVersionSupport b w, if w = 0xFF ∨ w = 0 then [0x00, 0x01, 0xF1, 0xF3, 0xFF, 0x00] else [0x80]),
          (.getMessageTypeSupport b, [0x00, 0x01, 0x7F]),
          (.getVendorDefinedMessageSupport b w, if w = 0 then [0x00, 0xFF, 0x01, 0x00, 0x17, 0xF3, 0xA9, 0x00, 0x01] else [0x02])] →
        ∃ t, exec i s = .next t ∧ (t.binding b).ctrl = l ∧ { t with tr := s.tr } = s)) ∧
    (∀ (p : List Byte) (e w : Byte) (o : Bool),
      (s.mctpReach b = false ∨ (s.mctpServed b = false ∧ b = 0) → exec (.mctpPacket b p) s = .next s) ∧
      (s.mctpReach b = true → s.mctpServed b = false → b = 1 → exec (.mctpPacket b p) s = .next (s.inc32 hubSt O.MCTP_DISCARDS)) ∧
      (s.mctpReach b = false ∨ s.mctpServed b = false → ∀ i, i ∈ [Instr.setEndpointId b e o, .getEndpointId b, .getEndpointUuid b,
        .getMctpVersionSupport b w, .getMessageTypeSupport b, .getVendorDefinedMessageSupport b w] → exec i s = .next s)) ∧
    (∀ (src : Byte) (tag : Fin 8), let late (x : Assembly) : Bool :=
        x.binding == b.val && x.src == src.toNat && x.tag % 8 == tag.val && x.start + 100000000 ≤ s.time hubSt
      let n := (s.tr.assembly.filter late).length
      (n = 0 → exec (.mctpAssemblyTimeout b src tag) s = .next s) ∧
      (n ≠ 0 → ∃ t, exec (.mctpAssemblyTimeout b src tag) s = .next t ∧ t.tr.assembly = s.tr.assembly.filter (fun x => !late x) ∧
        t.rd hubSt O.MCTP_DISCARDS = satAdd max32 (s.rd hubSt O.MCTP_DISCARDS) n ∧ RegsKept s t [(hubSt, O.MCTP_DISCARDS)] ∧
        { t with regs := s.regs, tr := { t.tr with assembly := s.tr.assembly } } = s)) ∧
    (∀ (v : Bool) (d : Fin 128), (s.i3cUp = true → ∃ t, exec (.i3cAddressAssign v d) s = .next t ∧ t.rd hubSt O.I3C_DADDR = d.val ∧
        RegsKept s t [(hubSt, O.I3C_DADDR)] ∧ { t with regs := s.regs } = s) ∧
      (s.i3cUp = false → exec (.i3cAddressAssign v d) s = .next s)) ∧
    (s.mctpReach 0 = true → s.mctpServed 0 = true → let y := s.binding 0
      ((∀ p ∈ y.out.head?, endsNotify p = false) ∨ y.notes = [] → ∃ t, exec .i3cPrivateRead s = .next t ∧
        (t.binding 0).out = y.out.drop 1 ∧ (t.binding 0).notes = y.notes ∧ { t with tr := s.tr } = s) ∧
      (∀ p ps (j : Slot) n ns, y.out = p :: ps → endsNotify p = true → y.notes = (j.val, n) :: ns →
        ∃ t, exec .i3cPrivateRead s = .next t ∧ (t.binding 0).out = ps ∧ (t.binding 0).notes = ns ∧
          ((s.session j).notes.head? ≠ some n → t.session j = s.session j ∧ { t with tr := s.tr } = s) ∧
          (∀ l, (s.session j).notes = n :: l → (s.session j).lostSince = 0 → (t.session j).notes = l ∧ { t with tr := s.tr } = s) ∧
          (∀ l, (s.session j).notes = n :: l → (s.session j).lostSince ≠ 0 → (t.session j).notes.length = l.length + 1 ∧
            t.flt = (s.raise F.PHO_NOTE_LOST hubSt 0 0).flt ∧ { t with tr := s.tr, flt := s.flt, traces := s.traces } = s))) ∧
    (s.mctpReach 0 = false ∨ s.mctpServed 0 = false → exec .i3cPrivateRead s = .next s) ∧
    (∀ d, (s.i3cUp = true → ∃ t, exec (.disec d) s = .next t ∧ (t.binding 0).ibiOff = d ∧ (t.binding 0).out = (s.binding 0).out ∧
        { t with tr := s.tr } = s) ∧
      (s.i3cUp = false → exec (.disec d) s = .next s)) ∧
    (let comes := s.rst.held.isNone && bit (s.rd hubSt O.CLK_GOOD) 5 && s.rd hubSt O.PCIE_STATE != 1;
      (comes = true → ∃ t, exec .pcieCrossingUp s = .next t ∧ t.rd hubSt O.PCIE_STATE = 1 ∧ (t.session k).isOpen = true ∧
        (t.session k).carrier = 3 ∧ (t.session k).xfer = none ∧ t.channel ch = {} ∧
        { t with regs := s.regs, flt := s.flt, tr := s.tr } = s) ∧
      (comes = false → exec .pcieCrossingUp s = .next s)) ∧
    (∀ h, (s.rst.held = none → s.rd hubSt O.PCIE_STATE = 1 → ∃ t, exec (.pcieCrossingDown h) s = .next t ∧ t.rd hubSt O.PCIE_STATE = 2 ∧
        bit (t.rd hubSt O.CLK_GOOD) 5 = false ∧ (t.session k).isOpen = false ∧
        (s.rd hubSt O.HOST_TIER_STATE = 1 → t.rd hubSt O.HOST_TIER_SIZE = 0 ∧ t.rd hubSt O.HOST_TIER_STATE = 2) ∧
        { t with regs := s.regs, flt := s.flt, traces := s.traces, memory := s.memory, loops := s.loops, tiles := s.tiles, tr := s.tr } = s) ∧
      (s.rst.held = none → s.rd hubSt O.PCIE_STATE ≠ 1 → exec (.pcieCrossingDown h) s = .next (if h then (s.freeBinding 1).endTier else s)) ∧
      (s.rst.held ≠ none → exec (.pcieCrossingDown h) s = .next s)) ∧
    (∀ w, (s.rst.held = none → s.rd hubSt O.PCIE_STATE = 1 → ∃ t, exec (.windowBadAccess w) s = .next t ∧
        t.rd hubSt O.WIN_BAD = satAdd max32 (s.rd hubSt O.WIN_BAD) 1 ∧ RegsKept s t [(hubSt, O.WIN_BAD)] ∧ { t with regs := s.regs } = s) ∧
      (s.rst.held ≠ none ∨ s.rd hubSt O.PCIE_STATE ≠ 1 → exec (.windowBadAccess w) s = .next s)) ∧
    (s.hears k = true →
      (let r := ((s.putChannel ch { s.channel ch with dictAddr := a }).touch k).readObj k a;
        (∀ v, r = .ok v → v.length ≤ 8 → ∃ t, exec (.windowDictRead ch a) s = .next t ∧ (t.channel ch).dictData = leNat v ∧
          (t.channel ch).dictAddr = a ∧ (t.channel ch).dictStatus = 2 * 2 ^ 28 + 1 * 2 ^ 24 ∧ { t with tr := s.tr } = s) ∧
        (∀ e, r = .error e ∨ (∃ v, r = .ok v ∧ 8 < v.length ∧ e = .length) → ∃ t, exec (.windowDictRead ch a) s = .next t ∧
          (t.channel ch).dictData = (s.channel ch).dictData ∧
          (t.channel ch).dictStatus = 3 * 2 ^ 28 + 1 * 2 ^ 24 + abortCode e ∧ { t with tr := s.tr } = s)) ∧
      (∀ (n : BitVec 32) (d : BitVec 64),
        exec (.windowDictWrite ch a n d) s = .next (((s.putChannel ch { s.channel ch with
          dictAddr := a, dictLen := n.toNat, dictData := d.toNat }).writeObj k a (leBytes (min n.toNat 9) d.toNat)).dictStatus ch 2) ∧
        (n = 0 ∨ 8 < n.toNat → ∃ t, exec (.windowDictWrite ch a n d) s = .next t ∧ (t.session k).resp.abort ≠ 0 ∧
          (t.channel ch).dictStatus = 3 * 2 ^ 28 + 2 * 2 ^ 24 + (t.session k).resp.abort)) ∧
      (∀ (off n : BitVec 32),
        let y := s.putChannel ch { s.channel ch with dictAddr := a, dictLen := n.toNat, dictOffset := off.toNat }
        let takes (z : State) : State := if (z.session k).resp.abort = 0 then z.putChannel ch { z.channel ch with
          buffer := (z.session k).resp.data ++ (z.channel ch).buffer.drop (z.session k).resp.data.length } else z
        let i := y.opSegReadInit k a
        let q := (y.touch k).admitRead k a.station.toNat a.index.toNat a.sub.toNat
        (n = 0 ∨ 4096 < n.toNat → exec (.windowSegmentRead ch a off n) s = .next ((y.winLength ch 4 a).dictStatus ch 3) ∧
          (q = none ∨ q = some .state → ∃ t, exec (.windowSegmentRead ch a off n) s = .next t ∧
            (t.channel ch).dictStatus = 3 * 2 ^ 28 + 3 * 2 ^ 24 + abortCode .length ∧ { t with tr := s.tr } = s) ∧
          (∀ e, q = some e → e ≠ .state → ∃ t, exec (.windowSegmentRead ch a off n) s = .next t ∧
            (t.channel ch).dictStatus = 3 * 2 ^ 28 + 3 * 2 ^ 24 + abortCode e)) ∧
        (n ≠ 0 → n.toNat ≤ 4096 →
          (off ≠ 0 → exec (.windowSegmentRead ch a off n) s = .next ((takes (y.opSegRead k a off.toNat n.toNat)).dictStatus ch 3)) ∧
          (off = 0 → (i.session k).resp.abort ≠ 0 → exec (.windowSegmentRead ch a off n) s = .next (i.dictStatus ch 3)) ∧
          (off = 0 → (i.session k).resp.abort = 0 → exec (.windowSegmentRead ch a off n) s = .next ((takes ((i.putChannel ch
            { i.channel ch with dictTotal := (i.session k).resp.param }).opSegRead k a 0 n.toNat)).dictStatus ch 3)) ∧
          (∀ v : List Byte, off ≠ 0 → x.carrier = 3 → x.xfer = some (.read a (some v)) → s.xferGone k a = none →
            ∃ t, exec (.windowSegmentRead ch a off n) s = .next t ∧
            (t.channel ch).buffer = (v.drop off.toNat).take n.toNat ++ (s.channel ch).buffer.drop ((v.drop off.toNat).take n.toNat).length ∧
            (t.channel ch).dictStatus = 2 * 2 ^ 28 + 3 * 2 ^ 24 ∧ { t with tr := s.tr } = s))) ∧
      (∀ (off total : BitVec 32) (d : List Byte),
        let y := s.putChannel ch { s.channel ch with dictAddr := a, dictLen := d.length, dictOffset := off.toNat, dictTotal := total.toNat
                                                     buffer := d ++ (s.channel ch).buffer.drop d.length }
        let i := y.opSegWriteInit k a total.toNat
        let q := (y.touch k).admitWrite k a.station.toNat a.index.toNat a.sub.toNat
          ((objRow a.station.toNat a.index.toNat a.sub.toNat).elim 0 ObjRow.size)
        (d = [] ∨ 4096 < d.length → exec (.windowSegmentWrite ch a off total d) s = .next ((y.winLength ch 6 a).dictStatus ch 4) ∧
          (q = none ∨ q = some .state → ∃ t, exec (.windowSegmentWrite ch a off total d) s = .next t ∧
            (t.channel ch).dictStatus = 3 * 2 ^ 28 + 4 * 2 ^ 24 + abortCode .length ∧ { t with tr := s.tr } = s) ∧
          (∀ e, q = some e → e ≠ .state → ∃ t, exec (.windowSegmentWrite ch a off total d) s = .next t ∧
            (t.channel ch).dictStatus = 3 * 2 ^ 28 + 4 * 2 ^ 24 + abortCode e)) ∧
        (d ≠ [] → d.length ≤ 4096 →
          (off ≠ 0 → exec (.windowSegmentWrite ch a off total d) s = .next ((y.opSegWrite k a off.toNat d).dictStatus ch 4)) ∧
          (off = 0 → exec (.windowSegmentWrite ch a off total d) s = .next (if (i.session k).resp.abort = 0
            then (i.opSegWrite k a 0 d).dictStatus ch 4 else i.dictStatus ch 4)) ∧
          (∀ (got : List Byte) (m : Nat), off ≠ 0 → x.carrier = 3 → x.xfer = some (.write a m got) → (s.touch k).bufGone k a = none →
            off.toNat = got.length → got.length + d.length ≤ m →
            ∃ t, exec (.windowSegmentWrite ch a off total d) s = .next t ∧ (t.session k).xfer = some (.write a m (got ++ d)) ∧
              (t.channel ch).dictStatus = 2 * 2 ^ 28 + 4 * 2 ^ 24 ∧ { t with tr := s.tr } = s))) ∧
      (let u := s.putChannel ch (s.channel ch); exec (.windowSegEnd ch) s = .next ((u.opSegEnd k (s.channel ch).dictAddr (s.channel ch).dictTotal).dictStatus ch 5)) ∧
      (∃ t, exec (.windowAbort ch) s = .next t ∧ (t.session k).xfer = none ∧ (t.channel ch).dictStatus = 2 * 2 ^ 28 + 6 * 2 ^ 24 ∧
        { t with tr := s.tr } = s) ∧
      exec (.noteAck ch) s = .next (s.takeNote k) ∧
      (x.lostSince = 0 → ∃ t, exec (.noteAck ch) s = .next t ∧ (t.session k).notes = x.notes.drop 1 ∧ { t with tr := s.tr } = s) ∧
      (∀ (d : List Byte), let u := s.putChannel ch { s.channel ch with partDesc := stage32 d }
        let q := (u.touch k).admitWrite k hubSt O.PART_CLAIM.index O.PART_CLAIM.sub 32
        (∀ v, q = none → effPartClaim k (stage32 d) (u.touch k) = .ok v → exec (.partClaimGo ch d) s = .next (v.respond k { op := 2 })) ∧
        (∀ e, q = some e ∨ (q = none ∧ effPartClaim k (stage32 d) (u.touch k) = .error e) →
          exec (.partClaimGo ch d) s = .next (u.turned k hubSt O.PART_CLAIM e))) ∧
      (∀ (p : PartId) (d : List Byte), let u := s.putChannel ch { s.channel ch with bindData := stage32 d }
        let o := partObj 0x2A40 p
        let q := (u.touch k).admitWrite k hubSt o.index o.sub 32
        (∀ v, q = none → effBind p (stage32 d) (u.touch k) = .ok v → exec (.bindGo ch p d) s = .next ((v.respond k { op := 2 }).noteFast k)) ∧
        (∀ e, q = some e ∨ (q = none ∧ effBind p (stage32 d) (u.touch k) = .error e) →
          exec (.bindGo ch p d) s = .next ((u.turned k hubSt o e).noteFast k)))) ∧
    (s.hears k = false → ∀ (n off : BitVec 32) (d : BitVec 64) (l : List Byte) (p : PartId) i, i ∈ [Instr.windowDictRead ch a, .windowDictWrite ch a n d,
      .windowSegmentRead ch a off n, .windowSegmentWrite ch a off n l, .windowSegEnd ch, .windowAbort ch, .noteAck ch, .partClaimGo ch l,
      .bindGo ch p l] → exec i s = .next s)

/-! ### Writes (chapters 01 and 15) -/

/-- Writes (R12-R16, R404, R406): a write that is admitted has the effect of its object and is answered; one that is refused leaves every
object as it was and answers the code of the first check of R406 that fails; a denied one raises PHO_DENIED; a value outside its range is
refused with CFG_RANGE, one inside is stored; the same holds of every command that writes one object of its own; a session that is not
heard changes nothing (assumption 73). -/
def Obligations.WritesTakeEffectOrAreRefused : Prop :=
  ∀ (s : State) (slot : Slot) (a : DictAddr) (l : List Byte), let u := s.touch slot
    let st := a.station.toNat
    let idx := a.index.toNat
    let sub := a.sub.toNat
    let r := objAct slot st idx sub l u
    (s.hears slot = true →
      (u.admitValue slot st idx sub l = none → exec (.configWrite slot a l) s = .next (r.1.answer slot 2 st idx sub r.2)) ∧
      (u.admitExpedited slot st idx sub l = none → exec (.write slot a l) s = .next (r.1.answer slot 2 st idx sub r.2)) ∧
      (∀ e i, (i = Instr.configWrite slot a l ∧ u.admitValue slot st idx sub l = some e) ∨
          (i = .write slot a l ∧ u.admitExpedited slot st idx sub l = some e) →
        ∃ t, exec i s = .next t ∧ (t.session slot).resp = { op := 2, abort := abortCode e } ∧
          (e = .denied → t.flt = (s.raise F.PHO_DENIED hubSt 0 0).flt) ∧ (e ≠ .denied → e ≠ .value → t.flt = s.flt) ∧
          { t with tr := s.tr, flt := s.flt, wheels := s.wheels, traces := s.traces } = s) ∧
      (addrStation st = none → st < 0x8000 → u.admitValue slot st idx sub l = some .unknownStation) ∧
      (∀ x, addrStation st = some x → s.denies slot st idx sub = true → u.admitValue slot st idx sub l = some .denied) ∧
      (∀ x, addrStation st = some x → s.denies slot st idx sub = false → s.unreachable x = false → s.rindClosed st idx sub = true →
        u.admitValue slot st idx sub l = some .blockReset) ∧
      (∀ x, addrStation st = some x → s.denies slot st idx sub = false → s.unreachable x = false → s.rindClosed st idx sub = false →
        s.coreBusy slot st idx sub = false →
        (objRow st idx sub = none → u.admitValue slot st idx sub l = some .unknownObject) ∧
        (∀ o, objRow st idx sub = some o → o.access = .ro → u.admitValue slot st idx sub l = some .readOnly) ∧
        (∀ o, objRow st idx sub = some o → o.access ≠ .ro → levelReadOnly s st idx sub = false → o.size ≠ 0 → l.length ≠ o.size →
          u.admitValue slot st idx sub l = some .length) ∧
        (∀ o, objRow st idx sub = some o → o.access = .rws → levelReadOnly s st idx sub = false → l.length = o.size → o.size ≠ 0 →
          s.ownerStopped st = false → u.admitValue slot st idx sub l = some .state)) ∧
      (∀ o q, o ∈ [O.XFER_TIMEOUT, O.SESSION_IDLE, O.ERR_THRESH, O.ESC_RESET] → st = hubSt → idx = o.index → sub = o.sub →
        objRow hubSt o.index o.sub = some q → u.admitValue slot st idx sub l = none →
        (q.lo ≤ leNat l → leNat l ≤ q.hi → ∃ t, exec (.configWrite slot a l) s = .next t ∧ t.rd hubSt o = leNat l ∧
          (t.session slot).resp = { op := 2 } ∧ RegsKept s t [(hubSt, o)] ∧ { t with regs := s.regs, tr := s.tr } = s) ∧
        (leNat l < q.lo ∨ q.hi < leNat l → exec (.configWrite slot a l) s = .next (s.turned slot hubSt o .value)))) ∧
    (∀ (i : Instr) (w : WriteReq), writeOf i = some w →
      (s.hears w.slot = false → exec i s = .next s) ∧
      (∀ e, s.hears w.slot = true → (s.touch w.slot).admitWrite w.slot w.st w.obj.index w.obj.sub w.len = some e →
        ∃ t, exec i s = .next t ∧ (t.session w.slot).resp = { op := 2, abort := abortCode e } ∧
          (e = .denied → t.flt = (s.raise F.PHO_DENIED hubSt 0 0).flt) ∧ (e ≠ .denied → e ≠ .value → t.flt = s.flt) ∧
          { t with tr := s.tr, flt := s.flt, wheels := s.wheels, traces := s.traces } = s)) ∧
    (s.hears slot = false → ∀ (w : WheelRef) (i : Instr), i ∈ [.write slot a l, .configWrite slot a l, .wheelStart slot w,
      .wheelStop slot w, .wheelPark slot w, .wheelRelease slot w, .wheelClear slot w] → exec i s = .next s)
end

