-- ==== Sys2Proof/Laws/Table.lean ====
section
/-!
SUPPORT. The laws of the sparse tables: a read after a write, and that every operation keeps the canonical form.
-/
namespace Sys2Proof.Machine
open Sys2Proof

variable {α : Type}

@[simp] theorem tblFind_nil (k : Nat) : tblFind ([] : Tbl α) k = none := rfl
theorem tblFind_cons (j : Nat) (a : α) (r : Tbl α) (k : Nat) :
    tblFind ((j, a) :: r) k = if j = k then some a else tblFind r k := rfl

theorem tblFind_erase_same (t : Tbl α) (k : Nat) : tblFind (tblErase t k) k = none := by
  induction t with
  | nil => rfl
  | cons p r ih =>
    obtain ⟨j, a⟩ := p
    by_cases h : j = k
    · simpa [tblErase, h] using ih
    · simpa [tblErase, h, tblFind_cons] using ih

theorem tblFind_erase_ne (t : Tbl α) {k j : Nat} (h : j ≠ k) : tblFind (tblErase t k) j = tblFind t j := by
  induction t with
  | nil => rfl
  | cons p r ih =>
    obtain ⟨i, a⟩ := p
    by_cases e : i = k
    · have : i ≠ j := fun q => h (q ▸ e)
      simpa [tblErase, e, tblFind_cons, show k ≠ j from fun q => h q.symm] using ih
    · by_cases q : i = j
      · simp [tblErase, tblFind_cons, q, h]
      · simpa [tblErase, e, tblFind_cons, q] using ih

theorem tblFind_insert_same (t : Tbl α) (k : Nat) (v : α) : tblFind (tblInsert t k v) k = some v := by
  induction t with
  | nil => simp [tblInsert, tblFind_cons]
  | cons p r ih =>
    obtain ⟨j, a⟩ := p
    simp only [tblInsert]
    split
    · simp [tblFind_cons]
    · split
      · simp [tblFind_cons]
      · rename_i h; simpa [tblFind_cons, h] using ih

theorem tblFind_insert_ne (t : Tbl α) {k j : Nat} (v : α) (h : j ≠ k) : tblFind (tblInsert t k v) j = tblFind t j := by
  have h' : k ≠ j := fun q => h q.symm
  induction t with
  | nil => simp [tblInsert, tblFind_cons, h']
  | cons p r ih =>
    obtain ⟨i, a⟩ := p
    simp only [tblInsert]
    split
    · simp [tblFind_cons, h']
    · split
      · rename_i e; simp [tblFind_cons, e, h']
      · simp only [tblFind_cons, ih]

section
variable [DecidableEq α]

/-- A read of the key written gives the value written. -/
@[simp] theorem tblGet_set_same (d : α) (t : Tbl α) (k : Nat) (v : α) : tblGet d (tblSet d t k v) k = v := by
  unfold tblSet tblGet
  split
  · rename_i h; simp [tblFind_erase_same, h]
  · simp [tblFind_insert_same]

/-- A write leaves every other key alone. -/
theorem tblFind_set_ne (d : α) (t : Tbl α) {k j : Nat} (v : α) (h : j ≠ k) : tblFind (tblSet d t k v) j = tblFind t j := by
  unfold tblSet
  split
  · exact tblFind_erase_ne t h
  · exact tblFind_insert_ne t v h

@[simp] theorem tblGet_set_ne (d e : α) (t : Tbl α) {k j : Nat} (v : α) (h : j ≠ k) : tblGet d (tblSet e t k v) j = tblGet d t j := by
  simp [tblGet, tblFind_set_ne e t v h]
end

/-! ### The canonical form -/

theorem tblRising_filter (p : Nat × α → Bool) (t : Tbl α) (h : tblRising t = true) : tblRising (t.filter p) = true := by
  induction t with
  | nil => rfl
  | cons q r ih =>
    obtain ⟨j, a⟩ := q
    simp only [tblRising, Bool.and_eq_true, List.all_eq_true] at h
    by_cases e : p (j, a) = true
    · simp only [List.filter_cons, e, if_true, tblRising, Bool.and_eq_true, List.all_eq_true]
      exact ⟨fun x hx => h.1 x (List.mem_filter.mp hx).1, ih h.2⟩
    · simpa [List.filter_cons, e] using ih h.2

theorem tblRising_erase (t : Tbl α) (k : Nat) (h : tblRising t = true) : tblRising (tblErase t k) = true :=
  tblRising_filter _ t h

theorem tblKeep_rising (p : Nat → Bool) (t : Tbl α) (h : tblRising t = true) : tblRising (tblKeep p t) = true :=
  tblRising_filter _ t h

theorem mem_insert (t : Tbl α) (k : Nat) (v : α) (x : Nat × α) (h : x ∈ tblInsert t k v) : x = (k, v) ∨ x ∈ t := by
  induction t with
  | nil => simpa [tblInsert] using h
  | cons p r ih =>
    obtain ⟨j, a⟩ := p
    simp only [tblInsert] at h
    split at h
    · simpa using h
    · split at h
      · rcases List.mem_cons.mp h with e | e
        · exact .inl e
        · exact .inr (List.mem_cons_of_mem _ e)
      · rcases List.mem_cons.mp h with e | e
        · exact .inr (e ▸ List.mem_cons_self)
        · rcases ih e with q | q
          · exact .inl q
          · exact .inr (List.mem_cons_of_mem _ q)

theorem tblRising_insert (t : Tbl α) (k : Nat) (v : α) (h : tblRising t = true) : tblRising (tblInsert t k v) = true := by
  induction t with
  | nil => rfl
  | cons p r ih =>
    obtain ⟨j, a⟩ := p
    have hh := h
    simp only [tblRising, Bool.and_eq_true, List.all_eq_true, decide_eq_true_eq] at h
    simp only [tblInsert]
    split
    · rename_i hk
      simp only [tblRising, Bool.and_eq_true, List.all_eq_true, decide_eq_true_eq]
      refine ⟨?_, h.1, h.2⟩
      intro x hx
      rcases List.mem_cons.mp hx with e | e
      · simpa [e] using hk
      · exact Nat.lt_trans hk (h.1 x e)
    · split
      · rename_i e
        simp only [tblRising, Bool.and_eq_true, List.all_eq_true, decide_eq_true_eq]
        exact ⟨fun x hx => e ▸ h.1 x hx, h.2⟩
      · simp only [tblRising, Bool.and_eq_true, List.all_eq_true, decide_eq_true_eq]
        refine ⟨?_, ih h.2⟩
        intro x hx
        rcases mem_insert r k v x hx with e | e
        · subst e; simp only; omega
        · exact h.1 x e

/-- A write keeps the keys rising. -/
theorem tblSet_rising [DecidableEq α] (d : α) (t : Tbl α) (k : Nat) (v : α) (h : tblRising t = true) :
    tblRising (tblSet d t k v) = true := by
  unfold tblSet
  split
  · exact tblRising_erase t k h
  · exact tblRising_insert t k v h

/-- A write of a value under its own default keeps the canonical form. -/
theorem tblSet_wf [DecidableEq α] (d : Nat → α) (t : Tbl α) (k : Nat) (v : α) (h : tblWf d t = true) :
    tblWf d (tblSet (d k) t k v) = true := by
  simp only [tblWf, Bool.and_eq_true, List.all_eq_true, decide_eq_true_eq] at h ⊢
  refine ⟨tblSet_rising _ t k v h.1, ?_⟩
  intro x hx
  unfold tblSet at hx
  split at hx
  · exact h.2 x (List.mem_filter.mp hx).1
  · rename_i hv
    rcases mem_insert t k v x hx with e | e
    · subst e; exact hv
    · exact h.2 x e

end Sys2Proof.Machine
end

