-- ==== Sys2Proof/Laws/Memory.lean ====
section
/-!
SUPPORT. The scratchpads: every operation on them keeps the canonical form, and what a byte reads after a write.
-/
namespace Sys2Proof.Machine
open Sys2Proof

theorem Memory.wf_nil : Memory.wf [] = true := rfl

/-- The scratchpads are in canonical form after reset. -/
theorem Memory.wf_reset : Memory.wf State.reset.mem = true := rfl

/-- A written byte keeps the canonical form. -/
theorem Memory.wf_set (m : List Host.Cell) (k : Nat) (b : Byte) (h : Memory.wf m = true) : Memory.wf (tblSet 0 m k b) = true :=
  tblSet_wf (fun _ => 0) m k b h

/-- Clearing a range keeps the canonical form. -/
theorem Memory.wf_keep (p : Nat → Bool) (m : List Host.Cell) (h : Memory.wf m = true) : Memory.wf (tblKeep p m) = true := by
  simp only [Memory.wf, tblWf, Bool.and_eq_true, List.all_eq_true] at h ⊢
  exact ⟨tblKeep_rising p m h.1, fun x hx => h.2 x (List.mem_filter.mp hx).1⟩

/-- A store of any number of bytes keeps the canonical form. -/
theorem Memory.wf_putBytes (st : Nat) (l : List Nat) :
    ∀ (s : State) (a : Nat), Memory.wf s.mem = true → Memory.wf (s.putBytes st a l).mem = true := by
  induction l with
  | nil => exact fun s a h => h
  | cons b r ih => exact fun s a h => ih _ _ (Memory.wf_set s.mem _ _ h)

theorem Memory.wf_putPad (st : Nat) (l : List Nat) (s : State) (a : Nat) (h : Memory.wf s.mem = true) :
    Memory.wf (s.putPad st a l).mem = true := Memory.wf_putBytes st l s a h

theorem Memory.wf_putPadNat (s : State) (st a n v : Nat) (h : Memory.wf s.mem = true) : Memory.wf (s.putPadNat st a n v).mem = true :=
  Memory.wf_putPad st _ s a h

/-- Freeing the Curd table keeps the canonical form. -/
theorem Memory.wf_curdFree (s : State) (h : Memory.wf s.mem = true) : Memory.wf s.curdFree.mem = true := by
  unfold State.curdFree
  generalize List.filter s.curdOpen [22, 23] = l
  induction l generalizing s with
  | nil => exact h
  | cons b r ih =>
    exact ih _ (Memory.wf_keep (fun k => !(decide (b * 0x8000 ≤ k) && decide (k < (b + 1) * 0x8000))) s.mem h)

/-- A stored byte reads back. -/
theorem pad_putPad_one (s : State) (st a b : Nat) : (s.putPad st a [b]).pad st a = b % 256 := by
  simp [State.putPad, State.putBytes, State.clearPoison, State.pad]

/-- A store leaves every byte outside it as it was. -/
theorem pad_putBytes_other (st st' a' : Nat) (l : List Nat) :
    ∀ (s : State) (a : Nat), (∀ k, k < l.length → padKey st' a' ≠ padKey st (a + k)) → (s.putBytes st a l).pad st' a' = s.pad st' a' := by
  induction l with
  | nil => exact fun s a _ => rfl
  | cons b r ih =>
    intro s a h
    have h0 := h 0 (by simp)
    rw [State.putBytes, ih _ (a + 1) (fun k hk => by have := h (k + 1) (by simpa using hk); rwa [show a + (k + 1) = a + 1 + k by omega] at this)]
    simp only [Nat.add_zero] at h0
    simp [State.pad, tblGet, tblFind_set_ne _ _ _ h0]

theorem pad_putPad_other (st st' a' : Nat) (l : List Nat) (s : State) (a : Nat)
    (h : ∀ k, k < l.length → padKey st' a' ≠ padKey st (a + k)) : (s.putPad st a l).pad st' a' = s.pad st' a' :=
  pad_putBytes_other st st' a' l s a h

/-- A store changes nothing but the scratchpads' bytes. -/
theorem putBytes_frame (st : Nat) (l : List Nat) : ∀ (s : State) (a : Nat), { s.putBytes st a l with mem := s.mem } = s := by
  induction l with
  | nil => exact fun s a => rfl
  | cons b r ih =>
    intro s a
    have := ih { s with mem := tblSet 0 s.mem (padKey st a) (BitVec.ofNat 8 b) } (a + 1)
    rw [State.putBytes]
    generalize State.putBytes _ st (a + 1) r = t at this ⊢
    cases t; cases s; simp_all

/-- A store changes nothing but the scratchpads' bytes and their poison. -/
theorem putPad_frame (st : Nat) (l : List Nat) (s : State) (a : Nat) :
    { s.putPad st a l with mem := s.mem, poison := s.poison } = s := by
  have h := putBytes_frame st l s a
  unfold State.putPad State.clearPoison
  generalize State.putBytes s st a l = t at h ⊢
  cases t; cases s; simp_all

end Sys2Proof.Machine
end

