-- ==== Sys2Proof/Laws/State.lean ====
section
/-!
SUPPORT. What each update of the state leaves alone, field by field, and what a read gives after a write.
-/
namespace Sys2Proof.Machine
open Sys2Proof

variable (s : State)

/-! ### Fields an update leaves alone -/

@[simp] theorem wrRaw_fields (st idx sub v : Nat) :
    (s.wrRaw st idx sub v).pending = s.pending ∧ (s.wrRaw st idx sub v).now = s.now ∧ (s.wrRaw st idx sub v).skew = s.skew ∧
    (s.wrRaw st idx sub v).free = s.free ∧ (s.wrRaw st idx sub v).wheels = s.wheels ∧ (s.wrRaw st idx sub v).groups = s.groups ∧
    (s.wrRaw st idx sub v).net = s.net ∧ (s.wrRaw st idx sub v).flt = s.flt ∧ (s.wrRaw st idx sub v).tr = s.tr ∧
    (s.wrRaw st idx sub v).mrs = s.mrs ∧ (s.wrRaw st idx sub v).cells = s.cells ∧ (s.wrRaw st idx sub v).sensors = s.sensors ∧
    (s.wrRaw st idx sub v).loops = s.loops ∧ (s.wrRaw st idx sub v).tiles = s.tiles ∧ (s.wrRaw st idx sub v).seq = s.seq ∧
    (s.wrRaw st idx sub v).trip = s.trip ∧ (s.wrRaw st idx sub v).supply = s.supply ∧ (s.wrRaw st idx sub v).tels = s.tels ∧
    (s.wrRaw st idx sub v).rails = s.rails ∧ (s.wrRaw st idx sub v).phases = s.phases ∧ (s.wrRaw st idx sub v).convs = s.convs ∧
    (s.wrRaw st idx sub v).segs = s.segs ∧ (s.wrRaw st idx sub v).adcs = s.adcs ∧ (s.wrRaw st idx sub v).therms = s.therms ∧
    (s.wrRaw st idx sub v).pass = s.pass ∧ (s.wrRaw st idx sub v).arbs = s.arbs ∧ (s.wrRaw st idx sub v).engines = s.engines ∧
    (s.wrRaw st idx sub v).traces = s.traces ∧ (s.wrRaw st idx sub v).mem = s.mem ∧ (s.wrRaw st idx sub v).manifest = s.manifest ∧
    (s.wrRaw st idx sub v).ests = s.ests ∧ (s.wrRaw st idx sub v).ledger = s.ledger ∧ (s.wrRaw st idx sub v).blobs = s.blobs ∧
    (s.wrRaw st idx sub v).poison = s.poison ∧ (s.wrRaw st idx sub v).budget = s.budget ∧ (s.wrRaw st idx sub v).pub = s.pub ∧
    (s.wrRaw st idx sub v).rst = s.rst ∧ (s.wrRaw st idx sub v).moult = s.moult ∧ (s.wrRaw st idx sub v).memory = s.memory ∧
    (s.wrRaw st idx sub v).tap = s.tap ∧ (s.wrRaw st idx sub v).marks = s.marks :=
  ⟨rfl, rfl, rfl, rfl, rfl, rfl, rfl, rfl, rfl, rfl, rfl, rfl, rfl, rfl, rfl, rfl, rfl, rfl, rfl, rfl, rfl, rfl, rfl, rfl, rfl, rfl, rfl, rfl, rfl, rfl, rfl, rfl, rfl, rfl, rfl, rfl, rfl, rfl, rfl, rfl, rfl⟩

@[simp] theorem wr_fields (st : Nat) (o : Obj) (v : Nat) :
    (s.wr st o v).pending = s.pending ∧ (s.wr st o v).now = s.now ∧ (s.wr st o v).skew = s.skew ∧ (s.wr st o v).free = s.free ∧
    (s.wr st o v).wheels = s.wheels ∧ (s.wr st o v).groups = s.groups ∧ (s.wr st o v).net = s.net ∧ (s.wr st o v).flt = s.flt ∧
    (s.wr st o v).tr = s.tr ∧ (s.wr st o v).mrs = s.mrs ∧ (s.wr st o v).cells = s.cells ∧ (s.wr st o v).sensors = s.sensors ∧
    (s.wr st o v).loops = s.loops ∧ (s.wr st o v).tiles = s.tiles ∧ (s.wr st o v).seq = s.seq ∧ (s.wr st o v).trip = s.trip ∧
    (s.wr st o v).supply = s.supply ∧ (s.wr st o v).tels = s.tels ∧ (s.wr st o v).rails = s.rails ∧ (s.wr st o v).phases = s.phases ∧
    (s.wr st o v).convs = s.convs ∧ (s.wr st o v).segs = s.segs ∧ (s.wr st o v).adcs = s.adcs ∧ (s.wr st o v).therms = s.therms ∧
    (s.wr st o v).pass = s.pass ∧ (s.wr st o v).arbs = s.arbs ∧ (s.wr st o v).engines = s.engines ∧ (s.wr st o v).traces = s.traces ∧
    (s.wr st o v).mem = s.mem ∧ (s.wr st o v).manifest = s.manifest ∧ (s.wr st o v).ests = s.ests ∧ (s.wr st o v).ledger = s.ledger ∧
    (s.wr st o v).blobs = s.blobs ∧ (s.wr st o v).poison = s.poison ∧ (s.wr st o v).budget = s.budget ∧ (s.wr st o v).pub = s.pub ∧
    (s.wr st o v).rst = s.rst ∧ (s.wr st o v).moult = s.moult ∧ (s.wr st o v).memory = s.memory ∧ (s.wr st o v).tap = s.tap ∧
    (s.wr st o v).marks = s.marks :=
  ⟨rfl, rfl, rfl, rfl, rfl, rfl, rfl, rfl, rfl, rfl, rfl, rfl, rfl, rfl, rfl, rfl, rfl, rfl, rfl, rfl, rfl, rfl, rfl, rfl, rfl, rfl, rfl, rfl, rfl, rfl, rfl, rfl, rfl, rfl, rfl, rfl, rfl, rfl, rfl, rfl, rfl⟩

@[simp] theorem inc_fields (st : Nat) (o : Obj) (m n : Nat) :
    (s.inc st o m n).pending = s.pending ∧ (s.inc st o m n).now = s.now ∧ (s.inc st o m n).skew = s.skew ∧ (s.inc st o m n).free = s.free ∧
    (s.inc st o m n).wheels = s.wheels ∧ (s.inc st o m n).groups = s.groups ∧ (s.inc st o m n).net = s.net ∧
    (s.inc st o m n).flt = s.flt ∧ (s.inc st o m n).tr = s.tr ∧ (s.inc st o m n).mrs = s.mrs ∧ (s.inc st o m n).cells = s.cells ∧
    (s.inc st o m n).sensors = s.sensors ∧ (s.inc st o m n).loops = s.loops ∧ (s.inc st o m n).tiles = s.tiles ∧
    (s.inc st o m n).seq = s.seq ∧ (s.inc st o m n).trip = s.trip ∧ (s.inc st o m n).supply = s.supply ∧ (s.inc st o m n).tels = s.tels ∧
    (s.inc st o m n).rails = s.rails ∧ (s.inc st o m n).phases = s.phases ∧ (s.inc st o m n).convs = s.convs ∧
    (s.inc st o m n).segs = s.segs ∧ (s.inc st o m n).adcs = s.adcs ∧ (s.inc st o m n).therms = s.therms ∧ (s.inc st o m n).pass = s.pass ∧
    (s.inc st o m n).arbs = s.arbs ∧ (s.inc st o m n).engines = s.engines ∧ (s.inc st o m n).traces = s.traces ∧
    (s.inc st o m n).mem = s.mem ∧ (s.inc st o m n).manifest = s.manifest ∧ (s.inc st o m n).ests = s.ests ∧
    (s.inc st o m n).ledger = s.ledger ∧ (s.inc st o m n).blobs = s.blobs ∧ (s.inc st o m n).poison = s.poison ∧
    (s.inc st o m n).budget = s.budget ∧ (s.inc st o m n).pub = s.pub ∧ (s.inc st o m n).rst = s.rst ∧ (s.inc st o m n).moult = s.moult ∧
    (s.inc st o m n).memory = s.memory ∧ (s.inc st o m n).tap = s.tap ∧ (s.inc st o m n).marks = s.marks :=
  ⟨rfl, rfl, rfl, rfl, rfl, rfl, rfl, rfl, rfl, rfl, rfl, rfl, rfl, rfl, rfl, rfl, rfl, rfl, rfl, rfl, rfl, rfl, rfl, rfl, rfl, rfl, rfl, rfl, rfl, rfl, rfl, rfl, rfl, rfl, rfl, rfl, rfl, rfl, rfl, rfl, rfl⟩

@[simp] theorem inc16_fields (st : Nat) (o : Obj) :
    (s.inc16 st o).pending = s.pending ∧ (s.inc16 st o).now = s.now ∧ (s.inc16 st o).skew = s.skew ∧ (s.inc16 st o).free = s.free ∧
    (s.inc16 st o).wheels = s.wheels ∧ (s.inc16 st o).groups = s.groups ∧ (s.inc16 st o).net = s.net ∧ (s.inc16 st o).flt = s.flt ∧
    (s.inc16 st o).tr = s.tr ∧ (s.inc16 st o).mrs = s.mrs ∧ (s.inc16 st o).cells = s.cells ∧ (s.inc16 st o).sensors = s.sensors ∧
    (s.inc16 st o).loops = s.loops ∧ (s.inc16 st o).tiles = s.tiles ∧ (s.inc16 st o).seq = s.seq ∧ (s.inc16 st o).trip = s.trip ∧
    (s.inc16 st o).supply = s.supply ∧ (s.inc16 st o).tels = s.tels ∧ (s.inc16 st o).rails = s.rails ∧ (s.inc16 st o).phases = s.phases ∧
    (s.inc16 st o).convs = s.convs ∧ (s.inc16 st o).segs = s.segs ∧ (s.inc16 st o).adcs = s.adcs ∧ (s.inc16 st o).therms = s.therms ∧
    (s.inc16 st o).pass = s.pass ∧ (s.inc16 st o).arbs = s.arbs ∧ (s.inc16 st o).engines = s.engines ∧ (s.inc16 st o).traces = s.traces ∧
    (s.inc16 st o).mem = s.mem ∧ (s.inc16 st o).manifest = s.manifest ∧ (s.inc16 st o).ests = s.ests ∧ (s.inc16 st o).ledger = s.ledger ∧
    (s.inc16 st o).blobs = s.blobs ∧ (s.inc16 st o).poison = s.poison ∧ (s.inc16 st o).budget = s.budget ∧ (s.inc16 st o).pub = s.pub ∧
    (s.inc16 st o).rst = s.rst ∧ (s.inc16 st o).moult = s.moult ∧ (s.inc16 st o).memory = s.memory ∧ (s.inc16 st o).tap = s.tap ∧
    (s.inc16 st o).marks = s.marks :=
  ⟨rfl, rfl, rfl, rfl, rfl, rfl, rfl, rfl, rfl, rfl, rfl, rfl, rfl, rfl, rfl, rfl, rfl, rfl, rfl, rfl, rfl, rfl, rfl, rfl, rfl, rfl, rfl, rfl, rfl, rfl, rfl, rfl, rfl, rfl, rfl, rfl, rfl, rfl, rfl, rfl, rfl⟩

@[simp] theorem inc32_fields (st : Nat) (o : Obj) :
    (s.inc32 st o).pending = s.pending ∧ (s.inc32 st o).now = s.now ∧ (s.inc32 st o).skew = s.skew ∧ (s.inc32 st o).free = s.free ∧
    (s.inc32 st o).wheels = s.wheels ∧ (s.inc32 st o).groups = s.groups ∧ (s.inc32 st o).net = s.net ∧ (s.inc32 st o).flt = s.flt ∧
    (s.inc32 st o).tr = s.tr ∧ (s.inc32 st o).mrs = s.mrs ∧ (s.inc32 st o).cells = s.cells ∧ (s.inc32 st o).sensors = s.sensors ∧
    (s.inc32 st o).loops = s.loops ∧ (s.inc32 st o).tiles = s.tiles ∧ (s.inc32 st o).seq = s.seq ∧ (s.inc32 st o).trip = s.trip ∧
    (s.inc32 st o).supply = s.supply ∧ (s.inc32 st o).tels = s.tels ∧ (s.inc32 st o).rails = s.rails ∧ (s.inc32 st o).phases = s.phases ∧
    (s.inc32 st o).convs = s.convs ∧ (s.inc32 st o).segs = s.segs ∧ (s.inc32 st o).adcs = s.adcs ∧ (s.inc32 st o).therms = s.therms ∧
    (s.inc32 st o).pass = s.pass ∧ (s.inc32 st o).arbs = s.arbs ∧ (s.inc32 st o).engines = s.engines ∧ (s.inc32 st o).traces = s.traces ∧
    (s.inc32 st o).mem = s.mem ∧ (s.inc32 st o).manifest = s.manifest ∧ (s.inc32 st o).ests = s.ests ∧ (s.inc32 st o).ledger = s.ledger ∧
    (s.inc32 st o).blobs = s.blobs ∧ (s.inc32 st o).poison = s.poison ∧ (s.inc32 st o).budget = s.budget ∧ (s.inc32 st o).pub = s.pub ∧
    (s.inc32 st o).rst = s.rst ∧ (s.inc32 st o).moult = s.moult ∧ (s.inc32 st o).memory = s.memory ∧ (s.inc32 st o).tap = s.tap ∧
    (s.inc32 st o).marks = s.marks :=
  ⟨rfl, rfl, rfl, rfl, rfl, rfl, rfl, rfl, rfl, rfl, rfl, rfl, rfl, rfl, rfl, rfl, rfl, rfl, rfl, rfl, rfl, rfl, rfl, rfl, rfl, rfl, rfl, rfl, rfl, rfl, rfl, rfl, rfl, rfl, rfl, rfl, rfl, rfl, rfl, rfl, rfl⟩

@[simp] theorem inc64_fields (st : Nat) (o : Obj) (n : Nat) :
    (s.inc64 st o n).pending = s.pending ∧ (s.inc64 st o n).now = s.now ∧ (s.inc64 st o n).skew = s.skew ∧ (s.inc64 st o n).free = s.free ∧
    (s.inc64 st o n).wheels = s.wheels ∧ (s.inc64 st o n).groups = s.groups ∧ (s.inc64 st o n).net = s.net ∧
    (s.inc64 st o n).flt = s.flt ∧ (s.inc64 st o n).tr = s.tr ∧ (s.inc64 st o n).mrs = s.mrs ∧ (s.inc64 st o n).cells = s.cells ∧
    (s.inc64 st o n).sensors = s.sensors ∧ (s.inc64 st o n).loops = s.loops ∧ (s.inc64 st o n).tiles = s.tiles ∧
    (s.inc64 st o n).seq = s.seq ∧ (s.inc64 st o n).trip = s.trip ∧ (s.inc64 st o n).supply = s.supply ∧ (s.inc64 st o n).tels = s.tels ∧
    (s.inc64 st o n).rails = s.rails ∧ (s.inc64 st o n).phases = s.phases ∧ (s.inc64 st o n).convs = s.convs ∧
    (s.inc64 st o n).segs = s.segs ∧ (s.inc64 st o n).adcs = s.adcs ∧ (s.inc64 st o n).therms = s.therms ∧ (s.inc64 st o n).pass = s.pass ∧
    (s.inc64 st o n).arbs = s.arbs ∧ (s.inc64 st o n).engines = s.engines ∧ (s.inc64 st o n).traces = s.traces ∧
    (s.inc64 st o n).mem = s.mem ∧ (s.inc64 st o n).manifest = s.manifest ∧ (s.inc64 st o n).ests = s.ests ∧
    (s.inc64 st o n).ledger = s.ledger ∧ (s.inc64 st o n).blobs = s.blobs ∧ (s.inc64 st o n).poison = s.poison ∧
    (s.inc64 st o n).budget = s.budget ∧ (s.inc64 st o n).pub = s.pub ∧ (s.inc64 st o n).rst = s.rst ∧ (s.inc64 st o n).moult = s.moult ∧
    (s.inc64 st o n).memory = s.memory ∧ (s.inc64 st o n).tap = s.tap ∧ (s.inc64 st o n).marks = s.marks :=
  ⟨rfl, rfl, rfl, rfl, rfl, rfl, rfl, rfl, rfl, rfl, rfl, rfl, rfl, rfl, rfl, rfl, rfl, rfl, rfl, rfl, rfl, rfl, rfl, rfl, rfl, rfl, rfl, rfl, rfl, rfl, rfl, rfl, rfl, rfl, rfl, rfl, rfl, rfl, rfl, rfl, rfl⟩

@[simp] theorem wrS_fields (st : Nat) (o : Obj) (v : Int) :
    (s.wrS st o v).pending = s.pending ∧ (s.wrS st o v).now = s.now ∧ (s.wrS st o v).skew = s.skew ∧ (s.wrS st o v).free = s.free ∧
    (s.wrS st o v).wheels = s.wheels ∧ (s.wrS st o v).groups = s.groups ∧ (s.wrS st o v).net = s.net ∧ (s.wrS st o v).flt = s.flt ∧
    (s.wrS st o v).tr = s.tr ∧ (s.wrS st o v).mrs = s.mrs ∧ (s.wrS st o v).cells = s.cells ∧ (s.wrS st o v).sensors = s.sensors ∧
    (s.wrS st o v).loops = s.loops ∧ (s.wrS st o v).tiles = s.tiles ∧ (s.wrS st o v).seq = s.seq ∧ (s.wrS st o v).trip = s.trip ∧
    (s.wrS st o v).supply = s.supply ∧ (s.wrS st o v).tels = s.tels ∧ (s.wrS st o v).rails = s.rails ∧ (s.wrS st o v).phases = s.phases ∧
    (s.wrS st o v).convs = s.convs ∧ (s.wrS st o v).segs = s.segs ∧ (s.wrS st o v).adcs = s.adcs ∧ (s.wrS st o v).therms = s.therms ∧
    (s.wrS st o v).pass = s.pass ∧ (s.wrS st o v).arbs = s.arbs ∧ (s.wrS st o v).engines = s.engines ∧ (s.wrS st o v).traces = s.traces ∧
    (s.wrS st o v).mem = s.mem ∧ (s.wrS st o v).manifest = s.manifest ∧ (s.wrS st o v).ests = s.ests ∧ (s.wrS st o v).ledger = s.ledger ∧
    (s.wrS st o v).blobs = s.blobs ∧ (s.wrS st o v).poison = s.poison ∧ (s.wrS st o v).budget = s.budget ∧ (s.wrS st o v).pub = s.pub ∧
    (s.wrS st o v).rst = s.rst ∧ (s.wrS st o v).moult = s.moult ∧ (s.wrS st o v).memory = s.memory ∧ (s.wrS st o v).tap = s.tap ∧
    (s.wrS st o v).marks = s.marks :=
  ⟨rfl, rfl, rfl, rfl, rfl, rfl, rfl, rfl, rfl, rfl, rfl, rfl, rfl, rfl, rfl, rfl, rfl, rfl, rfl, rfl, rfl, rfl, rfl, rfl, rfl, rfl, rfl, rfl, rfl, rfl, rfl, rfl, rfl, rfl, rfl, rfl, rfl, rfl, rfl, rfl, rfl⟩

@[simp] theorem clearRegs_fields (p : Nat → Nat → Nat → Bool) :
    (s.clearRegs p).pending = s.pending ∧ (s.clearRegs p).now = s.now ∧ (s.clearRegs p).skew = s.skew ∧ (s.clearRegs p).free = s.free ∧
    (s.clearRegs p).wheels = s.wheels ∧ (s.clearRegs p).groups = s.groups ∧ (s.clearRegs p).net = s.net ∧ (s.clearRegs p).flt = s.flt ∧
    (s.clearRegs p).tr = s.tr ∧ (s.clearRegs p).mrs = s.mrs ∧ (s.clearRegs p).cells = s.cells ∧ (s.clearRegs p).sensors = s.sensors ∧
    (s.clearRegs p).loops = s.loops ∧ (s.clearRegs p).tiles = s.tiles ∧ (s.clearRegs p).seq = s.seq ∧ (s.clearRegs p).trip = s.trip ∧
    (s.clearRegs p).supply = s.supply ∧ (s.clearRegs p).tels = s.tels ∧ (s.clearRegs p).rails = s.rails ∧ (s.clearRegs p).phases = s.phases ∧
    (s.clearRegs p).convs = s.convs ∧ (s.clearRegs p).segs = s.segs ∧ (s.clearRegs p).adcs = s.adcs ∧ (s.clearRegs p).therms = s.therms ∧
    (s.clearRegs p).pass = s.pass ∧ (s.clearRegs p).arbs = s.arbs ∧ (s.clearRegs p).engines = s.engines ∧ (s.clearRegs p).traces = s.traces ∧
    (s.clearRegs p).mem = s.mem ∧ (s.clearRegs p).manifest = s.manifest ∧ (s.clearRegs p).ests = s.ests ∧ (s.clearRegs p).ledger = s.ledger ∧
    (s.clearRegs p).poison = s.poison ∧ (s.clearRegs p).budget = s.budget ∧ (s.clearRegs p).pub = s.pub ∧ (s.clearRegs p).rst = s.rst ∧
    (s.clearRegs p).moult = s.moult ∧ (s.clearRegs p).memory = s.memory ∧ (s.clearRegs p).tap = s.tap ∧ (s.clearRegs p).marks = s.marks :=
  ⟨rfl, rfl, rfl, rfl, rfl, rfl, rfl, rfl, rfl, rfl, rfl, rfl, rfl, rfl, rfl, rfl, rfl, rfl, rfl, rfl, rfl, rfl, rfl, rfl, rfl, rfl, rfl, rfl, rfl, rfl, rfl, rfl, rfl, rfl, rfl, rfl, rfl, rfl, rfl, rfl⟩

@[simp] theorem putBlob_fields (st : Nat) (o : Obj) (l : List Byte) :
    (s.putBlob st o l).pending = s.pending ∧ (s.putBlob st o l).now = s.now ∧ (s.putBlob st o l).skew = s.skew ∧
    (s.putBlob st o l).free = s.free ∧ (s.putBlob st o l).regs = s.regs ∧ (s.putBlob st o l).wheels = s.wheels ∧
    (s.putBlob st o l).groups = s.groups ∧ (s.putBlob st o l).net = s.net ∧ (s.putBlob st o l).flt = s.flt ∧
    (s.putBlob st o l).tr = s.tr ∧ (s.putBlob st o l).mrs = s.mrs ∧ (s.putBlob st o l).cells = s.cells ∧ (s.putBlob st o l).sensors = s.sensors ∧
    (s.putBlob st o l).loops = s.loops ∧ (s.putBlob st o l).tiles = s.tiles ∧ (s.putBlob st o l).seq = s.seq ∧
    (s.putBlob st o l).trip = s.trip ∧ (s.putBlob st o l).supply = s.supply ∧ (s.putBlob st o l).tels = s.tels ∧
    (s.putBlob st o l).rails = s.rails ∧ (s.putBlob st o l).phases = s.phases ∧ (s.putBlob st o l).convs = s.convs ∧
    (s.putBlob st o l).segs = s.segs ∧ (s.putBlob st o l).adcs = s.adcs ∧ (s.putBlob st o l).therms = s.therms ∧
    (s.putBlob st o l).pass = s.pass ∧ (s.putBlob st o l).arbs = s.arbs ∧ (s.putBlob st o l).engines = s.engines ∧
    (s.putBlob st o l).traces = s.traces ∧ (s.putBlob st o l).mem = s.mem ∧ (s.putBlob st o l).manifest = s.manifest ∧
    (s.putBlob st o l).ests = s.ests ∧ (s.putBlob st o l).ledger = s.ledger ∧ (s.putBlob st o l).poison = s.poison ∧
    (s.putBlob st o l).budget = s.budget ∧ (s.putBlob st o l).pub = s.pub ∧ (s.putBlob st o l).rst = s.rst ∧
    (s.putBlob st o l).moult = s.moult ∧ (s.putBlob st o l).memory = s.memory ∧ (s.putBlob st o l).tap = s.tap ∧
    (s.putBlob st o l).marks = s.marks :=
  ⟨rfl, rfl, rfl, rfl, rfl, rfl, rfl, rfl, rfl, rfl, rfl, rfl, rfl, rfl, rfl, rfl, rfl, rfl, rfl, rfl, rfl, rfl, rfl, rfl, rfl, rfl, rfl, rfl, rfl, rfl, rfl, rfl, rfl, rfl, rfl, rfl, rfl, rfl, rfl, rfl, rfl⟩

@[simp] theorem putWheel_fields (w : WheelRef) (r : WheelRec) :
    (s.putWheel w r).pending = s.pending ∧ (s.putWheel w r).now = s.now ∧ (s.putWheel w r).skew = s.skew ∧ (s.putWheel w r).free = s.free ∧
    (s.putWheel w r).regs = s.regs ∧ (s.putWheel w r).groups = s.groups ∧ (s.putWheel w r).net = s.net ∧ (s.putWheel w r).flt = s.flt ∧
    (s.putWheel w r).tr = s.tr ∧ (s.putWheel w r).mrs = s.mrs ∧ (s.putWheel w r).cells = s.cells ∧ (s.putWheel w r).sensors = s.sensors ∧
    (s.putWheel w r).loops = s.loops ∧ (s.putWheel w r).tiles = s.tiles ∧ (s.putWheel w r).seq = s.seq ∧ (s.putWheel w r).trip = s.trip ∧
    (s.putWheel w r).supply = s.supply ∧ (s.putWheel w r).tels = s.tels ∧ (s.putWheel w r).rails = s.rails ∧
    (s.putWheel w r).phases = s.phases ∧ (s.putWheel w r).convs = s.convs ∧ (s.putWheel w r).segs = s.segs ∧
    (s.putWheel w r).adcs = s.adcs ∧ (s.putWheel w r).therms = s.therms ∧ (s.putWheel w r).pass = s.pass ∧ (s.putWheel w r).arbs = s.arbs ∧
    (s.putWheel w r).engines = s.engines ∧ (s.putWheel w r).traces = s.traces ∧ (s.putWheel w r).mem = s.mem ∧
    (s.putWheel w r).manifest = s.manifest ∧ (s.putWheel w r).ests = s.ests ∧ (s.putWheel w r).ledger = s.ledger ∧
    (s.putWheel w r).blobs = s.blobs ∧ (s.putWheel w r).poison = s.poison ∧ (s.putWheel w r).budget = s.budget ∧
    (s.putWheel w r).pub = s.pub ∧ (s.putWheel w r).rst = s.rst ∧ (s.putWheel w r).moult = s.moult ∧ (s.putWheel w r).memory = s.memory ∧
    (s.putWheel w r).tap = s.tap ∧ (s.putWheel w r).marks = s.marks :=
  ⟨rfl, rfl, rfl, rfl, rfl, rfl, rfl, rfl, rfl, rfl, rfl, rfl, rfl, rfl, rfl, rfl, rfl, rfl, rfl, rfl, rfl, rfl, rfl, rfl, rfl, rfl, rfl, rfl, rfl, rfl, rfl, rfl, rfl, rfl, rfl, rfl, rfl, rfl, rfl, rfl, rfl⟩

@[simp] theorem putSession_fields (n : Slot) (x : Session) :
    (s.putSession n x).pending = s.pending ∧ (s.putSession n x).now = s.now ∧ (s.putSession n x).skew = s.skew ∧
    (s.putSession n x).free = s.free ∧ (s.putSession n x).regs = s.regs ∧ (s.putSession n x).wheels = s.wheels ∧
    (s.putSession n x).groups = s.groups ∧ (s.putSession n x).net = s.net ∧ (s.putSession n x).flt = s.flt ∧
    (s.putSession n x).mrs = s.mrs ∧ (s.putSession n x).cells = s.cells ∧ (s.putSession n x).sensors = s.sensors ∧
    (s.putSession n x).loops = s.loops ∧ (s.putSession n x).tiles = s.tiles ∧ (s.putSession n x).seq = s.seq ∧
    (s.putSession n x).trip = s.trip ∧ (s.putSession n x).supply = s.supply ∧ (s.putSession n x).tels = s.tels ∧
    (s.putSession n x).rails = s.rails ∧ (s.putSession n x).phases = s.phases ∧ (s.putSession n x).convs = s.convs ∧
    (s.putSession n x).segs = s.segs ∧ (s.putSession n x).adcs = s.adcs ∧ (s.putSession n x).therms = s.therms ∧
    (s.putSession n x).pass = s.pass ∧ (s.putSession n x).arbs = s.arbs ∧ (s.putSession n x).engines = s.engines ∧
    (s.putSession n x).traces = s.traces ∧ (s.putSession n x).mem = s.mem ∧ (s.putSession n x).manifest = s.manifest ∧
    (s.putSession n x).ests = s.ests ∧ (s.putSession n x).ledger = s.ledger ∧ (s.putSession n x).blobs = s.blobs ∧
    (s.putSession n x).poison = s.poison ∧ (s.putSession n x).budget = s.budget ∧ (s.putSession n x).pub = s.pub ∧
    (s.putSession n x).rst = s.rst ∧ (s.putSession n x).moult = s.moult ∧ (s.putSession n x).memory = s.memory ∧
    (s.putSession n x).tap = s.tap ∧ (s.putSession n x).marks = s.marks :=
  ⟨rfl, rfl, rfl, rfl, rfl, rfl, rfl, rfl, rfl, rfl, rfl, rfl, rfl, rfl, rfl, rfl, rfl, rfl, rfl, rfl, rfl, rfl, rfl, rfl, rfl, rfl, rfl, rfl, rfl, rfl, rfl, rfl, rfl, rfl, rfl, rfl, rfl, rfl, rfl, rfl, rfl⟩

@[simp] theorem respond_fields (n : Slot) (r : Response) :
    (s.respond n r).pending = s.pending ∧ (s.respond n r).now = s.now ∧ (s.respond n r).skew = s.skew ∧ (s.respond n r).free = s.free ∧
    (s.respond n r).regs = s.regs ∧ (s.respond n r).wheels = s.wheels ∧ (s.respond n r).groups = s.groups ∧
    (s.respond n r).net = s.net ∧ (s.respond n r).flt = s.flt ∧ (s.respond n r).mrs = s.mrs ∧ (s.respond n r).cells = s.cells ∧
    (s.respond n r).sensors = s.sensors ∧ (s.respond n r).loops = s.loops ∧ (s.respond n r).tiles = s.tiles ∧
    (s.respond n r).seq = s.seq ∧ (s.respond n r).trip = s.trip ∧ (s.respond n r).supply = s.supply ∧ (s.respond n r).tels = s.tels ∧
    (s.respond n r).rails = s.rails ∧ (s.respond n r).phases = s.phases ∧ (s.respond n r).convs = s.convs ∧
    (s.respond n r).segs = s.segs ∧ (s.respond n r).adcs = s.adcs ∧ (s.respond n r).therms = s.therms ∧ (s.respond n r).pass = s.pass ∧
    (s.respond n r).arbs = s.arbs ∧ (s.respond n r).engines = s.engines ∧ (s.respond n r).traces = s.traces ∧
    (s.respond n r).mem = s.mem ∧ (s.respond n r).manifest = s.manifest ∧ (s.respond n r).ests = s.ests ∧ (s.respond n r).ledger = s.ledger ∧
    (s.respond n r).blobs = s.blobs ∧ (s.respond n r).poison = s.poison ∧ (s.respond n r).budget = s.budget ∧
    (s.respond n r).pub = s.pub ∧ (s.respond n r).rst = s.rst ∧ (s.respond n r).moult = s.moult ∧ (s.respond n r).memory = s.memory ∧
    (s.respond n r).tap = s.tap ∧ (s.respond n r).marks = s.marks :=
  ⟨rfl, rfl, rfl, rfl, rfl, rfl, rfl, rfl, rfl, rfl, rfl, rfl, rfl, rfl, rfl, rfl, rfl, rfl, rfl, rfl, rfl, rfl, rfl, rfl, rfl, rfl, rfl, rfl, rfl, rfl, rfl, rfl, rfl, rfl, rfl, rfl, rfl, rfl, rfl, rfl, rfl⟩

@[simp] theorem touch_fields (n : Slot) :
    (s.touch n).pending = s.pending ∧ (s.touch n).now = s.now ∧ (s.touch n).skew = s.skew ∧ (s.touch n).free = s.free ∧
    (s.touch n).regs = s.regs ∧ (s.touch n).wheels = s.wheels ∧ (s.touch n).groups = s.groups ∧ (s.touch n).net = s.net ∧
    (s.touch n).flt = s.flt ∧ (s.touch n).mrs = s.mrs ∧ (s.touch n).cells = s.cells ∧ (s.touch n).sensors = s.sensors ∧
    (s.touch n).loops = s.loops ∧ (s.touch n).tiles = s.tiles ∧ (s.touch n).seq = s.seq ∧ (s.touch n).trip = s.trip ∧
    (s.touch n).supply = s.supply ∧ (s.touch n).tels = s.tels ∧ (s.touch n).rails = s.rails ∧ (s.touch n).phases = s.phases ∧
    (s.touch n).convs = s.convs ∧ (s.touch n).segs = s.segs ∧ (s.touch n).adcs = s.adcs ∧ (s.touch n).therms = s.therms ∧
    (s.touch n).pass = s.pass ∧ (s.touch n).arbs = s.arbs ∧ (s.touch n).engines = s.engines ∧ (s.touch n).traces = s.traces ∧
    (s.touch n).mem = s.mem ∧ (s.touch n).manifest = s.manifest ∧ (s.touch n).ests = s.ests ∧ (s.touch n).ledger = s.ledger ∧
    (s.touch n).blobs = s.blobs ∧ (s.touch n).poison = s.poison ∧ (s.touch n).budget = s.budget ∧ (s.touch n).pub = s.pub ∧
    (s.touch n).rst = s.rst ∧ (s.touch n).moult = s.moult ∧ (s.touch n).memory = s.memory ∧ (s.touch n).tap = s.tap ∧
    (s.touch n).marks = s.marks :=
  ⟨rfl, rfl, rfl, rfl, rfl, rfl, rfl, rfl, rfl, rfl, rfl, rfl, rfl, rfl, rfl, rfl, rfl, rfl, rfl, rfl, rfl, rfl, rfl, rfl, rfl, rfl, rfl, rfl, rfl, rfl, rfl, rfl, rfl, rfl, rfl, rfl, rfl, rfl, rfl, rfl, rfl⟩

@[simp] theorem putChannel_fields (k : ChanId) (x : WinChan) :
    (s.putChannel k x).pending = s.pending ∧ (s.putChannel k x).now = s.now ∧ (s.putChannel k x).skew = s.skew ∧
    (s.putChannel k x).free = s.free ∧ (s.putChannel k x).regs = s.regs ∧ (s.putChannel k x).wheels = s.wheels ∧
    (s.putChannel k x).groups = s.groups ∧ (s.putChannel k x).net = s.net ∧ (s.putChannel k x).flt = s.flt ∧
    (s.putChannel k x).mrs = s.mrs ∧ (s.putChannel k x).cells = s.cells ∧ (s.putChannel k x).sensors = s.sensors ∧
    (s.putChannel k x).loops = s.loops ∧ (s.putChannel k x).tiles = s.tiles ∧ (s.putChannel k x).seq = s.seq ∧
    (s.putChannel k x).trip = s.trip ∧ (s.putChannel k x).supply = s.supply ∧ (s.putChannel k x).tels = s.tels ∧
    (s.putChannel k x).rails = s.rails ∧ (s.putChannel k x).phases = s.phases ∧ (s.putChannel k x).convs = s.convs ∧
    (s.putChannel k x).segs = s.segs ∧ (s.putChannel k x).adcs = s.adcs ∧ (s.putChannel k x).therms = s.therms ∧
    (s.putChannel k x).pass = s.pass ∧ (s.putChannel k x).arbs = s.arbs ∧ (s.putChannel k x).engines = s.engines ∧
    (s.putChannel k x).traces = s.traces ∧ (s.putChannel k x).mem = s.mem ∧ (s.putChannel k x).manifest = s.manifest ∧
    (s.putChannel k x).ests = s.ests ∧ (s.putChannel k x).ledger = s.ledger ∧ (s.putChannel k x).blobs = s.blobs ∧
    (s.putChannel k x).poison = s.poison ∧ (s.putChannel k x).budget = s.budget ∧ (s.putChannel k x).pub = s.pub ∧
    (s.putChannel k x).rst = s.rst ∧ (s.putChannel k x).moult = s.moult ∧ (s.putChannel k x).memory = s.memory ∧
    (s.putChannel k x).tap = s.tap ∧ (s.putChannel k x).marks = s.marks :=
  ⟨rfl, rfl, rfl, rfl, rfl, rfl, rfl, rfl, rfl, rfl, rfl, rfl, rfl, rfl, rfl, rfl, rfl, rfl, rfl, rfl, rfl, rfl, rfl, rfl, rfl, rfl, rfl, rfl, rfl, rfl, rfl, rfl, rfl, rfl, rfl, rfl, rfl, rfl, rfl, rfl, rfl⟩

@[simp] theorem putBinding_fields (b : Fin 2) (x : Binding) :
    (s.putBinding b x).pending = s.pending ∧ (s.putBinding b x).now = s.now ∧ (s.putBinding b x).skew = s.skew ∧
    (s.putBinding b x).free = s.free ∧ (s.putBinding b x).regs = s.regs ∧ (s.putBinding b x).wheels = s.wheels ∧
    (s.putBinding b x).groups = s.groups ∧ (s.putBinding b x).net = s.net ∧ (s.putBinding b x).flt = s.flt ∧
    (s.putBinding b x).mrs = s.mrs ∧ (s.putBinding b x).cells = s.cells ∧ (s.putBinding b x).sensors = s.sensors ∧
    (s.putBinding b x).loops = s.loops ∧ (s.putBinding b x).tiles = s.tiles ∧ (s.putBinding b x).seq = s.seq ∧
    (s.putBinding b x).trip = s.trip ∧ (s.putBinding b x).supply = s.supply ∧ (s.putBinding b x).tels = s.tels ∧
    (s.putBinding b x).rails = s.rails ∧ (s.putBinding b x).phases = s.phases ∧ (s.putBinding b x).convs = s.convs ∧
    (s.putBinding b x).segs = s.segs ∧ (s.putBinding b x).adcs = s.adcs ∧ (s.putBinding b x).therms = s.therms ∧
    (s.putBinding b x).pass = s.pass ∧ (s.putBinding b x).arbs = s.arbs ∧ (s.putBinding b x).engines = s.engines ∧
    (s.putBinding b x).traces = s.traces ∧ (s.putBinding b x).mem = s.mem ∧ (s.putBinding b x).manifest = s.manifest ∧
    (s.putBinding b x).ests = s.ests ∧ (s.putBinding b x).ledger = s.ledger ∧ (s.putBinding b x).blobs = s.blobs ∧
    (s.putBinding b x).poison = s.poison ∧ (s.putBinding b x).budget = s.budget ∧ (s.putBinding b x).pub = s.pub ∧
    (s.putBinding b x).rst = s.rst ∧ (s.putBinding b x).moult = s.moult ∧ (s.putBinding b x).memory = s.memory ∧
    (s.putBinding b x).tap = s.tap ∧ (s.putBinding b x).marks = s.marks :=
  ⟨rfl, rfl, rfl, rfl, rfl, rfl, rfl, rfl, rfl, rfl, rfl, rfl, rfl, rfl, rfl, rfl, rfl, rfl, rfl, rfl, rfl, rfl, rfl, rfl, rfl, rfl, rfl, rfl, rfl, rfl, rfl, rfl, rfl, rfl, rfl, rfl, rfl, rfl, rfl, rfl, rfl⟩

@[simp] theorem raise_fields (code st item data : Nat) :
    (s.raise code st item data).pending = s.pending ∧ (s.raise code st item data).now = s.now ∧ (s.raise code st item data).skew = s.skew ∧
    (s.raise code st item data).free = s.free ∧ (s.raise code st item data).regs = s.regs ∧ (s.raise code st item data).wheels = s.wheels ∧
    (s.raise code st item data).groups = s.groups ∧ (s.raise code st item data).net = s.net ∧ (s.raise code st item data).tr = s.tr ∧
    (s.raise code st item data).mrs = s.mrs ∧ (s.raise code st item data).cells = s.cells ∧ (s.raise code st item data).sensors = s.sensors ∧
    (s.raise code st item data).loops = s.loops ∧ (s.raise code st item data).tiles = s.tiles ∧ (s.raise code st item data).seq = s.seq ∧
    (s.raise code st item data).trip = s.trip ∧ (s.raise code st item data).supply = s.supply ∧ (s.raise code st item data).tels = s.tels ∧
    (s.raise code st item data).rails = s.rails ∧ (s.raise code st item data).phases = s.phases ∧ (s.raise code st item data).convs = s.convs ∧
    (s.raise code st item data).segs = s.segs ∧ (s.raise code st item data).adcs = s.adcs ∧ (s.raise code st item data).therms = s.therms ∧
    (s.raise code st item data).pass = s.pass ∧ (s.raise code st item data).arbs = s.arbs ∧ (s.raise code st item data).engines = s.engines ∧
    (s.raise code st item data).mem = s.mem ∧ (s.raise code st item data).manifest = s.manifest ∧ (s.raise code st item data).ests = s.ests ∧
    (s.raise code st item data).ledger = s.ledger ∧ (s.raise code st item data).blobs = s.blobs ∧ (s.raise code st item data).poison = s.poison ∧
    (s.raise code st item data).budget = s.budget ∧ (s.raise code st item data).pub = s.pub ∧ (s.raise code st item data).rst = s.rst ∧
    (s.raise code st item data).moult = s.moult ∧ (s.raise code st item data).memory = s.memory ∧ (s.raise code st item data).tap = s.tap ∧
    (s.raise code st item data).marks = s.marks :=
  ⟨rfl, rfl, rfl, rfl, rfl, rfl, rfl, rfl, rfl, rfl, rfl, rfl, rfl, rfl, rfl, rfl, rfl, rfl, rfl, rfl, rfl, rfl, rfl, rfl, rfl, rfl, rfl, rfl, rfl, rfl, rfl, rfl, rfl, rfl, rfl, rfl, rfl, rfl, rfl, rfl⟩

@[simp] theorem endCondition_fields (code st item : Nat) :
    (s.endCondition code st item).pending = s.pending ∧ (s.endCondition code st item).now = s.now ∧ (s.endCondition code st item).skew = s.skew ∧
    (s.endCondition code st item).free = s.free ∧ (s.endCondition code st item).regs = s.regs ∧ (s.endCondition code st item).wheels = s.wheels ∧
    (s.endCondition code st item).groups = s.groups ∧ (s.endCondition code st item).net = s.net ∧ (s.endCondition code st item).tr = s.tr ∧
    (s.endCondition code st item).mrs = s.mrs ∧ (s.endCondition code st item).cells = s.cells ∧ (s.endCondition code st item).sensors = s.sensors ∧
    (s.endCondition code st item).loops = s.loops ∧ (s.endCondition code st item).tiles = s.tiles ∧ (s.endCondition code st item).seq = s.seq ∧
    (s.endCondition code st item).trip = s.trip ∧ (s.endCondition code st item).supply = s.supply ∧ (s.endCondition code st item).tels = s.tels ∧
    (s.endCondition code st item).rails = s.rails ∧ (s.endCondition code st item).phases = s.phases ∧ (s.endCondition code st item).convs = s.convs ∧
    (s.endCondition code st item).segs = s.segs ∧ (s.endCondition code st item).adcs = s.adcs ∧ (s.endCondition code st item).therms = s.therms ∧
    (s.endCondition code st item).pass = s.pass ∧ (s.endCondition code st item).arbs = s.arbs ∧ (s.endCondition code st item).engines = s.engines ∧
    (s.endCondition code st item).traces = s.traces ∧ (s.endCondition code st item).mem = s.mem ∧ (s.endCondition code st item).manifest = s.manifest ∧
    (s.endCondition code st item).ests = s.ests ∧ (s.endCondition code st item).ledger = s.ledger ∧ (s.endCondition code st item).blobs = s.blobs ∧
    (s.endCondition code st item).poison = s.poison ∧ (s.endCondition code st item).budget = s.budget ∧ (s.endCondition code st item).pub = s.pub ∧
    (s.endCondition code st item).rst = s.rst ∧ (s.endCondition code st item).moult = s.moult ∧ (s.endCondition code st item).memory = s.memory ∧
    (s.endCondition code st item).tap = s.tap ∧ (s.endCondition code st item).marks = s.marks :=
  ⟨rfl, rfl, rfl, rfl, rfl, rfl, rfl, rfl, rfl, rfl, rfl, rfl, rfl, rfl, rfl, rfl, rfl, rfl, rfl, rfl, rfl, rfl, rfl, rfl, rfl, rfl, rfl, rfl, rfl, rfl, rfl, rfl, rfl, rfl, rfl, rfl, rfl, rfl, rfl, rfl, rfl⟩

@[simp] theorem cfgRange_fields (st : Nat) :
    (s.cfgRange st).pending = s.pending ∧ (s.cfgRange st).now = s.now ∧ (s.cfgRange st).skew = s.skew ∧ (s.cfgRange st).free = s.free ∧
    (s.cfgRange st).regs = s.regs ∧ (s.cfgRange st).wheels = s.wheels ∧ (s.cfgRange st).groups = s.groups ∧
    (s.cfgRange st).net = s.net ∧ (s.cfgRange st).tr = s.tr ∧ (s.cfgRange st).mrs = s.mrs ∧ (s.cfgRange st).cells = s.cells ∧
    (s.cfgRange st).sensors = s.sensors ∧ (s.cfgRange st).loops = s.loops ∧ (s.cfgRange st).tiles = s.tiles ∧
    (s.cfgRange st).seq = s.seq ∧ (s.cfgRange st).trip = s.trip ∧ (s.cfgRange st).supply = s.supply ∧ (s.cfgRange st).tels = s.tels ∧
    (s.cfgRange st).rails = s.rails ∧ (s.cfgRange st).phases = s.phases ∧ (s.cfgRange st).convs = s.convs ∧
    (s.cfgRange st).segs = s.segs ∧ (s.cfgRange st).adcs = s.adcs ∧ (s.cfgRange st).therms = s.therms ∧ (s.cfgRange st).pass = s.pass ∧
    (s.cfgRange st).arbs = s.arbs ∧ (s.cfgRange st).engines = s.engines ∧ (s.cfgRange st).mem = s.mem ∧ (s.cfgRange st).manifest = s.manifest ∧
    (s.cfgRange st).ests = s.ests ∧ (s.cfgRange st).ledger = s.ledger ∧ (s.cfgRange st).blobs = s.blobs ∧ (s.cfgRange st).poison = s.poison ∧
    (s.cfgRange st).budget = s.budget ∧ (s.cfgRange st).pub = s.pub ∧ (s.cfgRange st).rst = s.rst ∧ (s.cfgRange st).moult = s.moult ∧
    (s.cfgRange st).memory = s.memory ∧ (s.cfgRange st).tap = s.tap ∧ (s.cfgRange st).marks = s.marks :=
  ⟨rfl, rfl, rfl, rfl, rfl, rfl, rfl, rfl, rfl, rfl, rfl, rfl, rfl, rfl, rfl, rfl, rfl, rfl, rfl, rfl, rfl, rfl, rfl, rfl, rfl, rfl, rfl, rfl, rfl, rfl, rfl, rfl, rfl, rfl, rfl, rfl, rfl, rfl, rfl, rfl⟩

@[simp] theorem mark_fields (k st : Nat) :
    (s.mark k st).pending = s.pending ∧ (s.mark k st).now = s.now ∧ (s.mark k st).skew = s.skew ∧ (s.mark k st).free = s.free ∧
    (s.mark k st).regs = s.regs ∧ (s.mark k st).wheels = s.wheels ∧ (s.mark k st).groups = s.groups ∧ (s.mark k st).net = s.net ∧
    (s.mark k st).flt = s.flt ∧ (s.mark k st).tr = s.tr ∧ (s.mark k st).mrs = s.mrs ∧ (s.mark k st).cells = s.cells ∧
    (s.mark k st).sensors = s.sensors ∧ (s.mark k st).loops = s.loops ∧ (s.mark k st).tiles = s.tiles ∧ (s.mark k st).seq = s.seq ∧
    (s.mark k st).trip = s.trip ∧ (s.mark k st).supply = s.supply ∧ (s.mark k st).tels = s.tels ∧ (s.mark k st).rails = s.rails ∧
    (s.mark k st).phases = s.phases ∧ (s.mark k st).convs = s.convs ∧ (s.mark k st).segs = s.segs ∧ (s.mark k st).adcs = s.adcs ∧
    (s.mark k st).therms = s.therms ∧ (s.mark k st).pass = s.pass ∧ (s.mark k st).arbs = s.arbs ∧ (s.mark k st).engines = s.engines ∧
    (s.mark k st).traces = s.traces ∧ (s.mark k st).mem = s.mem ∧ (s.mark k st).manifest = s.manifest ∧ (s.mark k st).ests = s.ests ∧
    (s.mark k st).ledger = s.ledger ∧ (s.mark k st).blobs = s.blobs ∧ (s.mark k st).poison = s.poison ∧ (s.mark k st).budget = s.budget ∧
    (s.mark k st).pub = s.pub ∧ (s.mark k st).rst = s.rst ∧ (s.mark k st).moult = s.moult ∧ (s.mark k st).memory = s.memory ∧
    (s.mark k st).tap = s.tap :=
  ⟨rfl, rfl, rfl, rfl, rfl, rfl, rfl, rfl, rfl, rfl, rfl, rfl, rfl, rfl, rfl, rfl, rfl, rfl, rfl, rfl, rfl, rfl, rfl, rfl, rfl, rfl, rfl, rfl, rfl, rfl, rfl, rfl, rfl, rfl, rfl, rfl, rfl, rfl, rfl, rfl, rfl⟩

@[simp] theorem putLink_fields (l : LinkRef) (r : LinkRec) :
    (s.putLink l r).pending = s.pending ∧ (s.putLink l r).now = s.now ∧ (s.putLink l r).skew = s.skew ∧ (s.putLink l r).free = s.free ∧
    (s.putLink l r).regs = s.regs ∧ (s.putLink l r).wheels = s.wheels ∧ (s.putLink l r).groups = s.groups ∧
    (s.putLink l r).flt = s.flt ∧ (s.putLink l r).tr = s.tr ∧ (s.putLink l r).mrs = s.mrs ∧ (s.putLink l r).cells = s.cells ∧
    (s.putLink l r).sensors = s.sensors ∧ (s.putLink l r).loops = s.loops ∧ (s.putLink l r).tiles = s.tiles ∧
    (s.putLink l r).seq = s.seq ∧ (s.putLink l r).trip = s.trip ∧ (s.putLink l r).supply = s.supply ∧ (s.putLink l r).tels = s.tels ∧
    (s.putLink l r).rails = s.rails ∧ (s.putLink l r).phases = s.phases ∧ (s.putLink l r).convs = s.convs ∧
    (s.putLink l r).segs = s.segs ∧ (s.putLink l r).adcs = s.adcs ∧ (s.putLink l r).therms = s.therms ∧ (s.putLink l r).pass = s.pass ∧
    (s.putLink l r).arbs = s.arbs ∧ (s.putLink l r).engines = s.engines ∧ (s.putLink l r).traces = s.traces ∧
    (s.putLink l r).mem = s.mem ∧ (s.putLink l r).manifest = s.manifest ∧ (s.putLink l r).ests = s.ests ∧ (s.putLink l r).ledger = s.ledger ∧
    (s.putLink l r).blobs = s.blobs ∧ (s.putLink l r).poison = s.poison ∧ (s.putLink l r).budget = s.budget ∧
    (s.putLink l r).pub = s.pub ∧ (s.putLink l r).rst = s.rst ∧ (s.putLink l r).moult = s.moult ∧ (s.putLink l r).memory = s.memory ∧
    (s.putLink l r).tap = s.tap ∧ (s.putLink l r).marks = s.marks :=
  ⟨rfl, rfl, rfl, rfl, rfl, rfl, rfl, rfl, rfl, rfl, rfl, rfl, rfl, rfl, rfl, rfl, rfl, rfl, rfl, rfl, rfl, rfl, rfl, rfl, rfl, rfl, rfl, rfl, rfl, rfl, rfl, rfl, rfl, rfl, rfl, rfl, rfl, rfl, rfl, rfl, rfl⟩

@[simp] theorem putCells_fields (f : FieldId) (c : ClusterId) (r : CellsRec) :
    (s.putCells f c r).pending = s.pending ∧ (s.putCells f c r).now = s.now ∧ (s.putCells f c r).skew = s.skew ∧
    (s.putCells f c r).free = s.free ∧ (s.putCells f c r).regs = s.regs ∧ (s.putCells f c r).wheels = s.wheels ∧
    (s.putCells f c r).groups = s.groups ∧ (s.putCells f c r).net = s.net ∧ (s.putCells f c r).flt = s.flt ∧
    (s.putCells f c r).tr = s.tr ∧ (s.putCells f c r).mrs = s.mrs ∧ (s.putCells f c r).sensors = s.sensors ∧
    (s.putCells f c r).loops = s.loops ∧ (s.putCells f c r).tiles = s.tiles ∧ (s.putCells f c r).seq = s.seq ∧
    (s.putCells f c r).trip = s.trip ∧ (s.putCells f c r).supply = s.supply ∧ (s.putCells f c r).tels = s.tels ∧
    (s.putCells f c r).rails = s.rails ∧ (s.putCells f c r).phases = s.phases ∧ (s.putCells f c r).convs = s.convs ∧
    (s.putCells f c r).segs = s.segs ∧ (s.putCells f c r).adcs = s.adcs ∧ (s.putCells f c r).therms = s.therms ∧
    (s.putCells f c r).pass = s.pass ∧ (s.putCells f c r).arbs = s.arbs ∧ (s.putCells f c r).engines = s.engines ∧
    (s.putCells f c r).traces = s.traces ∧ (s.putCells f c r).mem = s.mem ∧ (s.putCells f c r).manifest = s.manifest ∧
    (s.putCells f c r).ests = s.ests ∧ (s.putCells f c r).ledger = s.ledger ∧ (s.putCells f c r).blobs = s.blobs ∧
    (s.putCells f c r).poison = s.poison ∧ (s.putCells f c r).budget = s.budget ∧ (s.putCells f c r).pub = s.pub ∧
    (s.putCells f c r).rst = s.rst ∧ (s.putCells f c r).moult = s.moult ∧ (s.putCells f c r).memory = s.memory ∧
    (s.putCells f c r).tap = s.tap ∧ (s.putCells f c r).marks = s.marks :=
  ⟨rfl, rfl, rfl, rfl, rfl, rfl, rfl, rfl, rfl, rfl, rfl, rfl, rfl, rfl, rfl, rfl, rfl, rfl, rfl, rfl, rfl, rfl, rfl, rfl, rfl, rfl, rfl, rfl, rfl, rfl, rfl, rfl, rfl, rfl, rfl, rfl, rfl, rfl, rfl, rfl, rfl⟩

@[simp] theorem putSensor_fields (f : FieldId) (c : ClusterId) (n : SensorId) (r : SensorRec) :
    (s.putSensor f c n r).pending = s.pending ∧ (s.putSensor f c n r).now = s.now ∧ (s.putSensor f c n r).skew = s.skew ∧
    (s.putSensor f c n r).free = s.free ∧ (s.putSensor f c n r).regs = s.regs ∧ (s.putSensor f c n r).wheels = s.wheels ∧
    (s.putSensor f c n r).groups = s.groups ∧ (s.putSensor f c n r).net = s.net ∧ (s.putSensor f c n r).flt = s.flt ∧
    (s.putSensor f c n r).tr = s.tr ∧ (s.putSensor f c n r).mrs = s.mrs ∧ (s.putSensor f c n r).cells = s.cells ∧
    (s.putSensor f c n r).loops = s.loops ∧ (s.putSensor f c n r).tiles = s.tiles ∧ (s.putSensor f c n r).seq = s.seq ∧
    (s.putSensor f c n r).trip = s.trip ∧ (s.putSensor f c n r).supply = s.supply ∧ (s.putSensor f c n r).tels = s.tels ∧
    (s.putSensor f c n r).rails = s.rails ∧ (s.putSensor f c n r).phases = s.phases ∧ (s.putSensor f c n r).convs = s.convs ∧
    (s.putSensor f c n r).segs = s.segs ∧ (s.putSensor f c n r).adcs = s.adcs ∧ (s.putSensor f c n r).therms = s.therms ∧
    (s.putSensor f c n r).pass = s.pass ∧ (s.putSensor f c n r).arbs = s.arbs ∧ (s.putSensor f c n r).engines = s.engines ∧
    (s.putSensor f c n r).traces = s.traces ∧ (s.putSensor f c n r).mem = s.mem ∧ (s.putSensor f c n r).manifest = s.manifest ∧
    (s.putSensor f c n r).ests = s.ests ∧ (s.putSensor f c n r).ledger = s.ledger ∧ (s.putSensor f c n r).blobs = s.blobs ∧
    (s.putSensor f c n r).poison = s.poison ∧ (s.putSensor f c n r).budget = s.budget ∧ (s.putSensor f c n r).pub = s.pub ∧
    (s.putSensor f c n r).rst = s.rst ∧ (s.putSensor f c n r).moult = s.moult ∧ (s.putSensor f c n r).memory = s.memory ∧
    (s.putSensor f c n r).tap = s.tap ∧ (s.putSensor f c n r).marks = s.marks :=
  ⟨rfl, rfl, rfl, rfl, rfl, rfl, rfl, rfl, rfl, rfl, rfl, rfl, rfl, rfl, rfl, rfl, rfl, rfl, rfl, rfl, rfl, rfl, rfl, rfl, rfl, rfl, rfl, rfl, rfl, rfl, rfl, rfl, rfl, rfl, rfl, rfl, rfl, rfl, rfl, rfl, rfl⟩

@[simp] theorem putLoop_fields (f : FieldId) (c : ClusterId) (r : LoopRec) :
    (s.putLoop f c r).pending = s.pending ∧ (s.putLoop f c r).now = s.now ∧ (s.putLoop f c r).skew = s.skew ∧
    (s.putLoop f c r).free = s.free ∧ (s.putLoop f c r).regs = s.regs ∧ (s.putLoop f c r).wheels = s.wheels ∧
    (s.putLoop f c r).groups = s.groups ∧ (s.putLoop f c r).net = s.net ∧ (s.putLoop f c r).flt = s.flt ∧ (s.putLoop f c r).tr = s.tr ∧
    (s.putLoop f c r).mrs = s.mrs ∧ (s.putLoop f c r).cells = s.cells ∧ (s.putLoop f c r).sensors = s.sensors ∧
    (s.putLoop f c r).tiles = s.tiles ∧ (s.putLoop f c r).seq = s.seq ∧ (s.putLoop f c r).trip = s.trip ∧ (s.putLoop f c r).supply = s.supply ∧
    (s.putLoop f c r).tels = s.tels ∧ (s.putLoop f c r).rails = s.rails ∧ (s.putLoop f c r).phases = s.phases ∧
    (s.putLoop f c r).convs = s.convs ∧ (s.putLoop f c r).segs = s.segs ∧ (s.putLoop f c r).adcs = s.adcs ∧
    (s.putLoop f c r).therms = s.therms ∧ (s.putLoop f c r).pass = s.pass ∧ (s.putLoop f c r).arbs = s.arbs ∧
    (s.putLoop f c r).engines = s.engines ∧ (s.putLoop f c r).traces = s.traces ∧ (s.putLoop f c r).mem = s.mem ∧
    (s.putLoop f c r).manifest = s.manifest ∧ (s.putLoop f c r).ests = s.ests ∧ (s.putLoop f c r).ledger = s.ledger ∧
    (s.putLoop f c r).blobs = s.blobs ∧ (s.putLoop f c r).poison = s.poison ∧ (s.putLoop f c r).budget = s.budget ∧
    (s.putLoop f c r).pub = s.pub ∧ (s.putLoop f c r).rst = s.rst ∧ (s.putLoop f c r).moult = s.moult ∧ (s.putLoop f c r).memory = s.memory ∧
    (s.putLoop f c r).tap = s.tap ∧ (s.putLoop f c r).marks = s.marks :=
  ⟨rfl, rfl, rfl, rfl, rfl, rfl, rfl, rfl, rfl, rfl, rfl, rfl, rfl, rfl, rfl, rfl, rfl, rfl, rfl, rfl, rfl, rfl, rfl, rfl, rfl, rfl, rfl, rfl, rfl, rfl, rfl, rfl, rfl, rfl, rfl, rfl, rfl, rfl, rfl, rfl, rfl⟩

@[simp] theorem putTile_fields (f : FieldId) (t : TileId) (r : TileRec) :
    (s.putTile f t r).pending = s.pending ∧ (s.putTile f t r).now = s.now ∧ (s.putTile f t r).skew = s.skew ∧
    (s.putTile f t r).free = s.free ∧ (s.putTile f t r).regs = s.regs ∧ (s.putTile f t r).wheels = s.wheels ∧
    (s.putTile f t r).groups = s.groups ∧ (s.putTile f t r).net = s.net ∧ (s.putTile f t r).flt = s.flt ∧ (s.putTile f t r).tr = s.tr ∧
    (s.putTile f t r).mrs = s.mrs ∧ (s.putTile f t r).cells = s.cells ∧ (s.putTile f t r).sensors = s.sensors ∧
    (s.putTile f t r).loops = s.loops ∧ (s.putTile f t r).seq = s.seq ∧ (s.putTile f t r).trip = s.trip ∧ (s.putTile f t r).supply = s.supply ∧
    (s.putTile f t r).tels = s.tels ∧ (s.putTile f t r).rails = s.rails ∧ (s.putTile f t r).phases = s.phases ∧
    (s.putTile f t r).convs = s.convs ∧ (s.putTile f t r).segs = s.segs ∧ (s.putTile f t r).adcs = s.adcs ∧
    (s.putTile f t r).therms = s.therms ∧ (s.putTile f t r).pass = s.pass ∧ (s.putTile f t r).arbs = s.arbs ∧
    (s.putTile f t r).engines = s.engines ∧ (s.putTile f t r).traces = s.traces ∧ (s.putTile f t r).mem = s.mem ∧
    (s.putTile f t r).manifest = s.manifest ∧ (s.putTile f t r).ests = s.ests ∧ (s.putTile f t r).ledger = s.ledger ∧
    (s.putTile f t r).blobs = s.blobs ∧ (s.putTile f t r).poison = s.poison ∧ (s.putTile f t r).budget = s.budget ∧
    (s.putTile f t r).pub = s.pub ∧ (s.putTile f t r).rst = s.rst ∧ (s.putTile f t r).moult = s.moult ∧ (s.putTile f t r).memory = s.memory ∧
    (s.putTile f t r).tap = s.tap ∧ (s.putTile f t r).marks = s.marks :=
  ⟨rfl, rfl, rfl, rfl, rfl, rfl, rfl, rfl, rfl, rfl, rfl, rfl, rfl, rfl, rfl, rfl, rfl, rfl, rfl, rfl, rfl, rfl, rfl, rfl, rfl, rfl, rfl, rfl, rfl, rfl, rfl, rfl, rfl, rfl, rfl, rfl, rfl, rfl, rfl, rfl, rfl⟩

@[simp] theorem putRail_fields (r : RailId) (x : RailRec) :
    (s.putRail r x).pending = s.pending ∧ (s.putRail r x).now = s.now ∧ (s.putRail r x).skew = s.skew ∧ (s.putRail r x).free = s.free ∧
    (s.putRail r x).regs = s.regs ∧ (s.putRail r x).wheels = s.wheels ∧ (s.putRail r x).groups = s.groups ∧
    (s.putRail r x).net = s.net ∧ (s.putRail r x).flt = s.flt ∧ (s.putRail r x).tr = s.tr ∧ (s.putRail r x).mrs = s.mrs ∧
    (s.putRail r x).cells = s.cells ∧ (s.putRail r x).sensors = s.sensors ∧ (s.putRail r x).loops = s.loops ∧
    (s.putRail r x).tiles = s.tiles ∧ (s.putRail r x).seq = s.seq ∧ (s.putRail r x).trip = s.trip ∧ (s.putRail r x).supply = s.supply ∧
    (s.putRail r x).tels = s.tels ∧ (s.putRail r x).phases = s.phases ∧ (s.putRail r x).convs = s.convs ∧ (s.putRail r x).segs = s.segs ∧
    (s.putRail r x).adcs = s.adcs ∧ (s.putRail r x).therms = s.therms ∧ (s.putRail r x).pass = s.pass ∧ (s.putRail r x).arbs = s.arbs ∧
    (s.putRail r x).engines = s.engines ∧ (s.putRail r x).traces = s.traces ∧ (s.putRail r x).mem = s.mem ∧
    (s.putRail r x).manifest = s.manifest ∧ (s.putRail r x).ests = s.ests ∧ (s.putRail r x).ledger = s.ledger ∧
    (s.putRail r x).blobs = s.blobs ∧ (s.putRail r x).poison = s.poison ∧ (s.putRail r x).budget = s.budget ∧
    (s.putRail r x).pub = s.pub ∧ (s.putRail r x).rst = s.rst ∧ (s.putRail r x).moult = s.moult ∧ (s.putRail r x).memory = s.memory ∧
    (s.putRail r x).tap = s.tap ∧ (s.putRail r x).marks = s.marks :=
  ⟨rfl, rfl, rfl, rfl, rfl, rfl, rfl, rfl, rfl, rfl, rfl, rfl, rfl, rfl, rfl, rfl, rfl, rfl, rfl, rfl, rfl, rfl, rfl, rfl, rfl, rfl, rfl, rfl, rfl, rfl, rfl, rfl, rfl, rfl, rfl, rfl, rfl, rfl, rfl, rfl, rfl⟩

@[simp] theorem putPhase_fields (r : RailId) (p : PhaseId) (x : PhaseRec) :
    (s.putPhase r p x).pending = s.pending ∧ (s.putPhase r p x).now = s.now ∧ (s.putPhase r p x).skew = s.skew ∧
    (s.putPhase r p x).free = s.free ∧ (s.putPhase r p x).regs = s.regs ∧ (s.putPhase r p x).wheels = s.wheels ∧
    (s.putPhase r p x).groups = s.groups ∧ (s.putPhase r p x).net = s.net ∧ (s.putPhase r p x).flt = s.flt ∧
    (s.putPhase r p x).tr = s.tr ∧ (s.putPhase r p x).mrs = s.mrs ∧ (s.putPhase r p x).cells = s.cells ∧ (s.putPhase r p x).sensors = s.sensors ∧
    (s.putPhase r p x).loops = s.loops ∧ (s.putPhase r p x).tiles = s.tiles ∧ (s.putPhase r p x).seq = s.seq ∧
    (s.putPhase r p x).trip = s.trip ∧ (s.putPhase r p x).supply = s.supply ∧ (s.putPhase r p x).tels = s.tels ∧
    (s.putPhase r p x).rails = s.rails ∧ (s.putPhase r p x).convs = s.convs ∧ (s.putPhase r p x).segs = s.segs ∧
    (s.putPhase r p x).adcs = s.adcs ∧ (s.putPhase r p x).therms = s.therms ∧ (s.putPhase r p x).pass = s.pass ∧
    (s.putPhase r p x).arbs = s.arbs ∧ (s.putPhase r p x).engines = s.engines ∧ (s.putPhase r p x).traces = s.traces ∧
    (s.putPhase r p x).mem = s.mem ∧ (s.putPhase r p x).manifest = s.manifest ∧ (s.putPhase r p x).ests = s.ests ∧
    (s.putPhase r p x).ledger = s.ledger ∧ (s.putPhase r p x).blobs = s.blobs ∧ (s.putPhase r p x).poison = s.poison ∧
    (s.putPhase r p x).budget = s.budget ∧ (s.putPhase r p x).pub = s.pub ∧ (s.putPhase r p x).rst = s.rst ∧
    (s.putPhase r p x).moult = s.moult ∧ (s.putPhase r p x).memory = s.memory ∧ (s.putPhase r p x).tap = s.tap ∧
    (s.putPhase r p x).marks = s.marks :=
  ⟨rfl, rfl, rfl, rfl, rfl, rfl, rfl, rfl, rfl, rfl, rfl, rfl, rfl, rfl, rfl, rfl, rfl, rfl, rfl, rfl, rfl, rfl, rfl, rfl, rfl, rfl, rfl, rfl, rfl, rfl, rfl, rfl, rfl, rfl, rfl, rfl, rfl, rfl, rfl, rfl, rfl⟩

@[simp] theorem putConv_fields (n : ConvId) (x : ConvRec) :
    (s.putConv n x).pending = s.pending ∧ (s.putConv n x).now = s.now ∧ (s.putConv n x).skew = s.skew ∧ (s.putConv n x).free = s.free ∧
    (s.putConv n x).regs = s.regs ∧ (s.putConv n x).wheels = s.wheels ∧ (s.putConv n x).groups = s.groups ∧
    (s.putConv n x).net = s.net ∧ (s.putConv n x).flt = s.flt ∧ (s.putConv n x).tr = s.tr ∧ (s.putConv n x).mrs = s.mrs ∧
    (s.putConv n x).cells = s.cells ∧ (s.putConv n x).sensors = s.sensors ∧ (s.putConv n x).loops = s.loops ∧
    (s.putConv n x).tiles = s.tiles ∧ (s.putConv n x).seq = s.seq ∧ (s.putConv n x).trip = s.trip ∧ (s.putConv n x).supply = s.supply ∧
    (s.putConv n x).tels = s.tels ∧ (s.putConv n x).rails = s.rails ∧ (s.putConv n x).phases = s.phases ∧ (s.putConv n x).segs = s.segs ∧
    (s.putConv n x).adcs = s.adcs ∧ (s.putConv n x).therms = s.therms ∧ (s.putConv n x).pass = s.pass ∧ (s.putConv n x).arbs = s.arbs ∧
    (s.putConv n x).engines = s.engines ∧ (s.putConv n x).traces = s.traces ∧ (s.putConv n x).mem = s.mem ∧
    (s.putConv n x).manifest = s.manifest ∧ (s.putConv n x).ests = s.ests ∧ (s.putConv n x).ledger = s.ledger ∧
    (s.putConv n x).blobs = s.blobs ∧ (s.putConv n x).poison = s.poison ∧ (s.putConv n x).budget = s.budget ∧
    (s.putConv n x).pub = s.pub ∧ (s.putConv n x).rst = s.rst ∧ (s.putConv n x).moult = s.moult ∧ (s.putConv n x).memory = s.memory ∧
    (s.putConv n x).tap = s.tap ∧ (s.putConv n x).marks = s.marks :=
  ⟨rfl, rfl, rfl, rfl, rfl, rfl, rfl, rfl, rfl, rfl, rfl, rfl, rfl, rfl, rfl, rfl, rfl, rfl, rfl, rfl, rfl, rfl, rfl, rfl, rfl, rfl, rfl, rfl, rfl, rfl, rfl, rfl, rfl, rfl, rfl, rfl, rfl, rfl, rfl, rfl, rfl⟩

@[simp] theorem putSeg_fields (k : SegId) (x : SegRec) :
    (s.putSeg k x).pending = s.pending ∧ (s.putSeg k x).now = s.now ∧ (s.putSeg k x).skew = s.skew ∧ (s.putSeg k x).free = s.free ∧
    (s.putSeg k x).regs = s.regs ∧ (s.putSeg k x).wheels = s.wheels ∧ (s.putSeg k x).groups = s.groups ∧ (s.putSeg k x).net = s.net ∧
    (s.putSeg k x).flt = s.flt ∧ (s.putSeg k x).tr = s.tr ∧ (s.putSeg k x).mrs = s.mrs ∧ (s.putSeg k x).cells = s.cells ∧
    (s.putSeg k x).sensors = s.sensors ∧ (s.putSeg k x).loops = s.loops ∧ (s.putSeg k x).tiles = s.tiles ∧ (s.putSeg k x).seq = s.seq ∧
    (s.putSeg k x).trip = s.trip ∧ (s.putSeg k x).supply = s.supply ∧ (s.putSeg k x).tels = s.tels ∧ (s.putSeg k x).rails = s.rails ∧
    (s.putSeg k x).phases = s.phases ∧ (s.putSeg k x).convs = s.convs ∧ (s.putSeg k x).adcs = s.adcs ∧ (s.putSeg k x).therms = s.therms ∧
    (s.putSeg k x).pass = s.pass ∧ (s.putSeg k x).arbs = s.arbs ∧ (s.putSeg k x).engines = s.engines ∧ (s.putSeg k x).traces = s.traces ∧
    (s.putSeg k x).mem = s.mem ∧ (s.putSeg k x).manifest = s.manifest ∧ (s.putSeg k x).ests = s.ests ∧ (s.putSeg k x).ledger = s.ledger ∧
    (s.putSeg k x).blobs = s.blobs ∧ (s.putSeg k x).poison = s.poison ∧ (s.putSeg k x).budget = s.budget ∧ (s.putSeg k x).pub = s.pub ∧
    (s.putSeg k x).rst = s.rst ∧ (s.putSeg k x).moult = s.moult ∧ (s.putSeg k x).memory = s.memory ∧ (s.putSeg k x).tap = s.tap ∧
    (s.putSeg k x).marks = s.marks :=
  ⟨rfl, rfl, rfl, rfl, rfl, rfl, rfl, rfl, rfl, rfl, rfl, rfl, rfl, rfl, rfl, rfl, rfl, rfl, rfl, rfl, rfl, rfl, rfl, rfl, rfl, rfl, rfl, rfl, rfl, rfl, rfl, rfl, rfl, rfl, rfl, rfl, rfl, rfl, rfl, rfl, rfl⟩

@[simp] theorem putArb_fields (f : FieldId) (x : ArbRec) :
    (s.putArb f x).pending = s.pending ∧ (s.putArb f x).now = s.now ∧ (s.putArb f x).skew = s.skew ∧ (s.putArb f x).free = s.free ∧
    (s.putArb f x).regs = s.regs ∧ (s.putArb f x).wheels = s.wheels ∧ (s.putArb f x).groups = s.groups ∧ (s.putArb f x).net = s.net ∧
    (s.putArb f x).flt = s.flt ∧ (s.putArb f x).tr = s.tr ∧ (s.putArb f x).mrs = s.mrs ∧ (s.putArb f x).cells = s.cells ∧
    (s.putArb f x).sensors = s.sensors ∧ (s.putArb f x).loops = s.loops ∧ (s.putArb f x).tiles = s.tiles ∧ (s.putArb f x).seq = s.seq ∧
    (s.putArb f x).trip = s.trip ∧ (s.putArb f x).supply = s.supply ∧ (s.putArb f x).tels = s.tels ∧ (s.putArb f x).rails = s.rails ∧
    (s.putArb f x).phases = s.phases ∧ (s.putArb f x).convs = s.convs ∧ (s.putArb f x).segs = s.segs ∧ (s.putArb f x).adcs = s.adcs ∧
    (s.putArb f x).therms = s.therms ∧ (s.putArb f x).pass = s.pass ∧ (s.putArb f x).engines = s.engines ∧ (s.putArb f x).traces = s.traces ∧
    (s.putArb f x).mem = s.mem ∧ (s.putArb f x).manifest = s.manifest ∧ (s.putArb f x).ests = s.ests ∧ (s.putArb f x).ledger = s.ledger ∧
    (s.putArb f x).blobs = s.blobs ∧ (s.putArb f x).poison = s.poison ∧ (s.putArb f x).budget = s.budget ∧ (s.putArb f x).pub = s.pub ∧
    (s.putArb f x).rst = s.rst ∧ (s.putArb f x).moult = s.moult ∧ (s.putArb f x).memory = s.memory ∧ (s.putArb f x).tap = s.tap ∧
    (s.putArb f x).marks = s.marks :=
  ⟨rfl, rfl, rfl, rfl, rfl, rfl, rfl, rfl, rfl, rfl, rfl, rfl, rfl, rfl, rfl, rfl, rfl, rfl, rfl, rfl, rfl, rfl, rfl, rfl, rfl, rfl, rfl, rfl, rfl, rfl, rfl, rfl, rfl, rfl, rfl, rfl, rfl, rfl, rfl, rfl, rfl⟩

@[simp] theorem putEng_fields (e : EngId) (r : EngRec) :
    (s.putEng e r).pending = s.pending ∧ (s.putEng e r).now = s.now ∧ (s.putEng e r).skew = s.skew ∧ (s.putEng e r).free = s.free ∧
    (s.putEng e r).regs = s.regs ∧ (s.putEng e r).wheels = s.wheels ∧ (s.putEng e r).groups = s.groups ∧ (s.putEng e r).net = s.net ∧
    (s.putEng e r).flt = s.flt ∧ (s.putEng e r).tr = s.tr ∧ (s.putEng e r).mrs = s.mrs ∧ (s.putEng e r).cells = s.cells ∧
    (s.putEng e r).sensors = s.sensors ∧ (s.putEng e r).loops = s.loops ∧ (s.putEng e r).tiles = s.tiles ∧ (s.putEng e r).seq = s.seq ∧
    (s.putEng e r).trip = s.trip ∧ (s.putEng e r).supply = s.supply ∧ (s.putEng e r).tels = s.tels ∧ (s.putEng e r).rails = s.rails ∧
    (s.putEng e r).phases = s.phases ∧ (s.putEng e r).convs = s.convs ∧ (s.putEng e r).segs = s.segs ∧ (s.putEng e r).adcs = s.adcs ∧
    (s.putEng e r).therms = s.therms ∧ (s.putEng e r).pass = s.pass ∧ (s.putEng e r).arbs = s.arbs ∧ (s.putEng e r).traces = s.traces ∧
    (s.putEng e r).mem = s.mem ∧ (s.putEng e r).manifest = s.manifest ∧ (s.putEng e r).ests = s.ests ∧ (s.putEng e r).ledger = s.ledger ∧
    (s.putEng e r).blobs = s.blobs ∧ (s.putEng e r).poison = s.poison ∧ (s.putEng e r).budget = s.budget ∧ (s.putEng e r).pub = s.pub ∧
    (s.putEng e r).rst = s.rst ∧ (s.putEng e r).moult = s.moult ∧ (s.putEng e r).memory = s.memory ∧ (s.putEng e r).tap = s.tap ∧
    (s.putEng e r).marks = s.marks :=
  ⟨rfl, rfl, rfl, rfl, rfl, rfl, rfl, rfl, rfl, rfl, rfl, rfl, rfl, rfl, rfl, rfl, rfl, rfl, rfl, rfl, rfl, rfl, rfl, rfl, rfl, rfl, rfl, rfl, rfl, rfl, rfl, rfl, rfl, rfl, rfl, rfl, rfl, rfl, rfl, rfl, rfl⟩

@[simp] theorem putTrace_fields (x : TraceId) (r : TraceRec) :
    (s.putTrace x r).pending = s.pending ∧ (s.putTrace x r).now = s.now ∧ (s.putTrace x r).skew = s.skew ∧ (s.putTrace x r).free = s.free ∧
    (s.putTrace x r).regs = s.regs ∧ (s.putTrace x r).wheels = s.wheels ∧ (s.putTrace x r).groups = s.groups ∧
    (s.putTrace x r).net = s.net ∧ (s.putTrace x r).flt = s.flt ∧ (s.putTrace x r).tr = s.tr ∧ (s.putTrace x r).mrs = s.mrs ∧
    (s.putTrace x r).cells = s.cells ∧ (s.putTrace x r).sensors = s.sensors ∧ (s.putTrace x r).loops = s.loops ∧
    (s.putTrace x r).tiles = s.tiles ∧ (s.putTrace x r).seq = s.seq ∧ (s.putTrace x r).trip = s.trip ∧ (s.putTrace x r).supply = s.supply ∧
    (s.putTrace x r).tels = s.tels ∧ (s.putTrace x r).rails = s.rails ∧ (s.putTrace x r).phases = s.phases ∧
    (s.putTrace x r).convs = s.convs ∧ (s.putTrace x r).segs = s.segs ∧ (s.putTrace x r).adcs = s.adcs ∧ (s.putTrace x r).therms = s.therms ∧
    (s.putTrace x r).pass = s.pass ∧ (s.putTrace x r).arbs = s.arbs ∧ (s.putTrace x r).engines = s.engines ∧
    (s.putTrace x r).mem = s.mem ∧ (s.putTrace x r).manifest = s.manifest ∧ (s.putTrace x r).ests = s.ests ∧
    (s.putTrace x r).ledger = s.ledger ∧ (s.putTrace x r).blobs = s.blobs ∧ (s.putTrace x r).poison = s.poison ∧
    (s.putTrace x r).budget = s.budget ∧ (s.putTrace x r).pub = s.pub ∧ (s.putTrace x r).rst = s.rst ∧ (s.putTrace x r).moult = s.moult ∧
    (s.putTrace x r).memory = s.memory ∧ (s.putTrace x r).tap = s.tap ∧ (s.putTrace x r).marks = s.marks :=
  ⟨rfl, rfl, rfl, rfl, rfl, rfl, rfl, rfl, rfl, rfl, rfl, rfl, rfl, rfl, rfl, rfl, rfl, rfl, rfl, rfl, rfl, rfl, rfl, rfl, rfl, rfl, rfl, rfl, rfl, rfl, rfl, rfl, rfl, rfl, rfl, rfl, rfl, rfl, rfl, rfl, rfl⟩

@[simp] theorem putAdc_fields (f : FieldId) (q : AdcId) (x : AdcRec) :
    (s.putAdc f q x).pending = s.pending ∧ (s.putAdc f q x).now = s.now ∧ (s.putAdc f q x).skew = s.skew ∧ (s.putAdc f q x).free = s.free ∧
    (s.putAdc f q x).regs = s.regs ∧ (s.putAdc f q x).wheels = s.wheels ∧ (s.putAdc f q x).groups = s.groups ∧
    (s.putAdc f q x).net = s.net ∧ (s.putAdc f q x).flt = s.flt ∧ (s.putAdc f q x).tr = s.tr ∧ (s.putAdc f q x).mrs = s.mrs ∧
    (s.putAdc f q x).cells = s.cells ∧ (s.putAdc f q x).sensors = s.sensors ∧ (s.putAdc f q x).loops = s.loops ∧
    (s.putAdc f q x).tiles = s.tiles ∧ (s.putAdc f q x).seq = s.seq ∧ (s.putAdc f q x).trip = s.trip ∧ (s.putAdc f q x).supply = s.supply ∧
    (s.putAdc f q x).tels = s.tels ∧ (s.putAdc f q x).rails = s.rails ∧ (s.putAdc f q x).phases = s.phases ∧
    (s.putAdc f q x).convs = s.convs ∧ (s.putAdc f q x).segs = s.segs ∧ (s.putAdc f q x).therms = s.therms ∧
    (s.putAdc f q x).pass = s.pass ∧ (s.putAdc f q x).arbs = s.arbs ∧ (s.putAdc f q x).engines = s.engines ∧
    (s.putAdc f q x).traces = s.traces ∧ (s.putAdc f q x).mem = s.mem ∧ (s.putAdc f q x).manifest = s.manifest ∧
    (s.putAdc f q x).ests = s.ests ∧ (s.putAdc f q x).ledger = s.ledger ∧ (s.putAdc f q x).blobs = s.blobs ∧
    (s.putAdc f q x).poison = s.poison ∧ (s.putAdc f q x).budget = s.budget ∧ (s.putAdc f q x).pub = s.pub ∧
    (s.putAdc f q x).rst = s.rst ∧ (s.putAdc f q x).moult = s.moult ∧ (s.putAdc f q x).memory = s.memory ∧ (s.putAdc f q x).tap = s.tap ∧
    (s.putAdc f q x).marks = s.marks :=
  ⟨rfl, rfl, rfl, rfl, rfl, rfl, rfl, rfl, rfl, rfl, rfl, rfl, rfl, rfl, rfl, rfl, rfl, rfl, rfl, rfl, rfl, rfl, rfl, rfl, rfl, rfl, rfl, rfl, rfl, rfl, rfl, rfl, rfl, rfl, rfl, rfl, rfl, rfl, rfl, rfl, rfl⟩

@[simp] theorem putTherm_fields (f : FieldId) (x : ThermRec) :
    (s.putTherm f x).pending = s.pending ∧ (s.putTherm f x).now = s.now ∧ (s.putTherm f x).skew = s.skew ∧ (s.putTherm f x).free = s.free ∧
    (s.putTherm f x).regs = s.regs ∧ (s.putTherm f x).wheels = s.wheels ∧ (s.putTherm f x).groups = s.groups ∧
    (s.putTherm f x).net = s.net ∧ (s.putTherm f x).flt = s.flt ∧ (s.putTherm f x).tr = s.tr ∧ (s.putTherm f x).mrs = s.mrs ∧
    (s.putTherm f x).cells = s.cells ∧ (s.putTherm f x).sensors = s.sensors ∧ (s.putTherm f x).loops = s.loops ∧
    (s.putTherm f x).tiles = s.tiles ∧ (s.putTherm f x).seq = s.seq ∧ (s.putTherm f x).trip = s.trip ∧ (s.putTherm f x).supply = s.supply ∧
    (s.putTherm f x).tels = s.tels ∧ (s.putTherm f x).rails = s.rails ∧ (s.putTherm f x).phases = s.phases ∧
    (s.putTherm f x).convs = s.convs ∧ (s.putTherm f x).segs = s.segs ∧ (s.putTherm f x).adcs = s.adcs ∧ (s.putTherm f x).pass = s.pass ∧
    (s.putTherm f x).arbs = s.arbs ∧ (s.putTherm f x).engines = s.engines ∧ (s.putTherm f x).traces = s.traces ∧
    (s.putTherm f x).mem = s.mem ∧ (s.putTherm f x).manifest = s.manifest ∧ (s.putTherm f x).ests = s.ests ∧
    (s.putTherm f x).ledger = s.ledger ∧ (s.putTherm f x).blobs = s.blobs ∧ (s.putTherm f x).poison = s.poison ∧
    (s.putTherm f x).budget = s.budget ∧ (s.putTherm f x).pub = s.pub ∧ (s.putTherm f x).rst = s.rst ∧ (s.putTherm f x).moult = s.moult ∧
    (s.putTherm f x).memory = s.memory ∧ (s.putTherm f x).tap = s.tap ∧ (s.putTherm f x).marks = s.marks :=
  ⟨rfl, rfl, rfl, rfl, rfl, rfl, rfl, rfl, rfl, rfl, rfl, rfl, rfl, rfl, rfl, rfl, rfl, rfl, rfl, rfl, rfl, rfl, rfl, rfl, rfl, rfl, rfl, rfl, rfl, rfl, rfl, rfl, rfl, rfl, rfl, rfl, rfl, rfl, rfl, rfl, rfl⟩

@[simp] theorem putEstr_fields (f : FieldId) (r : EstRec) :
    (s.putEstr f r).pending = s.pending ∧ (s.putEstr f r).now = s.now ∧ (s.putEstr f r).skew = s.skew ∧ (s.putEstr f r).free = s.free ∧
    (s.putEstr f r).regs = s.regs ∧ (s.putEstr f r).wheels = s.wheels ∧ (s.putEstr f r).groups = s.groups ∧
    (s.putEstr f r).net = s.net ∧ (s.putEstr f r).flt = s.flt ∧ (s.putEstr f r).tr = s.tr ∧ (s.putEstr f r).mrs = s.mrs ∧
    (s.putEstr f r).cells = s.cells ∧ (s.putEstr f r).sensors = s.sensors ∧ (s.putEstr f r).loops = s.loops ∧
    (s.putEstr f r).tiles = s.tiles ∧ (s.putEstr f r).seq = s.seq ∧ (s.putEstr f r).trip = s.trip ∧ (s.putEstr f r).supply = s.supply ∧
    (s.putEstr f r).tels = s.tels ∧ (s.putEstr f r).rails = s.rails ∧ (s.putEstr f r).phases = s.phases ∧ (s.putEstr f r).convs = s.convs ∧
    (s.putEstr f r).segs = s.segs ∧ (s.putEstr f r).adcs = s.adcs ∧ (s.putEstr f r).therms = s.therms ∧ (s.putEstr f r).pass = s.pass ∧
    (s.putEstr f r).arbs = s.arbs ∧ (s.putEstr f r).engines = s.engines ∧ (s.putEstr f r).traces = s.traces ∧
    (s.putEstr f r).mem = s.mem ∧ (s.putEstr f r).manifest = s.manifest ∧ (s.putEstr f r).ledger = s.ledger ∧
    (s.putEstr f r).blobs = s.blobs ∧ (s.putEstr f r).poison = s.poison ∧ (s.putEstr f r).budget = s.budget ∧
    (s.putEstr f r).pub = s.pub ∧ (s.putEstr f r).rst = s.rst ∧ (s.putEstr f r).moult = s.moult ∧ (s.putEstr f r).memory = s.memory ∧
    (s.putEstr f r).tap = s.tap ∧ (s.putEstr f r).marks = s.marks :=
  ⟨rfl, rfl, rfl, rfl, rfl, rfl, rfl, rfl, rfl, rfl, rfl, rfl, rfl, rfl, rfl, rfl, rfl, rfl, rfl, rfl, rfl, rfl, rfl, rfl, rfl, rfl, rfl, rfl, rfl, rfl, rfl, rfl, rfl, rfl, rfl, rfl, rfl, rfl, rfl, rfl, rfl⟩

@[simp] theorem putPart_fields (p : Nat) (x : Option PartRec) :
    (s.putPart p x).pending = s.pending ∧ (s.putPart p x).now = s.now ∧ (s.putPart p x).skew = s.skew ∧ (s.putPart p x).free = s.free ∧
    (s.putPart p x).regs = s.regs ∧ (s.putPart p x).wheels = s.wheels ∧ (s.putPart p x).groups = s.groups ∧
    (s.putPart p x).net = s.net ∧ (s.putPart p x).flt = s.flt ∧ (s.putPart p x).tr = s.tr ∧ (s.putPart p x).mrs = s.mrs ∧
    (s.putPart p x).cells = s.cells ∧ (s.putPart p x).sensors = s.sensors ∧ (s.putPart p x).loops = s.loops ∧
    (s.putPart p x).tiles = s.tiles ∧ (s.putPart p x).seq = s.seq ∧ (s.putPart p x).trip = s.trip ∧ (s.putPart p x).supply = s.supply ∧
    (s.putPart p x).tels = s.tels ∧ (s.putPart p x).rails = s.rails ∧ (s.putPart p x).phases = s.phases ∧ (s.putPart p x).convs = s.convs ∧
    (s.putPart p x).segs = s.segs ∧ (s.putPart p x).adcs = s.adcs ∧ (s.putPart p x).therms = s.therms ∧ (s.putPart p x).pass = s.pass ∧
    (s.putPart p x).arbs = s.arbs ∧ (s.putPart p x).engines = s.engines ∧ (s.putPart p x).traces = s.traces ∧
    (s.putPart p x).mem = s.mem ∧ (s.putPart p x).manifest = s.manifest ∧ (s.putPart p x).ests = s.ests ∧ (s.putPart p x).ledger = s.ledger ∧
    (s.putPart p x).blobs = s.blobs ∧ (s.putPart p x).poison = s.poison ∧ (s.putPart p x).pub = s.pub ∧ (s.putPart p x).rst = s.rst ∧
    (s.putPart p x).moult = s.moult ∧ (s.putPart p x).memory = s.memory ∧ (s.putPart p x).tap = s.tap ∧ (s.putPart p x).marks = s.marks :=
  ⟨rfl, rfl, rfl, rfl, rfl, rfl, rfl, rfl, rfl, rfl, rfl, rfl, rfl, rfl, rfl, rfl, rfl, rfl, rfl, rfl, rfl, rfl, rfl, rfl, rfl, rfl, rfl, rfl, rfl, rfl, rfl, rfl, rfl, rfl, rfl, rfl, rfl, rfl, rfl, rfl, rfl⟩

@[simp] theorem putTel_fields (st idx : Nat) (r : TelRec) :
    (s.putTel st idx r).pending = s.pending ∧ (s.putTel st idx r).now = s.now ∧ (s.putTel st idx r).skew = s.skew ∧
    (s.putTel st idx r).free = s.free ∧ (s.putTel st idx r).regs = s.regs ∧ (s.putTel st idx r).wheels = s.wheels ∧
    (s.putTel st idx r).groups = s.groups ∧ (s.putTel st idx r).net = s.net ∧ (s.putTel st idx r).flt = s.flt ∧
    (s.putTel st idx r).tr = s.tr ∧ (s.putTel st idx r).mrs = s.mrs ∧ (s.putTel st idx r).cells = s.cells ∧
    (s.putTel st idx r).sensors = s.sensors ∧ (s.putTel st idx r).loops = s.loops ∧ (s.putTel st idx r).tiles = s.tiles ∧
    (s.putTel st idx r).seq = s.seq ∧ (s.putTel st idx r).trip = s.trip ∧ (s.putTel st idx r).supply = s.supply ∧
    (s.putTel st idx r).rails = s.rails ∧ (s.putTel st idx r).phases = s.phases ∧ (s.putTel st idx r).convs = s.convs ∧
    (s.putTel st idx r).segs = s.segs ∧ (s.putTel st idx r).adcs = s.adcs ∧ (s.putTel st idx r).therms = s.therms ∧
    (s.putTel st idx r).pass = s.pass ∧ (s.putTel st idx r).arbs = s.arbs ∧ (s.putTel st idx r).engines = s.engines ∧
    (s.putTel st idx r).traces = s.traces ∧ (s.putTel st idx r).mem = s.mem ∧ (s.putTel st idx r).manifest = s.manifest ∧
    (s.putTel st idx r).ests = s.ests ∧ (s.putTel st idx r).ledger = s.ledger ∧ (s.putTel st idx r).blobs = s.blobs ∧
    (s.putTel st idx r).poison = s.poison ∧ (s.putTel st idx r).budget = s.budget ∧ (s.putTel st idx r).pub = s.pub ∧
    (s.putTel st idx r).rst = s.rst ∧ (s.putTel st idx r).moult = s.moult ∧ (s.putTel st idx r).memory = s.memory ∧
    (s.putTel st idx r).tap = s.tap ∧ (s.putTel st idx r).marks = s.marks :=
  ⟨rfl, rfl, rfl, rfl, rfl, rfl, rfl, rfl, rfl, rfl, rfl, rfl, rfl, rfl, rfl, rfl, rfl, rfl, rfl, rfl, rfl, rfl, rfl, rfl, rfl, rfl, rfl, rfl, rfl, rfl, rfl, rfl, rfl, rfl, rfl, rfl, rfl, rfl, rfl, rfl, rfl⟩

@[simp] theorem putMemory_fields (m : MemRec) :
    (s.putMemory m).pending = s.pending ∧ (s.putMemory m).now = s.now ∧ (s.putMemory m).skew = s.skew ∧ (s.putMemory m).free = s.free ∧
    (s.putMemory m).regs = s.regs ∧ (s.putMemory m).wheels = s.wheels ∧ (s.putMemory m).groups = s.groups ∧
    (s.putMemory m).net = s.net ∧ (s.putMemory m).flt = s.flt ∧ (s.putMemory m).tr = s.tr ∧ (s.putMemory m).mrs = s.mrs ∧
    (s.putMemory m).cells = s.cells ∧ (s.putMemory m).sensors = s.sensors ∧ (s.putMemory m).loops = s.loops ∧
    (s.putMemory m).tiles = s.tiles ∧ (s.putMemory m).seq = s.seq ∧ (s.putMemory m).trip = s.trip ∧ (s.putMemory m).supply = s.supply ∧
    (s.putMemory m).tels = s.tels ∧ (s.putMemory m).rails = s.rails ∧ (s.putMemory m).phases = s.phases ∧ (s.putMemory m).convs = s.convs ∧
    (s.putMemory m).segs = s.segs ∧ (s.putMemory m).adcs = s.adcs ∧ (s.putMemory m).therms = s.therms ∧ (s.putMemory m).pass = s.pass ∧
    (s.putMemory m).arbs = s.arbs ∧ (s.putMemory m).engines = s.engines ∧ (s.putMemory m).traces = s.traces ∧
    (s.putMemory m).mem = s.mem ∧ (s.putMemory m).manifest = s.manifest ∧ (s.putMemory m).ests = s.ests ∧ (s.putMemory m).ledger = s.ledger ∧
    (s.putMemory m).blobs = s.blobs ∧ (s.putMemory m).poison = s.poison ∧ (s.putMemory m).budget = s.budget ∧
    (s.putMemory m).pub = s.pub ∧ (s.putMemory m).rst = s.rst ∧ (s.putMemory m).moult = s.moult ∧ (s.putMemory m).tap = s.tap ∧
    (s.putMemory m).marks = s.marks :=
  ⟨rfl, rfl, rfl, rfl, rfl, rfl, rfl, rfl, rfl, rfl, rfl, rfl, rfl, rfl, rfl, rfl, rfl, rfl, rfl, rfl, rfl, rfl, rfl, rfl, rfl, rfl, rfl, rfl, rfl, rfl, rfl, rfl, rfl, rfl, rfl, rfl, rfl, rfl, rfl, rfl, rfl⟩

@[simp] theorem putTrip_fields (t : Trip) :
    (s.putTrip t).pending = s.pending ∧ (s.putTrip t).now = s.now ∧ (s.putTrip t).skew = s.skew ∧ (s.putTrip t).free = s.free ∧
    (s.putTrip t).regs = s.regs ∧ (s.putTrip t).wheels = s.wheels ∧ (s.putTrip t).groups = s.groups ∧ (s.putTrip t).net = s.net ∧
    (s.putTrip t).flt = s.flt ∧ (s.putTrip t).tr = s.tr ∧ (s.putTrip t).mrs = s.mrs ∧ (s.putTrip t).cells = s.cells ∧
    (s.putTrip t).sensors = s.sensors ∧ (s.putTrip t).loops = s.loops ∧ (s.putTrip t).tiles = s.tiles ∧ (s.putTrip t).seq = s.seq ∧
    (s.putTrip t).supply = s.supply ∧ (s.putTrip t).tels = s.tels ∧ (s.putTrip t).rails = s.rails ∧ (s.putTrip t).phases = s.phases ∧
    (s.putTrip t).convs = s.convs ∧ (s.putTrip t).segs = s.segs ∧ (s.putTrip t).adcs = s.adcs ∧ (s.putTrip t).therms = s.therms ∧
    (s.putTrip t).pass = s.pass ∧ (s.putTrip t).arbs = s.arbs ∧ (s.putTrip t).engines = s.engines ∧ (s.putTrip t).traces = s.traces ∧
    (s.putTrip t).mem = s.mem ∧ (s.putTrip t).manifest = s.manifest ∧ (s.putTrip t).ests = s.ests ∧ (s.putTrip t).ledger = s.ledger ∧
    (s.putTrip t).blobs = s.blobs ∧ (s.putTrip t).poison = s.poison ∧ (s.putTrip t).budget = s.budget ∧ (s.putTrip t).pub = s.pub ∧
    (s.putTrip t).rst = s.rst ∧ (s.putTrip t).moult = s.moult ∧ (s.putTrip t).memory = s.memory ∧ (s.putTrip t).tap = s.tap ∧
    (s.putTrip t).marks = s.marks :=
  ⟨rfl, rfl, rfl, rfl, rfl, rfl, rfl, rfl, rfl, rfl, rfl, rfl, rfl, rfl, rfl, rfl, rfl, rfl, rfl, rfl, rfl, rfl, rfl, rfl, rfl, rfl, rfl, rfl, rfl, rfl, rfl, rfl, rfl, rfl, rfl, rfl, rfl, rfl, rfl, rfl, rfl⟩

@[simp] theorem putTap_fields (t : TapRec) :
    (s.putTap t).pending = s.pending ∧ (s.putTap t).now = s.now ∧ (s.putTap t).skew = s.skew ∧ (s.putTap t).free = s.free ∧
    (s.putTap t).regs = s.regs ∧ (s.putTap t).wheels = s.wheels ∧ (s.putTap t).groups = s.groups ∧ (s.putTap t).net = s.net ∧
    (s.putTap t).flt = s.flt ∧ (s.putTap t).tr = s.tr ∧ (s.putTap t).mrs = s.mrs ∧ (s.putTap t).cells = s.cells ∧
    (s.putTap t).sensors = s.sensors ∧ (s.putTap t).loops = s.loops ∧ (s.putTap t).tiles = s.tiles ∧ (s.putTap t).seq = s.seq ∧
    (s.putTap t).trip = s.trip ∧ (s.putTap t).supply = s.supply ∧ (s.putTap t).tels = s.tels ∧ (s.putTap t).rails = s.rails ∧
    (s.putTap t).phases = s.phases ∧ (s.putTap t).convs = s.convs ∧ (s.putTap t).segs = s.segs ∧ (s.putTap t).adcs = s.adcs ∧
    (s.putTap t).therms = s.therms ∧ (s.putTap t).pass = s.pass ∧ (s.putTap t).arbs = s.arbs ∧ (s.putTap t).engines = s.engines ∧
    (s.putTap t).traces = s.traces ∧ (s.putTap t).mem = s.mem ∧ (s.putTap t).manifest = s.manifest ∧ (s.putTap t).ests = s.ests ∧
    (s.putTap t).ledger = s.ledger ∧ (s.putTap t).blobs = s.blobs ∧ (s.putTap t).poison = s.poison ∧ (s.putTap t).budget = s.budget ∧
    (s.putTap t).pub = s.pub ∧ (s.putTap t).rst = s.rst ∧ (s.putTap t).moult = s.moult ∧ (s.putTap t).memory = s.memory ∧
    (s.putTap t).marks = s.marks :=
  ⟨rfl, rfl, rfl, rfl, rfl, rfl, rfl, rfl, rfl, rfl, rfl, rfl, rfl, rfl, rfl, rfl, rfl, rfl, rfl, rfl, rfl, rfl, rfl, rfl, rfl, rfl, rfl, rfl, rfl, rfl, rfl, rfl, rfl, rfl, rfl, rfl, rfl, rfl, rfl, rfl, rfl⟩

@[simp] theorem addJob_fields (j : SeqJob) :
    (s.addJob j).pending = s.pending ∧ (s.addJob j).now = s.now ∧ (s.addJob j).skew = s.skew ∧ (s.addJob j).free = s.free ∧
    (s.addJob j).regs = s.regs ∧ (s.addJob j).wheels = s.wheels ∧ (s.addJob j).groups = s.groups ∧ (s.addJob j).net = s.net ∧
    (s.addJob j).flt = s.flt ∧ (s.addJob j).tr = s.tr ∧ (s.addJob j).mrs = s.mrs ∧ (s.addJob j).cells = s.cells ∧
    (s.addJob j).sensors = s.sensors ∧ (s.addJob j).loops = s.loops ∧ (s.addJob j).tiles = s.tiles ∧ (s.addJob j).trip = s.trip ∧
    (s.addJob j).supply = s.supply ∧ (s.addJob j).tels = s.tels ∧ (s.addJob j).rails = s.rails ∧ (s.addJob j).phases = s.phases ∧
    (s.addJob j).convs = s.convs ∧ (s.addJob j).segs = s.segs ∧ (s.addJob j).adcs = s.adcs ∧ (s.addJob j).therms = s.therms ∧
    (s.addJob j).pass = s.pass ∧ (s.addJob j).arbs = s.arbs ∧ (s.addJob j).engines = s.engines ∧ (s.addJob j).traces = s.traces ∧
    (s.addJob j).mem = s.mem ∧ (s.addJob j).manifest = s.manifest ∧ (s.addJob j).ests = s.ests ∧ (s.addJob j).ledger = s.ledger ∧
    (s.addJob j).blobs = s.blobs ∧ (s.addJob j).poison = s.poison ∧ (s.addJob j).budget = s.budget ∧ (s.addJob j).pub = s.pub ∧
    (s.addJob j).rst = s.rst ∧ (s.addJob j).moult = s.moult ∧ (s.addJob j).memory = s.memory ∧ (s.addJob j).tap = s.tap ∧
    (s.addJob j).marks = s.marks :=
  ⟨rfl, rfl, rfl, rfl, rfl, rfl, rfl, rfl, rfl, rfl, rfl, rfl, rfl, rfl, rfl, rfl, rfl, rfl, rfl, rfl, rfl, rfl, rfl, rfl, rfl, rfl, rfl, rfl, rfl, rfl, rfl, rfl, rfl, rfl, rfl, rfl, rfl, rfl, rfl, rfl, rfl⟩

/-! ### A read after a write -/

/-- Two addresses with proper index and subindex share a key only if they are the same. -/
theorem rkey_inj {st idx sub st' idx' sub' : Nat} (h1 : idx < 0x10000) (h2 : idx' < 0x10000) (h3 : sub < 0x100) (h4 : sub' < 0x100)
    (h : rkey st idx sub = rkey st' idx' sub') : st = st' ∧ idx = idx' ∧ sub = sub' := by
  unfold rkey at h
  omega

@[simp] theorem rdRaw_wrRaw_same (st idx sub v : Nat) : (s.wrRaw st idx sub v).rdRaw st idx sub = v :=
  tblGet_set_same _ _ _ _
theorem rdRaw_wrRaw_ne {st idx sub st' idx' sub' : Nat} (v : Nat) (h : rkey st' idx' sub' ≠ rkey st idx sub) :
    (s.wrRaw st idx sub v).rdRaw st' idx' sub' = s.rdRaw st' idx' sub' :=
  tblGet_set_ne _ _ _ _ h
@[simp] theorem rd_wr_same (st : Nat) (o : Obj) (v : Nat) : (s.wr st o v).rd st o = v := rdRaw_wrRaw_same s _ _ _ _
theorem rd_wr_ne {st st' : Nat} {o o' : Obj} (v : Nat) (h : rkey st' o'.index o'.sub ≠ rkey st o.index o.sub) :
    (s.wr st o v).rd st' o' = s.rd st' o' :=
  rdRaw_wrRaw_ne s v h
@[simp] theorem rd_inc_same (st : Nat) (o : Obj) (m n : Nat) : (s.inc st o m n).rd st o = satAdd m (s.rd st o) n :=
  rd_wr_same s _ _ _
@[simp] theorem rd_inc16_same (st : Nat) (o : Obj) : (s.inc16 st o).rd st o = satAdd max16 (s.rd st o) 1 := rd_wr_same s _ _ _
@[simp] theorem rd_inc32_same (st : Nat) (o : Obj) : (s.inc32 st o).rd st o = satAdd max32 (s.rd st o) 1 := rd_wr_same s _ _ _
theorem regs_wr_ne {st : Nat} {o : Obj} (v : Nat) {k : Nat} (h : k ≠ rkey st o.index o.sub) :
    tblFind (s.wr st o v).regs k = tblFind s.regs k :=
  tblFind_set_ne _ _ _ h
/-- Objects read alike in states with the same register table. -/
theorem rd_congr {s t : State} (h : t.regs = s.regs) (st : Nat) (o : Obj) : t.rd st o = s.rd st o := by
  simp [State.rd, State.rdRaw, h]

@[simp] theorem wheel_putWheel_same (w : WheelRef) (r : WheelRec) : (s.putWheel w r).wheel w = r := tblGet_set_same _ _ _ _
@[simp] theorem session_putSession_same (n : Slot) (x : Session) : (s.putSession n x).session n = x := tblGet_set_same _ _ _ _
@[simp] theorem channel_putChannel_same (k : ChanId) (x : WinChan) : (s.putChannel k x).channel k = x := tblGet_set_same _ _ _ _
@[simp] theorem binding_putBinding_same (b : Fin 2) (x : Binding) : (s.putBinding b x).binding b = x := tblGet_set_same _ _ _ _
@[simp] theorem link_putLink_same (l : LinkRef) (r : LinkRec) : (s.putLink l r).link l = r := tblGet_set_same _ _ _ _
@[simp] theorem cellsOf_putCells_same (f : FieldId) (c : ClusterId) (r : CellsRec) : (s.putCells f c r).cellsOf f c = r := tblGet_set_same _ _ _ _
@[simp] theorem sensor_putSensor_same (f : FieldId) (c : ClusterId) (n : SensorId) (r : SensorRec) : (s.putSensor f c n r).sensor f c n = r := tblGet_set_same _ _ _ _
@[simp] theorem loop_putLoop_same (f : FieldId) (c : ClusterId) (r : LoopRec) : (s.putLoop f c r).loop f c = r := tblGet_set_same _ _ _ _
@[simp] theorem tile_putTile_same (f : FieldId) (t : TileId) (r : TileRec) : (s.putTile f t r).tile f t = r := tblGet_set_same _ _ _ _
@[simp] theorem rail_putRail_same (q : RailId) (x : RailRec) : (s.putRail q x).rail q = x := tblGet_set_same _ _ _ _
@[simp] theorem phase_putPhase_same (q : RailId) (p : PhaseId) (x : PhaseRec) : (s.putPhase q p x).phase q p = x := tblGet_set_same _ _ _ _
@[simp] theorem conv_putConv_same (n : ConvId) (x : ConvRec) : (s.putConv n x).conv n = x := tblGet_set_same _ _ _ _
@[simp] theorem seg_putSeg_same (k : SegId) (x : SegRec) : (s.putSeg k x).seg k = x := tblGet_set_same _ _ _ _
@[simp] theorem arb_putArb_same (f : FieldId) (x : ArbRec) : (s.putArb f x).arb f = x := tblGet_set_same _ _ _ _
@[simp] theorem eng_putEng_same (e : EngId) (r : EngRec) : (s.putEng e r).eng e = r := tblGet_set_same _ _ _ _
@[simp] theorem trace_putTrace_same (y : TraceId) (r : TraceRec) : (s.putTrace y r).trace y = r := tblGet_set_same _ _ _ _
@[simp] theorem adc_putAdc_same (f : FieldId) (q : AdcId) (x : AdcRec) : (s.putAdc f q x).adc f q = x := tblGet_set_same _ _ _ _
@[simp] theorem therm_putTherm_same (f : FieldId) (x : ThermRec) : (s.putTherm f x).therm f = x := tblGet_set_same _ _ _ _
@[simp] theorem estr_putEstr_same (f : FieldId) (r : EstRec) : (s.putEstr f r).estr f = r := tblGet_set_same _ _ _ _
@[simp] theorem part_putPart_same (p : Nat) (x : Option PartRec) : (s.putPart p x).part p = x := tblGet_set_same _ _ _ _

@[simp] theorem session_respond_same (n : Slot) (r : Response) : ((s.respond n r).session n) = { s.session n with resp := r } :=
  session_putSession_same s _ _
@[simp] theorem session_touch_same (n : Slot) : ((s.touch n).session n) = { s.session n with lastActive := s.time hubSt } :=
  session_putSession_same s _ _
@[simp] theorem putBytes_nil (st a : Nat) : s.putBytes st a [] = s := rfl
@[simp] theorem clearPoison_mem (st a n : Nat) : (s.clearPoison st a n).mem = s.mem := rfl
@[simp] theorem clearPoison_regs (st a n : Nat) : (s.clearPoison st a n).regs = s.regs := rfl
@[simp] theorem clearPoison_pad (st a n st' a' : Nat) : (s.clearPoison st a n).pad st' a' = s.pad st' a' := rfl

end Sys2Proof.Machine
end

