-- ==== Sys2Proof/Machine/Window.lean ====
section
/-!
DEFINITION. What the host register window shows (chapter The Phosen Dictionary and Its Transports, R412-R415).
-/
namespace Sys2Proof.Machine
open Sys2Proof

/-- The 256 bytes of a channel's registers (R413); those that are only written read as zero. -/
def State.chanPage (s : State) (ch : ChanId) : List Byte :=
  let x := s.channel ch
  let y := s.session (chanSlot ch)
  let a := x.dictAddr
  zeroBytes 0x1C ++ leBytes 4 y.opResult ++ zeroBytes 8 ++ leBytes 4 y.partResult ++ zeroBytes 8 ++ leBytes 4 y.fastAbort
    ++ zeroBytes 8 ++ stage32 x.partDesc ++ stage32 x.bindData
    ++ leBytes 8 (a.station.toNat * 2 ^ 48 + a.index.toNat * 2 ^ 32 + a.sub.toNat * 2 ^ 24)
    ++ leBytes 4 x.dictLen ++ zeroBytes 4 ++ leBytes 4 x.dictStatus ++ leBytes 4 x.dictOffset ++ leBytes 8 x.dictData
    ++ leBytes 4 x.dictTotal ++ leBytes 4 y.notes.length ++ zeroBytes 24 ++ (y.notes.head?).elim (zeroBytes 32) noteBytes ++ zeroBytes 32
/-- A domain table with its SEQ_CLOSE, which equals SEQ once the table is whole (R415, R227). -/
def State.tablePage (s : State) (sub : Nat) : List Byte :=
  let l := s.hubBytes 0x2810 sub
  l ++ (l.drop 8).take 4
/-- The head of the window: version, hub time, UNCLEARED, SEV_MAX and the fence words (R412, R289). -/
def State.windowHead (s : State) : List Byte :=
  leBytes 4 1 ++ zeroBytes 4 ++ leBytes 8 (s.time hubSt) ++ leBytes 2 (s.objWord (chanSlot 0) hubSt 0x1300 2)
    ++ leBytes 1 (s.objWord (chanSlot 0) hubSt 0x1300 3) ++ zeroBytes 13
    ++ allFields.flatMap (fun f => leBytes 2 (s.fieldWord f 0x2B80 0x0D) ++ leBytes 2 (s.fieldWord f 0x2B80 0x0E))
/-- The throttle-state words last received (R412). -/
def State.thrPage (s : State) : List Byte := (List.range 128).flatMap (fun k => leBytes 4 (tblGet 0xB0000000 s.tr.thr k))
/-- The bytes of the window from an offset on; reserved offsets read as zero (R412). -/
def State.windowFrom (s : State) (off : Nat) : List Byte :=
  if off < 0x1000 then s.windowHead.drop off
  else if off < 0x1400 then (s.chanPage (Fin.ofNat 4 ((off - 0x1000) / 0x100))).drop (off % 0x100)
  else if off < 0x2000 then []
  else if off < 0x3000 then s.thrPage.drop (off - 0x2000)
  else if off < 0x3200 then (s.tablePage 1).drop (off - 0x3000)
  else if off < 0x3400 then (s.tablePage 2).drop (off - 0x3200)
  else if off < 0x4000 then (s.tablePage 3).drop (off - 0x3400)
  else if off < 0x8000 then ((s.channel (Fin.ofNat 4 ((off - 0x4000) / 0x1000))).buffer).drop (off % 0x1000)
  else []
/-- What a read of `n` bytes returns (R412): zeroes but for an aligned access of 4 or 8 bytes; none where the crossing is down, and the
controller sees no access. -/
def State.windowRead (s : State) (off n : Nat) : Option (List Byte) :=
  if s.rst.held.isSome ∨ s.rd hubSt O.PCIE_STATE ≠ 1 then none
  else if (n = 4 ∨ n = 8) ∧ off % n = 0 then some ((s.windowFrom off ++ zeroBytes n).take n)
  else some (zeroBytes n)

end Sys2Proof.Machine
end

