-- ==== Sys2Proof/Tests/Slice0.lean ====
section
/-!
SUPPORT. Tests: small states that meet the hypotheses of the statements, ill-formed commands that WellFormed refuses, and a few
results worked out by hand from the spec. A witness state is `pick` of one change from each list.
-/
open Sys2Proof Sys2Proof.Machine

section
set_option Elab.async false

namespace Sys2Proof.Tests

/-- The block out of reset with its core up. -/
def up : State := { State.reset with rst := { held := none, coreUp := true } }
/-- The `ks`-th change of each list, one after the other, from `up`. -/
def pick (ms : List (List (State → State))) (ks : List Nat) : State := (ms.zip ks).foldl (fun x p => (p.1.getD p.2 id) x) up
def ws (l : List (WheelRef × WState)) (s : State) : State := l.foldl (fun s p => s.putWheel p.1 { s.wheel p.1 with state := p.2 }) s
def wr' (st : Nat) (o : Obj) (v : Nat) (s : State) : State := s.wr st o v
def wrs (l : List (Nat × Obj × Nat)) (s : State) : State := l.foldl (fun s p => s.wr p.1 p.2.1 p.2.2) s
def alts (st : Nat) (o : Obj) (l : List Nat) : List (State → State) := l.map (fun v => wr' st o v)
def allW : List WState := [.stopped, .starting, .running, .derated, .holding, .stopping, .parked, .latched]
def wAlts (w : WheelRef) : List (State → State) := allW.map (fun x => ws [(w, x)])
def nowAlts (l : List Nat) : List (State → State) := l.map (fun v s => { s with now := v })

end Sys2Proof.Tests

namespace Sys2Proof.Tests.C02

def c00 : WheelRef := .cluster 0 0
def cl := wAlts c00 ++ wAlts (.cluster 0 16)
def linkF (s : State) : State := s.putLink (.cl 0 0) { failed := true }
def pc (x : ParkCause) (s : State) : State := s.putWheel c00 { s.wheel c00 with parkCause := x }
def mrw : WheelRef := .mr 0 0 0
def grp (s : State) : State := { s with groups := [⟨0x8000, [wheelWord c00, wheelWord (.cluster 0 16)]⟩] }
def stg (l : List Nat) (s : State) : State := l.zipIdx.foldl (fun s x => s.wrRaw 0x8000 0x2011 (x.2 + 1) x.1) s
def wStepRunsTheFrontCommand : List Nat → State := pick
  ([[id, fun s => {s with pending := []}]])
theorem test_meets_StepRunsTheFrontCommand :
    ((wStepRunsTheFrontCommand [1]).pending = []) := by
  decide +kernel
def wClusterCommandsAct : List Nat → State := pick
  ([cl, [id, linkF, pc .command, pc .noSpare], [id, fun s => { s with flt := { s.flt with set := [newRecord s ⟨F.CL_FENCE, clSt 0 0, 0⟩ 0 4 0 false false]}}]])
theorem test_meets_ClusterCommandsAct :
    ((wClusterCommandsAct [2, 0, 1]).Admitted 0 (clSt 0 0) ((WheelRef.cluster 0 0).obj 3) 1 ∧ (wClusterCommandsAct [2, 0, 1]).actionOn (WheelRef.cluster 0 0) = false ∧ (wClusterCommandsAct [2, 0, 1]).cstate 0 0 ∈ [WState.starting, WState.running, WState.derated, WState.holding]) ∧
    ((wClusterCommandsAct [11, 0, 1]).Admitted 0 (clSt 3 0) ((WheelRef.cluster 3 0).obj 3) 1 ∧ (wClusterCommandsAct [11, 0, 1]).actionOn (WheelRef.cluster 3 0) = false ∧ (wClusterCommandsAct [11, 0, 1]).cstate 3 0 ∉ [WState.starting, WState.running, WState.derated, WState.holding]) ∧
    ((wClusterCommandsAct [6, 2, 1]).Admitted 0 (clSt 0 0) ((WheelRef.cluster 0 0).obj 3) 1 ∧ (wClusterCommandsAct [6, 2, 1]).actionOn (WheelRef.cluster 0 0) = false ∧ (wClusterCommandsAct [6, 2, 1]).cstate 0 0 = WState.parked ∧ ((wClusterCommandsAct [6, 2, 1]).link (LinkRef.cl 0 0)).failed = false ∧ (wClusterCommandsAct [6, 2, 1]).parkGone 0 0 = true ∧ ((wClusterCommandsAct [6, 2, 1]).wheel (WheelRef.cluster 0 0)).parkCause ≠ ParkCause.noSpare) ∧
    ((wClusterCommandsAct [11, 0, 1]).Admitted 0 (clSt 3 0) ((WheelRef.cluster 3 0).obj 3) 1 ∧ (wClusterCommandsAct [11, 0, 1]).actionOn (WheelRef.cluster 3 0) = false ∧ ((wClusterCommandsAct [11, 0, 1]).cstate 3 0 ≠ WState.parked ∨ (wClusterCommandsAct [11, 0, 1]).parkGone 3 0 = false)) ∧
    ((wClusterCommandsAct [7, 2, 0]).Admitted 0 (clSt 0 0) ((WheelRef.cluster 0 0).obj 3) 1 ∧ (wClusterCommandsAct [7, 2, 0]).actionOn (WheelRef.cluster 0 0) = false ∧ (wClusterCommandsAct [7, 2, 0]).cstate 0 0 = WState.latched ∧ (wClusterCommandsAct [7, 2, 0]).wheelFaulted (WheelRef.cluster 0 0) = false) ∧
    ((wClusterCommandsAct [11, 0, 1]).Admitted 0 (clSt 3 0) ((WheelRef.cluster 3 0).obj 3) 1 ∧ (wClusterCommandsAct [11, 0, 1]).actionOn (WheelRef.cluster 3 0) = false ∧ 0 < mrCount 0) ∧
    ((wClusterCommandsAct [11, 0, 1]).Admitted 0 (clSt 3 0) ((WheelRef.cluster 3 0).obj 3) 1 ∧ (wClusterCommandsAct [11, 0, 1]).actionOn (WheelRef.cluster 3 0) = false ∧ ((wClusterCommandsAct [11, 0, 1]).cstate 3 0 ≠ WState.latched ∨ (wClusterCommandsAct [11, 0, 1]).wheelFaulted (WheelRef.cluster 3 0) = true)) ∧
    ((wClusterCommandsAct [0, 2, 1]).cstate 7 0 ≠ WState.latched) ∧
    ((wClusterCommandsAct [7, 1, 1]).cstate 0 0 = WState.latched) := by
  refine ⟨?_, ?_, ?_, ?_, ?_, ?_, ?_, ?_, ?_⟩ <;> decide +kernel
def wStartAndStopGoToTheSequencer : List Nat → State := pick
  ([[id] ++ wAlts .die, wAlts (.domain 0), wAlts (.field 0), [id, fun s => {s with seq := {s.seq with armed := true}}]])
theorem test_meets_StartAndStopGoToTheSequencer :
    ((wStartAndStopGoToTheSequencer [6, 7, 1, 1]).Admitted 0 (WheelRef.cluster 0 0).station ((WheelRef.cluster 0 0).obj 3) 1 ∧ (wStartAndStopGoToTheSequencer [6, 7, 1, 1]).actionOn (WheelRef.cluster 0 0) = false ∧ (WheelRef.cluster 0 0 = WheelRef.mr 0 0 0 ∨ WheelRef.cluster 0 0 = WheelRef.cluster 0 0)) ∧
    ((wStartAndStopGoToTheSequencer [8, 6, 0, 1]).Admitted 0 (WheelRef.field 0).station ((WheelRef.field 0).obj 3) 1 ∧ (wStartAndStopGoToTheSequencer [8, 6, 0, 1]).actionOn (WheelRef.field 0) = false ∧ ((∃ d, WheelRef.field 0 = WheelRef.domain d) ∨ (∃ f, WheelRef.field 0 = WheelRef.field f) ∨ WheelRef.field 0 = WheelRef.die) ∧ ((wStartAndStopGoToTheSequencer [8, 6, 0, 1]).wstate (WheelRef.field 0) = WState.stopped ∨ (wStartAndStopGoToTheSequencer [8, 6, 0, 1]).wstate (WheelRef.field 0) = WState.stopping) ∧ ((((wStartAndStopGoToTheSequencer [8, 6, 0, 1]).touch 0).submit (wheelTarget (WheelRef.field 0)) true (SeqOrigin.session 0) false).2 = 0 ∨ (((wStartAndStopGoToTheSequencer [8, 6, 0, 1]).touch 0).submit (wheelTarget (WheelRef.field 0)) true (SeqOrigin.session 0) false).2 = 13)) ∧
    ((wStartAndStopGoToTheSequencer [8, 3, 0, 0]).Admitted 0 (WheelRef.field 0).station ((WheelRef.field 0).obj 3) 1 ∧ (wStartAndStopGoToTheSequencer [8, 3, 0, 0]).actionOn (WheelRef.field 0) = false ∧ ((∃ d, WheelRef.field 0 = WheelRef.domain d) ∨ (∃ f, WheelRef.field 0 = WheelRef.field f) ∨ WheelRef.field 0 = WheelRef.die) ∧ ((wStartAndStopGoToTheSequencer [8, 3, 0, 0]).wstate (WheelRef.field 0) = WState.stopped ∨ (wStartAndStopGoToTheSequencer [8, 3, 0, 0]).wstate (WheelRef.field 0) = WState.stopping) ∧ (((wStartAndStopGoToTheSequencer [8, 3, 0, 0]).touch 0).submit (wheelTarget (WheelRef.field 0)) true (SeqOrigin.session 0) false).2 ≠ 0 ∧ (((wStartAndStopGoToTheSequencer [8, 3, 0, 0]).touch 0).submit (wheelTarget (WheelRef.field 0)) true (SeqOrigin.session 0) false).2 ≠ 13) ∧
    ((wStartAndStopGoToTheSequencer [6, 3, 1, 1]).Admitted 0 (WheelRef.domain 0).station ((WheelRef.domain 0).obj 3) 1 ∧ (wStartAndStopGoToTheSequencer [6, 3, 1, 1]).actionOn (WheelRef.domain 0) = false ∧ ((∃ d, WheelRef.domain 0 = WheelRef.domain d) ∨ (∃ f, WheelRef.domain 0 = WheelRef.field f) ∨ WheelRef.domain 0 = WheelRef.die) ∧ (wStartAndStopGoToTheSequencer [6, 3, 1, 1]).wstate (WheelRef.domain 0) ∈ [WState.starting, WState.running, WState.derated, WState.holding] ∧ (wStartAndStopGoToTheSequencer [6, 3, 1, 1]).rst.configured = false) ∧
    ((wStartAndStopGoToTheSequencer [6, 3, 1, 1]).Admitted 0 (WheelRef.domain 0).station ((WheelRef.domain 0).obj 3) 1 ∧ (wStartAndStopGoToTheSequencer [6, 3, 1, 1]).actionOn (WheelRef.domain 0) = false ∧ ((∃ d, WheelRef.domain 0 = WheelRef.domain d) ∨ (∃ f, WheelRef.domain 0 = WheelRef.field f) ∨ WheelRef.domain 0 = WheelRef.die) ∧ (wStartAndStopGoToTheSequencer [6, 3, 1, 1]).wstate (WheelRef.domain 0) ≠ WState.stopped ∧ (wStartAndStopGoToTheSequencer [6, 3, 1, 1]).wstate (WheelRef.domain 0) ≠ WState.stopping) ∧
    ((wStartAndStopGoToTheSequencer [8, 3, 0, 0]).Admitted 0 (WheelRef.field 0).station ((WheelRef.field 0).obj 3) 1 ∧ (wStartAndStopGoToTheSequencer [8, 3, 0, 0]).actionOn (WheelRef.field 0) = false ∧ ((∃ d, WheelRef.field 0 = WheelRef.domain d) ∨ (∃ f, WheelRef.field 0 = WheelRef.field f) ∨ WheelRef.field 0 = WheelRef.die) ∧ (wStartAndStopGoToTheSequencer [8, 3, 0, 0]).wstate (WheelRef.field 0) ∉ [WState.starting, WState.running, WState.derated, WState.holding] ∧ ¬((wStartAndStopGoToTheSequencer [8, 3, 0, 0]).wstate (WheelRef.field 0) = WState.stopped ∧ Option.any SeqJob.on ((wStartAndStopGoToTheSequencer [8, 3, 0, 0]).job (wheelTarget (WheelRef.field 0))) = true)) ∧
    ((wStartAndStopGoToTheSequencer [6, 3, 1, 1]).Admitted 0 (WheelRef.domain 0).station ((WheelRef.domain 0).obj 3) 1 ∧ (wStartAndStopGoToTheSequencer [6, 3, 1, 1]).actionOn (WheelRef.domain 0) = false ∧ ((∃ d, WheelRef.domain 0 = WheelRef.domain d) ∨ (∃ f, WheelRef.domain 0 = WheelRef.field f) ∨ WheelRef.domain 0 = WheelRef.die) ∧ ((wStartAndStopGoToTheSequencer [6, 3, 1, 1]).wstate (WheelRef.domain 0) ≠ WState.latched ∨ (wStartAndStopGoToTheSequencer [6, 3, 1, 1]).wheelFaulted (WheelRef.domain 0) = true)) ∧
    ((wStartAndStopGoToTheSequencer [3, 7, 5, 1]).Admitted 0 (WheelRef.domain 0).station ((WheelRef.domain 0).obj 3) 1 ∧ (wStartAndStopGoToTheSequencer [3, 7, 5, 1]).actionOn (WheelRef.domain 0) = false ∧ WheelRef.domain 0 = WheelRef.domain 0 ∧ (wStartAndStopGoToTheSequencer [3, 7, 5, 1]).dstate 0 = WState.latched ∧ (wStartAndStopGoToTheSequencer [3, 7, 5, 1]).wheelFaulted (WheelRef.domain 0) = false) ∧
    ((wStartAndStopGoToTheSequencer [6, 4, 7, 0]).Admitted 0 (WheelRef.field 0).station ((WheelRef.field 0).obj 3) 1 ∧ (wStartAndStopGoToTheSequencer [6, 4, 7, 0]).actionOn (WheelRef.field 0) = false ∧ WheelRef.field 0 = WheelRef.field 0 ∧ (wStartAndStopGoToTheSequencer [6, 4, 7, 0]).wstate (WheelRef.field 0) = WState.latched ∧ (wStartAndStopGoToTheSequencer [6, 4, 7, 0]).wheelFaulted (WheelRef.field 0) = false) ∧
    ((wStartAndStopGoToTheSequencer [8, 3, 0, 0]).Admitted 0 WheelRef.die.station (WheelRef.die.obj 3) 1 ∧ (wStartAndStopGoToTheSequencer [8, 3, 0, 0]).actionOn WheelRef.die = false ∧ WheelRef.die = WheelRef.die ∧ (wStartAndStopGoToTheSequencer [8, 3, 0, 0]).wstate WheelRef.die = WState.latched ∧ (wStartAndStopGoToTheSequencer [8, 3, 0, 0]).wheelFaulted WheelRef.die = false) := by
  refine ⟨?_, ?_, ?_, ?_, ?_, ?_, ?_, ?_, ?_, ?_⟩ <;> decide +kernel
def wMrCommandsAct : List Nat → State := pick
  ([[id, ws [(mrw, .parked)], ws [(mrw, .latched)]], [id, fun s => s.putMr 0 0 0 { s.mr 0 0 0 with cell := .retired, cause := 3}]])
theorem test_meets_MrCommandsAct :
    ((wMrCommandsAct [2, 0]).Admitted 0 (clSt 7 4) ((WheelRef.mr 7 4 3).obj 3) 1 ∧ (wMrCommandsAct [2, 0]).actionOn (WheelRef.mr 7 4 3) = false ∧ ((wMrCommandsAct [2, 0]).touch 0).mrState 7 4 3 ≠ WState.parked ∧ ((wMrCommandsAct [2, 0]).touch 0).mrState 7 4 3 ≠ WState.latched) ∧
    ((wMrCommandsAct [2, 0]).Admitted 0 (clSt 0 0) ((WheelRef.mr 0 0 0).obj 3) 1 ∧ (wMrCommandsAct [2, 0]).actionOn (WheelRef.mr 0 0 0) = false ∧ (((wMrCommandsAct [2, 0]).touch 0).mrState 0 0 0 = WState.parked ∨ ((wMrCommandsAct [2, 0]).touch 0).mrState 0 0 0 = WState.latched)) ∧
    ((wMrCommandsAct [1, 1]).Admitted 0 (clSt 0 0) ((WheelRef.mr 0 0 0).obj 3) 1 ∧ (wMrCommandsAct [1, 1]).actionOn (WheelRef.mr 0 0 0) = false ∧ (wMrCommandsAct [1, 1]).wstate (WheelRef.mr 0 0 0) = WState.parked ∧ (wMrCommandsAct [1, 1]).shortState 0 0 = 0 ∧ (((wMrCommandsAct [1, 1]).mr 0 0 0).cause = 3 ∨ ((wMrCommandsAct [1, 1]).mr 0 0 0).cause = 4 ∨ ((wMrCommandsAct [1, 1]).mr 0 0 0).cause = 1 ∧ (wMrCommandsAct [1, 1]).faultOpen F.MR_OC_RETIRE (clSt 0 0) 0 = false ∨ ((wMrCommandsAct [1, 1]).mr 0 0 0).cause = 2 ∧ (wMrCommandsAct [1, 1]).faultOpen F.MR_OPEN_RETIRE (clSt 0 0) 0 = false)) ∧
    ((wMrCommandsAct [2, 0]).Admitted 0 (clSt 7 4) ((WheelRef.mr 7 4 3).obj 3) 1 ∧ (wMrCommandsAct [2, 0]).actionOn (WheelRef.mr 7 4 3) = false ∧ ((wMrCommandsAct [2, 0]).wstate (WheelRef.mr 7 4 3) ≠ WState.parked ∨ (wMrCommandsAct [2, 0]).shortState 7 4 ≠ 0 ∨ ¬(((wMrCommandsAct [2, 0]).mr 7 4 3).cause = 3 ∨ ((wMrCommandsAct [2, 0]).mr 7 4 3).cause = 4 ∨ ((wMrCommandsAct [2, 0]).mr 7 4 3).cause = 1 ∧ (wMrCommandsAct [2, 0]).faultOpen F.MR_OC_RETIRE (clSt 7 4) 3 = false ∨ ((wMrCommandsAct [2, 0]).mr 7 4 3).cause = 2 ∧ (wMrCommandsAct [2, 0]).faultOpen F.MR_OPEN_RETIRE (clSt 7 4) 3 = false))) ∧
    ((wMrCommandsAct [2, 0]).Admitted 0 (clSt 0 0) ((WheelRef.mr 0 0 0).obj 3) 1 ∧ (wMrCommandsAct [2, 0]).actionOn (WheelRef.mr 0 0 0) = false ∧ (wMrCommandsAct [2, 0]).wstate (WheelRef.mr 0 0 0) = WState.latched ∧ (wMrCommandsAct [2, 0]).wheelFaulted (WheelRef.mr 0 0 0) = false) ∧
    ((wMrCommandsAct [2, 0]).Admitted 0 (clSt 7 4) ((WheelRef.mr 7 4 3).obj 3) 1 ∧ (wMrCommandsAct [2, 0]).actionOn (WheelRef.mr 7 4 3) = false ∧ ((wMrCommandsAct [2, 0]).wstate (WheelRef.mr 7 4 3) ≠ WState.latched ∨ (wMrCommandsAct [2, 0]).wheelFaulted (WheelRef.mr 7 4 3) = true)) := by
  refine ⟨?_, ?_, ?_, ?_, ?_, ?_⟩ <;> decide +kernel
def wSetpointWriteFillsTheSlot : List Nat → State := pick
  ([cl, [id, fun s => s.putLoop 0 0 { s.loop 0 0 with slot := some ⟨700, 3⟩ }], [id, wr' (clSt 0 0) O.CMD_SEQ 16383]])
theorem test_meets_SetpointWriteFillsTheSlot :
    ((wSetpointWriteFillsTheSlot [11, 0, 0]).Admitted 0 (clSt 1 2) ((WheelRef.cluster 1 2).obj 4) 2 ∧ (wSetpointWriteFillsTheSlot [11, 0, 0]).takes (WheelRef.cluster 1 2) (700#16).toNat = true ∧ (wSetpointWriteFillsTheSlot [11, 0, 0]).cstate 1 2 ∉ [WState.starting, WState.running, WState.derated, WState.holding]) ∧
    ((wSetpointWriteFillsTheSlot [1, 1, 1]).Admitted 0 (clSt 0 0) ((WheelRef.cluster 0 0).obj 4) 2 ∧ (wSetpointWriteFillsTheSlot [1, 1, 1]).takes (WheelRef.cluster 0 0) (700#16).toNat = true ∧ (wSetpointWriteFillsTheSlot [1, 1, 1]).cstate 0 0 ∈ [WState.starting, WState.running, WState.derated, WState.holding]) := by
  refine ⟨?_, ?_⟩ <;> decide +kernel
def wSetpointsAreCheckedAndSpread : List Nat → State := pick
  ([cl, [id, grp], [id, wr' hubSt ((O.VSET.at 0)) 550]])
theorem test_meets_SetpointsAreCheckedAndSpread :
    ((wSetpointsAreCheckedAndSpread [5, 1, 1]).Admitted 0 (clSt 1 1) ((WheelRef.cluster 1 1).obj 4) 2 ∧ (wSetpointsAreCheckedAndSpread [5, 1, 1]).takes (WheelRef.cluster 1 1) (16#16).toNat = false) ∧
    ((wSetpointsAreCheckedAndSpread [5, 1, 1]).Admitted 0 hubSt (O.VSET.at 0) 2 ∧ (wSetpointsAreCheckedAndSpread [5, 1, 1]).takes (WheelRef.domain 0) (16#16).toNat = false) ∧
    ((wSetpointsAreCheckedAndSpread [5, 1, 1]).Admitted 0 (32768 + 0) { index := 8208, sub := 4 } 2 ∧ (wSetpointsAreCheckedAndSpread [5, 1, 1]).hasSetpoint 257 (WheelRef.group 0) = true ∧ (wSetpointsAreCheckedAndSpread [5, 1, 1]).takesAll 257 (16#16).toNat (WheelRef.group 0) = false) ∧
    ((wSetpointsAreCheckedAndSpread [6, 1, 0]).Admitted 0 hubSt (O.VSET.at 2) 2 ∧ (wSetpointsAreCheckedAndSpread [6, 1, 0]).takes (WheelRef.domain 2) (700#16).toNat = true ∧ isAux 2 = false) ∧
    ((wSetpointsAreCheckedAndSpread [12, 1, 0]).Admitted 0 (32768 + 0) { index := 8208, sub := 4 } 2 ∧ (wSetpointsAreCheckedAndSpread [12, 1, 0]).hasSetpoint 257 (WheelRef.group 0) = true ∧ (wSetpointsAreCheckedAndSpread [12, 1, 0]).takesAll 257 (700#16).toNat (WheelRef.group 0) = true) ∧
    ((wSetpointsAreCheckedAndSpread [10, 1, 0]).Admitted 0 (WheelRef.domain 0).station ((WheelRef.domain 0).obj 8) 4) := by
  refine ⟨?_, ?_, ?_, ?_, ?_, ?_⟩ <;> decide +kernel
def wMemberCountMakesTheGroup : List Nat → State := pick
  ([[id, grp], [id, stg [wheelWord c00], stg [wheelWord c00, wheelWord (.cluster 0 1)], stg [wheelWord c00, wheelWord c00]], [id, fun s => {s with groups := s.groups ++ (List.range 256).map (fun k => ⟨0x9000 + k, [0x2000]⟩)}]])
theorem test_meets_MemberCountMakesTheGroup :
    ((wMemberCountMakesTheGroup [0, 1, 0]).Admitted 0 (32768 + 0) { index := 8209, sub := 0 } 1 ∧ 1 ≤ (1#8).toNat ∧ (1#8).toNat ≤ 64 ∧ (wMemberCountMakesTheGroup [0, 1, 0]).membersOk (32768 + 0) (List.map wordWheel ((wMemberCountMakesTheGroup [0, 1, 0]).staged (32768 + 0) (1#8).toNat)) = true ∧ (wMemberCountMakesTheGroup [0, 1, 0]).groupExists (32768 + 0) = false ∧ (wMemberCountMakesTheGroup [0, 1, 0]).groups.length < 256) ∧
    ((wMemberCountMakesTheGroup [1, 0, 1]).Admitted 0 (32768 + 0) { index := 8209, sub := 0 } 1 ∧ 1 ≤ (2#8).toNat ∧ (2#8).toNat ≤ 64 ∧ (wMemberCountMakesTheGroup [1, 0, 1]).membersOk (32768 + 0) (List.map wordWheel ((wMemberCountMakesTheGroup [1, 0, 1]).staged (32768 + 0) (2#8).toNat)) = false) ∧
    ((wMemberCountMakesTheGroup [1, 0, 1]).Admitted 0 (32768 + 4) { index := 8209, sub := 0 } 1 ∧ 1 ≤ (1#8).toNat ∧ (1#8).toNat ≤ 64 ∧ (wMemberCountMakesTheGroup [1, 0, 1]).membersOk (32768 + 4) (List.map wordWheel ((wMemberCountMakesTheGroup [1, 0, 1]).staged (32768 + 4) (1#8).toNat)) = true ∧ (wMemberCountMakesTheGroup [1, 0, 1]).groupExists (32768 + 4) = false ∧ 256 ≤ (wMemberCountMakesTheGroup [1, 0, 1]).groups.length) ∧
    ((wMemberCountMakesTheGroup [1, 0, 1]).Admitted 0 (32768 + 0) { index := 8209, sub := 0 } 1 ∧ 1 ≤ (1#8).toNat ∧ (1#8).toNat ≤ 64 ∧ (wMemberCountMakesTheGroup [1, 0, 1]).membersOk (32768 + 0) (List.map wordWheel ((wMemberCountMakesTheGroup [1, 0, 1]).staged (32768 + 0) (1#8).toNat)) = true ∧ (wMemberCountMakesTheGroup [1, 0, 1]).groupExists (32768 + 0) = true) ∧
    ((wMemberCountMakesTheGroup [1, 0, 1]).Admitted 0 (32768 + 0) { index := 8209, sub := 0 } 1 ∧ 64 < (255#8).toNat) ∧
    ((wMemberCountMakesTheGroup [1, 0, 1]).Admitted 0 (32768 + 0) { index := 8209, sub := 0 } 1 ∧ 0#8 = 0 ∧ (wMemberCountMakesTheGroup [1, 0, 1]).groupExists (32768 + 0) = true) ∧
    ((wMemberCountMakesTheGroup [1, 0, 1]).Admitted 0 (32768 + 2) { index := 8209, sub := 0 } 1 ∧ 0#8 = 0 ∧ (wMemberCountMakesTheGroup [1, 0, 1]).groupExists (32768 + 2) = false) := by
  refine ⟨?_, ?_, ?_, ?_, ?_, ?_, ?_⟩ <;> decide +kernel
end Sys2Proof.Tests.C02

namespace Sys2Proof.Tests.C03

def cl := wAlts (.cluster 0 0)
def lk (r : LinkRec) (s : State) : State := s.putLink (.cl 0 0) r
def wLinksFailAndReturn : List Nat → State := pick
  ([cl, [id, lk {failed := true}, lk {lastBad := some 3}, lk {lastBad := some 3000000, lastFlit := 3000000}], nowAlts [0, 5, 3000000, 9000000]])
theorem test_meets_LinksFailAndReturn :
    (LinkRef.cl 0 0 = LinkRef.cl 0 0 ∧ ((wLinksFailAndReturn [4, 2, 0]).link (LinkRef.cl 0 0)).failed = false ∧ isCompute 0 = true) ∧
    (((wLinksFailAndReturn [3, 0, 3]).link (LinkRef.fh 0 0)).lastFlit + 2000 ≤ (wLinksFailAndReturn [3, 0, 3]).time (LinkRef.fh 0 0).watch) ∧
    ((wLinksFailAndReturn [4, 2, 0]).time (LinkRef.fh 0 0).watch < ((wLinksFailAndReturn [4, 2, 0]).link (LinkRef.fh 0 0)).lastFlit + 2000) ∧
    ((∀ (b : ℕ), ((wLinksFailAndReturn [3, 0, 3]).link (LinkRef.fh 0 0)).lastBad = some b → b + 1000000 < (wLinksFailAndReturn [3, 0, 3]).time (LinkRef.fh 0 0).watch)) ∧
    (((wLinksFailAndReturn [4, 2, 0]).link (LinkRef.cl 0 0)).lastBad = some 3 ∧ (wLinksFailAndReturn [4, 2, 0]).time (LinkRef.cl 0 0).watch ≤ 3 + 1000000) ∧
    (((wLinksFailAndReturn [5, 3, 0]).link (LinkRef.fh 0 0)).failed = false) ∧
    (((wLinksFailAndReturn [3, 1, 3]).link (LinkRef.cl 0 0)).failed = true ∧ LinkRef.cl 0 0 = LinkRef.cl 0 0 ∧ ((wLinksFailAndReturn [3, 1, 3]).link (LinkRef.cl 0 0)).contain = false) ∧
    (((wLinksFailAndReturn [3, 1, 3]).link (LinkRef.cl 0 0)).failed = true ∧ ((wLinksFailAndReturn [3, 1, 3]).link (LinkRef.cl 0 0)).contain = false) ∧
    (((wLinksFailAndReturn [3, 1, 3]).link (LinkRef.cl 0 0)).failed = true ∧ (wLinksFailAndReturn [3, 1, 3]).cstate 0 0 ∈ [WState.starting, WState.running, WState.derated, WState.holding]) ∧
    (((wLinksFailAndReturn [5, 3, 0]).link (LinkRef.cl 0 18)).contain = false) ∧
    ((((wLinksFailAndReturn [5, 3, 0]).link (LinkRef.cl 0 18)).failed = false ∨ (wLinksFailAndReturn [5, 3, 0]).cstate 0 18 ∉ [WState.starting, WState.running, WState.derated, WState.holding])) ∧
    (LinkRef.fh 0 0 ∈ linksOf (Station.field 0)) := by
  refine ⟨?_, ?_, ?_, ?_, ?_, ?_, ?_, ?_, ?_, ?_, ?_, ?_⟩ <;> decide +kernel
def wMessagesAndOffsets : List Nat → State := pick
  ([nowAlts [0, 5, 3000000], [id, fun s => s.putTile 0 0 { s.tile 0 0 with words := [1,2], waiting := some 7, asked := 4}, fun s => s.putTile 0 0 { s.tile 0 0 with words := [1], asked := 3}]])
theorem test_meets_MessagesAndOffsets :
    ((wMessagesAndOffsets [2, 0]).sender Station.hub ({ dest := 0x0117#16, src := 0x0000#16, cls := 0, len := 2, type := 0x00#8, elapsed := 0x00000#18 } : NetMsg) = none ∧ ({ dest := 0x0117#16, src := 0x0000#16, cls := 0, len := 2, type := 0x00#8, elapsed := 0x00000#18 } : NetMsg).src.toNat = Station.hub.addr) ∧
    ((wMessagesAndOffsets [2, 0]).sender (Station.cluster 0 16) ({ dest := 0x7fff#16, src := 0x0000#16, cls := 0, len := 3, type := 0x00#8, elapsed := 0x3ffff#18 } : NetMsg) = none ∧ ({ dest := 0x7fff#16, src := 0x0000#16, cls := 0, len := 3, type := 0x00#8, elapsed := 0x3ffff#18 } : NetMsg).src.toNat ≠ (Station.cluster 0 16).addr) ∧
    (({ dest := 0x7fff#16, src := 0x0000#16, cls := 0, len := 3, type := 0x00#8, elapsed := 0x3ffff#18 } : NetMsg).cls = 0 ∧ 1 < ↑({ dest := 0x7fff#16, src := 0x0000#16, cls := 0, len := 3, type := 0x00#8, elapsed := 0x3ffff#18 } : NetMsg).len) ∧
    (¬(({ dest := 0x0100#16, src := 0x0000#16, cls := 1, len := 5, type := 0x00#8, elapsed := 0x00005#18 } : NetMsg).cls = 0 ∧ 1 < ↑({ dest := 0x0100#16, src := 0x0000#16, cls := 1, len := 5, type := 0x00#8, elapsed := 0x00005#18 } : NetMsg).len) ∧ destOf ({ dest := 0x0100#16, src := 0x0000#16, cls := 1, len := 5, type := 0x00#8, elapsed := 0x00005#18 } : NetMsg).dest.toNat = some (Station.cluster 0 0)) ∧
    (¬(({ dest := 0x0101#16, src := 0x0000#16, cls := 3, len := 0, type := 0x00#8, elapsed := 0x3ffff#18 } : NetMsg).cls = 0 ∧ 1 < ↑({ dest := 0x0101#16, src := 0x0000#16, cls := 3, len := 0, type := 0x00#8, elapsed := 0x3ffff#18 } : NetMsg).len) ∧ destOf ({ dest := 0x0101#16, src := 0x0000#16, cls := 3, len := 0, type := 0x00#8, elapsed := 0x3ffff#18 } : NetMsg).dest.toNat = some (Station.cluster 0 1) ∧ Station.cluster 0 1 ≠ Station.cluster 0 16) ∧
    (¬(({ dest := 0x0117#16, src := 0x0000#16, cls := 1, len := 5, type := 0x00#8, elapsed := 0x00005#18 } : NetMsg).cls = 0 ∧ 1 < ↑({ dest := 0x0117#16, src := 0x0000#16, cls := 1, len := 5, type := 0x00#8, elapsed := 0x00005#18 } : NetMsg).len) ∧ destOf ({ dest := 0x0117#16, src := 0x0000#16, cls := 1, len := 5, type := 0x00#8, elapsed := 0x00005#18 } : NetMsg).dest.toNat = none) ∧
    (((wMessagesAndOffsets [0, 1]).tile 0 0).words.getLast? = some 2) ∧
    (((wMessagesAndOffsets [0, 1]).tile 2 0).asked < 4) ∧
    (4 ≤ ((wMessagesAndOffsets [0, 1]).tile 0 0).asked) := by
  refine ⟨?_, ?_, ?_, ?_, ?_, ?_, ?_, ?_, ?_⟩ <;> decide +kernel
end Sys2Proof.Tests.C03

namespace Sys2Proof.Tests.C04

def cells : List Cell := [.off, .starting, .switching, .restartRamp, .hiccupOff, .clusterHiccup, .retired]
def mrA : List (State → State) := cells.map (fun x s => s.putMr 0 0 0 { s.mr 0 0 0 with cell := x })
def mrB : List (State → State) := [id, fun s => s.putMr 0 0 0 { s.mr 0 0 0 with limRun := 64, hiccups := 2, duty := 41, windowOpen := true }, fun s => s.putMr 0 0 0 { s.mr 0 0 0 with limRun := 6400, hiccups := 300, duty := 39 }, fun s => s.putMr 0 0 0 { s.mr 0 0 0 with limRun := 6400, duty := 40 }]
def sh : List (State → State) := [id] ++ alts (clSt 0 0) O.SHORT_STATE [0,1,2]
def cl := wAlts (.cluster 0 0)
def wMrLimitAndHiccup : List Nat → State := pick
  ([mrA, mrB, sh, cl, nowAlts [0, 3000, 20000, 2000000, 3000000000000]])
theorem test_meets_MrLimitAndHiccup :
    (1 < mrCount 4 ∧ ((wMrLimitAndHiccup [0, 0, 3, 2, 0]).mr 3 4 1).pulses = false) ∧
    (0 < mrCount 0 ∧ ((wMrLimitAndHiccup [1, 3, 3, 5, 3]).mr 0 0 0).pulses = true) ∧
    (1 < mrCount 4 ∧ (((wMrLimitAndHiccup [0, 0, 3, 2, 0]).mr 3 4 1).cell ≠ Cell.restartRamp ∨ (wMrLimitAndHiccup [0, 0, 3, 2, 0]).time (clSt 3 4) < ((wMrLimitAndHiccup [0, 0, 3, 2, 0]).mr 3 4 1).rampAt + 2000)) ∧
    (1 < mrCount 4 ∧ (((wMrLimitAndHiccup [0, 0, 3, 2, 0]).mr 3 4 1).cell ≠ Cell.hiccupOff ∨ (wMrLimitAndHiccup [0, 0, 3, 2, 0]).time (clSt 3 4) < ((wMrLimitAndHiccup [0, 0, 3, 2, 0]).mr 3 4 1).hicAt + (wMrLimitAndHiccup [0, 0, 3, 2, 0]).rd (clSt 3 4) O.HICCUP_OFF)) ∧
    (0 < mrCount 0 ∧ ((wMrLimitAndHiccup [4, 2, 1, 2, 3]).mr 0 0 0).cell = Cell.hiccupOff ∧ ((wMrLimitAndHiccup [4, 2, 1, 2, 3]).mr 0 0 0).hicAt + (wMrLimitAndHiccup [4, 2, 1, 2, 3]).rd (clSt 0 0) O.HICCUP_OFF ≤ (wMrLimitAndHiccup [4, 2, 1, 2, 3]).time (clSt 0 0)) ∧
    (0 < mrCount 1 ∧ (wMrLimitAndHiccup [6, 1, 1, 7, 3]).shortState 7 1 ≠ 1 ∧ ((wMrLimitAndHiccup [6, 1, 1, 7, 3]).mr 7 1 0).winAt + (wMrLimitAndHiccup [6, 1, 1, 7, 3]).rd (clSt 7 1) O.RETRY_WINDOW ≤ (wMrLimitAndHiccup [6, 1, 1, 7, 3]).time (clSt 7 1)) ∧
    (1 < mrCount 4 ∧ ((wMrLimitAndHiccup [0, 0, 3, 2, 0]).shortState 3 4 = 1 ∨ (wMrLimitAndHiccup [0, 0, 3, 2, 0]).time (clSt 3 4) < ((wMrLimitAndHiccup [0, 0, 3, 2, 0]).mr 3 4 1).winAt + (wMrLimitAndHiccup [0, 0, 3, 2, 0]).rd (clSt 3 4) O.RETRY_WINDOW)) ∧
    (((wMrLimitAndHiccup [6, 1, 1, 7, 3]).cellsOf 7 1).winAt + (wMrLimitAndHiccup [6, 1, 1, 7, 3]).rd (clSt 7 1) O.RETRY_WINDOW ≤ (wMrLimitAndHiccup [6, 1, 1, 7, 3]).time (clSt 7 1)) ∧
    ((wMrLimitAndHiccup [0, 0, 3, 2, 0]).time (clSt 3 4) < ((wMrLimitAndHiccup [0, 0, 3, 2, 0]).cellsOf 3 4).winAt + (wMrLimitAndHiccup [0, 0, 3, 2, 0]).rd (clSt 3 4) O.RETRY_WINDOW) := by
  refine ⟨?_, ?_, ?_, ?_, ?_, ?_, ?_, ?_, ?_⟩ <;> decide +kernel
def wHiccupsRetire : List Nat → State := pick
  ([mrA, mrB, sh, cl, [id, fun s => s.putMr 0 0 1 { s.mr 0 0 1 with cell := .hiccupOff}, fun s => (List.range 24).foldl (fun s k => s.putMr 0 0 (Fin.ofNat 24 k) { s.mr 0 0 (Fin.ofNat 24 k) with cell := if k = 0 then (s.mr 0 0 0).cell else .hiccupOff}) s], nowAlts [0, 3000, 20000, 2000000, 3000000000000]])
theorem test_meets_HiccupsRetire :
    (0 < mrCount 0 ∧ (((wHiccupsRetire [1, 2, 1, 6, 0, 1]).mr 0 0 0).cell = Cell.starting ∨ ((wHiccupsRetire [1, 2, 1, 6, 0, 1]).mr 0 0 0).cell = Cell.switching) ∧ (wHiccupsRetire [1, 2, 1, 6, 0, 1]).rd (clSt 0 0) O.LIM_RUN ≤ ((wHiccupsRetire [1, 2, 1, 6, 0, 1]).mr 0 0 0).limRun ∧ (wHiccupsRetire [1, 2, 1, 6, 0, 1]).shortState 0 0 ≠ 1 ∧ (((wHiccupsRetire [1, 2, 1, 6, 0, 1]).putMr 0 0 0 { cell := Cell.hiccupOff, cause := ((wHiccupsRetire [1, 2, 1, 6, 0, 1]).mr 0 0 0).cause, limAt := ((wHiccupsRetire [1, 2, 1, 6, 0, 1]).mr 0 0 0).limAt, truncNow := ((wHiccupsRetire [1, 2, 1, 6, 0, 1]).mr 0 0 0).truncNow, trunc := ((wHiccupsRetire [1, 2, 1, 6, 0, 1]).mr 0 0 0).trunc, rampAt := ((wHiccupsRetire [1, 2, 1, 6, 0, 1]).mr 0 0 0).rampAt, released := ((wHiccupsRetire [1, 2, 1, 6, 0, 1]).mr 0 0 0).released, hiccups := ((wHiccupsRetire [1, 2, 1, 6, 0, 1]).mr 0 0 0).hiccups + 1, windowOpen := true, hicAt := (wHiccupsRetire [1, 2, 1, 6, 0, 1]).time (clSt 0 0), winAt := if ((wHiccupsRetire [1, 2, 1, 6, 0, 1]).mr 0 0 0).windowOpen = true then ((wHiccupsRetire [1, 2, 1, 6, 0, 1]).mr 0 0 0).winAt else (wHiccupsRetire [1, 2, 1, 6, 0, 1]).time (clSt 0 0), pa := ((wHiccupsRetire [1, 2, 1, 6, 0, 1]).mr 0 0 0).pa, pb := ((wHiccupsRetire [1, 2, 1, 6, 0, 1]).mr 0 0 0).pb }).inc32 (clSt 0 0) (O.MR_HICCUP_TOTAL.at 0)).hiccupMany 0 0 = false ∧ (wHiccupsRetire [1, 2, 1, 6, 0, 1]).rd (clSt 0 0) O.HICCUP_LIMIT ≤ ((wHiccupsRetire [1, 2, 1, 6, 0, 1]).mr 0 0 0).hiccups + 1) ∧
    (0 < mrCount 0 ∧ (((wHiccupsRetire [1, 3, 1, 7, 0, 1]).mr 0 0 0).cell = Cell.starting ∨ ((wHiccupsRetire [1, 3, 1, 7, 0, 1]).mr 0 0 0).cell = Cell.switching) ∧ (wHiccupsRetire [1, 3, 1, 7, 0, 1]).rd (clSt 0 0) O.LIM_RUN ≤ ((wHiccupsRetire [1, 3, 1, 7, 0, 1]).mr 0 0 0).limRun ∧ (wHiccupsRetire [1, 3, 1, 7, 0, 1]).shortState 0 0 ≠ 1 ∧ (((wHiccupsRetire [1, 3, 1, 7, 0, 1]).putMr 0 0 0 { cell := Cell.hiccupOff, cause := ((wHiccupsRetire [1, 3, 1, 7, 0, 1]).mr 0 0 0).cause, limAt := ((wHiccupsRetire [1, 3, 1, 7, 0, 1]).mr 0 0 0).limAt, truncNow := ((wHiccupsRetire [1, 3, 1, 7, 0, 1]).mr 0 0 0).truncNow, trunc := ((wHiccupsRetire [1, 3, 1, 7, 0, 1]).mr 0 0 0).trunc, rampAt := ((wHiccupsRetire [1, 3, 1, 7, 0, 1]).mr 0 0 0).rampAt, released := ((wHiccupsRetire [1, 3, 1, 7, 0, 1]).mr 0 0 0).released, hiccups := ((wHiccupsRetire [1, 3, 1, 7, 0, 1]).mr 0 0 0).hiccups + 1, windowOpen := true, hicAt := (wHiccupsRetire [1, 3, 1, 7, 0, 1]).time (clSt 0 0), winAt := if ((wHiccupsRetire [1, 3, 1, 7, 0, 1]).mr 0 0 0).windowOpen = true then ((wHiccupsRetire [1, 3, 1, 7, 0, 1]).mr 0 0 0).winAt else (wHiccupsRetire [1, 3, 1, 7, 0, 1]).time (clSt 0 0), pa := ((wHiccupsRetire [1, 3, 1, 7, 0, 1]).mr 0 0 0).pa, pb := ((wHiccupsRetire [1, 3, 1, 7, 0, 1]).mr 0 0 0).pb }).inc32 (clSt 0 0) (O.MR_HICCUP_TOTAL.at 0)).hiccupMany 0 0 = false ∧ ((wHiccupsRetire [1, 3, 1, 7, 0, 1]).mr 0 0 0).hiccups + 1 < (wHiccupsRetire [1, 3, 1, 7, 0, 1]).rd (clSt 0 0) O.HICCUP_LIMIT) ∧
    (1 < mrCount 1 ∧ ((wHiccupsRetire [0, 0, 3, 2, 2, 2]).mr 4 1 1).limRun < (wHiccupsRetire [0, 0, 3, 2, 2, 2]).rd (clSt 4 1) O.LIM_RUN) ∧
    (1 < mrCount 1 ∧ (((wHiccupsRetire [0, 0, 3, 2, 2, 2]).mr 4 1 1).duty < 40 ∨ (16#16).toNat < (wHiccupsRetire [0, 0, 3, 2, 2, 2]).rd (clSt 4 1) O.MC_OPEN_RUN ∨ (wHiccupsRetire [0, 0, 3, 2, 2, 2]).openMr 4 1 (1#16).toNat (65535#16).toNat = false)) := by
  refine ⟨?_, ?_, ?_, ?_⟩ <;> decide +kernel
def wSlotsAndClusterHiccup : List Nat → State := pick
  ([mrA, mrB, sh, cl, [id, fun s => s.putCells 0 0 { s.cellsOf 0 0 with rebuild := true, rotation := 5}], alts (clSt 0 0) O.ROT_PERIOD [0, 64], nowAlts [0, 3000, 20000, 2000000, 3000000000000]])
theorem test_meets_SlotsAndClusterHiccup :
    ((wSlotsAndClusterHiccup [0, 0, 3, 2, 0, 1, 2]).rd (clSt 1 1) O.ROT_PERIOD ≠ 0) ∧
    ((wSlotsAndClusterHiccup [3, 2, 3, 0, 1, 0, 1]).rd (clSt 0 0) O.ROT_PERIOD = 0) ∧
    (((wSlotsAndClusterHiccup [0, 0, 3, 2, 0, 1, 2]).cellsOf 1 1).rebuild = false) ∧
    (((wSlotsAndClusterHiccup [6, 0, 2, 0, 1, 1, 4]).cellsOf 0 0).rebuild = true) ∧
    ((wSlotsAndClusterHiccup [4, 2, 2, 3, 0, 0, 3]).shortState 0 0 = 1 ∧ ((wSlotsAndClusterHiccup [4, 2, 2, 3, 0, 0, 3]).cstate 0 0).isOn = true ∧ ((mrsOf 0).all fun m => ((wSlotsAndClusterHiccup [4, 2, 2, 3, 0, 0, 3]).mr 0 0 m).cell != Cell.clusterHiccup) = true ∧ (wSlotsAndClusterHiccup [4, 2, 2, 3, 0, 0, 3]).hiccupMany 0 0 = false ∧ 1 < mrCount 0) ∧
    ((wSlotsAndClusterHiccup [1, 2, 2, 3, 1, 1, 0]).shortState 0 0 = 1 ∧ (wSlotsAndClusterHiccup [1, 2, 2, 3, 1, 1, 0]).time (clSt 0 0) < ((wSlotsAndClusterHiccup [1, 2, 2, 3, 1, 1, 0]).cellsOf 0 0).hicAt + (wSlotsAndClusterHiccup [1, 2, 2, 3, 1, 1, 0]).rd (clSt 0 0) O.HICCUP_OFF) ∧
    ((wSlotsAndClusterHiccup [4, 2, 2, 3, 0, 0, 3]).shortState 0 0 = 1 ∧ ((wSlotsAndClusterHiccup [4, 2, 2, 3, 0, 0, 3]).cstate 0 0).isOn = true ∧ ((wSlotsAndClusterHiccup [4, 2, 2, 3, 0, 0, 3]).cellsOf 0 0).hicAt + (wSlotsAndClusterHiccup [4, 2, 2, 3, 0, 0, 3]).rd (clSt 0 0) O.HICCUP_OFF ≤ (wSlotsAndClusterHiccup [4, 2, 2, 3, 0, 0, 3]).time (clSt 0 0)) ∧
    ((wSlotsAndClusterHiccup [6, 0, 2, 0, 1, 1, 4]).shortState 0 0 = 1 ∧ ((wSlotsAndClusterHiccup [6, 0, 2, 0, 1, 1, 4]).cstate 0 0).isOn = false) ∧
    ((wSlotsAndClusterHiccup [0, 0, 3, 2, 0, 1, 2]).shortState 1 1 ≠ 1) := by
  refine ⟨?_, ?_, ?_, ?_, ?_, ?_, ?_, ?_, ?_⟩ <;> decide +kernel
def wSensorsAndMasks : List Nat → State := pick
  ([cl, sh, [id, fun s => s.putCells 0 0 { s.cellsOf 0 0 with judged := false}], [id] ++ alts (clSt 0 0) O.MASKED_MASK [1, 0xFFF0], [id, fun s => s.putSensor 0 0 0 { s.sensor 0 0 0 with sum := 50, count := 3, low := 7}]])
theorem test_meets_SensorsAndMasks :
    (([0x303#10, 0x328#10, 0x34d#10, 0x372#10, 0x397#10, 0x3bc#10, 0x3e1#10, 0x006#10, 0x02b#10, 0x050#10, 0x075#10, 0x09a#10, 0x0bf#10, 0x0e4#10, 0x109#10, 0x12e#10, 0x153#10, 0x178#10, 0x19d#10, 0x1c2#10, 0x1e7#10, 0x20c#10, 0x231#10, 0x256#10, 0x27b#10, 0x2a0#10, 0x2c5#10, 0x2ea#10, 0x30f#10, 0x334#10, 0x359#10, 0x37e#10] : List (BitVec 10)).length = sensorCount 4 ∧ 3 < ([0x303#10, 0x328#10, 0x34d#10, 0x372#10, 0x397#10, 0x3bc#10, 0x3e1#10, 0x006#10, 0x02b#10, 0x050#10, 0x075#10, 0x09a#10, 0x0bf#10, 0x0e4#10, 0x109#10, 0x12e#10, 0x153#10, 0x178#10, 0x19d#10, 0x1c2#10, 0x1e7#10, 0x20c#10, 0x231#10, 0x256#10, 0x27b#10, 0x2a0#10, 0x2c5#10, 0x2ea#10, 0x30f#10, 0x334#10, 0x359#10, 0x37e#10] : List (BitVec 10)).length) ∧
    (((wSensorsAndMasks [3, 0, 1, 1, 0]).time (clSt 3 4) % 1000000 = 0 ∧ tblGet 0 (wSensorsAndMasks [3, 0, 1, 1, 0]).marks (markKey 17 (clSt 3 4)) ≠ (wSensorsAndMasks [3, 0, 1, 1, 0]).time (clSt 3 4) + 1)) ∧
    ((((wSensorsAndMasks [3, 0, 1, 1, 0]).cellsOf 3 4).judged && ((wSensorsAndMasks [3, 0, 1, 1, 0]).cstate 3 4).judges) = false) ∧
    (0 < sensorCount 0 ∧ ((wSensorsAndMasks [4, 2, 0, 0, 1]).sensor 0 0 0).count ≠ 0) ∧
    ((wSensorsAndMasks [3, 0, 1, 1, 0]).Admitted 0 (clSt 3 1) O.ENABLE_MASK 4 ∧ (4294967295#32).toNat < 2 ^ sensorCount 1 ∧ (if isCompute 1 = true then 4 else 2) ≤ countOf (sensorCount 1) (bit (4294967295#32).toNat) ∧ (wSensorsAndMasks [3, 0, 1, 1, 0]).rd (clSt 3 1) O.MASKED_MASK = 0) ∧
    ((wSensorsAndMasks [3, 0, 1, 1, 0]).Admitted 0 (clSt 3 1) O.ENABLE_MASK 4 ∧ (2 ^ sensorCount 1 ≤ (16#32).toNat ∨ countOf (sensorCount 1) (bit (16#32).toNat) < if isCompute 1 = true then 4 else 2)) ∧
    ((wSensorsAndMasks [3, 0, 1, 1, 0]).Admitted 0 (clSt 3 1) O.WINS_CLEAR 1 ∧ 1#8 = 1) ∧
    ((wSensorsAndMasks [3, 0, 1, 1, 0]).Admitted 0 (clSt 3 1) O.WINS_CLEAR 1 ∧ 20#8 ≠ 0 ∧ 20#8 ≠ 1) := by
  refine ⟨?_, ?_, ?_, ?_, ?_, ?_, ?_, ?_⟩ <;> decide +kernel
end Sys2Proof.Tests.C04

namespace Sys2Proof.Tests.C05

def cl := wAlts (.cluster 0 0) ++ [ws [(.cluster 0 0, .running)], ws [(.cluster 0 0, .holding)]]
def lpp (g : LoopRec → LoopRec) (s : State) : State := s.putLoop 0 0 (g (s.loop 0 0))
def c0 := clSt 0 0
def smp (k : Nat) : Sample := ⟨0,0,k⟩
def wClusterMessages : List Nat → State := pick
  ([cl, [id, lpp (fun x => {x with winMsgs := [2, 3]})]])
theorem test_meets_ClusterMessages :
    (isCompute 2 = true ∧ ((wClusterMessages [9, 0]).tile 0 (clusterTile 2)).feed = []) ∧
    (isCompute 18 = false ∧ 1000 < (262143#18).toNat) ∧
    (isCompute 18 = false ∧ (16#18).toNat ≤ 1000) ∧
    ((isCompute 18 = false ∨ ((wClusterMessages [9, 0]).tile 0 (clusterTile 18)).posOut.head? ≠ some (188#8).toNat)) ∧
    ((isCompute 18 = false ∨ ((wClusterMessages [9, 0]).tile 0 (clusterTile 18)).markers = [])) ∧
    ((tblGet [] ((wClusterMessages [9, 0]).therm 0).sent 18).head? ≠ some (4294967295#32).toNat) ∧
    (((wClusterMessages [7, 1]).loop 0 0).winMsgs = [2, 3]) := by
  refine ⟨?_, ?_, ?_, ?_, ?_, ?_, ?_⟩ <;> decide +kernel
def wLostFeedbackHolds : List Nat → State := pick
  ([cl, [wr' c0 O.ORDER 3, wr' c0 O.ORDER 5], [id, lpp (fun x => {x with residRun := 300, feTimer := 3000000})], [id, lpp (fun x => {x with minRun := 64, samples := (List.range 64).map smp})]])
theorem test_meets_LostFeedbackHolds :
    (((wLostFeedbackHolds [8, 1, 0, 0]).cstate 0 0 = WState.running ∨ (wLostFeedbackHolds [8, 1, 0, 0]).cstate 0 0 = WState.derated)) ∧
    ((wLostFeedbackHolds [1, 1, 0, 0]).cstate 0 0 = WState.starting) ∧
    ((wLostFeedbackHolds [0, 0, 1, 0]).rd (clSt 0 0) O.ORDER = 3 ∧ (wLostFeedbackHolds [0, 0, 1, 0]).rd (clSt 0 0) O.RESID_RUN ≤ ((wLostFeedbackHolds [0, 0, 1, 0]).loop 0 0).residRun) ∧
    (((wLostFeedbackHolds [6, 0, 0, 1]).loop 1 0).residRun < (wLostFeedbackHolds [6, 0, 0, 1]).rd (clSt 1 0) O.RESID_RUN) ∧
    ((wLostFeedbackHolds [0, 1, 1, 1]).rd (clSt 0 0) O.ORDER = 5 ∧ (wLostFeedbackHolds [0, 1, 1, 1]).rd (clSt 0 0) O.FE_TIME ≤ ((wLostFeedbackHolds [0, 1, 1, 1]).loop 0 0).feTimer) ∧
    (((wLostFeedbackHolds [6, 0, 0, 1]).loop 1 0).feTimer < (wLostFeedbackHolds [6, 0, 0, 1]).rd (clSt 1 0) O.FE_TIME) ∧
    ((wLostFeedbackHolds [3, 0, 1, 1]).checksStill 0 0 = false ∧ ((wLostFeedbackHolds [3, 0, 1, 1]).loop 0 0).samples.length = 64 ∧ (64 ≤ ((wLostFeedbackHolds [3, 0, 1, 1]).loop 0 0).minRun ∨ 64 ≤ ((wLostFeedbackHolds [3, 0, 1, 1]).loop 0 0).isumRun) ∧ spans8 (List.map Sample.code ((wLostFeedbackHolds [3, 0, 1, 1]).loop 0 0).samples) = true) ∧
    (spans8 (List.map Sample.code ((wLostFeedbackHolds [6, 0, 0, 1]).loop 1 0).samples) = false) ∧
    (((wLostFeedbackHolds [6, 0, 0, 1]).loop 1 0).minRun < 64 ∧ ((wLostFeedbackHolds [6, 0, 0, 1]).loop 1 0).isumRun < 64) := by
  refine ⟨?_, ?_, ?_, ?_, ?_, ?_, ?_, ?_, ?_⟩ <;> decide +kernel
def wHoldingEndsAndParks : List Nat → State := pick
  ([cl, [id, lpp (fun x => {x with goodRun := 100000, minRun := 3}), lpp (fun x => {x with parkFor := .fence}), lpp (fun x => {x with parkFor := .holdExpire, parking := some 0}), lpp (fun x => {x with filtered := 65536 * 100000})], [id, fun s => s.putTile 0 0 { s.tile 0 0 with fence := true}, wr' (fSt 0) O.FENCE_CTRL 1], nowAlts [0, 100000, 3000000, 3000000000000]])
theorem test_meets_HoldingEndsAndParks :
    ((wHoldingEndsAndParks [9, 1, 1, 3]).cstate 0 0 = WState.holding ∧ (wHoldingEndsAndParks [9, 1, 1, 3]).rd (clSt 0 0) O.RECOVER_RUN ≤ ((wHoldingEndsAndParks [9, 1, 1, 3]).loop 0 0).goodRun ∧ ((wHoldingEndsAndParks [9, 1, 1, 3]).loop 0 0).minRun < (wHoldingEndsAndParks [9, 1, 1, 3]).rd (clSt 0 0) O.RECOVER_RUN ∧ ((wHoldingEndsAndParks [9, 1, 1, 3]).loop 0 0).isumRun < (wHoldingEndsAndParks [9, 1, 1, 3]).rd (clSt 0 0) O.RECOVER_RUN ∧ (wHoldingEndsAndParks [9, 1, 1, 3]).sensorsFew 0 0 = false ∧ (((wHoldingEndsAndParks [9, 1, 1, 3]).wheel (WheelRef.cluster 0 0)).prior = WState.running ∨ ((wHoldingEndsAndParks [9, 1, 1, 3]).wheel (WheelRef.cluster 0 0)).prior = WState.derated)) ∧
    ((((wHoldingEndsAndParks [9, 3, 0, 2]).loop 4 3).goodRun < (wHoldingEndsAndParks [9, 3, 0, 2]).rd (clSt 4 3) O.RECOVER_RUN ∨ (wHoldingEndsAndParks [9, 3, 0, 2]).cstate 4 3 ≠ WState.holding)) ∧
    ((wHoldingEndsAndParks [9, 4, 0, 3]).cstate 0 0 = WState.holding ∧ ((wHoldingEndsAndParks [9, 4, 0, 3]).loop 0 0).parkFor = ParkCause.none ∧ ((wHoldingEndsAndParks [9, 4, 0, 3]).loop 0 0).holdAt + (wHoldingEndsAndParks [9, 4, 0, 3]).rd (clSt 0 0) O.HOLD_TIME ≤ (wHoldingEndsAndParks [9, 4, 0, 3]).time (clSt 0 0) ∧ (wHoldingEndsAndParks [9, 4, 0, 3]).sevOf F.CL_HOLD_EXPIRE < 4) ∧
    (((wHoldingEndsAndParks [9, 3, 0, 2]).cstate 4 3 ≠ WState.holding ∨ ((wHoldingEndsAndParks [9, 3, 0, 2]).loop 4 3).parkFor ≠ ParkCause.none ∨ (wHoldingEndsAndParks [9, 3, 0, 2]).time (clSt 4 3) < ((wHoldingEndsAndParks [9, 3, 0, 2]).loop 4 3).holdAt + (wHoldingEndsAndParks [9, 3, 0, 2]).rd (clSt 4 3) O.HOLD_TIME)) ∧
    ((isCompute 3 = false ∨ (wHoldingEndsAndParks [9, 3, 0, 2]).cstate 4 3 ∉ [WState.starting, WState.running, WState.derated, WState.holding] ∨ (if true = true then Option.any (fun u => decide (u + (wHoldingEndsAndParks [9, 3, 0, 2]).rd (clSt 4 3) O.DEAD_TIME ≤ (wHoldingEndsAndParks [9, 3, 0, 2]).time (clSt 4 3))) ((wHoldingEndsAndParks [9, 3, 0, 2]).loop 4 3).excessSince else Option.any (fun u => decide (u + (wHoldingEndsAndParks [9, 3, 0, 2]).rd (clSt 4 3) O.DEAD_TIME ≤ (wHoldingEndsAndParks [9, 3, 0, 2]).time (clSt 4 3))) ((wHoldingEndsAndParks [9, 3, 0, 2]).loop 4 3).deadSince && decide (((wHoldingEndsAndParks [9, 3, 0, 2]).tile 4 (clusterTile 3)).advancedAt + (wHoldingEndsAndParks [9, 3, 0, 2]).rd (clSt 4 3) O.DEAD_TIME ≤ (wHoldingEndsAndParks [9, 3, 0, 2]).time (fSt 4))) = false ∨ ((wHoldingEndsAndParks [9, 3, 0, 2]).loop 4 3).parkFor ≠ ParkCause.none)) ∧
    (((wHoldingEndsAndParks [4, 2, 0, 0]).loop 0 0).parkFor ≠ ParkCause.none ∧ ((wHoldingEndsAndParks [4, 2, 0, 0]).loop 0 0).parking = none) ∧
    (((wHoldingEndsAndParks [9, 3, 0, 2]).loop 4 3).parkFor = ParkCause.none) ∧
    (((wHoldingEndsAndParks [4, 3, 1, 2]).loop 0 0).parkFor ≠ ParkCause.none ∧ ((wHoldingEndsAndParks [4, 3, 1, 2]).loop 0 0).parking = some 0 ∧ 0 + (wHoldingEndsAndParks [4, 3, 1, 2]).rd (clSt 0 0) O.PARK_DELAY ≤ (wHoldingEndsAndParks [4, 3, 1, 2]).time (clSt 0 0)) ∧
    ((((wHoldingEndsAndParks [9, 3, 0, 2]).loop 4 3).parkFor = ParkCause.none ∨ ∀ (u : ℕ), ((wHoldingEndsAndParks [9, 3, 0, 2]).loop 4 3).parking = some u → (wHoldingEndsAndParks [9, 3, 0, 2]).time (clSt 4 3) < u + (wHoldingEndsAndParks [9, 3, 0, 2]).rd (clSt 4 3) O.PARK_DELAY) ∧ (((wHoldingEndsAndParks [9, 3, 0, 2]).loop 4 3).resetDue = false ∨ ((wHoldingEndsAndParks [9, 3, 0, 2]).cstate 4 3).isOn = true)) ∧
    (((wHoldingEndsAndParks [9, 4, 2, 0]).tile 0 0).fence = false ∧ (wHoldingEndsAndParks [9, 4, 2, 0]).cstate 0 (tileCluster 0) ∈ [WState.starting, WState.running, WState.derated, WState.holding] ∧ ((wHoldingEndsAndParks [9, 4, 2, 0]).loop 0 (tileCluster 0)).parkFor = ParkCause.none) ∧
    (((wHoldingEndsAndParks [6, 1, 2, 0]).tile 4 15).fence = false ∧ (wHoldingEndsAndParks [6, 1, 2, 0]).cstate 4 (tileCluster 15) = WState.stopped) ∧
    (((wHoldingEndsAndParks [5, 1, 2, 0]).tile 0 0).fence = false ∧ (wHoldingEndsAndParks [5, 1, 2, 0]).cstate 0 (tileCluster 0) ∈ [WState.stopping, WState.parked, WState.latched]) ∧
    (((wHoldingEndsAndParks [5, 4, 1, 3]).tile 0 0).fence = true) ∧
    (bit ((wHoldingEndsAndParks [6, 1, 2, 0]).rd (fSt 4) O.FENCE_CTRL) 15 = false) ∧
    ((wHoldingEndsAndParks [6, 1, 2, 0]).Admitted 0 (clSt 4 4) O.WIN_CLEAR 1) := by
  refine ⟨?_, ?_, ?_, ?_, ?_, ?_, ?_, ?_, ?_, ?_, ?_, ?_, ?_, ?_, ?_⟩ <;> decide +kernel
end Sys2Proof.Tests.C05

namespace Sys2Proof.Tests.C06

def memA : Tbl Nat := memWrite (memWrite (memWrite (memWrite (memWrite [] 0 [0,2,2,7,1,9,200,3]) 16 [5, 66, 2, 1,2,3,4,5,6,7,8,9,10]) 64 [2,0,0,0,1]) 80 [0,2,1,1]) 96 [0,2,2,0,1,0,0,1]
def mask3 : Tbl Nat := [(0,3),(1,2),(8,1)]
def bk (k : Nat) : Bank := { task := k, v := (List.range 16).map (fun i => ⟨i % 3, (i : Int) - 3, if i % 2 = 1 then [5, -3] else [100]⟩), a := [⟨0,[3,4]⟩, ⟨2,[1,1]⟩, {}, {}], ports := [(0, 5), (1, -7), (2, 300)], masks := mask3, pc := 3, first := true }
def img : Image := { kind := 2, order := 0, cbase := 0, wbase := 0, wlines := 0, flags := 0, xline0 := 0, xline1 := 0, regfmt := [], ps := [1,2], xscale := [], words := [0xFC000000], consts := [], init := [], id := 77, ttab := 5 }
def engM (e : EngId) (g : EngRec → EngRec) (s : State) : State := s.putEng e (g (s.eng e))
def runs0 (e : EngId) (s : State) : State := engM e (fun r => { r with banks := [(0, some (bk 0))], running := some 0, mem := memA, images := [(0, some img)] }) s
def runA := [runs0 0, runs0 0, runs0 1, runs0 231, runs0 152]
def ge : EngId := 156
def tAlts := [id, wrs [(engSt 231, taskObj O.TASK_STATE 231 0, 2)]]
def hdr : List Nat := [2,0,1,0,1,0,0,0,0,0,0,0,0,0,0,0] ++ List.replicate 80 0 ++ [0,0,0,0xFF]
def good : List Byte := ((hdr ++ (leBytes 4 (crc32 hdr)).map BitVec.toNat)).map (BitVec.ofNat 8)
def ls (e : EngId) (v : Nat) (s : State) : State := s.wr (engSt e) (engObj O.LOAD_STATE e) v
def sh (e : EngId) (g : EngRec → EngRec) := engM e g
def shA (e : EngId) : List (State → State) := [id, sh e (fun r => {r with shadowImg := some img, tested := true}), sh e (fun r => {r with swapDue := 1, shadowImg := some img, images := [(0, some {img with id := 5})]}), sh e (fun r => {r with failed := true}), sh e (fun r => {r with shadow := [1,2,3]})]
def imgT : State → State := engM 231 (fun r => {r with images := [(0, some img)]})
def spare (s : State) : State := engM (spareOf 0) (fun r => {r with loading := some 0, shadowImg := some img}) s
def spareR (s : State) : State := (engM (cle 0 0) (fun r => {r with failed := true, closed := true, tested := true, shadowImg := some img}) (ls (cle 0 0) 3 (engM (spareOf 0) (fun r => {r with images := [(0, some img)]}) s)))
def wActivationsRunAndCommit : List Nat → State := pick
  ([[id, runs0 231, runs0 0, engM 231 (fun r => {r with images := [(0, some img)]})], tAlts, [id, engM 231 (fun r => {r with done := [⟨0, 0, [.out 0 ⟨3,0⟩, .store 3 [1,2]]⟩]}), engM 0 (fun r => {r with done := [⟨0, 0, [.out 0 ⟨3,0⟩, .store 3 [1,2]]⟩]}), engM 231 (fun r => {r with failed := true})], [id, wrs [(engSt 231, taskObj O.CLASS 231 0, 3)]]])
theorem test_meets_ActivationsRunAndCommit :
    ((↑((wActivationsRunAndCommit [3, 0, 3, 0]).time (engSt 4)) - ↑((wActivationsRunAndCommit [3, 0, 3, 0]).taskPhase 4 3)) % ↑((wActivationsRunAndCommit [3, 0, 3, 0]).taskPeriod 4 3) = 0 ∧ (3 ≠ 0 ∨ isCle 4 = true ∨ 216 ≤ 4 ∨ 4 < engNum 4)) ∧
    (isCle 231 = false ∧ (wActivationsRunAndCommit [3, 1, 0, 0]).rd (engSt 231) (taskObj O.TASK_STATE 231 0) = 2 ∧ ((wActivationsRunAndCommit [3, 1, 0, 0]).eng 231).failed = false ∧ ((wActivationsRunAndCommit [3, 1, 0, 0]).eng 231).closed = false ∧ (((wActivationsRunAndCommit [3, 1, 0, 0]).eng 231).image 0).isSome = true ∧ ((wActivationsRunAndCommit [3, 1, 0, 0]).eng 231).busy 0 = false) ∧
    (((wActivationsRunAndCommit [3, 0, 3, 0]).eng 4).running = none) ∧
    (((wActivationsRunAndCommit [1, 0, 2, 1]).eng 0).finished 0 = some ({ task := 0, due := 0, held := [Sys2Proof.Machine.Held.out 0 { m := 3, e := 0 }, Sys2Proof.Machine.Held.store 3 [1, 2]] } : Done) ∧ ({ task := 0, due := 0, held := [Sys2Proof.Machine.Held.out 0 { m := 3, e := 0 }, Sys2Proof.Machine.Held.store 3 [1, 2]] } : Done).due ≤ (wActivationsRunAndCommit [1, 0, 2, 1]).time (engSt 0)) ∧
    ((∀ (d : Done), ((wActivationsRunAndCommit [3, 0, 3, 0]).eng 4).finished 3 = some d → (wActivationsRunAndCommit [3, 0, 3, 0]).time (engSt 4) < d.due)) ∧
    ((wActivationsRunAndCommit [1, 0, 2, 1]).taskClass 231 0 ≤ 2 ∧ (wActivationsRunAndCommit [1, 0, 2, 1]).overdue 231 0 = true) ∧
    (((wActivationsRunAndCommit [3, 0, 3, 0]).overdue 4 3 = false ∨ 2 < (wActivationsRunAndCommit [3, 0, 3, 0]).taskClass 4 3)) := by
  refine ⟨?_, ?_, ?_, ?_, ?_, ?_, ?_⟩ <;> decide +kernel
def wImagesLoadAndSwap : List Nat → State := pick
  ([[id, fun s => {engM 231 (fun r => {r with shadow := good}) s with manifest := [crc32 hdr]}],shA 0, shA 231, [id, ls 0 1, ls 0 3, ls 0 5], [id, ls 231 3, ls 231 5]])
theorem test_meets_ImagesLoadAndSwap :
    ((wImagesLoadAndSwap [1, 1, 3, 0, 1]).Admitted 0 (engSt 231) (engObj O.IMAGE 231) [16#8].length ∧ [16#8].length ≤ 5220 ∧ ((wImagesLoadAndSwap [1, 1, 3, 0, 1]).eng 231).swapDue = 0) ∧
    ((wImagesLoadAndSwap [1, 0, 2, 0, 0]).Admitted 0 (engSt 231) (engObj O.IMAGE 231) [255#8, 20#8, 0#8, 188#8, 3#8, 20#8, 16#8, 255#8].length ∧ [255#8, 20#8, 0#8, 188#8, 3#8, 20#8, 16#8, 255#8].length ≤ 5220 ∧ ((wImagesLoadAndSwap [1, 0, 2, 0, 0]).eng 231).swapDue ≠ 0) ∧
    ((wImagesLoadAndSwap [1, 4, 1, 0, 1]).Admitted 0 (engSt 231) (engObj O.VERIFY 231) 1 ∧ 1#8 = 1 ∧ (wImagesLoadAndSwap [1, 4, 1, 0, 1]).rd (engSt 231) (engObj O.LOAD_STATE 231) ≠ 1 ∧ ((wImagesLoadAndSwap [1, 4, 1, 0, 1]).eng 231).swapDue = 0 ∧ (((wImagesLoadAndSwap [1, 4, 1, 0, 1]).touch 0).loadError 231).1 = 0) ∧
    ((wImagesLoadAndSwap [1, 0, 2, 0, 0]).Admitted 0 (engSt 3) (engObj O.VERIFY 3) 1 ∧ 1#8 = 1 ∧ (wImagesLoadAndSwap [1, 0, 2, 0, 0]).rd (engSt 3) (engObj O.LOAD_STATE 3) ≠ 1 ∧ ((wImagesLoadAndSwap [1, 0, 2, 0, 0]).eng 3).swapDue = 0 ∧ (((wImagesLoadAndSwap [1, 0, 2, 0, 0]).touch 0).loadError 3).1 ≠ 0) ∧
    ((wImagesLoadAndSwap [1, 2, 4, 0, 2]).Admitted 0 (engSt 0) (engObj O.VERIFY 0) 1 ∧ 1#8 = 1 ∧ ((wImagesLoadAndSwap [1, 2, 4, 0, 2]).rd (engSt 0) (engObj O.LOAD_STATE 0) = 1 ∨ ((wImagesLoadAndSwap [1, 2, 4, 0, 2]).eng 0).swapDue ≠ 0)) ∧
    ((wImagesLoadAndSwap [1, 1, 3, 0, 1]).Admitted 0 (engSt 0) (engObj O.VERIFY 0) 1 ∧ 0#8 = 0) ∧
    ((wImagesLoadAndSwap [1, 1, 3, 0, 1]).Admitted 0 (engSt 231) (engObj O.VERIFY 231) 1 ∧ 1 < (188#8).toNat) ∧
    ((wImagesLoadAndSwap [1, 4, 1, 0, 1]).Admitted 0 (engSt 231) (engObj O.SWAP 231) 1 ∧ ((wImagesLoadAndSwap [1, 4, 1, 0, 1]).eng 231).failed = false ∧ isSpare 231 = false ∧ (wImagesLoadAndSwap [1, 4, 1, 0, 1]).rd (engSt 231) (engObj O.LOAD_STATE 231) = 3) ∧
    ((wImagesLoadAndSwap [1, 4, 3, 3, 0]).Admitted 0 (engSt 0) (engObj O.SWAP 0) 1 ∧ ((wImagesLoadAndSwap [1, 4, 3, 3, 0]).eng 0).failed = false ∧ isSpare 0 = false ∧ (wImagesLoadAndSwap [1, 4, 3, 3, 0]).rd (engSt 0) (engObj O.LOAD_STATE 0) = 5 ∧ ((wImagesLoadAndSwap [1, 4, 3, 3, 0]).eng 0).written = false) ∧
    ((wImagesLoadAndSwap [1, 1, 3, 0, 1]).Admitted 0 (engSt 231) (engObj O.SWAP 231) 1 ∧ (((wImagesLoadAndSwap [1, 1, 3, 0, 1]).eng 231).failed = true ∨ (wImagesLoadAndSwap [1, 1, 3, 0, 1]).rd (engSt 231) (engObj O.LOAD_STATE 231) ≠ 3)) ∧
    ((wImagesLoadAndSwap [1, 1, 3, 0, 1]).Admitted 0 (engSt 231) (engObj O.SWAP 231) 1 ∧ (((wImagesLoadAndSwap [1, 1, 3, 0, 1]).eng 231).failed = true ∨ (wImagesLoadAndSwap [1, 1, 3, 0, 1]).rd (engSt 231) (engObj O.LOAD_STATE 231) ≠ 5 ∨ ((wImagesLoadAndSwap [1, 1, 3, 0, 1]).eng 231).written = true)) ∧
    (((wImagesLoadAndSwap [1, 0, 2, 0, 0]).eng 231).swapDue ≠ 0 ∧ ((wImagesLoadAndSwap [1, 0, 2, 0, 0]).eng 231).shadowTask < 8 ∧ ((wImagesLoadAndSwap [1, 0, 2, 0, 0]).eng 231).busy ↑(Fin.ofNat 8 ((wImagesLoadAndSwap [1, 0, 2, 0, 0]).eng 231).shadowTask) = false ∧ ((wImagesLoadAndSwap [1, 0, 2, 0, 0]).eng 231).finished ↑(Fin.ofNat 8 ((wImagesLoadAndSwap [1, 0, 2, 0, 0]).eng 231).shadowTask) = none) ∧
    ((((wImagesLoadAndSwap [1, 3, 3, 2, 2]).eng 4).swapDue = 0 ∨ ((wImagesLoadAndSwap [1, 3, 3, 2, 2]).eng 4).busy ((wImagesLoadAndSwap [1, 3, 3, 2, 2]).eng 4).shadowTask = true ∨ (((wImagesLoadAndSwap [1, 3, 3, 2, 2]).eng 4).finished ((wImagesLoadAndSwap [1, 3, 3, 2, 2]).eng 4).shadowTask).isSome = true)) := by
  refine ⟨?_, ?_, ?_, ?_, ?_, ?_, ?_, ?_, ?_, ?_, ?_, ?_, ?_⟩ <;> decide +kernel
def wTasksAreAdmitted : List Nat → State := pick
  ([[id, imgT, imgT], tAlts, [id, engM 231 (fun r => {r with images := [(0, some {img with ttab := 4000000000})]})]])
theorem test_meets_TasksAreAdmitted :
    ((wTasksAreAdmitted [2, 0, 1]).Admitted 0 (engSt 3) (taskObj O.TASK_CTRL 3 0) 1 ∧ isCle 3 = true) ∧
    ((wTasksAreAdmitted [2, 0, 1]).Admitted 0 (engSt 3) (taskObj O.TASK_CTRL 3 0) 1 ∧ ((wTasksAreAdmitted [2, 0, 1]).eng 3).image 0 = none) ∧
    ((wTasksAreAdmitted [1, 0, 0]).Admitted 0 (engSt 231) (taskObj O.TASK_CTRL 231 0) 1 ∧ isCle 231 = false ∧ ((wTasksAreAdmitted [1, 0, 0]).eng 231).image 0 = some ({ kind := 2, order := 0, cbase := 0, wbase := 0, wlines := 0, flags := 0, xline0 := 0, xline1 := 0, regfmt := [], ps := [1, 2], xscale := [], words := [4227858432], consts := [], init := [], id := 77, ttab := 5, bytes := [], base := 0 } : Image) ∧ ((wTasksAreAdmitted [1, 0, 0]).eng 231).failed = false ∧ ((wTasksAreAdmitted [1, 0, 0]).eng 231).closed = false ∧ ((wTasksAreAdmitted [1, 0, 0]).standbyOk 231 ((wTasksAreAdmitted [1, 0, 0]).admitLine 231 0 ({ kind := 2, order := 0, cbase := 0, wbase := 0, wlines := 0, flags := 0, xline0 := 0, xline1 := 0, regfmt := [], ps := [1, 2], xscale := [], words := [4227858432], consts := [], init := [], id := 77, ttab := 5, bytes := [], base := 0 } : Image)) && admits ((wTasksAreAdmitted [1, 0, 0]).admitted 231 0 ++ [(wTasksAreAdmitted [1, 0, 0]).admitLine 231 0 ({ kind := 2, order := 0, cbase := 0, wbase := 0, wlines := 0, flags := 0, xline0 := 0, xline1 := 0, regfmt := [], ps := [1, 2], xscale := [], words := [4227858432], consts := [], init := [], id := 77, ttab := 5, bytes := [], base := 0 } : Image)])) = true) ∧
    ((wTasksAreAdmitted [1, 1, 1]).Admitted 0 (engSt 231) (taskObj O.TASK_CTRL 231 0) 1 ∧ isCle 231 = false ∧ ((wTasksAreAdmitted [1, 1, 1]).eng 231).image 0 = some ({ kind := 2, order := 0, cbase := 0, wbase := 0, wlines := 0, flags := 0, xline0 := 0, xline1 := 0, regfmt := [], ps := [1, 2], xscale := [], words := [4227858432], consts := [], init := [], id := 77, ttab := 4000000000, bytes := [], base := 0 } : Image) ∧ (((wTasksAreAdmitted [1, 1, 1]).eng 231).failed = true ∨ ((wTasksAreAdmitted [1, 1, 1]).eng 231).closed = true ∨ ((wTasksAreAdmitted [1, 1, 1]).standbyOk 231 ((wTasksAreAdmitted [1, 1, 1]).admitLine 231 0 ({ kind := 2, order := 0, cbase := 0, wbase := 0, wlines := 0, flags := 0, xline0 := 0, xline1 := 0, regfmt := [], ps := [1, 2], xscale := [], words := [4227858432], consts := [], init := [], id := 77, ttab := 4000000000, bytes := [], base := 0 } : Image)) && admits ((wTasksAreAdmitted [1, 1, 1]).admitted 231 0 ++ [(wTasksAreAdmitted [1, 1, 1]).admitLine 231 0 ({ kind := 2, order := 0, cbase := 0, wbase := 0, wlines := 0, flags := 0, xline0 := 0, xline1 := 0, regfmt := [], ps := [1, 2], xscale := [], words := [4227858432], consts := [], init := [], id := 77, ttab := 4000000000, bytes := [], base := 0 } : Image)])) = false)) ∧
    ((wTasksAreAdmitted [2, 1, 0]).Admitted 0 (engSt 231) (taskObj O.TASK_CTRL 231 0) 1 ∧ isCle 231 = false ∧ (wTasksAreAdmitted [2, 1, 0]).rd (engSt 231) (taskObj O.TASK_STATE 231 0) = 2) ∧
    ((wTasksAreAdmitted [1, 0, 0]).Admitted 0 (engSt 231) (taskObj O.TASK_CTRL 231 1) 1 ∧ isCle 231 = false ∧ (wTasksAreAdmitted [1, 0, 0]).rd (engSt 231) (taskObj O.TASK_STATE 231 1) ≠ 2) ∧
    ((wTasksAreAdmitted [1, 0, 0]).Admitted 0 (engSt 231) (taskObj O.TASK_CTRL 231 1) 1 ∧ isCle 231 = false ∧ ((wTasksAreAdmitted [1, 0, 0]).eng 231).busy 1 = false) ∧
    ((wTasksAreAdmitted [2, 0, 1]).Admitted 0 (engSt 3) (engObj O.STICKY 3) 2) := by
  refine ⟨?_, ?_, ?_, ?_, ?_, ?_, ?_, ?_⟩ <;> decide +kernel
def wEnginesFailAndReturn : List Nat → State := pick
  ([[id, spare, spareR, engM 0 (fun r => {r with loading := some 0, images := [(0, some img)]})], wAlts (.cluster 0 0), alts (fSt 0) O.SPARE_FOR [0, 255]])
theorem test_meets_EnginesFailAndReturn :
    ((isCle 3 = true ∨ isSpare 3 = true) ∧ ((wEnginesFailAndReturn [3, 0, 1]).eng 3).failed = false) ∧
    ((((wEnginesFailAndReturn [3, 0, 1]).eng 231).failed = true ∨ isCle 231 = false ∧ isSpare 231 = false)) ∧
    (((wEnginesFailAndReturn [1, 3, 1]).eng (spareOf 0)).loading = some 0 ∧ ((wEnginesFailAndReturn [1, 3, 1]).eng (spareOf 0)).shadowImg = some ({ kind := 2, order := 0, cbase := 0, wbase := 0, wlines := 0, flags := 0, xline0 := 0, xline1 := 0, regfmt := [], ps := [1, 2], xscale := [], words := [4227858432], consts := [], init := [], id := 77, ttab := 5, bytes := [], base := 0 } : Image) ∧ ((wEnginesFailAndReturn [1, 3, 1]).eng (spareOf 0)).failed = false) ∧
    ((((wEnginesFailAndReturn [3, 0, 1]).eng (spareOf 7)).loading = none ∨ ((wEnginesFailAndReturn [3, 0, 1]).eng (spareOf 7)).failed = true)) ∧
    ((wEnginesFailAndReturn [2, 6, 0]).Admitted 0 (fSt 0) O.HANDBACK 1 ∧ (∃ x, ((wEnginesFailAndReturn [2, 6, 0]).eng (cle 0 0)).shadowImg = some x ∧ (wEnginesFailAndReturn [2, 6, 0]).spareFor 0 = some 0 ∧ ((wEnginesFailAndReturn [2, 6, 0]).eng (cle 0 0)).tested = true ∧ (wEnginesFailAndReturn [2, 6, 0]).rd (clSt 0 0) (engObj O.LOAD_STATE (cle 0 0)) = 3 ∧ (((wEnginesFailAndReturn [2, 6, 0]).eng (spareOf 0)).image 0).elim 0 Image.id = x.id)) ∧
    ((wEnginesFailAndReturn [3, 0, 1]).Admitted 0 (fSt 7) O.HANDBACK 1 ∧ (¬∃ x, ((wEnginesFailAndReturn [3, 0, 1]).eng (cle 7 4)).shadowImg = some x ∧ (wEnginesFailAndReturn [3, 0, 1]).spareFor 7 = some 4 ∧ ((wEnginesFailAndReturn [3, 0, 1]).eng (cle 7 4)).tested = true ∧ (wEnginesFailAndReturn [3, 0, 1]).rd (clSt 7 4) (engObj O.LOAD_STATE (cle 7 4)) = 3 ∧ (((wEnginesFailAndReturn [3, 0, 1]).eng (spareOf 7)).image 0).elim 0 Image.id = x.id)) ∧
    (isCle 231 = false) ∧
    ((((wEnginesFailAndReturn [3, 0, 1]).eng (cle 7 4)).loading = none ∨ (wEnginesFailAndReturn [3, 0, 1]).cstate 7 4 ≠ WState.parked)) := by
  refine ⟨?_, ?_, ?_, ?_, ?_, ?_, ?_, ?_⟩ <;> decide +kernel
def wTraceUnitRuns : List Nat → State := pick
  ([alts hubSt O.TRACE_STATE [0,1,2,3], alts (fSt 0) O.TRACE_STATE [0,1,2], alts (fSt 0) O.TRIG_SRC [0,1,5], alts hubSt O.TRIG_SRC [0,1,5], [id, wrs [(hubSt, O.OWNER.at 0, 0), (fSt 0, O.OWNER.at 0, 0x1000)]], alts hubSt O.POST_COUNT [0, 7], [id, fun s => s.putTrace 8 { s.trace 8 with left := 5 }]])
theorem test_meets_TraceUnitRuns :
    ((wTraceUnitRuns [2, 2, 2, 2, 0, 0, 0]).Admitted 0 (traceSt 8) O.TRACE_CTRL 1 ∧ (wTraceUnitRuns [2, 2, 2, 2, 0, 0, 0]).traceOwns 8 = true ∧ (wTraceUnitRuns [2, 2, 2, 2, 0, 0, 0]).rd (traceSt 8) O.TRIG_SRC ≠ 0) ∧
    ((wTraceUnitRuns [2, 2, 2, 2, 0, 0, 0]).Admitted 0 (traceSt 1) O.TRACE_CTRL 1 ∧ (wTraceUnitRuns [2, 2, 2, 2, 0, 0, 0]).traceOwns 1 = true ∧ (wTraceUnitRuns [2, 2, 2, 2, 0, 0, 0]).rd (traceSt 1) O.TRIG_SRC = 0) ∧
    ((wTraceUnitRuns [2, 2, 1, 1, 1, 0, 1]).Admitted 0 (traceSt 8) O.TRACE_CTRL 1 ∧ (wTraceUnitRuns [2, 2, 1, 1, 1, 0, 1]).traceOwns 8 = false) ∧
    ((wTraceUnitRuns [2, 2, 2, 2, 0, 0, 0]).Admitted 0 (traceSt 8) O.TRACE_CTRL 1 ∧ ((wTraceUnitRuns [2, 2, 2, 2, 0, 0, 0]).rd (traceSt 8) O.TRACE_STATE = 1 ∨ (wTraceUnitRuns [2, 2, 2, 2, 0, 0, 0]).rd (traceSt 8) O.TRACE_STATE = 2)) ∧
    ((wTraceUnitRuns [2, 2, 2, 2, 0, 0, 0]).Admitted 0 (traceSt 1) O.TRACE_CTRL 1 ∧ (wTraceUnitRuns [2, 2, 2, 2, 0, 0, 0]).rd (traceSt 1) O.TRACE_STATE ≠ 1 ∧ (wTraceUnitRuns [2, 2, 2, 2, 0, 0, 0]).rd (traceSt 1) O.TRACE_STATE ≠ 2) ∧
    ((wTraceUnitRuns [2, 2, 2, 2, 0, 0, 0]).Admitted 0 (traceSt 8) O.TRACE_CTRL 1 ∧ (wTraceUnitRuns [2, 2, 2, 2, 0, 0, 0]).rd (traceSt 8) O.TRIG_SRC = 5) ∧
    ((wTraceUnitRuns [2, 2, 2, 2, 0, 0, 0]).Admitted 0 (traceSt 1) O.TRACE_CTRL 1 ∧ (wTraceUnitRuns [2, 2, 2, 2, 0, 0, 0]).rd (traceSt 1) O.TRIG_SRC ≠ 5) ∧
    ((((wTraceUnitRuns [3, 0, 0, 1, 0, 1, 0]).trace 1).fired = false ∨ (wTraceUnitRuns [3, 0, 0, 1, 0, 1, 0]).rd (traceSt 1) O.TRACE_STATE ≠ 1)) ∧
    ((wTraceUnitRuns [2, 2, 2, 2, 0, 0, 0]).rd (traceSt 8) O.TRACE_STATE = 2 ∧ ((wTraceUnitRuns [2, 2, 2, 2, 0, 0, 0]).trace 8).left = 0) ∧
    (((wTraceUnitRuns [3, 0, 0, 1, 0, 1, 0]).rd (traceSt 1) O.TRACE_STATE ≠ 2 ∨ ((wTraceUnitRuns [3, 0, 0, 1, 0, 1, 0]).trace 1).left ≠ 0)) := by
  refine ⟨?_, ?_, ?_, ?_, ?_, ?_, ?_, ?_, ?_, ?_⟩ <;> decide +kernel
end Sys2Proof.Tests.C06

namespace Sys2Proof.Tests.C07

def ra (g : RailRec → RailRec) (s : State) : State := (s.putRail 0 (g (s.rail 0))).putRail 15 (g (s.rail 15))
def ph (p : PhaseId) (g : PhaseRec → PhaseRec) (s : State) : State := (s.putPhase 0 p (g (s.phase 0 p))).putPhase 15 p (g (s.phase 15 p))
def rst : List (State → State) := [0,1,2,2,2,3,4,5,6].map (fun v s => (s.wr hubSt (O.RAIL_STATE.at 0) v).wr hubSt (O.RAIL_STATE.at 15) v)
def rA : List (State → State) := [id, ra (fun x => {x with stgEn := true, lead := true}), ra (fun x => {x with stgEn := true, lead := true, regFrom := some 0, uvFrom := some 0, snsFrom := some 0}), ra (fun x => {x with lead := true, held := 2, ptr := 3, ovFrom := some 0}), ra (fun x => {x with lead := true, lastTrip := some 3, ocRun := 63, ocPh := List.range 16, ocWin := 0}), ra (fun x => {x with discharge := true, stgEn := true}), ra (fun x => {x with stgDrop := true, axLimit := true, vfb := 4000})]
def pA : List (State → State) := [id, ph 0 (fun x => {x with pwm := .high, onAt := some 3}), ph 0 (fun x => {x with pwm := .high, onAt := some 3, limRun := 500, openRun := 100000}), ph 0 (fun x => {x with pwm := .low, offAt := some 0}), ph 0 (fun x => {x with pwm := .low, fallback := true, offAt := some 0}), ph 0 (fun x => {x with dropped := 5, trim := 4, limRun := 2}), ph 0 (fun x => {x with dropped := 3}), ph 0 (fun x => {x with fallback := true, snsCause := 2}), fun s => (List.range 32).foldl (fun s k => ph (Fin.ofNat 32 k) (fun x => {x with pwm := .high}) s) s]
def nA := nowAlts [0, 4, 100, 100000, 1000000, 1000000000]
def sel : List (State → State) := [id, fun s => (s.wr hubSt (O.RL_OPEN_RUN.at 0) 0).wr hubSt (O.RL_OPEN_RUN.at 15) 0]
def misc : List (State → State) := [id, ra (fun x => {x with axFrom := some 0}), fun s => s.raise F.SENSE_LOST hubSt 0 0, fun s => (s.wr hubSt (O.AX_EXCESS.at 15) 5), fun s => (s.wr hubSt (O.SENSE_SRC.at 0) 1), fun s => (s.wr hubSt (O.HICCUPS.at 0) 3).wr hubSt (O.HICCUPS.at 15) 200, fun s => (s.putRail 0 {s.rail 0 with curMs := ⟨2, 1000000000, 0, 0⟩, remMs := ⟨2, 3000, 0, 0⟩, locMs := ⟨2, 3100, 0, 0⟩}).wr hubSt (O.R_DROP.at 0) 777]
def wModulatorDrivesThePhases : List Nat → State := pick
  ([rst, rA, pA, nA])
theorem test_meets_ModulatorDrivesThePhases :
    (¬((wModulatorDrivesThePhases [5, 4, 6, 4]).railSwitching 4 = true ∧ ((wModulatorDrivesThePhases [5, 4, 6, 4]).rail 4).lead = true ∧ ((wModulatorDrivesThePhases [5, 4, 6, 4]).rail 4).discharge = false ∧ (∀ (u : ℕ), ((wModulatorDrivesThePhases [5, 4, 6, 4]).rail 4).lastTrip = some u → u + (wModulatorDrivesThePhases [5, 4, 6, 4]).rd hubSt (O.TBLANK.at 4) ≤ (wModulatorDrivesThePhases [5, 4, 6, 4]).time hubSt) ∧ (wModulatorDrivesThePhases [5, 4, 6, 4]).tripMet 4 (0#32).toNat = true)) ∧
    ((wModulatorDrivesThePhases [3, 3, 5, 3]).railSwitching 0 = true ∧ ((wModulatorDrivesThePhases [3, 3, 5, 3]).rail 0).lead = true ∧ 0 < ((wModulatorDrivesThePhases [3, 3, 5, 3]).rail 0).held ∧ (wModulatorDrivesThePhases [3, 3, 5, 3]).nextRing 0 = some 3) ∧
    (((wModulatorDrivesThePhases [5, 4, 6, 4]).railSwitching 4 = false ∨ ((wModulatorDrivesThePhases [5, 4, 6, 4]).rail 4).lead = false ∨ ((wModulatorDrivesThePhases [5, 4, 6, 4]).rail 4).held = 0 ∨ (wModulatorDrivesThePhases [5, 4, 6, 4]).nextRing 4 = none)) ∧
    (0 < phaseCount 15 ∧ (((wModulatorDrivesThePhases [8, 0, 1, 1]).phase 15 0).pwm = Pwm.high ∧ ∀ (u : ℕ), ((wModulatorDrivesThePhases [8, 0, 1, 1]).phase 15 0).onAt = some u → 4 * u + ((wModulatorDrivesThePhases [8, 0, 1, 1]).phase 15 0).ton ≤ 4 * (wModulatorDrivesThePhases [8, 0, 1, 1]).time hubSt + 3)) ∧
    (3 < phaseCount 4 ∧ ¬(((wModulatorDrivesThePhases [5, 4, 6, 4]).phase 4 3).pwm = Pwm.high ∧ ∀ (u : ℕ), ((wModulatorDrivesThePhases [5, 4, 6, 4]).phase 4 3).onAt = some u → 4 * u + ((wModulatorDrivesThePhases [5, 4, 6, 4]).phase 4 3).ton ≤ 4 * (wModulatorDrivesThePhases [5, 4, 6, 4]).time hubSt + 3)) ∧
    (0 < phaseCount 15 ∧ (((wModulatorDrivesThePhases [1, 6, 3, 2]).phase 15 0).pwm = Pwm.low ∧ (wModulatorDrivesThePhases [1, 6, 3, 2]).railSwitching 15 = true ∧ ((wModulatorDrivesThePhases [1, 6, 3, 2]).phase 15 0).fallback = false ∧ (700#32).toNat ≤ (wModulatorDrivesThePhases [1, 6, 3, 2]).imonAt 15 0 ((wModulatorDrivesThePhases [1, 6, 3, 2]).rd hubSt (O.ZCD.at 15)))) ∧
    (3 < phaseCount 4 ∧ ¬(((wModulatorDrivesThePhases [5, 4, 6, 4]).phase 4 3).pwm = Pwm.low ∧ (wModulatorDrivesThePhases [5, 4, 6, 4]).railSwitching 4 = true ∧ ((wModulatorDrivesThePhases [5, 4, 6, 4]).phase 4 3).fallback = false ∧ (0#32).toNat ≤ (wModulatorDrivesThePhases [5, 4, 6, 4]).imonAt 4 3 ((wModulatorDrivesThePhases [5, 4, 6, 4]).rd hubSt (O.ZCD.at 4)))) ∧
    (0 < phaseCount 15 ∧ (((wModulatorDrivesThePhases [2, 5, 4, 5]).phase 15 0).pwm = Pwm.low ∧ (wModulatorDrivesThePhases [2, 5, 4, 5]).railSwitching 15 = true ∧ ((wModulatorDrivesThePhases [2, 5, 4, 5]).phase 15 0).fallback = true ∧ (wModulatorDrivesThePhases [2, 5, 4, 5]).fallTimeOver 15 0 = true)) ∧
    (3 < phaseCount 4 ∧ ¬(((wModulatorDrivesThePhases [5, 4, 6, 4]).phase 4 3).pwm = Pwm.low ∧ (wModulatorDrivesThePhases [5, 4, 6, 4]).railSwitching 4 = true ∧ ((wModulatorDrivesThePhases [5, 4, 6, 4]).phase 4 3).fallback = true ∧ (wModulatorDrivesThePhases [5, 4, 6, 4]).fallTimeOver 4 3 = true)) ∧
    (1 < phaseCount 0 ∧ (((wModulatorDrivesThePhases [6, 2, 8, 5]).phase 0 1).pwm = Pwm.high ∧ ((wModulatorDrivesThePhases [6, 2, 8, 5]).phase 0 1).fallback = false ∧ (wModulatorDrivesThePhases [6, 2, 8, 5]).railSwitching 0 = true ∧ (∀ (u : ℕ), ((wModulatorDrivesThePhases [6, 2, 8, 5]).phase 0 1).onAt = some u → u + 25 ≤ (wModulatorDrivesThePhases [6, 2, 8, 5]).time hubSt) ∧ (wModulatorDrivesThePhases [6, 2, 8, 5]).imonAt 0 1 ((wModulatorDrivesThePhases [6, 2, 8, 5]).rd hubSt (O.ICYC_PH.at 0)) ≤ (4294967295#32).toNat) ∧ (if (wModulatorDrivesThePhases [6, 2, 8, 5]).railState 0 = 2 ∧ ((wModulatorDrivesThePhases [6, 2, 8, 5]).ocCount 0 1).ocMet 0 = false then ((wModulatorDrivesThePhases [6, 2, 8, 5]).phase 0 1).limRun + 1 else 0) < (wModulatorDrivesThePhases [6, 2, 8, 5]).rd hubSt (O.PH_LIM_RUN.at 0)) ∧
    (3 < phaseCount 4 ∧ ¬(((wModulatorDrivesThePhases [5, 4, 6, 4]).phase 4 3).pwm = Pwm.high ∧ ((wModulatorDrivesThePhases [5, 4, 6, 4]).phase 4 3).fallback = false ∧ (wModulatorDrivesThePhases [5, 4, 6, 4]).railSwitching 4 = true ∧ (∀ (u : ℕ), ((wModulatorDrivesThePhases [5, 4, 6, 4]).phase 4 3).onAt = some u → u + 25 ≤ (wModulatorDrivesThePhases [5, 4, 6, 4]).time hubSt) ∧ (wModulatorDrivesThePhases [5, 4, 6, 4]).imonAt 4 3 ((wModulatorDrivesThePhases [5, 4, 6, 4]).rd hubSt (O.ICYC_PH.at 4)) ≤ (0#32).toNat)) ∧
    (phaseCount 15 ≤ 5) := by
  refine ⟨?_, ?_, ?_, ?_, ?_, ?_, ?_, ?_, ?_, ?_, ?_, ?_⟩ <;> decide +kernel
def wPhasesLeaveAndRejoin : List Nat → State := pick
  ([rst, rA, pA, nA])
theorem test_meets_PhasesLeaveAndRejoin :
    (3 < phaseCount 4 ∧ 4 ≠ 3 ∧ 4 < phaseCount 4 ∧ (wPhasesLeaveAndRejoin [5, 4, 6, 4]).phaseIn 4 4 = true ∧ 2 ≠ 0) ∧
    (0 < phaseCount 0 ∧ (wPhasesLeaveAndRejoin [2, 4, 2, 4]).railState 0 = 2 ∧ (wPhasesLeaveAndRejoin [2, 4, 2, 4]).phaseIn 0 0 = true ∧ (wPhasesLeaveAndRejoin [2, 4, 2, 4]).rd hubSt (O.RL_OPEN_RUN.at 0) ≤ ((wPhasesLeaveAndRejoin [2, 4, 2, 4]).phase 0 0).openRun) ∧
    (3 < phaseCount 4 ∧ ((wPhasesLeaveAndRejoin [5, 4, 6, 4]).railState 4 ≠ 2 ∨ (wPhasesLeaveAndRejoin [5, 4, 6, 4]).phaseIn 4 3 = false ∨ ((wPhasesLeaveAndRejoin [5, 4, 6, 4]).phase 4 3).openRun < (wPhasesLeaveAndRejoin [5, 4, 6, 4]).rd hubSt (O.RL_OPEN_RUN.at 4))) ∧
    (1 < phaseCount 4 ∧ (wPhasesLeaveAndRejoin [5, 4, 6, 4]).Admitted 0 hubSt (O.PH_CTRL.at 4) 2 ∧ (wPhasesLeaveAndRejoin [5, 4, 6, 4]).phaseIn 4 1 = true) ∧
    (0 < phaseCount 15 ∧ (wPhasesLeaveAndRejoin [7, 6, 5, 1]).Admitted 0 hubSt (O.PH_CTRL.at 15) 2 ∧ (wPhasesLeaveAndRejoin [7, 6, 5, 1]).phaseIn 15 0 = false) ∧
    (0 < phaseCount 15 ∧ (wPhasesLeaveAndRejoin [7, 6, 5, 1]).Admitted 0 hubSt (O.PH_CTRL.at 15) 2 ∧ (wPhasesLeaveAndRejoin [7, 6, 5, 1]).phaseFree 15 0 = true) ∧
    (1 < phaseCount 4 ∧ (wPhasesLeaveAndRejoin [5, 4, 6, 4]).Admitted 0 hubSt (O.PH_CTRL.at 4) 2 ∧ (wPhasesLeaveAndRejoin [5, 4, 6, 4]).phaseFree 4 1 = false) ∧
    (0 < phaseCount 0 ∧ (((wPhasesLeaveAndRejoin [3, 5, 7, 5]).phase 0 0).fallback = true ∧ ((wPhasesLeaveAndRejoin [3, 5, 7, 5]).phase 0 0).snsAt + 1000000 ≤ (wPhasesLeaveAndRejoin [3, 5, 7, 5]).time hubSt ∧ ((wPhasesLeaveAndRejoin [3, 5, 7, 5]).adc (railField 0) (phaseAdc 0 0)).failed = false ∧ ((wPhasesLeaveAndRejoin [3, 5, 7, 5]).adc (railField 0) (phaseAdc 0 0)).closed = false ∧ (wPhasesLeaveAndRejoin [3, 5, 7, 5]).phaseFault F.PH_SNS_FAIL 0 0 = false)) ∧
    (3 < phaseCount 4 ∧ ¬(((wPhasesLeaveAndRejoin [5, 4, 6, 4]).phase 4 3).fallback = true ∧ ((wPhasesLeaveAndRejoin [5, 4, 6, 4]).phase 4 3).snsAt + 1000000 ≤ (wPhasesLeaveAndRejoin [5, 4, 6, 4]).time hubSt ∧ ((wPhasesLeaveAndRejoin [5, 4, 6, 4]).adc (railField 4) (phaseAdc 4 3)).failed = false ∧ ((wPhasesLeaveAndRejoin [5, 4, 6, 4]).adc (railField 4) (phaseAdc 4 3)).closed = false ∧ (wPhasesLeaveAndRejoin [5, 4, 6, 4]).phaseFault F.PH_SNS_FAIL 4 3 = false)) := by
  refine ⟨?_, ?_, ?_, ?_, ?_, ?_, ?_, ?_, ?_⟩ <;> decide +kernel
def wRailsAndTheirBus : List Nat → State := pick
  ([rst, rA, pA, misc, wAlts (.field 0), wAlts (.domain 56), nA])
theorem test_meets_RailsAndTheirBus :
    (((wRailsAndTheirBus [1, 1, 5, 6, 1, 7, 3]).rail 15).stgEn = true ∧ ((wRailsAndTheirBus [1, 1, 5, 6, 1, 7, 3]).rail 15).stgAt + 50000 ≤ (wRailsAndTheirBus [1, 1, 5, 6, 1, 7, 3]).time hubSt) ∧
    ((((wRailsAndTheirBus [5, 4, 6, 4, 0, 3, 2]).rail 1).stgEn = false ∨ (wRailsAndTheirBus [5, 4, 6, 4, 0, 3, 2]).time hubSt < ((wRailsAndTheirBus [5, 4, 6, 4, 0, 3, 2]).rail 1).stgAt + 50000)) ∧
    (((wRailsAndTheirBus [6, 6, 3, 1, 2, 7, 5]).rail 0).stgDrop = true ∧ ((wRailsAndTheirBus [6, 6, 3, 1, 2, 7, 5]).rail 0).offAt + 10000 ≤ (wRailsAndTheirBus [6, 6, 3, 1, 2, 7, 5]).time hubSt) ∧
    ((((wRailsAndTheirBus [5, 4, 6, 4, 0, 3, 2]).rail 1).stgDrop = false ∨ (wRailsAndTheirBus [5, 4, 6, 4, 0, 3, 2]).time hubSt < ((wRailsAndTheirBus [5, 4, 6, 4, 0, 3, 2]).rail 1).offAt + 10000)) ∧
    (((wRailsAndTheirBus [6, 2, 0, 4, 5, 5, 3]).railState 0 = 1 ∨ (wRailsAndTheirBus [6, 2, 0, 4, 5, 5, 3]).railState 0 = 4) ∧ ((wRailsAndTheirBus [6, 2, 0, 4, 5, 5, 3]).rail 0).regFrom = some 0 ∧ 0 + 100000 ≤ (wRailsAndTheirBus [6, 2, 0, 4, 5, 5, 3]).time hubSt ∧ isFR 0 = true) ∧
    (((wRailsAndTheirBus [1, 2, 7, 0, 4, 0, 5]).railState 15 = 1 ∨ (wRailsAndTheirBus [1, 2, 7, 0, 4, 0, 5]).railState 15 = 4) ∧ ((wRailsAndTheirBus [1, 2, 7, 0, 4, 0, 5]).rail 15).regFrom = some 0 ∧ 0 + 100000 ≤ (wRailsAndTheirBus [1, 2, 7, 0, 4, 0, 5]).time hubSt ∧ isFR 15 = false) ∧
    (((wRailsAndTheirBus [1, 1, 5, 6, 1, 7, 3]).railState 15 = 1 ∨ (wRailsAndTheirBus [1, 1, 5, 6, 1, 7, 3]).railState 15 = 4) ∧ (∀ (u : ℕ), ((wRailsAndTheirBus [1, 1, 5, 6, 1, 7, 3]).rail 15).regFrom = some u → (wRailsAndTheirBus [1, 1, 5, 6, 1, 7, 3]).time hubSt < u + 100000)) ∧
    (((wRailsAndTheirBus [1, 5, 7, 3, 1, 2, 5]).railState 0 = 1 ∨ (wRailsAndTheirBus [1, 5, 7, 3, 1, 2, 5]).railState 0 = 4) ∧ ((wRailsAndTheirBus [1, 5, 7, 3, 1, 2, 5]).rail 0).startAt + (wRailsAndTheirBus [1, 5, 7, 3, 1, 2, 5]).rd hubSt (O.SS_TIMEOUT.at 0) ≤ (wRailsAndTheirBus [1, 5, 7, 3, 1, 2, 5]).time hubSt ∧ (wRailsAndTheirBus [1, 5, 7, 3, 1, 2, 5]).wstate (railWheel 0) = WState.starting) ∧
    (((wRailsAndTheirBus [6, 6, 3, 1, 2, 7, 5]).railState 0 = 1 ∨ (wRailsAndTheirBus [6, 6, 3, 1, 2, 7, 5]).railState 0 = 4) ∧ ((wRailsAndTheirBus [6, 6, 3, 1, 2, 7, 5]).rail 0).startAt + (wRailsAndTheirBus [6, 6, 3, 1, 2, 7, 5]).rd hubSt (O.SS_TIMEOUT.at 0) ≤ (wRailsAndTheirBus [6, 6, 3, 1, 2, 7, 5]).time hubSt ∧ (wRailsAndTheirBus [6, 6, 3, 1, 2, 7, 5]).wstate (railWheel 0) ≠ WState.starting) ∧
    (((wRailsAndTheirBus [1, 1, 5, 6, 1, 7, 3]).railState 15 = 1 ∨ (wRailsAndTheirBus [1, 1, 5, 6, 1, 7, 3]).railState 15 = 4) ∧ (wRailsAndTheirBus [1, 1, 5, 6, 1, 7, 3]).time hubSt < ((wRailsAndTheirBus [1, 1, 5, 6, 1, 7, 3]).rail 15).startAt + (wRailsAndTheirBus [1, 1, 5, 6, 1, 7, 3]).rd hubSt (O.SS_TIMEOUT.at 15)) ∧
    ((wRailsAndTheirBus [5, 4, 6, 4, 0, 3, 2]).railState 1 ≠ 1 ∧ (wRailsAndTheirBus [5, 4, 6, 4, 0, 3, 2]).railState 1 ≠ 4) ∧
    ((wRailsAndTheirBus [2, 2, 1, 2, 2, 2, 4]).railState 0 = 2 ∧ ((wRailsAndTheirBus [2, 2, 1, 2, 2, 2, 4]).rail 0).uvFrom = some 0 ∧ 0 + 10000 ≤ (wRailsAndTheirBus [2, 2, 1, 2, 2, 2, 4]).time hubSt) ∧
    (((wRailsAndTheirBus [5, 4, 6, 4, 0, 3, 2]).railState 1 ≠ 2 ∨ ∀ (u : ℕ), ((wRailsAndTheirBus [5, 4, 6, 4, 0, 3, 2]).rail 1).uvFrom = some u → (wRailsAndTheirBus [5, 4, 6, 4, 0, 3, 2]).time hubSt < u + 10000)) ∧
    (0 ∈ phasesOf 1) ∧
    (((wRailsAndTheirBus [5, 4, 6, 4, 0, 3, 2]).railSwitching 1 = false ∨ ((wRailsAndTheirBus [5, 4, 6, 4, 0, 3, 2]).ocRoll 1).ocMet 1 = false)) ∧
    ((wRailsAndTheirBus [5, 4, 4, 0, 3, 2, 5]).railState 15 = 3 ∧ ((wRailsAndTheirBus [5, 4, 4, 0, 3, 2, 5]).rail 15).hicAt + (wRailsAndTheirBus [5, 4, 4, 0, 3, 2, 5]).rd hubSt (O.RAIL_HICCUP_OFF.at 15) ≤ (wRailsAndTheirBus [5, 4, 4, 0, 3, 2, 5]).time hubSt) ∧
    (((wRailsAndTheirBus [5, 4, 6, 4, 0, 3, 2]).railState 1 ≠ 3 ∨ (wRailsAndTheirBus [5, 4, 6, 4, 0, 3, 2]).time hubSt < ((wRailsAndTheirBus [5, 4, 6, 4, 0, 3, 2]).rail 1).hicAt + (wRailsAndTheirBus [5, 4, 6, 4, 0, 3, 2]).rd hubSt (O.RAIL_HICCUP_OFF.at 1))) ∧
    ((wRailsAndTheirBus [2, 1, 2, 1, 3, 1, 5]).rd hubSt (O.HICCUPS.at 0) < (wRailsAndTheirBus [2, 1, 2, 1, 3, 1, 5]).rd hubSt (O.RAIL_HICCUP_LIMIT.at 0) ∧ ((wRailsAndTheirBus [2, 1, 2, 1, 3, 1, 5]).rail 0).retryAt + (wRailsAndTheirBus [2, 1, 2, 1, 3, 1, 5]).rd hubSt (O.RAIL_RETRY_WINDOW.at 0) ≤ (wRailsAndTheirBus [2, 1, 2, 1, 3, 1, 5]).time hubSt) ∧
    (((wRailsAndTheirBus [5, 4, 6, 4, 0, 3, 2]).rd hubSt (O.RAIL_HICCUP_LIMIT.at 1) ≤ (wRailsAndTheirBus [5, 4, 6, 4, 0, 3, 2]).rd hubSt (O.HICCUPS.at 1) ∨ (wRailsAndTheirBus [5, 4, 6, 4, 0, 3, 2]).time hubSt < ((wRailsAndTheirBus [5, 4, 6, 4, 0, 3, 2]).rail 1).retryAt + (wRailsAndTheirBus [5, 4, 6, 4, 0, 3, 2]).rd hubSt (O.RAIL_RETRY_WINDOW.at 1))) ∧
    (((wRailsAndTheirBus [3, 3, 8, 1, 2, 1, 4]).rail 15).discharge = false ∧ ((wRailsAndTheirBus [3, 3, 8, 1, 2, 1, 4]).rail 15).ovFrom = some 0 ∧ 0 + 1000 ≤ (wRailsAndTheirBus [3, 3, 8, 1, 2, 1, 4]).time hubSt) ∧
    (((wRailsAndTheirBus [3, 3, 8, 1, 2, 1, 4]).rail 15).discharge = false ∧ ((wRailsAndTheirBus [3, 3, 8, 1, 2, 1, 4]).rail 15).ovFrom = some 0 ∧ 0 + 1000 ≤ (wRailsAndTheirBus [3, 3, 8, 1, 2, 1, 4]).time hubSt ∧ 0 ∈ phasesOf 15) ∧
    ((((wRailsAndTheirBus [5, 4, 6, 4, 0, 3, 2]).rail 1).discharge = true ∨ ∀ (u : ℕ), ((wRailsAndTheirBus [5, 4, 6, 4, 0, 3, 2]).rail 1).ovFrom = some u → (wRailsAndTheirBus [5, 4, 6, 4, 0, 3, 2]).time hubSt < u + 1000)) ∧
    (((wRailsAndTheirBus [6, 5, 8, 3, 6, 0, 3]).rail 0).discharge = true ∧ ((wRailsAndTheirBus [6, 5, 8, 3, 6, 0, 3]).rail 0).ovAt + 100000 ≤ (wRailsAndTheirBus [6, 5, 8, 3, 6, 0, 3]).time hubSt) ∧
    ((((wRailsAndTheirBus [5, 4, 6, 4, 0, 3, 2]).rail 1).discharge = false ∨ (wRailsAndTheirBus [5, 4, 6, 4, 0, 3, 2]).time hubSt < ((wRailsAndTheirBus [5, 4, 6, 4, 0, 3, 2]).rail 1).ovAt + 100000)) ∧
    ((wRailsAndTheirBus [7, 4, 3, 0, 7, 0, 0]).pinsLive = true ∧ (wRailsAndTheirBus [7, 4, 3, 0, 7, 0, 0]).railState 0 = 5) ∧
    ((wRailsAndTheirBus [5, 4, 6, 4, 0, 3, 2]).pinsLive = true ∧ (wRailsAndTheirBus [5, 4, 6, 4, 0, 3, 2]).railState 1 ≠ 5) ∧
    (isFR 15 = false ∧ ((wRailsAndTheirBus [4, 2, 2, 1, 6, 4, 5]).rail 15).axFrom = some 0 ∧ 0 + 100000 ≤ (wRailsAndTheirBus [4, 2, 2, 1, 6, 4, 5]).time hubSt ∧ ((wRailsAndTheirBus [4, 2, 2, 1, 6, 4, 5]).rail 15).axLimit = false) ∧
    ((isFR 1 = true ∨ (∀ (u : ℕ), ((wRailsAndTheirBus [4, 3, 2, 0, 2, 4, 2]).rail 1).axFrom = some u → (wRailsAndTheirBus [4, 3, 2, 0, 2, 4, 2]).time hubSt < u + 100000) ∨ ((wRailsAndTheirBus [4, 3, 2, 0, 2, 4, 2]).rail 1).axLimit = true)) ∧
    (((wRailsAndTheirBus [6, 2, 8, 2, 6, 0, 4]).railSwitching 0 = true ∧ (wRailsAndTheirBus [6, 2, 8, 2, 6, 0, 4]).senses 0 = true ∧ (wRailsAndTheirBus [6, 2, 8, 2, 6, 0, 4]).rd hubSt (O.SENSE_SRC.at 0) = 0 ∧ ∃ u, ((wRailsAndTheirBus [6, 2, 8, 2, 6, 0, 4]).rail 0).snsFrom = some u ∧ u + 4000 ≤ (wRailsAndTheirBus [6, 2, 8, 2, 6, 0, 4]).time hubSt)) ∧
    (¬((wRailsAndTheirBus [4, 3, 2, 0, 2, 4, 2]).railSwitching 1 = true ∧ (wRailsAndTheirBus [4, 3, 2, 0, 2, 4, 2]).senses 1 = true ∧ (wRailsAndTheirBus [4, 3, 2, 0, 2, 4, 2]).rd hubSt (O.SENSE_SRC.at 1) = 0 ∧ ∃ u, ((wRailsAndTheirBus [4, 3, 2, 0, 2, 4, 2]).rail 1).snsFrom = some u ∧ u + 4000 ≤ (wRailsAndTheirBus [4, 3, 2, 0, 2, 4, 2]).time hubSt)) ∧
    (¬((wRailsAndTheirBus [4, 3, 2, 0, 2, 4, 2]).hasRecord F.SENSE_LOST hubSt 1 = false ∧ (wRailsAndTheirBus [4, 3, 2, 0, 2, 4, 2]).matched { code := F.SENSE_LOST, station := hubSt, item := 1 } = false ∧ (wRailsAndTheirBus [4, 3, 2, 0, 2, 4, 2]).senseAgrees 1 = true)) ∧
    (((0#64).toNat + 1000000 = (1000000#64).toNat ∧ (1000000#64).toNat = (wRailsAndTheirBus [3, 1, 3, 6, 1, 3, 4]).time hubSt ∧ (wRailsAndTheirBus [3, 1, 3, 6, 1, 3, 4]).periodic (markKey 1 0) hubSt 1000000 0 = true) ∧ (wRailsAndTheirBus [3, 1, 3, 6, 1, 3, 4]).rd hubSt (O.SENSE_SRC.at 0) = 0 ∧ (wRailsAndTheirBus [3, 1, 3, 6, 1, 3, 4]).railSwitching 0 = true ∧ ↑((wRailsAndTheirBus [3, 1, 3, 6, 1, 3, 4]).railPhases 0) * 4000 * ↑((wRailsAndTheirBus [3, 1, 3, 6, 1, 3, 4]).rail 0).curMs.n ≤ ((wRailsAndTheirBus [3, 1, 3, 6, 1, 3, 4]).rail 0).curMs.sum ∧ 0 < ((wRailsAndTheirBus [3, 1, 3, 6, 1, 3, 4]).rail 0).curMs.sum ∧ 0 < ((wRailsAndTheirBus [3, 1, 3, 6, 1, 3, 4]).rail 0).locMs.n ∧ 0 < ((wRailsAndTheirBus [3, 1, 3, 6, 1, 3, 4]).rail 0).remMs.n) ∧
    (((0#64).toNat + 1000000 = (1000000#64).toNat ∧ (1000000#64).toNat = (wRailsAndTheirBus [3, 1, 3, 6, 1, 3, 4]).time hubSt ∧ (wRailsAndTheirBus [3, 1, 3, 6, 1, 3, 4]).periodic (markKey 1 4) hubSt 1000000 0 = true) ∧ ((wRailsAndTheirBus [3, 1, 3, 6, 1, 3, 4]).rd hubSt (O.SENSE_SRC.at 4) = 1 ∨ (wRailsAndTheirBus [3, 1, 3, 6, 1, 3, 4]).railSwitching 4 = false ∨ ((wRailsAndTheirBus [3, 1, 3, 6, 1, 3, 4]).rail 4).curMs.sum < ↑((wRailsAndTheirBus [3, 1, 3, 6, 1, 3, 4]).railPhases 4) * 4000 * ↑((wRailsAndTheirBus [3, 1, 3, 6, 1, 3, 4]).rail 4).curMs.n)) ∧
    (¬((1000000000#64).toNat + 1000000 = (999000000#64).toNat ∧ (999000000#64).toNat = (wRailsAndTheirBus [4, 3, 2, 0, 2, 4, 2]).time hubSt ∧ (wRailsAndTheirBus [4, 3, 2, 0, 2, 4, 2]).periodic (markKey 1 1) hubSt 1000000 0 = true)) := by
  refine ⟨?_, ?_, ?_, ?_, ?_, ?_, ?_, ?_, ?_, ?_, ?_, ?_, ?_, ?_, ?_, ?_, ?_, ?_, ?_, ?_, ?_, ?_, ?_, ?_, ?_, ?_, ?_, ?_, ?_, ?_, ?_, ?_, ?_, ?_⟩ <;> decide +kernel
end Sys2Proof.Tests.C07

namespace Sys2Proof.Tests.C08

def cv (g : ConvRec → ConvRec) (s : State) : State := s.putConv 0 (g (s.conv 0))
def sgr (g : SegRec → SegRec) (s : State) : State := s.putSeg 0 (g (s.seg 0))
def dx : List (State → State) := alts hubSt (O.DX_STATE.at 0) [0,1,1,2,2,3,4,5,6]
def nA := nowAlts [0, 100, 1000000, 1000000000]
def pA : List (State → State) := [id, fun s => {s with pass := some ⟨0, 0x79, 2, false⟩}, fun s => {s with pass := some ⟨0, 0x88, 2, true⟩}, fun s => {s with pass := some ⟨1, 0x88, 2, true⟩}]
def cA : List (State → State) := [id, cv (fun x => {x with restoring := true}), cv (fun x => {x with enable := true, contacted := true, failRun := 2}), cv (fun x => {x with enable := true, contacted := true, polling := true, due := [0x79, 0x88, 0x8B], clean := true}), cv (fun x => {x with enable := true, contacted := true, contactDue := true, restoring := true})]
def sg : List (State → State) := alts hubSt (O.PB0_STATE) [0,0,0,1,2]
def wConvertersStartAndStop : List Nat → State := pick
  ([dx, cA, alts hubSt O.PEC_REQ [0,1], nA, [id, fun s => { s with flt := { s.flt with set := [newRecord s ⟨F.DX_START_FAIL, 0, 0⟩ 0 4 0 false false]}}]])
theorem test_meets_ConvertersStartAndStop :
    ((wConvertersStartAndStop [4, 4, 1, 2, 0]).Admitted 0 hubSt (O.DX_CTRL.at 2) 1 ∧ ((wConvertersStartAndStop [4, 4, 1, 2, 0]).dxState 2 = 0 ∨ (wConvertersStartAndStop [4, 4, 1, 2, 0]).dxState 2 = 5)) ∧
    ((wConvertersStartAndStop [4, 4, 1, 2, 0]).Admitted 0 hubSt (O.DX_CTRL.at 0) 1 ∧ (wConvertersStartAndStop [4, 4, 1, 2, 0]).dxState 0 ≠ 0 ∧ (wConvertersStartAndStop [4, 4, 1, 2, 0]).dxState 0 ≠ 5) ∧
    ((wConvertersStartAndStop [5, 4, 1, 0, 1]).Admitted 0 hubSt (O.DX_CTRL.at 0) 1 ∧ (wConvertersStartAndStop [5, 4, 1, 0, 1]).dxState 0 = 3) ∧
    ((wConvertersStartAndStop [4, 4, 1, 2, 0]).Admitted 0 hubSt (O.DX_CTRL.at 2) 1 ∧ (wConvertersStartAndStop [4, 4, 1, 2, 0]).dxState 2 ∉ [1, 2, 3]) ∧
    ((wConvertersStartAndStop [8, 1, 0, 1, 0]).Admitted 0 hubSt (O.DX_CTRL.at 0) 1 ∧ (((wConvertersStartAndStop [8, 1, 0, 1, 0]).dxState 0 = 4 ∨ (wConvertersStartAndStop [8, 1, 0, 1, 0]).dxState 0 = 6) ∧ (wConvertersStartAndStop [8, 1, 0, 1, 0]).dxFaulted 0 = false)) ∧
    ((wConvertersStartAndStop [4, 4, 1, 2, 0]).Admitted 0 hubSt (O.DX_CTRL.at 2) 1 ∧ ¬(((wConvertersStartAndStop [4, 4, 1, 2, 0]).dxState 2 = 4 ∨ (wConvertersStartAndStop [4, 4, 1, 2, 0]).dxState 2 = 6) ∧ (wConvertersStartAndStop [4, 4, 1, 2, 0]).dxFaulted 2 = false)) ∧
    ((((wConvertersStartAndStop [2, 1, 1, 3, 0]).conv 0).restoring = true ∧ ((wConvertersStartAndStop [2, 1, 1, 3, 0]).conv 0).contactDue = false ∧ ((wConvertersStartAndStop [2, 1, 1, 3, 0]).conv 0).due = [] ∧ ((wConvertersStartAndStop [2, 1, 1, 3, 0]).conv 0).restAt + 10000000 ≤ (wConvertersStartAndStop [2, 1, 1, 3, 0]).time hubSt)) ∧
    (¬(((wConvertersStartAndStop [5, 3, 1, 2, 0]).conv 4).restoring = true ∧ ((wConvertersStartAndStop [5, 3, 1, 2, 0]).conv 4).contactDue = false ∧ ((wConvertersStartAndStop [5, 3, 1, 2, 0]).conv 4).due = [] ∧ ((wConvertersStartAndStop [5, 3, 1, 2, 0]).conv 4).restAt + 10000000 ≤ (wConvertersStartAndStop [5, 3, 1, 2, 0]).time hubSt)) ∧
    (¬((wConvertersStartAndStop [5, 3, 1, 2, 0]).dxState 4 = 1 ∧ ((wConvertersStartAndStop [5, 3, 1, 2, 0]).conv 4).contactDue = false ∧ ((wConvertersStartAndStop [5, 3, 1, 2, 0]).conv 4).enAt + (wConvertersStartAndStop [5, 3, 1, 2, 0]).rd hubSt (O.START_TIME.at 4) ≤ (wConvertersStartAndStop [5, 3, 1, 2, 0]).time hubSt)) ∧
    (((wConvertersStartAndStop [2, 1, 1, 3, 0]).dxState 0 = 1 ∧ ((wConvertersStartAndStop [2, 1, 1, 3, 0]).conv 0).contactDue = false ∧ ((wConvertersStartAndStop [2, 1, 1, 3, 0]).conv 0).enAt + (wConvertersStartAndStop [2, 1, 1, 3, 0]).rd hubSt (O.START_TIME.at 0) ≤ (wConvertersStartAndStop [2, 1, 1, 3, 0]).time hubSt) ∧ true = true) ∧
    (((wConvertersStartAndStop [2, 1, 1, 3, 0]).dxState 0 = 1 ∧ ((wConvertersStartAndStop [2, 1, 1, 3, 0]).conv 0).contactDue = false ∧ ((wConvertersStartAndStop [2, 1, 1, 3, 0]).conv 0).enAt + (wConvertersStartAndStop [2, 1, 1, 3, 0]).rd hubSt (O.START_TIME.at 0) ≤ (wConvertersStartAndStop [2, 1, 1, 3, 0]).time hubSt) ∧ false = false ∧ ¬((16#16).toNat &&& 120 = 0 ∧ 80 * (wConvertersStartAndStop [2, 1, 1, 3, 0]).voutMv 0 (700#16).toNat ≤ 11 * satU 16 (linear11 (3#16).toNat 1000) ∧ 9 * satU 16 (linear11 (3#16).toNat 1000) ≤ 80 * (wConvertersStartAndStop [2, 1, 1, 3, 0]).voutMv 0 (700#16).toNat)) := by
  refine ⟨?_, ?_, ?_, ?_, ?_, ?_, ?_, ?_, ?_, ?_, ?_⟩ <;> decide +kernel
def wSegmentsAndTransactions : List Nat → State := pick
  ([dx, sg, cA, nA, pA, [id, sgr (fun x => {x with urgent := [0]}), sgr (fun x => {x with pollAt := some 0, fast := true})], alts hubSt O.PEC_REQ [0,1], [id, wr' hubSt (O.ADDR.at 0) 8, fun s => (List.range 16).foldl (fun s k => s.wr hubSt (O.ADDR.at k) (20+k)) s], [id, fun s => {s with seq := {s.seq with dxDrop := [0]}}]])
theorem test_meets_SegmentsAndTransactions :
    (¬(((wSegmentsAndTransactions [5, 3, 3, 2, 0, 1, 0, 2, 1]).conv 15).contactDue = true ∧ 3 ∉ ((wSegmentsAndTransactions [5, 3, 3, 2, 0, 1, 0, 2, 1]).conv 15).due ∧ (wSegmentsAndTransactions [5, 3, 3, 2, 0, 1, 0, 2, 1]).segWorks (convSeg 15) = true ∧ ¬((wSegmentsAndTransactions [5, 3, 3, 2, 0, 1, 0, 2, 1]).dxState 15 = 1 ∧ (wSegmentsAndTransactions [5, 3, 3, 2, 0, 1, 0, 2, 1]).time hubSt < ((wSegmentsAndTransactions [5, 3, 3, 2, 0, 1, 0, 2, 1]).conv 15).enAt + (wSegmentsAndTransactions [5, 3, 3, 2, 0, 1, 0, 2, 1]).rd hubSt (O.START_TIME.at 15)))) ∧
    (¬((wSegmentsAndTransactions [5, 3, 3, 2, 0, 1, 0, 2, 1]).segWorks 0 = true ∧ (∀ (u : ℕ), ((wSegmentsAndTransactions [5, 3, 3, 2, 0, 1, 0, 2, 1]).seg 0).pollAt = some u → u + (wSegmentsAndTransactions [5, 3, 3, 2, 0, 1, 0, 2, 1]).rd hubSt O.POLL_PERIOD ≤ (wSegmentsAndTransactions [5, 3, 3, 2, 0, 1, 0, 2, 1]).time hubSt) ∧ (∀ m ∈ segConvs 0, ((wSegmentsAndTransactions [5, 3, 3, 2, 0, 1, 0, 2, 1]).conv m).due = []) ∧ (wSegmentsAndTransactions [5, 3, 3, 2, 0, 1, 0, 2, 1]).passOn 0 = none)) ∧
    ((wSegmentsAndTransactions [5, 3, 3, 2, 0, 1, 0, 2, 1]).segWorks 0 = false) ∧
    ((wSegmentsAndTransactions [5, 3, 3, 2, 0, 1, 0, 2, 1]).rd hubSt (segObj 1) = 0) ∧
    ((wSegmentsAndTransactions [5, 3, 3, 2, 0, 1, 0, 2, 1]).rd hubSt (segObj 0) ≠ 0) ∧
    (¬((wSegmentsAndTransactions [2, 2, 1, 1, 1, 0, 1, 1, 1]).segWorks (convSeg 2) = true ∧ (wSegmentsAndTransactions [2, 2, 1, 1, 1, 0, 1, 1, 1]).pmDue 2 (2#8).toNat = true ∧ ∀ (q : PassReq), (wSegmentsAndTransactions [2, 2, 1, 1, 1, 0, 1, 1, 1]).passOn (convSeg 2) = some q → q.behind = true)) ∧
    (((wSegmentsAndTransactions [2, 2, 1, 1, 1, 0, 1, 1, 1]).segWorks (convSeg 2) = false ∨ ∀ (q : PassReq), (wSegmentsAndTransactions [2, 2, 1, 1, 1, 0, 1, 1, 1]).passOn (convSeg 2) = some q → q.conv ≠ 2 ∨ q.cmd ≠ (2#8).toNat ∨ q.behind = true)) ∧
    (((wSegmentsAndTransactions [2, 2, 1, 1, 1, 0, 1, 1, 1]).conv 2).failRun < 2) ∧
    (2 ≤ ((wSegmentsAndTransactions [6, 4, 2, 0, 1, 1, 0, 2, 0]).conv 0).failRun) ∧
    ((wSegmentsAndTransactions [6, 3, 4, 0, 3, 0, 0, 2, 0]).Admitted 0 hubSt O.PT_REQ 3 ∧ (8#8).toNat ≤ 32 ∧ (0 < (8#8).toNat ∧ (pmReads.contains (255#8).toNat = true ∨ 208 ≤ (255#8).toNat) ∨ 8#8 = 0 ∧ 255#8 = 3) ∧ (wSegmentsAndTransactions [6, 3, 4, 0, 3, 0, 0, 2, 0]).pass ≠ none) ∧
    ((wSegmentsAndTransactions [2, 2, 1, 1, 1, 0, 1, 1, 1]).Admitted 0 hubSt O.PT_REQ 3 ∧ (3#8).toNat ≤ 32 ∧ ¬(0 < (3#8).toNat ∧ (pmReads.contains (4#8).toNat = true ∨ 208 ≤ (4#8).toNat) ∨ 3#8 = 0 ∧ 4#8 = 3)) ∧
    ((wSegmentsAndTransactions [2, 2, 1, 1, 1, 0, 1, 1, 1]).Admitted 0 hubSt O.PT_REQ 3 ∧ 32 < (96#8).toNat) ∧
    ((0 ∉ (wSegmentsAndTransactions [2, 2, 1, 1, 1, 0, 1, 1, 1]).seq.dxDrop ∨ ¬((wSegmentsAndTransactions [2, 2, 1, 1, 1, 0, 1, 1, 1]).railLive (frRail 0) = false ∧ ((wSegmentsAndTransactions [2, 2, 1, 1, 1, 0, 1, 1, 1]).rail (frRail 0)).offAt + 1000000 ≤ (wSegmentsAndTransactions [2, 2, 1, 1, 1, 0, 1, 1, 1]).time hubSt) ∨ ¬((wSegmentsAndTransactions [2, 2, 1, 1, 1, 0, 1, 1, 1]).railLive (axRail 0) = false ∧ ((wSegmentsAndTransactions [2, 2, 1, 1, 1, 0, 1, 1, 1]).rail (axRail 0)).offAt + 1000000 ≤ (wSegmentsAndTransactions [2, 2, 1, 1, 1, 0, 1, 1, 1]).time hubSt))) := by
  refine ⟨?_, ?_, ?_, ?_, ?_, ?_, ?_, ?_, ?_, ?_, ?_, ?_, ?_⟩ <;> decide +kernel
end Sys2Proof.Tests.C08

namespace Sys2Proof.Tests.C09

def ad (g : AdcRec → AdcRec) (s : State) : State := s.putAdc 0 0 (g (s.adc 0 0))
def h0 : AdcHold := { entry := 0, channel := 3, time := 5, urgent := true, late := false, trig := none, slot := 7, rnr := false }
def aA : List (State → State) := [id, ad (fun x => {x with swapDue := true}), ad (fun x => {x with calib := some 2, calBack := true}),  ad (fun x => {x with failed := true}), ad (fun x => {x with calib := some 0}), ad (fun x => {x with active := []}),
  ad (fun x => {x with runs := [⟨0, true, none, [(0,1),(1,2)], 0, 0, true, 0⟩]}), ad (fun x => {x with runs := [⟨0, true, none, [(0,3),(1,2)], 0, 0, true, 0⟩], holds := [h0]}), ad (fun x => {x with runs := [⟨0, false, none, [(0,3),(1,2)], 0, 0, true, 0⟩], holds := [h0]}), ad (fun x => {x with flight := [h0], lastSlot := some 0}), ad (fun x => {x with flight := [{h0 with rnr := true}], holds := [h0, {h0 with urgent := false}]})]
def rf : List (State → State) := alts (fSt 0) (O.REF_STATE.at 0) [0,1,2]
def en : List (State → State) := alts (fSt 0) (O.REF_EN.at 0) [0,1]
def rst : List (State → State) := alts hubSt (O.RAIL_STATE.at 0) [0,1,2,3,5]
def tl (s : State) : State := s.putTel (clSt 0 0) 0x2800 { s.tel (clSt 0 0) 0x2800 with v := ⟨2, 5, 1, 4⟩, i := ⟨2, 5, 1, 4⟩, p := ⟨3, -5, -9, 4⟩, v1 := ⟨2, 1501, 700, 801⟩, v2 := ⟨2, 1501, 700, 801⟩ }
def th (g : ThermRec → ThermRec) (s : State) : State := s.putTherm 0 (g (s.therm 0))
def sm : Samp := ⟨1, 300, 300, 300⟩
def wConversionsAreScheduled : List Nat → State := pick
  ([aA, rf, nowAlts [0, 8, 1000, 10000, 1000000000, 86400000000000]])
theorem test_meets_ConversionsAreScheduled :
    ((wConversionsAreScheduled [8, 0, 3]).periodic (markKey 2 (2 * adcKey 7 4 + 1)) (fSt 7) ((wConversionsAreScheduled [8, 0, 3]).rd (fSt 7) ((if 1 = 0 then O.TMR0_PERIOD else O.TMR1_PERIOD).at 4)) ((wConversionsAreScheduled [8, 0, 3]).rd (fSt 7) ((if 1 = 0 then O.TMR0_PHASE else O.TMR1_PHASE).at 4)) = true) ∧
    ((wConversionsAreScheduled [4, 2, 2]).periodic (markKey 2 (2 * adcKey 7 4 + 1)) (fSt 7) ((wConversionsAreScheduled [4, 2, 2]).rd (fSt 7) ((if 1 = 0 then O.TMR0_PERIOD else O.TMR1_PERIOD).at 4)) ((wConversionsAreScheduled [4, 2, 2]).rd (fSt 7) ((if 1 = 0 then O.TMR0_PHASE else O.TMR1_PHASE).at 4)) = false) ∧
    ((wConversionsAreScheduled [8, 0, 3]).Admitted 0 (fSt 7) (O.SW_TRIG.at 4) 4) ∧
    (seqEn ((wConversionsAreScheduled [8, 0, 3]).adcSeq 7 4 4) = false) ∧
    (List.find? (fun x => x.seq == 0 && x.dueAt ((wConversionsAreScheduled [6, 0, 0]).time (fSt 0))) ((wConversionsAreScheduled [6, 0, 0]).adc 0 0).runs = some ({ seq := 0, urgent := true, trig := none, entries := [(0, 1), (1, 2)], firedAt := 0, delay := 0, fresh := true, period := 0 } : AdcRun)) ∧
    (({ seq := 0, urgent := true, trig := none, entries := [(0, 3), (1, 2)], firedAt := 0, delay := 0, fresh := true, period := 0 } : AdcRun).urgent = true ∧ (({ seq := 0, urgent := true, trig := none, entries := [(0, 3), (1, 2)], firedAt := 0, delay := 0, fresh := true, period := 0 } : AdcRun).entries.any fun e => ((wConversionsAreScheduled [8, 0, 3]).adc 7 4).occupied e.2) = false) ∧
    (({ seq := 0, urgent := true, trig := none, entries := [(0, 3), (1, 2)], firedAt := 0, delay := 0, fresh := true, period := 0 } : AdcRun).urgent = true ∧ (({ seq := 0, urgent := true, trig := none, entries := [(0, 3), (1, 2)], firedAt := 0, delay := 0, fresh := true, period := 0 } : AdcRun).entries.any fun e => ((wConversionsAreScheduled [8, 0, 3]).adc 0 0).occupied e.2) = true) ∧
    (({ seq := 0, urgent := false, trig := none, entries := [(0, 3), (1, 2)], firedAt := 0, delay := 0, fresh := true, period := 0 } : AdcRun).urgent = false) ∧
    (List.find? (fun x => x.seq == 0 && x.dueAt ((wConversionsAreScheduled [8, 0, 3]).time (fSt 7))) ((wConversionsAreScheduled [8, 0, 3]).adc 7 4).runs = none) ∧
    (((((wConversionsAreScheduled [8, 0, 3]).settleSwap 0 0).adc 0 0).failed = false ∧ (((wConversionsAreScheduled [8, 0, 3]).settleSwap 0 0).adc 0 0).closed = false ∧ ∀ (u : ℕ), (((wConversionsAreScheduled [8, 0, 3]).settleSwap 0 0).adc 0 0).lastSlot = some u → 125 ≤ 2 * ((wConversionsAreScheduled [8, 0, 3]).time (fSt 0) - u)) ∧ pickHold (((wConversionsAreScheduled [8, 0, 3]).settleSwap 0 0).adc 0 0).holds = some ({ entry := 0, channel := 3, time := 5, urgent := true, late := false, trig := none, slice := 0, slot := 7, rnr := false, period := 0 } : AdcHold) ∧ (((wConversionsAreScheduled [8, 0, 3]).settleSwap 0 0).adc 0 0).freeSlice ((wConversionsAreScheduled [8, 0, 3]).time (fSt 0)) = some 0) ∧
    ((¬((((wConversionsAreScheduled [8, 0, 3]).settleSwap 7 4).adc 7 4).failed = false ∧ (((wConversionsAreScheduled [8, 0, 3]).settleSwap 7 4).adc 7 4).closed = false ∧ ∀ (u : ℕ), (((wConversionsAreScheduled [8, 0, 3]).settleSwap 7 4).adc 7 4).lastSlot = some u → 125 ≤ 2 * ((wConversionsAreScheduled [8, 0, 3]).time (fSt 7) - u)) ∨ pickHold (((wConversionsAreScheduled [8, 0, 3]).settleSwap 7 4).adc 7 4).holds = none ∨ (((wConversionsAreScheduled [8, 0, 3]).settleSwap 7 4).adc 7 4).freeSlice ((wConversionsAreScheduled [8, 0, 3]).time (fSt 7)) = none)) := by
  refine ⟨?_, ?_, ?_, ?_, ?_, ?_, ?_, ?_, ?_, ?_, ?_⟩ <;> decide +kernel
def wResultsAndSlices : List Nat → State := pick
  ([aA, rf, nowAlts [0, 8, 1000, 10000, 1000000000, 86400000000000], [id] ++ alts (fSt 0) (O.SPARE_SLICE.at 0) [0xFF, 3]])
theorem test_meets_ResultsAndSlices :
    (((((wResultsAndSlices [8, 0, 3, 1]).settleSwap 4 3).adc 4 3).flight = [] ∨ (((wResultsAndSlices [8, 0, 3, 1]).settleSwap 4 3).adc 4 3).failed = true ∨ (((wResultsAndSlices [8, 0, 3, 1]).settleSwap 4 3).adc 4 3).closed = true)) ∧
    ((((wResultsAndSlices [2, 0, 5, 2]).adc 1 4).failed = false ∧ ((wResultsAndSlices [2, 0, 5, 2]).adc 1 4).closed = false ∧ ((wResultsAndSlices [2, 0, 5, 2]).adc 1 4).calib = none ∧ ((wResultsAndSlices [2, 0, 5, 2]).adc 1 4).swapDue = false ∧ (wResultsAndSlices [2, 0, 5, 2]).rd (fSt 1) (O.CAL_PERIOD.at 4) ≠ 0 ∧ ((wResultsAndSlices [2, 0, 5, 2]).adc 1 4).swapAt + (wResultsAndSlices [2, 0, 5, 2]).rd (fSt 1) (O.CAL_PERIOD.at 4) ≤ (wResultsAndSlices [2, 0, 5, 2]).time (fSt 1))) ∧
    (¬(((wResultsAndSlices [8, 0, 3, 1]).adc 4 3).failed = false ∧ ((wResultsAndSlices [8, 0, 3, 1]).adc 4 3).closed = false ∧ ((wResultsAndSlices [8, 0, 3, 1]).adc 4 3).calib = none ∧ ((wResultsAndSlices [8, 0, 3, 1]).adc 4 3).swapDue = false ∧ (wResultsAndSlices [8, 0, 3, 1]).rd (fSt 4) (O.CAL_PERIOD.at 3) ≠ 0 ∧ ((wResultsAndSlices [8, 0, 3, 1]).adc 4 3).swapAt + (wResultsAndSlices [8, 0, 3, 1]).rd (fSt 4) (O.CAL_PERIOD.at 3) ≤ (wResultsAndSlices [8, 0, 3, 1]).time (fSt 4))) ∧
    (((wResultsAndSlices [1, 1, 5, 2]).adc 0 0).swapDue = true ∧ ((wResultsAndSlices [1, 1, 5, 2]).adc 0 0).active = [0, 1, 2, 3] ∧ (∀ (u : ℕ), tblFind ((wResultsAndSlices [1, 1, 5, 2]).adc 0 0).used 0 = some u → u + 250 ≤ (wResultsAndSlices [1, 1, 5, 2]).time (fSt 0))) ∧
    (((wResultsAndSlices [8, 0, 3, 1]).adc 4 3).swapDue = false) ∧
    (((wResultsAndSlices [2, 1, 0, 2]).adc 0 0).calib = some 2 ∧ ((wResultsAndSlices [2, 1, 0, 2]).adc 0 0).calBack = true) ∧
    (((wResultsAndSlices [8, 0, 3, 1]).adc 4 3).calib = none) ∧
    ((wResultsAndSlices [8, 0, 3, 1]).rd (fSt 4) (O.REF_STATE.at 3) = 1) ∧
    ((wResultsAndSlices [8, 0, 3, 1]).rd (fSt 0) (O.REF_STATE.at 0) ≠ 1) := by
  refine ⟨?_, ?_, ?_, ?_, ?_, ?_, ?_, ?_, ?_⟩ <;> decide +kernel
def wConverterWritesAreChecked : List Nat → State := pick
  ([rf, en, rst])
theorem test_meets_ConverterWritesAreChecked :
    ((wConverterWritesAreChecked [2, 0, 3]).Admitted 0 (fSt 0) (O.REF_EN.at 0) 1 ∧ (wConverterWritesAreChecked [2, 0, 3]).rd (fSt 0) (O.REF_EN.at 0) ≠ 1) ∧
    ((wConverterWritesAreChecked [2, 0, 3]).Admitted 0 (fSt 0) (O.REF_EN.at 4) 1 ∧ (wConverterWritesAreChecked [2, 0, 3]).rd (fSt 0) (O.REF_EN.at 4) = 1) ∧
    ((wConverterWritesAreChecked [2, 0, 3]).Admitted 0 (fSt 0) (O.REF_EN.at 4) 1 ∧ ((wConverterWritesAreChecked [2, 0, 3]).railState (adcRail 0 4) = 0 ∨ (wConverterWritesAreChecked [2, 0, 3]).railState (adcRail 0 4) = 5)) ∧
    ((wConverterWritesAreChecked [2, 0, 3]).Admitted 0 (fSt 0) (O.REF_EN.at 2) 1 ∧ (wConverterWritesAreChecked [2, 0, 3]).railState (adcRail 0 2) ≠ 0 ∧ (wConverterWritesAreChecked [2, 0, 3]).railState (adcRail 0 2) ≠ 5) ∧
    ((wConverterWritesAreChecked [2, 0, 3]).Admitted 0 (fSt 0) (O.REF_EN.at 4) 1 ∧ 1 < (16#8).toNat) ∧
    ((wConverterWritesAreChecked [2, 0, 3]).Admitted 0 (fSt 0) ((O.SEQ.at 4).nth 23) 4 ∧ (wConverterWritesAreChecked [2, 0, 3]).seqOk 0 4 23 ((0#32).toNat - flagAt (bit (0#32).toNat 11) 11) = true) ∧
    ((wConverterWritesAreChecked [2, 0, 3]).Admitted 0 (fSt 0) ((O.SEQ.at 4).nth 23) 4 ∧ (wConverterWritesAreChecked [2, 0, 3]).seqOk 0 4 23 ((60000#32).toNat - flagAt (bit (60000#32).toNat 11) 11) = false) ∧
    ((wConverterWritesAreChecked [2, 0, 3]).Admitted 0 (fSt 0) ((O.CMP_CFG.at 4).nth 2) 4 ∧ cmpOk ((1#32).toNat - bits (1#32).toNat 30 29 * 2 ^ 29) ((wConverterWritesAreChecked [2, 0, 3]).rd (fSt 0) (O.CMP_HYST.at 4)) = false) := by
  refine ⟨?_, ?_, ?_, ?_, ?_, ?_, ?_, ?_⟩ <;> decide +kernel
def wWindowsCloseAndPublish : List Nat → State := pick
  ([[id, tl, tl], [id, fun s => {s with pub := {s.pub with seq10 := 2^32 - 1}}]])
theorem test_meets_WindowsCloseAndPublish :
    ((wWindowsCloseAndPublish [2, 0]).periodic (markKey (3, 10000).1 Station.hub.addr) Station.hub.addr (3, 10000).2 0 = true) ∧
    ((wWindowsCloseAndPublish [1, 1]).periodic (markKey 3 (clSt 0 0)) (clSt 0 0) 10000 0 = true ∧ ((wWindowsCloseAndPublish [1, 1]).tel (clSt 0 0) 10240).v.n ≠ 0) ∧
    ((wWindowsCloseAndPublish [1, 1]).periodic (markKey 3 (clSt 0 0)) (clSt 0 0) 10000 0 = true ∧ ((wWindowsCloseAndPublish [1, 1]).tel (clSt 0 0) 10240).i.n ≠ 0) ∧
    ((wWindowsCloseAndPublish [2, 0]).periodic (markKey 3 hubSt) hubSt 10000 0 = true) ∧
    ((wWindowsCloseAndPublish [2, 0]).periodic (markKey 3 (fSt 0)) (fSt 0) 10000 0 = true) ∧
    ((wWindowsCloseAndPublish [1, 1]).periodic (markKey 4 (clSt 0 0)) (clSt 0 0) 1000000 0 = true ∧ ((wWindowsCloseAndPublish [1, 1]).tel (clSt 0 0) 10240).v1.n ≠ 0) ∧
    ((wWindowsCloseAndPublish [2, 0]).Admitted 0 (telAddr (TelRef.temp 0)).1 { index := (telAddr (TelRef.temp 0)).2.1, sub := (telAddr (TelRef.temp 0)).2.2 } 1 ∧ TelRef.temp 0 = TelRef.temp 0) ∧
    ((wWindowsCloseAndPublish [2, 0]).Admitted 0 (telAddr (TelRef.domain 0)).1 { index := (telAddr (TelRef.domain 0)).2.1, sub := (telAddr (TelRef.domain 0)).2.2 } 1 ∧ (∀ (g : FieldId), TelRef.domain 0 ≠ TelRef.temp g)) ∧
    ((wWindowsCloseAndPublish [2, 0]).Admitted 0 (telAddr (TelRef.domain 0)).1 { index := (telAddr (TelRef.domain 0)).2.1, sub := (telAddr (TelRef.domain 0)).2.2 } 1 ∧ 1 < (2#8).toNat) ∧
    ((wWindowsCloseAndPublish [2, 0]).periodic (markKey (if false = true then 7 else 6) hubSt) hubSt (if false = true then 1000000 else 10000) 0 = true ∧ false = false) ∧
    ((wWindowsCloseAndPublish [2, 0]).periodic (markKey (if true = true then 7 else 6) hubSt) hubSt (if true = true then 1000000 else 10000) 0 = true ∧ true = true) := by
  refine ⟨?_, ?_, ?_, ?_, ?_, ?_, ?_, ?_, ?_, ?_, ?_⟩ <;> decide +kernel
def wThermalUnitRuns : List Nat → State := pick
  ([[id, th (fun x => {x with d0 := {x.d0 with valid := true}}), th (fun x => {x with d0 := {x.d0 with valid := true, last := 5, resid := sm}}), th (fun x => {x with d0 := {x.d0 with resid := ⟨2,-77,-40,-37⟩}}), th (fun x => {x with seen := true})], [id, wrs [(fSt 0, O.REF_STATE.at 0, 2),(fSt 0, O.REF_STATE.at 1, 2)]], alts (fSt 0) O.UNIT_STATE [0,1,2], nowAlts [0, 3000000, 2500, 12500]])
theorem test_meets_ThermalUnitRuns :
    ((wThermalUnitRuns [4, 0, 0, 2]).Admitted 0 (fSt 1) O.PARAMS [16#8].length ∧ [16#8].length ≠ 860) ∧
    ((wThermalUnitRuns [1, 0, 2, 0]).periodic (markKey 14 0) (fSt 0) 10000 2500 = false) ∧
    ((wThermalUnitRuns [4, 0, 0, 2]).periodic (markKey 14 4) (fSt 4) 10000 2500 = true ∧ (true = true ∨ (wThermalUnitRuns [4, 0, 0, 2]).rd (fSt 4) O.UNIT_STATE = 2)) ∧
    ((wThermalUnitRuns [2, 0, 0, 2]).periodic (markKey 14 0) (fSt 0) 10000 2500 = true ∧ false = false ∧ (wThermalUnitRuns [2, 0, 0, 2]).rd (fSt 0) O.UNIT_STATE = 0 ∧ ((wThermalUnitRuns [2, 0, 0, 2]).therm 0).d0.valid = true) ∧
    ((wThermalUnitRuns [1, 0, 2, 0]).periodic (markKey 15 0) (fSt 0) 1000000 0 = true) ∧
    (((wThermalUnitRuns [4, 0, 0, 2]).therm 4).d0.meanResid = none ∧ ((wThermalUnitRuns [4, 0, 0, 2]).therm 4).d1.meanResid = none) ∧
    (((wThermalUnitRuns [2, 0, 1, 1]).therm 0).d0.meanResid = some 300 ∧ ((wThermalUnitRuns [2, 0, 1, 1]).therm 0).d1.meanResid = none ∧ (wThermalUnitRuns [2, 0, 1, 1]).hasRecord F.TH_DIODE_SPLIT (fSt 0) 0 = false ∧ (wThermalUnitRuns [2, 0, 1, 1]).matched { code := F.TH_DIODE_SPLIT, station := fSt 0, item := 0 } = false ∧ (wThermalUnitRuns [2, 0, 1, 1]).rd (fSt 0) O.UNIT_STATE ≠ 2 ∧ (wThermalUnitRuns [2, 0, 1, 1]).rd (fSt 0) O.CORR_GAIN ≠ 0) ∧
    ((((wThermalUnitRuns [2, 0, 1, 1]).therm 0).diode 0).valid = true ∧ (((wThermalUnitRuns [2, 0, 1, 1]).therm 0).diode 0).last + 1000000 ≤ (wThermalUnitRuns [2, 0, 1, 1]).time (fSt 0)) ∧
    (((((wThermalUnitRuns [4, 0, 0, 2]).therm 4).diode 1).valid = false ∨ (wThermalUnitRuns [4, 0, 0, 2]).time (fSt 4) < (((wThermalUnitRuns [4, 0, 0, 2]).therm 4).diode 1).last + 1000000)) ∧
    (¬((∀ k < 2, tblGet 0 ((wThermalUnitRuns [4, 0, 0, 2]).therm 4).readyAt k ≠ 0 ∧ tblGet 0 ((wThermalUnitRuns [4, 0, 0, 2]).therm 4).readyAt k + 10000000 ≤ (wThermalUnitRuns [4, 0, 0, 2]).time (fSt 4) + 1) ∧ ((wThermalUnitRuns [4, 0, 0, 2]).therm 4).seen = false ∧ ((wThermalUnitRuns [4, 0, 0, 2]).therm 4).startLost = false)) := by
  refine ⟨?_, ?_, ?_, ?_, ?_, ?_, ?_, ?_, ?_, ?_⟩ <;> decide +kernel
end Sys2Proof.Tests.C09

namespace Sys2Proof.Tests.C10

def img : Image := { kind := 2, order := 0, cbase := 0, wbase := 0, wlines := 0, flags := 0, xline0 := 0, xline1 := 0, regfmt := [], ps := [1,2], xscale := [], words := [0xFC000000], consts := [], init := [], id := 77, ttab := 5 }
def descL : List Nat := [77,0,0,0,1,0,0,0] ++ List.replicate (0x4E-8) 0 ++ [0x60,0xEA] ++ List.replicate (0x60-0x50) 0 ++ [2,2,2,2] ++ List.replicate (0xFC-0x64) 0
def desc : List Byte := (descL.map (BitVec.ofNat 8)) ++ leBytes 4 2892715724
def withDesc (s : State) : State := (List.range 4).foldl (fun s g => (s.putEng (gle 0 g) { s.eng (gle 0 g) with images := [(0, some img)] }).putBlob (fSt 0) (O.DESC.at g) desc) s
def tl (g : TileRec → TileRec) (s : State) : State := s.putTile 0 0 (g (s.tile 0 0))
def ent (h id st : Nat) (s : State) : State := (s.newEntry h id).setEntryState h st
def pr : PartRec := { weight := 3, pmin := 1, pmax := 900, mask := 7 }
def b32 (l : List Byte) : List Byte := l ++ List.replicate (32 - l.length) 0xFF
def wActivityAndLearning : List Nat → State := pick
  ([[id, withDesc], [id, fun s => s.putArb 0 { s.arb 0 with axPower := some 900 }], [id, tl (fun x => {x with counts := List.replicate 48 3, closed := [⟨5, 100, false⟩], frozen := 3, estSum := 700, estN := 3, asked := 2, goodRun := 4}), tl (fun x => {x with closed := [⟨5, 100, true⟩, ⟨7, 4, false⟩]})], [id, fun s => s.putLoop 0 (tileCluster 0) { s.loop 0 (tileCluster 0) with reply := [(5, 123456, false)] }], [id, ws [(.cluster 0 (tileCluster 0), .running)]]])
theorem test_meets_ActivityAndLearning :
    (([] : List (BitVec 32)) = []) ∧
    (((wActivityAndLearning [1, 0, 0, 0, 0]).tile 3 4).counts = []) ∧
    (tblGet 0 (wActivityAndLearning [1, 0, 0, 0, 0]).marks (markKey 10 3) ≠ (wActivityAndLearning [1, 0, 0, 0, 0]).time (fSt 3) / 10000 + 1 ∧ ((wActivityAndLearning [1, 0, 0, 0, 0]).arb 3).axPower = none) ∧
    (tblGet 0 (wActivityAndLearning [0, 1, 0, 0, 1]).marks (markKey 10 0) ≠ (wActivityAndLearning [0, 1, 0, 0, 1]).time (fSt 0) / 10000 + 1 ∧ ((wActivityAndLearning [0, 1, 0, 0, 1]).arb 0).axPower = some 900) ∧
    ((wActivityAndLearning [1, 1, 2, 1, 1]).Admitted 0 (fSt 0) (O.DESC.at 0) [255#8, 16#8, 0#8].length ∧ [255#8, 16#8, 0#8].length ≠ 256) ∧
    ((wActivityAndLearning [1, 1, 2, 1, 1]).periodic (markKey 8 0) (fSt 0) 1000000 0 = true) ∧
    (((wActivityAndLearning [1, 1, 2, 1, 1]).loop 0 (tileCluster 15)).reply = []) ∧
    (((wActivityAndLearning [1, 1, 1, 1, 1]).loop 0 (tileCluster 0)).reply = [(5, 123456, false)] ∧ List.find? (fun w => w.endAt == (5, 123456, false).1) ((wActivityAndLearning [1, 1, 1, 1, 1]).tile 0 0).closed = some ({ endAt := 5, est := 100, gap := false } : Closed) ∧ (123456, false).2 = false ∧ ({ endAt := 5, est := 100, gap := false } : Closed).gap = false ∧ (wActivityAndLearning [1, 1, 1, 1, 1]).time (fSt 0) ≤ (5, 123456, false).1 + 100000 ∧ (wActivityAndLearning [1, 1, 1, 1, 1]).tileLive 0 0 = true) ∧
    (((wActivityAndLearning [0, 0, 2, 1, 0]).loop 0 (tileCluster 0)).reply = [(5, 123456, false)] ∧ ((123456, false).2 = true ∨ List.find? (fun w => w.endAt == (5, 123456, false).1) ((wActivityAndLearning [0, 0, 2, 1, 0]).tile 0 0).closed = none ∨ (5, 123456, false).1 + 100000 < (wActivityAndLearning [0, 0, 2, 1, 0]).time (fSt 0) ∨ (wActivityAndLearning [0, 0, 2, 1, 0]).tileLive 0 0 = false)) ∧
    ((wActivityAndLearning [1, 1, 2, 1, 1]).Admitted 0 (fSt 0) O.FREEZE_CTRL 4 ∧ (20#16).getLsbD 1 = false) ∧
    ((wActivityAndLearning [1, 1, 2, 1, 1]).Admitted 0 (fSt 0) O.FREEZE_CTRL 4 ∧ (1#16).getLsbD 0 = true ∧ ((wActivityAndLearning [1, 1, 2, 1, 1]).descFor 0 (estGroup 0)).isSome = true) ∧
    ((wActivityAndLearning [1, 1, 2, 1, 1]).Admitted 0 (fSt 0) O.FREEZE_CTRL 4 ∧ ((1#16).getLsbD 1 = false ∨ (wActivityAndLearning [1, 1, 2, 1, 1]).descFor 0 (estGroup 1) = none)) := by
  refine ⟨?_, ?_, ?_, ?_, ?_, ?_, ?_, ?_, ?_, ?_, ?_, ?_⟩ <;> decide +kernel
def wJobsOpenAndClose : List Nat → State := pick
  ([[id, ent 0 1 1, ent 0 1 2, ent 1 255 3, ent 0 1 3], [id, ent 2 255 1, ent 3 2 3], [id, fun s => { s with ledger := { s.ledger with overflow := [8], binds := [(0, [0,1,0,5])] } }]])
theorem test_meets_JobsOpenAndClose :
    ((wJobsOpenAndClose [4, 0, 0]).Admitted 0 hubSt O.JOB_OPEN 8 ∧ 0#64 = 0) ∧
    ((wJobsOpenAndClose [2, 2, 1]).Admitted 0 hubSt O.JOB_OPEN 8 ∧ 8#64 ≠ 0 ∧ (8#64).toNat ∈ (wJobsOpenAndClose [2, 2, 1]).ledger.overflow) ∧
    ((wJobsOpenAndClose [2, 1, 1]).Admitted 0 hubSt O.JOB_OPEN 8 ∧ 0 < 4096 ∧ 1#64 ≠ 0 ∧ (1#64).toNat ∉ (wJobsOpenAndClose [2, 1, 1]).ledger.overflow ∧ (wJobsOpenAndClose [2, 1, 1]).findJob (1#64).toNat = some 0 ∧ (wJobsOpenAndClose [2, 1, 1]).entryState 0 ≠ 3) ∧
    ((wJobsOpenAndClose [3, 2, 1]).Admitted 0 hubSt O.JOB_CLOSE 8 ∧ (8#64).toNat ∈ (wJobsOpenAndClose [3, 2, 1]).ledger.overflow) ∧
    ((wJobsOpenAndClose [1, 1, 0]).Admitted 0 hubSt O.JOB_CLOSE 8 ∧ (1#64).toNat ∉ (wJobsOpenAndClose [1, 1, 0]).ledger.overflow ∧ 0 < 4096 ∧ 1#64 ≠ 0 ∧ (wJobsOpenAndClose [1, 1, 0]).findJob (1#64).toNat = some 0 ∧ (wJobsOpenAndClose [1, 1, 0]).entryState 0 = 1) ∧
    ((wJobsOpenAndClose [0, 1, 1]).Admitted 0 hubSt O.JOB_CLOSE 8 ∧ (255#64).toNat ∉ (wJobsOpenAndClose [0, 1, 1]).ledger.overflow ∧ 2 < 4096 ∧ 255#64 ≠ 0 ∧ (wJobsOpenAndClose [0, 1, 1]).findJob (255#64).toNat = some 2 ∧ (wJobsOpenAndClose [0, 1, 1]).entryState 2 = 1 ∧ 2 ≠ 65535) ∧
    ((wJobsOpenAndClose [4, 0, 0]).Admitted 0 hubSt O.JOB_CLOSE 8 ∧ (20#64).toNat ∉ (wJobsOpenAndClose [4, 0, 0]).ledger.overflow ∧ (∀ (h : ℕ), (wJobsOpenAndClose [4, 0, 0]).findJob (20#64).toNat = some h → 20#64 = 0 ∨ (wJobsOpenAndClose [4, 0, 0]).entryState h ≠ 1)) ∧
    ((wJobsOpenAndClose [4, 0, 0]).Admitted 0 hubSt O.JOB_FREE 2 ∧ (0#16).toNat < 4095 ∧ (wJobsOpenAndClose [4, 0, 0]).entryState (0#16).toNat = 3) ∧
    ((wJobsOpenAndClose [4, 0, 0]).Admitted 0 hubSt O.JOB_FREE 2 ∧ (4095 ≤ (8#16).toNat ∨ (wJobsOpenAndClose [4, 0, 0]).entryState (8#16).toNat ≠ 3)) ∧
    ((wJobsOpenAndClose [4, 0, 0]).Admitted 0 hubSt O.JOB_FIND 8 ∧ 0 < 4096 ∧ 1#64 ≠ 0 ∧ (wJobsOpenAndClose [4, 0, 0]).findJob (1#64).toNat = some 0) ∧
    ((wJobsOpenAndClose [4, 0, 0]).Admitted 0 hubSt O.JOB_FIND 8 ∧ (4#64 = 0 ∨ (wJobsOpenAndClose [4, 0, 0]).findJob (4#64).toNat = none)) := by
  refine ⟨?_, ?_, ?_, ?_, ?_, ?_, ?_, ?_, ?_, ?_, ?_⟩ <;> decide +kernel
def wFlushesAndBindings : List Nat → State := pick
  ([[id, ent 0 1 1, ent 0 1 2], [id, fun s => s.putPart 0 (some pr)], [id, fun s => {s with ledger := {s.ledger with count := 3, head := 511, replies := [(0, 0xFE)], binds := [(0,[0])]}}], [id, fun s => (s.putLink (.fh 0 0) {failed := true}).putLink (.fh 0 1) {failed := true}, fun s => s.putEstr 0 { s.estr 0 with buckets := [(0, ⟨5000, 3, 1024⟩), (4, ⟨1,1,1⟩)] }]])
theorem test_meets_FlushesAndBindings :
    ((wFlushesAndBindings [2, 0, 1, 1]).Admitted 0 hubSt O.FLUSH_ACK 2 ∧ (0#16).toNat ≤ (wFlushesAndBindings [2, 0, 1, 1]).ledger.count) ∧
    ((wFlushesAndBindings [2, 0, 1, 1]).Admitted 0 hubSt O.FLUSH_ACK 2 ∧ (wFlushesAndBindings [2, 0, 1, 1]).ledger.count < (255#16).toNat) ∧
    ((wFlushesAndBindings [2, 0, 1, 1]).Admitted 0 hubSt (partObj 10816 5) [0#8, 0#8, 255#8, 255#8, 255#8, 255#8, 255#8, 255#8, 255#8, 255#8, 255#8, 255#8, 255#8, 255#8, 255#8, 255#8, 255#8, 255#8, 255#8, 255#8, 255#8, 255#8, 255#8, 255#8, 255#8, 255#8, 255#8, 255#8, 255#8, 255#8, 255#8, 255#8].length ∧ [0#8, 0#8, 255#8, 255#8, 255#8, 255#8, 255#8, 255#8, 255#8, 255#8, 255#8, 255#8, 255#8, 255#8, 255#8, 255#8, 255#8, 255#8, 255#8, 255#8, 255#8, 255#8, 255#8, 255#8, 255#8, 255#8, 255#8, 255#8, 255#8, 255#8, 255#8, 255#8].length = 32 ∧ (wFlushesAndBindings [2, 0, 1, 1]).part 5 = none) ∧
    ((wFlushesAndBindings [1, 1, 1, 0]).Admitted 0 hubSt (partObj 10816 0) [255#8, 255#8, 255#8, 255#8, 255#8, 255#8, 255#8, 255#8, 255#8, 255#8, 255#8, 255#8, 255#8, 255#8, 255#8, 255#8, 255#8, 255#8, 255#8, 255#8, 255#8, 255#8, 255#8, 255#8, 255#8, 255#8, 255#8, 255#8, 255#8, 255#8, 255#8, 255#8].length ∧ [255#8, 255#8, 255#8, 255#8, 255#8, 255#8, 255#8, 255#8, 255#8, 255#8, 255#8, 255#8, 255#8, 255#8, 255#8, 255#8, 255#8, 255#8, 255#8, 255#8, 255#8, 255#8, 255#8, 255#8, 255#8, 255#8, 255#8, 255#8, 255#8, 255#8, 255#8, 255#8].length = 32 ∧ (wFlushesAndBindings [1, 1, 1, 0]).part 0 ≠ none ∧ (∀ h ∈ bindList [255#8, 255#8, 255#8, 255#8, 255#8, 255#8, 255#8, 255#8, 255#8, 255#8, 255#8, 255#8, 255#8, 255#8, 255#8, 255#8, 255#8, 255#8, 255#8, 255#8, 255#8, 255#8, 255#8, 255#8, 255#8, 255#8, 255#8, 255#8, 255#8, 255#8, 255#8, 255#8], h = 65535 ∨ h = 4095 ∨ h < 4095 ∧ (wFlushesAndBindings [1, 1, 1, 0]).entryState h = 1)) ∧
    ((wFlushesAndBindings [1, 1, 1, 0]).Admitted 0 hubSt (partObj 10816 0) [9#8, 0#8, 255#8, 255#8, 255#8, 255#8, 255#8, 255#8, 255#8, 255#8, 255#8, 255#8, 255#8, 255#8, 255#8, 255#8, 255#8, 255#8, 255#8, 255#8, 255#8, 255#8, 255#8, 255#8, 255#8, 255#8, 255#8, 255#8, 255#8, 255#8, 255#8, 255#8].length ∧ [9#8, 0#8, 255#8, 255#8, 255#8, 255#8, 255#8, 255#8, 255#8, 255#8, 255#8, 255#8, 255#8, 255#8, 255#8, 255#8, 255#8, 255#8, 255#8, 255#8, 255#8, 255#8, 255#8, 255#8, 255#8, 255#8, 255#8, 255#8, 255#8, 255#8, 255#8, 255#8].length = 32 ∧ (wFlushesAndBindings [1, 1, 1, 0]).part 0 ≠ none ∧ (¬∀ h ∈ bindList [9#8, 0#8, 255#8, 255#8, 255#8, 255#8, 255#8, 255#8, 255#8, 255#8, 255#8, 255#8, 255#8, 255#8, 255#8, 255#8, 255#8, 255#8, 255#8, 255#8, 255#8, 255#8, 255#8, 255#8, 255#8, 255#8, 255#8, 255#8, 255#8, 255#8, 255#8, 255#8], h = 65535 ∨ h = 4095 ∨ h < 4095 ∧ (wFlushesAndBindings [1, 1, 1, 0]).entryState h = 1)) ∧
    ((wFlushesAndBindings [2, 0, 1, 1]).fieldCut 0 = true) ∧
    (((wFlushesAndBindings [2, 0, 1, 1]).fieldCut 0 = true ∨ (wFlushesAndBindings [2, 0, 1, 1]).periodic (markKey 9 0) (fSt 0) ((wFlushesAndBindings [2, 0, 1, 1]).rd (fSt 0) O.LEDGER_PERIOD) 0 = false)) ∧
    ((wFlushesAndBindings [2, 0, 1, 1]).fieldCut 3 = false ∧ (wFlushesAndBindings [2, 0, 1, 1]).periodic (markKey 9 3) (fSt 3) ((wFlushesAndBindings [2, 0, 1, 1]).rd (fSt 3) O.LEDGER_PERIOD) 0 = true ∧ tblRising ((wFlushesAndBindings [2, 0, 1, 1]).estr 3).buckets = true) ∧
    (¬((wFlushesAndBindings [2, 0, 1, 1]).entryState 4095 = 2 ∧ bit (tblGet 0 (wFlushesAndBindings [2, 0, 1, 1]).ledger.replies 4095) 3 = false ∧ (wFlushesAndBindings [2, 0, 1, 1]).fieldCut 3 = false ∧ (wFlushesAndBindings [2, 0, 1, 1]).bankState hubSt (entryBank 4095) ≠ 2)) ∧
    (((wFlushesAndBindings [2, 0, 1, 2]).entryState 0 = 2 ∧ bit (tblGet 0 (wFlushesAndBindings [2, 0, 1, 2]).ledger.replies 0) 0 = false ∧ (wFlushesAndBindings [2, 0, 1, 2]).fieldCut 0 = false ∧ (wFlushesAndBindings [2, 0, 1, 2]).bankState hubSt (entryBank 0) ≠ 2) ∧ tblGet 0 (wFlushesAndBindings [2, 0, 1, 2]).ledger.replies 0 + 2 ^ 0 = 255) ∧
    (((wFlushesAndBindings [2, 0, 0, 1]).entryState 0 = 2 ∧ bit (tblGet 0 (wFlushesAndBindings [2, 0, 0, 1]).ledger.replies 0) 7 = false ∧ (wFlushesAndBindings [2, 0, 0, 1]).fieldCut 7 = false ∧ (wFlushesAndBindings [2, 0, 0, 1]).bankState hubSt (entryBank 0) ≠ 2) ∧ tblGet 0 (wFlushesAndBindings [2, 0, 0, 1]).ledger.replies 0 + 2 ^ 7 ≠ 255) := by
  refine ⟨?_, ?_, ?_, ?_, ?_, ?_, ?_, ?_, ?_, ?_, ?_⟩ <;> decide +kernel
end Sys2Proof.Tests.C10

namespace Sys2Proof.Tests.C11

def pr : PartRec := { weight := 3, pmin := 1, pmax := 900, mask := 7 }
def dsc (n w : Nat) : List Byte := leBytes 2 n ++ leBytes 2 w ++ leBytes 4 5 ++ leBytes 4 9 ++ leBytes 4 0 ++ leBytes 16 3
def tl (g : TileRec → TileRec) (s : State) : State := s.putTile 0 0 (g (s.tile 0 0))
def ar (g : ArbRec → ArbRec) (s : State) : State := s.putArb 0 (g (s.arb 0))
def cent (k key : Nat) (s : State) : State := (s.curdPut k 0 8 key).curdPut k 8 1 1
def jb (t : SeqTarget) (on : Bool) (st : SeqStep) (s : State) : State := { s with seq := { s.seq with jobs := s.seq.jobs ++ [{ target := t, on := on, origin := .session 0, step := st }] } }
def wPartitionsAreClaimed : List Nat → State := pick
  ([[id, fun s => s.putPart 0 (some pr), fun s => s.putPart 0 (some {pr with pace := 5, lapse := 100})], [id, wr' hubSt O.PART_BUDGET 100000, wr' hubSt O.PART_BUDGET 4], nowAlts [0, 100, 200]])
theorem test_meets_PartitionsAreClaimed :
    ((wPartitionsAreClaimed [0, 1, 2]).Admitted 0 hubSt O.PART_CLAIM [16#8].length ∧ [16#8].length ≠ 32) ∧
    ((wPartitionsAreClaimed [2, 0, 0]).Admitted 0 hubSt O.PART_CLAIM [5#8, 0#8, 1#8, 0#8, 5#8, 0#8, 0#8, 0#8, 9#8, 0#8, 0#8, 0#8, 0#8, 0#8, 0#8, 0#8, 3#8, 0#8, 0#8, 0#8, 0#8, 0#8, 0#8, 0#8, 0#8, 0#8, 0#8, 0#8, 0#8, 0#8, 0#8, 0#8].length ∧ [5#8, 0#8, 1#8, 0#8, 5#8, 0#8, 0#8, 0#8, 9#8, 0#8, 0#8, 0#8, 0#8, 0#8, 0#8, 0#8, 3#8, 0#8, 0#8, 0#8, 0#8, 0#8, 0#8, 0#8, 0#8, 0#8, 0#8, 0#8, 0#8, 0#8, 0#8, 0#8].length = 32 ∧ (wPartitionsAreClaimed [2, 0, 0]).claimCode [5#8, 0#8, 1#8, 0#8, 5#8, 0#8, 0#8, 0#8, 9#8, 0#8, 0#8, 0#8, 0#8, 0#8, 0#8, 0#8, 3#8, 0#8, 0#8, 0#8, 0#8, 0#8, 0#8, 0#8, 0#8, 0#8, 0#8, 0#8, 0#8, 0#8, 0#8, 0#8] = 0) ∧
    ((wPartitionsAreClaimed [2, 0, 0]).Admitted 0 hubSt O.PART_CLAIM [0#8, 0#8, 1#8, 0#8, 5#8, 0#8, 0#8, 0#8, 9#8, 0#8, 0#8, 0#8, 0#8, 0#8, 0#8, 0#8, 3#8, 0#8, 0#8, 0#8, 0#8, 0#8, 0#8, 0#8, 0#8, 0#8, 0#8, 0#8, 0#8, 0#8, 0#8, 0#8].length ∧ [0#8, 0#8, 1#8, 0#8, 5#8, 0#8, 0#8, 0#8, 9#8, 0#8, 0#8, 0#8, 0#8, 0#8, 0#8, 0#8, 3#8, 0#8, 0#8, 0#8, 0#8, 0#8, 0#8, 0#8, 0#8, 0#8, 0#8, 0#8, 0#8, 0#8, 0#8, 0#8].length = 32 ∧ (wPartitionsAreClaimed [2, 0, 0]).claimCode [0#8, 0#8, 1#8, 0#8, 5#8, 0#8, 0#8, 0#8, 9#8, 0#8, 0#8, 0#8, 0#8, 0#8, 0#8, 0#8, 3#8, 0#8, 0#8, 0#8, 0#8, 0#8, 0#8, 0#8, 0#8, 0#8, 0#8, 0#8, 0#8, 0#8, 0#8, 0#8] ≠ 0) ∧
    ((wPartitionsAreClaimed [2, 0, 0]).Admitted 0 hubSt O.PART_RELEASE 2 ∧ (wPartitionsAreClaimed [2, 0, 0]).part (128#16).toNat = none) ∧
    ((wPartitionsAreClaimed [1, 0, 1]).Admitted 0 hubSt O.PART_RELEASE 2 ∧ (wPartitionsAreClaimed [1, 0, 1]).part (0#16).toNat ≠ none) ∧
    ((wPartitionsAreClaimed [2, 0, 0]).Admitted 0 hubSt (partObj 11048 0) 2 ∧ (1#16).toNat ≤ 256 ∧ (wPartitionsAreClaimed [2, 0, 0]).part 0 = some ({ weight := 3, pmin := 1, pmax := 900, mask := 7, c := 256, isSet := false, demand := 0, grant := 0, power := 0, pace := 5, lapse := 100 } : PartRec)) ∧
    ((wPartitionsAreClaimed [2, 0, 0]).Admitted 0 hubSt (partObj 11048 5) 2 ∧ (2#16).toNat ≤ 256 ∧ (wPartitionsAreClaimed [2, 0, 0]).part 5 = none) ∧
    ((wPartitionsAreClaimed [2, 0, 0]).Admitted 0 hubSt (partObj 11048 0) 2 ∧ 256 < (700#16).toNat) ∧
    ((wPartitionsAreClaimed [2, 2, 2]).part 0 = some ({ weight := 3, pmin := 1, pmax := 900, mask := 7, c := 256, isSet := false, demand := 0, grant := 0, power := 0, pace := 5, lapse := 100 } : PartRec) ∧ ({ weight := 3, pmin := 1, pmax := 900, mask := 7, c := 256, isSet := false, demand := 0, grant := 0, power := 0, pace := 5, lapse := 100 } : PartRec).pace < 256 ∧ ({ weight := 3, pmin := 1, pmax := 900, mask := 7, c := 256, isSet := false, demand := 0, grant := 0, power := 0, pace := 5, lapse := 100 } : PartRec).lapse ≤ (wPartitionsAreClaimed [2, 2, 2]).time hubSt) ∧
    ((¬∃ x, (wPartitionsAreClaimed [2, 0, 0]).part 1 = some x ∧ x.pace < 256 ∧ x.lapse ≤ (wPartitionsAreClaimed [2, 0, 0]).time hubSt)) ∧
    ((wPartitionsAreClaimed [2, 0, 0]).Admitted 0 hubSt O.CURD_CLEAR 1 ∧ (0#8).toNat ≤ 1) ∧
    ((wPartitionsAreClaimed [2, 0, 0]).Admitted 0 hubSt O.CURD_CLEAR 1 ∧ 1 < (3#8).toNat) := by
  refine ⟨?_, ?_, ?_, ?_, ?_, ?_, ?_, ?_, ?_, ?_, ?_, ?_⟩ <;> decide +kernel
def wPeriodsAndPredictions : List Nat → State := pick
  ([[id, tl (fun x => {x with sigOut := some 5, low := true}), tl (fun x => {x with hintDue := [⟨0, 0x10000000 + 3, 0, ⟨0,0,1,5,3,1,2,3⟩⟩]}), tl (fun x => {x with hintDue := [⟨0, 0x20050000, 0, ⟨0,0,1,5,3,1,2,3⟩⟩]}), tl (fun x => {x with hintDue := [⟨0, 0x30050000, 0, ⟨0,0,1,5,3,1,2,3⟩⟩]}), tl (fun x => {x with hintDue := [⟨0, 0x40050000, 0, ⟨0,0,1,5,3,1,2,3⟩⟩], hint := some ⟨3,2,false,9⟩})], [id, cent 0 5], [id, fun s => {s with budget := {s.budget with obs := [⟨0,0,1,5,3,1,2,3⟩], capFault := true, curdClear := true}}], nowAlts [0, 100000, 500000], [id, wr' hubSt O.DIE_PCONT 0, wr' hubSt O.DIE_CREDIT 5]])
theorem test_meets_PeriodsAndPredictions :
    ((wPeriodsAndPredictions [5, 0, 1, 1, 2]).periodic (markKey 13 0) hubSt 10000 0 = true) ∧
    (((wPeriodsAndPredictions [5, 0, 1, 1, 2]).tile 3 4).sigOut = none) ∧
    (((wPeriodsAndPredictions [1, 0, 0, 2, 2]).tile 0 0).sigOut = some 5 ∧ (wPeriodsAndPredictions [1, 0, 0, 2, 2]).curdFind 1 5 = none) ∧
    (((wPeriodsAndPredictions [1, 1, 0, 1, 1]).tile 0 0).sigOut = some 5 ∧ (wPeriodsAndPredictions [1, 1, 0, 1, 1]).curdFind 1 5 = some 0) ∧
    ((wPeriodsAndPredictions [2, 1, 1, 2, 0]).budget.obs = (({ field := 0, tile := 0, kind := 1, key := 5, time := 3, pest := 1, sum := 2, n := 3 }, []) : CurdObs × List CurdObs).1 :: (({ field := 0, tile := 0, kind := 1, key := 5, time := 3, pest := 1, sum := 2, n := 3 }, []) : CurdObs × List CurdObs).2 ∧ (({ field := 0, tile := 0, kind := 1, key := 5, time := 3, pest := 1, sum := 2, n := 3 }, []) : CurdObs × List CurdObs).1.time + 100000 ≤ (wPeriodsAndPredictions [2, 1, 1, 2, 0]).time hubSt) ∧
    ((wPeriodsAndPredictions [5, 0, 1, 1, 2]).budget.obs = (({ field := 0, tile := 0, kind := 1, key := 5, time := 3, pest := 1, sum := 2, n := 3 }, []) : CurdObs × List CurdObs).1 :: (({ field := 0, tile := 0, kind := 1, key := 5, time := 3, pest := 1, sum := 2, n := 3 }, []) : CurdObs × List CurdObs).2 ∧ (wPeriodsAndPredictions [5, 0, 1, 1, 2]).time hubSt < (({ field := 0, tile := 0, kind := 1, key := 5, time := 3, pest := 1, sum := 2, n := 3 }, []) : CurdObs × List CurdObs).1.time + 100000) ∧
    ((wPeriodsAndPredictions [1, 0, 0, 2, 2]).budget.obs = []) ∧
    (List.find? (fun h => decide (hintAt h ≤ (wPeriodsAndPredictions [2, 1, 0, 2, 0]).time (fSt 0))) ((wPeriodsAndPredictions [2, 1, 0, 2, 0]).tile 0 0).hintDue = some ({ tile := 0, word := 268435459, time := 0, seen := { field := 0, tile := 0, kind := 1, key := 5, time := 3, pest := 1, sum := 2, n := 3 } } : HintWord) ∧ hintType ({ tile := 0, word := 268435459, time := 0, seen := { field := 0, tile := 0, kind := 1, key := 5, time := 3, pest := 1, sum := 2, n := 3 } } : HintWord).word = 1) ∧
    (List.find? (fun h => decide (hintAt h ≤ (wPeriodsAndPredictions [5, 0, 1, 1, 2]).time (fSt 0))) ((wPeriodsAndPredictions [5, 0, 1, 1, 2]).tile 0 0).hintDue = some ({ tile := 0, word := 1074069504, time := 0, seen := { field := 0, tile := 0, kind := 1, key := 5, time := 3, pest := 1, sum := 2, n := 3 } } : HintWord) ∧ hintType ({ tile := 0, word := 1074069504, time := 0, seen := { field := 0, tile := 0, kind := 1, key := 5, time := 3, pest := 1, sum := 2, n := 3 } } : HintWord).word ≠ 1) ∧
    (List.find? (fun h => decide (hintAt h ≤ (wPeriodsAndPredictions [5, 0, 1, 1, 2]).time (fSt 3))) ((wPeriodsAndPredictions [5, 0, 1, 1, 2]).tile 3 4).hintDue = none) := by
  refine ⟨?_, ?_, ?_, ?_, ?_, ?_, ?_, ?_, ?_, ?_⟩ <;> decide +kernel
def wWindowsChooseTheCodes : List Nat → State := pick
  ([[id, tl (fun x => {x with next := 77, words := [1,2,3,4], fence := true}), tl (fun x => {x with fence := true, next := 700})], [id, ar (fun x => {x with sent := [{period := true}, {period := false}], inbox := [{period := true, cB := [3], pace := [256]}], capDrop := true}), ar (fun x => {x with roomOn := true, therm := [(0, 5), (3, 255)]})], alts (fSt 0) O.UNIT_STATE [0,1,2], [id, wr' (fSt 0) (O.T_J.at 0) 6400], ws [(.cluster 0 (tileCluster 0), .running)] :: nowAlts [0, 600, 10600, 100000, 1000], [id, fun s => s.putTherm 0 { s.therm 0 with fresh := true }]])
theorem test_meets_WindowsChooseTheCodes :
    ((wWindowsChooseTheCodes [2, 0, 0, 0, 2, 1]).periodic (markKey 12 4) (fSt 4) 1000 0 = false) ∧
    ((wWindowsChooseTheCodes [2, 0, 0, 1, 5, 0]).periodic (markKey 12 7) (fSt 7) 1000 0 = true) ∧
    ((wWindowsChooseTheCodes [1, 2, 1, 1, 2, 1]).periodic (markKey 11 0) (fSt 0) 1000 600 = true ∧ ((wWindowsChooseTheCodes [1, 2, 1, 1, 2, 1]).arb 0).roomOn = true) ∧
    ((wWindowsChooseTheCodes [2, 0, 0, 0, 2, 1]).periodic (markKey 11 4) (fSt 4) 1000 600 = true ∧ ((wWindowsChooseTheCodes [2, 0, 0, 0, 2, 1]).arb 4).roomOn = false ∧ (wWindowsChooseTheCodes [2, 0, 0, 0, 2, 1]).forcedReason 4 1 = some 11) ∧
    ((wWindowsChooseTheCodes [2, 0, 0, 0, 2, 1]).forcedReason 4 0 = some 11) ∧
    (((wWindowsChooseTheCodes [2, 1, 2, 0, 0, 0]).arb 0).sent = (({ period := true, cB := [], pace := [], cCool := 256, share := 0, marked := false, excess := false }, [{ period := false, cB := [], pace := [], cCool := 256, share := 0, marked := false, excess := false }]) : HubFig × List HubFig).1 :: (({ period := true, cB := [], pace := [], cCool := 256, share := 0, marked := false, excess := false }, [{ period := false, cB := [], pace := [], cCool := 256, share := 0, marked := false, excess := false }]) : HubFig × List HubFig).2 ∧ (({ period := true, cB := [], pace := [], cCool := 256, share := 0, marked := false, excess := false }, [{ period := false, cB := [], pace := [], cCool := 256, share := 0, marked := false, excess := false }]) : HubFig × List HubFig).1.period = true) ∧
    (((wWindowsChooseTheCodes [2, 1, 2, 0, 0, 0]).arb 0).sent = (({ period := true, cB := [], pace := [], cCool := 256, share := 0, marked := false, excess := false }, [{ period := false, cB := [], pace := [], cCool := 256, share := 0, marked := false, excess := false }]) : HubFig × List HubFig).1 :: (({ period := true, cB := [], pace := [], cCool := 256, share := 0, marked := false, excess := false }, [{ period := false, cB := [], pace := [], cCool := 256, share := 0, marked := false, excess := false }]) : HubFig × List HubFig).2 ∧ ((({ period := true, cB := [], pace := [], cCool := 256, share := 0, marked := false, excess := false }, [{ period := false, cB := [], pace := [], cCool := 256, share := 0, marked := false, excess := false }]) : HubFig × List HubFig).1.period = false ∨ ((wWindowsChooseTheCodes [2, 1, 2, 0, 0, 0]).arb 0).stale = false)) ∧
    (((wWindowsChooseTheCodes [2, 0, 0, 0, 2, 1]).arb 4).sent = []) ∧
    ((wWindowsChooseTheCodes [0, 2, 1, 0, 4, 0]).rd (fSt 0) O.ARB_TIME + 100000 ≤ (wWindowsChooseTheCodes [0, 2, 1, 0, 4, 0]).time (fSt 0) ∧ ((wWindowsChooseTheCodes [0, 2, 1, 0, 4, 0]).arb 0).stale = false) ∧
    (((wWindowsChooseTheCodes [2, 0, 0, 0, 2, 1]).time (fSt 4) < (wWindowsChooseTheCodes [2, 0, 0, 0, 2, 1]).rd (fSt 4) O.ARB_TIME + 100000 ∨ ((wWindowsChooseTheCodes [2, 0, 0, 0, 2, 1]).arb 4).stale = true)) ∧
    (((wWindowsChooseTheCodes [2, 0, 0, 0, 2, 1]).therm 4).fresh = false) ∧
    (((wWindowsChooseTheCodes [2, 0, 0, 0, 2, 1]).therm 0).fresh = true ∧ 0 < 19) := by
  refine ⟨?_, ?_, ?_, ?_, ?_, ?_, ?_, ?_, ?_, ?_, ?_, ?_⟩ <;> decide +kernel
def wReservationsAndHints : List Nat → State := pick
  ([[id, jb (.domain 0) true .reserving], [id, ar (fun x => {x with queue := [0]}), ar (fun x => {x with queue := [1,2,3,4,5,6,7,8]}), ar (fun x => {x with granted := [0, 2], amounts := [(0, 5)], queue := [3]})], wAlts (.domain 0), alts (fSt 0) O.HEADROOM [0, 100000000], [id, ar (fun x => {x with hints := List.replicate 64 ⟨0,0,0,⟨0,0,1,5,3,1,2,3⟩⟩}), tl (fun x => {x with hint := some ⟨3,2,false,9⟩, curd := some ⟨3,2,false,900⟩, pos := [(5, 700), (9, 1)]}), tl (fun x => {x with pos := [(5, 700), (9, 1)]})], nowAlts [0, 9, 100000, 1000000000000]])
theorem test_meets_ReservationsAndHints :
    ((Option.any (fun j => j.on && j.step == SeqStep.reserving) ((wReservationsAndHints [1, 0, 3, 0, 0, 3]).job (SeqTarget.domain 63)) && !((wReservationsAndHints [1, 0, 3, 0, 0, 3]).arb (domField 63)).queue.contains 63 && !((wReservationsAndHints [1, 0, 3, 0, 0, 3]).arb (domField 63)).granted.contains 63) = false) ∧
    ((Option.any (fun j => j.on && j.step == SeqStep.reserving) ((wReservationsAndHints [1, 0, 3, 0, 0, 3]).job (SeqTarget.domain 0)) && !((wReservationsAndHints [1, 0, 3, 0, 0, 3]).arb (domField 0)).queue.contains 0 && !((wReservationsAndHints [1, 0, 3, 0, 0, 3]).arb (domField 0)).granted.contains 0) = true ∧ ((wReservationsAndHints [1, 0, 3, 0, 0, 3]).arb (domField 0)).queue.length < 8) ∧
    ((wReservationsAndHints [1, 2, 2, 1, 1, 0]).job (SeqTarget.domain 0) = some ({ target := Sys2Proof.Machine.SeqTarget.domain 0, on := true, origin := Sys2Proof.Machine.SeqOrigin.session 0, step := Sys2Proof.Machine.SeqStep.reserving, rest := [], run := [], failed := [], fail := 0, keepDx := false, since := 0 } : SeqJob) ∧ (Option.any (fun j => j.on && j.step == SeqStep.reserving) ((wReservationsAndHints [1, 2, 2, 1, 1, 0]).job (SeqTarget.domain 0)) && !((wReservationsAndHints [1, 2, 2, 1, 1, 0]).arb (domField 0)).queue.contains 0 && !((wReservationsAndHints [1, 2, 2, 1, 1, 0]).arb (domField 0)).granted.contains 0) = true ∧ 8 ≤ ((wReservationsAndHints [1, 2, 2, 1, 1, 0]).arb (domField 0)).queue.length) ∧
    (((wReservationsAndHints [1, 0, 3, 0, 0, 3]).arb 1).queue = []) ∧
    (((wReservationsAndHints [0, 3, 5, 1, 0, 3]).arb 0).queue = [3] ∧ ↑((wReservationsAndHints [0, 3, 5, 1, 0, 3]).inrush (Fin.ofNat 64 3)) ≤ (wReservationsAndHints [0, 3, 5, 1, 0, 3]).readHeadroom 0) ∧
    (((wReservationsAndHints [0, 3, 3, 0, 0, 1]).arb 0).queue = [3] ∧ (wReservationsAndHints [0, 3, 3, 0, 0, 1]).readHeadroom 0 < ↑((wReservationsAndHints [0, 3, 3, 0, 0, 1]).inrush (Fin.ofNat 64 3))) ∧
    (((wReservationsAndHints [0, 3, 5, 1, 0, 3]).arb 0).queue = [3] ∧ ((wReservationsAndHints [0, 3, 5, 1, 0, 3]).arb 0).roomOn = false ∧ ((wReservationsAndHints [0, 3, 5, 1, 0, 3]).arb 0).headAt + (wReservationsAndHints [0, 3, 5, 1, 0, 3]).rd hubSt O.INRUSH_TIMEOUT ≤ (wReservationsAndHints [0, 3, 5, 1, 0, 3]).time (fSt 0)) ∧
    (((wReservationsAndHints [0, 3, 3, 0, 0, 1]).arb 0).queue = [3] ∧ (((wReservationsAndHints [0, 3, 3, 0, 0, 1]).arb 0).roomOn = true ∨ (wReservationsAndHints [0, 3, 3, 0, 0, 1]).time (fSt 0) < ((wReservationsAndHints [0, 3, 3, 0, 0, 1]).arb 0).headAt + (wReservationsAndHints [0, 3, 3, 0, 0, 1]).rd hubSt O.INRUSH_TIMEOUT)) ∧
    (2 ∈ ((wReservationsAndHints [0, 3, 3, 0, 0, 1]).arb (domField 2)).granted ∧ (((wReservationsAndHints [0, 3, 3, 0, 0, 1]).dstate 2).isUp && decide ((wReservationsAndHints [0, 3, 3, 0, 0, 1]).rd hubSt (O.ON_TIME.at 2) + 100000 ≤ (wReservationsAndHints [0, 3, 3, 0, 0, 1]).time hubSt) || !((wReservationsAndHints [0, 3, 3, 0, 0, 1]).dstate 2).isUp && !(wReservationsAndHints [0, 3, 3, 0, 0, 1]).turningOn 2) = true) ∧
    ((63 ∉ ((wReservationsAndHints [1, 0, 3, 0, 0, 3]).arb (domField 63)).granted ∨ (((wReservationsAndHints [1, 0, 3, 0, 0, 3]).dstate 63).isUp && decide ((wReservationsAndHints [1, 0, 3, 0, 0, 3]).rd hubSt (O.ON_TIME.at 63) + 100000 ≤ (wReservationsAndHints [1, 0, 3, 0, 0, 3]).time hubSt) || !((wReservationsAndHints [1, 0, 3, 0, 0, 3]).dstate 63).isUp && !(wReservationsAndHints [1, 0, 3, 0, 0, 3]).turningOn 63) = false)) ∧
    (((wReservationsAndHints [1, 0, 3, 0, 0, 3]).arb 1).hints.length < 64) ∧
    (64 ≤ ((wReservationsAndHints [1, 2, 2, 1, 1, 0]).arb 0).hints.length) ∧
    ((wReservationsAndHints [0, 3, 3, 0, 0, 1]).time (fSt 0) % 1000 ≠ 0) ∧
    ((wReservationsAndHints [0, 3, 7, 1, 2, 2]).time (fSt 0) % 1000 = 0 ∧ (List.filter (fun m => decide (m.1 ≤ (wReservationsAndHints [0, 3, 7, 1, 2, 2]).time (fSt 0))) ((wReservationsAndHints [0, 3, 7, 1, 2, 2]).tile 0 0).pos).getLast? = some (9, 1)) ∧
    ((wReservationsAndHints [1, 0, 3, 0, 0, 3]).Admitted 0 (fSt 2) (O.THR_CLEAR.at 5) 1 ∧ (1#8).toNat ≤ 1) ∧
    ((wReservationsAndHints [1, 0, 3, 0, 0, 3]).Admitted 0 (fSt 2) (O.THR_CLEAR.at 5) 1 ∧ 1 < (128#8).toNat) := by
  refine ⟨?_, ?_, ?_, ?_, ?_, ?_, ?_, ?_, ?_, ?_, ?_, ?_, ?_, ?_, ?_, ?_⟩ <;> decide +kernel
def wTheTripRuns : List Nat → State := pick
  ([(List.range 5).map (fun k s => {s with trip := {s.trip with state := k}}), [id, fun s => {s with trip := {s.trip with windowOpen := true}}, fun s => {s with trip := {s.trip with windowOpen := true, windowPast := 1000000000000}}], [id, fun s => {s with trip := {s.trip with fires := [⟨1,2,3,4⟩, ⟨0,0,0,0⟩]}}, fun s => {s with trip := {s.trip with pending := true, resetAt := 0, last := some 0}}], alts hubSt O.AUTO_RESTARTS [0,2,3], alts hubSt O.AUTO_EN [0,1], nowAlts [0, 100000000000], [id, id, id, wr' (fSt 3) (O.T_J.at 2) 32000, ws [(.domain 3, .running)]]])
theorem test_meets_TheTripRuns :
    ((wTheTripRuns [4, 0, 0, 1, 0, 1, 2]).trip.fires = []) ∧
    ((wTheTripRuns [3, 2, 1, 2, 0, 1, 2]).trip.fires = (({ cause := 1, field := 2, node := 3, temp := 4 }, [{ cause := 0, field := 0, node := 0, temp := 0 }]) : TripFire × List TripFire).1 :: (({ cause := 1, field := 2, node := 3, temp := 4 }, [{ cause := 0, field := 0, node := 0, temp := 0 }]) : TripFire × List TripFire).2 ∧ (wTheTripRuns [3, 2, 1, 2, 0, 1, 2]).seq.jobs = [] ∧ (wTheTripRuns [3, 2, 1, 2, 0, 1, 2]).seq.waiting = []) ∧
    ((wTheTripRuns [1, 1, 1, 2, 1, 0, 2]).trip.state = 1 ∧ (allDomains.all fun d => ((wTheTripRuns [1, 1, 1, 2, 1, 0, 2]).dstate d).isStopped) = true ∧ (wTheTripRuns [1, 1, 1, 2, 1, 0, 2]).trip.windowOpen = true ∧ 3 ≤ (wTheTripRuns [1, 1, 1, 2, 1, 0, 2]).rd hubSt O.AUTO_RESTARTS) ∧
    ((wTheTripRuns [1, 0, 1, 0, 0, 0, 0]).trip.state = 1 ∧ (allDomains.all fun d => ((wTheTripRuns [1, 0, 1, 0, 0, 0, 0]).dstate d).isStopped) = true ∧ ((wTheTripRuns [1, 0, 1, 0, 0, 0, 0]).trip.windowOpen = false ∨ (wTheTripRuns [1, 0, 1, 0, 0, 0, 0]).rd hubSt O.AUTO_RESTARTS < 3)) ∧
    (((wTheTripRuns [4, 0, 0, 1, 0, 1, 2]).trip.state ≠ 1 ∨ (allDomains.all fun d => ((wTheTripRuns [4, 0, 0, 1, 0, 1, 2]).dstate d).isStopped) = false)) ∧
    (((wTheTripRuns [2, 2, 2, 0, 1, 1, 0]).trip.state == 2 && !(wTheTripRuns [2, 2, 2, 0, 1, 1, 0]).trip.locked && (wTheTripRuns [2, 2, 2, 0, 1, 1, 0]).coolOk && (wTheTripRuns [2, 2, 2, 0, 1, 1, 0]).waitOk && !(wTheTripRuns [2, 2, 2, 0, 1, 1, 0]).tripInhibit) = true) ∧
    (((wTheTripRuns [4, 0, 0, 1, 0, 1, 2]).trip.state == 2 && !(wTheTripRuns [4, 0, 0, 1, 0, 1, 2]).trip.locked && (wTheTripRuns [4, 0, 0, 1, 0, 1, 2]).coolOk && (wTheTripRuns [4, 0, 0, 1, 0, 1, 2]).waitOk && !(wTheTripRuns [4, 0, 0, 1, 0, 1, 2]).tripInhibit) = false) ∧
    (((wTheTripRuns [3, 2, 1, 2, 0, 1, 2]).trip.state = 3 ∧ (wTheTripRuns [3, 2, 1, 2, 0, 1, 2]).job SeqTarget.restart = none)) ∧
    (((wTheTripRuns [4, 0, 0, 1, 0, 1, 2]).trip.state ≠ 3 ∨ (wTheTripRuns [4, 0, 0, 1, 0, 1, 2]).job SeqTarget.restart ≠ none)) ∧
    (((wTheTripRuns [4, 2, 2, 2, 1, 1, 0]).trip.windowOpen && decide (570000000000 ≤ (wTheTripRuns [4, 2, 2, 2, 1, 1, 0]).time hubSt - (wTheTripRuns [4, 2, 2, 2, 1, 1, 0]).trip.windowStart + (wTheTripRuns [4, 2, 2, 2, 1, 1, 0]).trip.windowPast)) = true) ∧
    (((wTheTripRuns [4, 0, 0, 1, 0, 1, 2]).trip.windowOpen && decide (570000000000 ≤ (wTheTripRuns [4, 0, 0, 1, 0, 1, 2]).time hubSt - (wTheTripRuns [4, 0, 0, 1, 0, 1, 2]).trip.windowStart + (wTheTripRuns [4, 0, 0, 1, 0, 1, 2]).trip.windowPast)) = false) ∧
    (((wTheTripRuns [4, 2, 2, 2, 1, 1, 0]).trip.pending && (wTheTripRuns [4, 2, 2, 2, 1, 1, 0]).coolOk && decide ((wTheTripRuns [4, 2, 2, 2, 1, 1, 0]).trip.resetAt + (wTheTripRuns [4, 2, 2, 2, 1, 1, 0]).rd hubSt O.RESTART_WAIT * 1000000 ≤ (wTheTripRuns [4, 2, 2, 2, 1, 1, 0]).time hubSt)) = true) ∧
    (((wTheTripRuns [4, 0, 0, 1, 0, 1, 2]).trip.pending && (wTheTripRuns [4, 0, 0, 1, 0, 1, 2]).coolOk && decide ((wTheTripRuns [4, 0, 0, 1, 0, 1, 2]).trip.resetAt + (wTheTripRuns [4, 0, 0, 1, 0, 1, 2]).rd hubSt O.RESTART_WAIT * 1000000 ≤ (wTheTripRuns [4, 0, 0, 1, 0, 1, 2]).time hubSt)) = false) ∧
    ((wTheTripRuns [4, 0, 0, 1, 0, 1, 2]).Admitted 0 hubSt O.TRIP_CTRL 1 ∧ ((wTheTripRuns [4, 0, 0, 1, 0, 1, 2]).trip.state = 2 ∨ (wTheTripRuns [4, 0, 0, 1, 0, 1, 2]).trip.state = 4 ∨ (wTheTripRuns [4, 0, 0, 1, 0, 1, 2]).trip.locked = true) ∧ (wTheTripRuns [4, 0, 0, 1, 0, 1, 2]).coolOk = true ∧ (wTheTripRuns [4, 0, 0, 1, 0, 1, 2]).waitOk = true) ∧
    ((wTheTripRuns [3, 2, 1, 2, 0, 1, 2]).Admitted 0 hubSt O.TRIP_CTRL 1 ∧ ¬(((wTheTripRuns [3, 2, 1, 2, 0, 1, 2]).trip.state = 2 ∨ (wTheTripRuns [3, 2, 1, 2, 0, 1, 2]).trip.state = 4 ∨ (wTheTripRuns [3, 2, 1, 2, 0, 1, 2]).trip.locked = true) ∧ (wTheTripRuns [3, 2, 1, 2, 0, 1, 2]).coolOk = true ∧ (wTheTripRuns [3, 2, 1, 2, 0, 1, 2]).waitOk = true)) ∧
    ((wTheTripRuns [4, 0, 0, 1, 0, 1, 2]).Admitted 0 hubSt O.TCRIT 2 ∧ ¬(5760 ≤ (700#16).toInt ∧ (700#16).toInt ≤ (wTheTripRuns [4, 0, 0, 1, 0, 1, 2]).rdS hubSt O.TCRIT_CAP ∧ (wTheTripRuns [4, 0, 0, 1, 0, 1, 2]).rdS hubSt O.THROTTLE_TEMP + 128 ≤ (700#16).toInt ∧ ∀ (f : FieldId), (wTheTripRuns [4, 0, 0, 1, 0, 1, 2]).rdS (fSt f) O.DERATE_TEMP + 64 ≤ (700#16).toInt)) := by
  refine ⟨?_, ?_, ?_, ?_, ?_, ?_, ?_, ?_, ?_, ?_, ?_, ?_, ?_, ?_, ?_, ?_⟩ <;> decide +kernel
def wSequencerRequestsAndWaits : List Nat → State := pick
  ([[id, jb (.domain 0) true .ramping, jb (.domain 0) false .draining, jb (.domain 56) true .ramping], wAlts (.domain 56), wAlts (.field 0), [id, fun s => {s with supply := {s.supply with vio18 := false}}], [id, fun s => {s with seq := {s.seq with armed := true}}], [id, fun s => {s with tap := {s.tap with instr := .extest}}], [id, wr' hubSt ((O.RAIL_STATE.at 0)) 2, wr' hubSt ((O.RAIL_STATE.at 8)) 2]])
theorem test_meets_SequencerRequestsAndWaits :
    ((wSequencerRequestsAndWaits [3, 0, 3, 0, 0, 1, 2]).Admitted 0 hubSt O.SEQ_ARM 1 ∧ (0#8).toNat ≤ 1) ∧
    ((wSequencerRequestsAndWaits [3, 0, 3, 0, 0, 1, 2]).Admitted 0 hubSt O.SEQ_ARM 1 ∧ 1 < (188#8).toNat) ∧
    ((wSequencerRequestsAndWaits [0, 7, 5, 1, 0, 0, 0]).Admitted 0 hubSt O.SEQ_REQ 4 ∧ (wSequencerRequestsAndWaits [0, 7, 5, 1, 0, 0, 0]).seq.armed = false ∧ (wSequencerRequestsAndWaits [0, 7, 5, 1, 0, 0, 0]).seq.jobs = [] ∧ (wSequencerRequestsAndWaits [0, 7, 5, 1, 0, 0, 0]).seq.waiting = []) ∧
    (((Option.any (fun j => j.on && j.step == SeqStep.ramping) ((wSequencerRequestsAndWaits [2, 2, 4, 0, 1, 0, 1]).job (SeqTarget.domain 0)) && !isAux 0) = false ∨ (List.filter ((wSequencerRequestsAndWaits [2, 2, 4, 0, 1, 0, 1]).taking (domField 0)) (domClusters 0)).all ((wSequencerRequestsAndWaits [2, 2, 4, 0, 1, 0, 1]).clusterGood (domField 0)) = false)) ∧
    (((Option.any (fun j => j.on && j.step == SeqStep.ramping) ((wSequencerRequestsAndWaits [2, 2, 4, 0, 1, 0, 1]).job (SeqTarget.domain 0)) && !isAux 0) = false ∨ Option.any (fun j => decide (j.since + (wSequencerRequestsAndWaits [2, 2, 4, 0, 1, 0, 1]).rd hubSt O.DOM_SS_TIMEOUT ≤ (wSequencerRequestsAndWaits [2, 2, 4, 0, 1, 0, 1]).time hubSt)) ((wSequencerRequestsAndWaits [2, 2, 4, 0, 1, 0, 1]).job (SeqTarget.domain 0)) = false)) ∧
    ((wSequencerRequestsAndWaits [2, 2, 4, 0, 1, 0, 1]).drainDue 0 = false) ∧
    ((wSequencerRequestsAndWaits [1, 5, 3, 0, 0, 1, 1]).dstate (fieldDomain 0 7) = WState.stopping ∧ (wSequencerRequestsAndWaits [1, 5, 3, 0, 0, 1, 1]).railLive (axRail 0) = false ∧ (wSequencerRequestsAndWaits [1, 5, 3, 0, 0, 1, 1]).vFb (axRail 0) < 50000000000) ∧
    (((wSequencerRequestsAndWaits [2, 2, 4, 0, 1, 0, 1]).dstate (fieldDomain 3 7) ≠ WState.stopping ∨ (wSequencerRequestsAndWaits [2, 2, 4, 0, 1, 0, 1]).railLive (axRail 3) = true ∨ 50000000000 ≤ (wSequencerRequestsAndWaits [2, 2, 4, 0, 1, 0, 1]).vFb (axRail 3))) ∧
    ((wSequencerRequestsAndWaits [1, 1, 5, 1, 1, 1, 0]).wstate (WheelRef.field 0) = WState.stopping ∧ (wSequencerRequestsAndWaits [1, 1, 5, 1, 1, 1, 0]).railLive (frRail 0) = false ∧ (wSequencerRequestsAndWaits [1, 1, 5, 1, 1, 1, 0]).vFb (frRail 0) < 50000000000) ∧
    (((wSequencerRequestsAndWaits [2, 2, 4, 0, 1, 0, 1]).wstate (WheelRef.field 3) ≠ WState.stopping ∨ (wSequencerRequestsAndWaits [2, 2, 4, 0, 1, 0, 1]).railLive (frRail 3) = true ∨ 50000000000 ≤ (wSequencerRequestsAndWaits [2, 2, 4, 0, 1, 0, 1]).vFb (frRail 3))) ∧
    ((wSequencerRequestsAndWaits [3, 3, 0, 1, 0, 0, 0]).supply.vio18 = false) ∧
    ((wSequencerRequestsAndWaits [2, 7, 4, 0, 1, 1, 0]).supply.vio18 = true ∧ (∀ (r : RailId), (wSequencerRequestsAndWaits [2, 7, 4, 0, 1, 1, 0]).railSwitching r = false)) ∧
    ((wSequencerRequestsAndWaits [0, 4, 0, 0, 1, 1, 2]).seq.jobs = []) ∧
    ((wSequencerRequestsAndWaits [2, 2, 4, 0, 1, 0, 1]).supply.vio18 = true ∧ (wSequencerRequestsAndWaits [2, 2, 4, 0, 1, 0, 1]).railSwitching 0 = true) := by
  refine ⟨?_, ?_, ?_, ?_, ?_, ?_, ?_, ?_, ?_, ?_, ?_, ?_, ?_, ?_⟩ <;> decide +kernel
end Sys2Proof.Tests.C11

namespace Sys2Proof.Tests.C12

def ad (g : AdcRec → AdcRec) (s : State) : State := s.putAdc 0 0 (g (s.adc 0 0))
def en (g : EngRec → EngRec) (s : State) : State := s.putEng 0 (g (s.eng 0))
def req (v : Nat) : State → State := wr' hubSt O.BLK_REQ v
def wBlockResetsAndTap : List Nat → State := pick
  ([[req 0xF0000000, req 0x00100000, req 0x00100100, req 0x00100200, req 0x00100200, req 0x00000300, req 0x00000400, req 0x01000100], [id, en (fun x => {x with closed := true, tested := true}), ad (fun x => {x with closed := true})], [id, fun s => {s with tap := {s.tap with instr := .loopback, pin := 3}}, fun s => {s with supply := {s.supply with vio18 := false}}], [id, id, wr' hubSt (O.RAIL_STATE.at 0) 2, ws [(.cluster 0 0, .running)]]])
theorem test_meets_BlockResetsAndTap :
    ((wBlockResetsAndTap [7, 1, 0, 3]).Admitted 0 hubSt O.BLK_CTRL 1 ∧ (blkUnit ((wBlockResetsAndTap [7, 1, 0, 3]).rd hubSt O.BLK_REQ) = none → 1 = 2) ∧ (∀ (x : BlkUnit), blkUnit ((wBlockResetsAndTap [7, 1, 0, 3]).rd hubSt O.BLK_REQ) = some x → (((wBlockResetsAndTap [7, 1, 0, 3]).rst.held.isSome || (wBlockResetsAndTap [7, 1, 0, 3]).flt.escWait != [] || (wBlockResetsAndTap [7, 1, 0, 3]).moult.ops.any fun o => match o with | FlashOp.slotSeq bank value => true | x => false) = true → 1 = 4) ∧ (((wBlockResetsAndTap [7, 1, 0, 3]).rst.held.isSome || (wBlockResetsAndTap [7, 1, 0, 3]).flt.escWait != [] || (wBlockResetsAndTap [7, 1, 0, 3]).moult.ops.any fun o => match o with | FlashOp.slotSeq bank value => true | x => false) = false → (wBlockResetsAndTap [7, 1, 0, 3]).blkAccepts x = false ∧ 1 = 1))) ∧
    ((wBlockResetsAndTap [5, 2, 2, 3]).Admitted 0 hubSt O.BLK_CTRL 1 ∧ blkUnit ((wBlockResetsAndTap [5, 2, 2, 3]).rd hubSt O.BLK_REQ) = some (BlkUnit.segment 0) ∧ ((wBlockResetsAndTap [5, 2, 2, 3]).rst.held.isSome || (wBlockResetsAndTap [5, 2, 2, 3]).flt.escWait != [] || (wBlockResetsAndTap [5, 2, 2, 3]).moult.ops.any fun o => match o with | FlashOp.slotSeq bank value => true | x => false) = false ∧ (wBlockResetsAndTap [5, 2, 2, 3]).blkAccepts (BlkUnit.segment 0) = true) ∧
    ((wBlockResetsAndTap [0, 2, 1, 0]).Admitted 0 hubSt O.BLK_CTRL 1 ∧ (blkUnit ((wBlockResetsAndTap [0, 2, 1, 0]).rd hubSt O.BLK_REQ) = none ∨ ∃ x, blkUnit ((wBlockResetsAndTap [0, 2, 1, 0]).rd hubSt O.BLK_REQ) = some x ∧ ((wBlockResetsAndTap [0, 2, 1, 0]).unitClosed x = false ∨ (wBlockResetsAndTap [0, 2, 1, 0]).unitTested x = false ∨ x ∈ (wBlockResetsAndTap [0, 2, 1, 0]).rst.contained ∨ blkIsCle x = true))) ∧
    (BlkUnit.engine 216 ∉ (wBlockResetsAndTap [3, 0, 0, 2]).rst.testing) ∧
    ((wBlockResetsAndTap [6, 1, 0, 1]).tapPowered = true ∧ (wBlockResetsAndTap [6, 1, 0, 1]).tapQuiet = true) ∧
    ((wBlockResetsAndTap [3, 0, 0, 2]).tapPowered = true ∧ (wBlockResetsAndTap [3, 0, 0, 2]).tapQuiet = false) ∧
    ((wBlockResetsAndTap [5, 0, 1, 2]).tapPowered = true ∧ (wBlockResetsAndTap [5, 0, 1, 2]).tap.instr = TapInstr.loopback ∧ (wBlockResetsAndTap [5, 0, 1, 2]).pinServed (wBlockResetsAndTap [5, 0, 1, 2]).tap.pin = true) ∧
    ((wBlockResetsAndTap [7, 2, 2, 1]).tapPowered = false) ∧
    (((wBlockResetsAndTap [3, 0, 0, 2]).tapPowered = false ∨ (wBlockResetsAndTap [3, 0, 0, 2]).tap.instr ≠ TapInstr.loopback)) := by
  refine ⟨?_, ?_, ?_, ?_, ?_, ?_, ?_, ?_, ?_⟩ <;> decide +kernel
end Sys2Proof.Tests.C12

namespace Sys2Proof.Tests.C13

def rs (g : ResetRec → ResetRec) (s : State) : State := { s with rst := g s.rst }
def bo (g : BootRec → BootRec) (s : State) : State := { s with rst := { s.rst with boot := g s.rst.boot } }
def rA : List (State → State) := [id, id, rs (fun r => {r with held := some 0}), rs (fun r => {r with held := some 0, causes := [1]}), rs (fun r => {r with held := some 1, causes := [3]}), rs (fun r => {r with armed := true}), rs (fun r => {r with strapWait := true, clkStuck := 2}), rs (fun r => {r with armed := true, wdogDue := some 100})]
def wResetsAreTaken : List Nat → State := pick
  ([rA, [id, id, fun s => {s with supply := {s.supply with backupValid := false}}, fun s => {s with supply := {s.supply with vio18 := false}}, fun s => {s with supply := {s.supply with vbak := false, aonOut := true}}, fun s => {s with supply := {s.supply with vstby := false}}], [id, wr' hubSt O.MIRROR_STATE 1], nowAlts [0, 100, 5000, 2000000], wAlts (.cluster 0 0)])
theorem test_meets_ResetsAreTaken :
    ((wResetsAreTaken [6, 0, 1, 1, 6]).rst.held = none ∧ (wResetsAreTaken [6, 0, 1, 1, 6]).supply.vio18 = true ∧ (wResetsAreTaken [6, 0, 1, 1, 6]).supply.vstby = true) ∧
    ((wResetsAreTaken [3, 0, 1, 2, 0]).rst.held = some 0 ∧ (wResetsAreTaken [3, 0, 1, 2, 0]).supply.vio18 = true ∧ (wResetsAreTaken [3, 0, 1, 2, 0]).supply.vstby = true) ∧
    (((wResetsAreTaken [1, 5, 0, 1, 6]).supply.vio18 = false ∨ (wResetsAreTaken [1, 5, 0, 1, 6]).supply.vstby = false)) ∧
    ((wResetsAreTaken [5, 1, 0, 2, 4]).Admitted 0 hubSt O.RESET_CTRL 1 ∧ ((wResetsAreTaken [5, 1, 0, 2, 4]).rst.armed && decide ((wResetsAreTaken [5, 1, 0, 2, 4]).time hubSt < (wResetsAreTaken [5, 1, 0, 2, 4]).rst.armedAt + 1000000)) = true ∧ (wResetsAreTaken [5, 1, 0, 2, 4]).supply.vstby = true) ∧
    ((wResetsAreTaken [5, 1, 0, 2, 4]).Admitted 0 hubSt O.RESET_CTRL 1 ∧ ((wResetsAreTaken [5, 1, 0, 2, 4]).rst.armed && decide ((wResetsAreTaken [5, 1, 0, 2, 4]).time hubSt < (wResetsAreTaken [5, 1, 0, 2, 4]).rst.armedAt + 1000000)) = true ∧ (wResetsAreTaken [5, 1, 0, 2, 4]).rst.strapWait = false) ∧
    ((wResetsAreTaken [6, 0, 1, 1, 6]).Admitted 0 hubSt O.RESET_CTRL 1 ∧ ((wResetsAreTaken [6, 0, 1, 1, 6]).rst.armed && decide ((wResetsAreTaken [6, 0, 1, 1, 6]).time hubSt < (wResetsAreTaken [6, 0, 1, 1, 6]).rst.armedAt + 1000000)) = false) ∧
    ((wResetsAreTaken [6, 0, 1, 1, 6]).Admitted 0 hubSt O.RESET_ARM 1 ∧ (1#8).toNat ≤ 1) ∧
    ((wResetsAreTaken [6, 0, 1, 1, 6]).Admitted 0 hubSt O.RESET_ARM 1 ∧ 1 < (2#8).toNat) ∧
    ((wResetsAreTaken [3, 0, 1, 3, 7]).rst.armedAt + 1000000 ≤ (wResetsAreTaken [3, 0, 1, 3, 7]).time hubSt) ∧
    ((wResetsAreTaken [3, 0, 1, 2, 0]).time hubSt < (wResetsAreTaken [3, 0, 1, 2, 0]).rst.armedAt + 1000000) ∧
    ((wResetsAreTaken [6, 0, 1, 1, 6]).rst.held = none ∧ (wResetsAreTaken [6, 0, 1, 1, 6]).supply.backupValid = true) ∧
    ((wResetsAreTaken [5, 2, 1, 1, 3]).supply.backupValid = false) ∧
    ((wResetsAreTaken [3, 0, 1, 2, 0]).supply.aonOut = false) ∧
    ((wResetsAreTaken [1, 4, 1, 2, 3]).supply.aonOut = true) ∧
    ((wResetsAreTaken [7, 0, 1, 3, 3]).rst.held = none ∧ Option.any (fun u => decide (u ≤ (wResetsAreTaken [7, 0, 1, 3, 3]).time hubSt)) (wResetsAreTaken [7, 0, 1, 3, 3]).rst.wdogDue = true) ∧
    (((wResetsAreTaken [3, 0, 1, 2, 0]).rst.held ≠ none ∨ Option.any (fun u => decide (u ≤ (wResetsAreTaken [3, 0, 1, 2, 0]).time hubSt)) (wResetsAreTaken [3, 0, 1, 2, 0]).rst.wdogDue = false)) ∧
    ((wResetsAreTaken [6, 0, 1, 1, 6]).Admitted 0 hubSt O.WDOG_KICK 1 ∧ (1#8).toNat ≤ 1) ∧
    ((wResetsAreTaken [6, 0, 1, 1, 6]).Admitted 0 hubSt O.WDOG_KICK 1 ∧ 1 < (3#8).toNat) ∧
    ((wResetsAreTaken [6, 0, 1, 1, 6]).rst.held = none ∧ (isCle 4 = true ∨ isSpare 4 = true)) ∧
    ((wResetsAreTaken [6, 0, 1, 1, 6]).rst.held = none ∧ (isCle 231 = false ∧ isSpare 231 = false) ∧ 0 ≠ 1) ∧
    ((wResetsAreTaken [5, 1, 0, 2, 4]).rst.held = none ∧ ((wResetsAreTaken [5, 1, 0, 2, 4]).cstate 0 0).isOn = true) ∧
    ((wResetsAreTaken [6, 0, 1, 1, 6]).rst.held = none ∧ ((wResetsAreTaken [6, 0, 1, 1, 6]).cstate 5 18).isOn = false) ∧
    ((wResetsAreTaken [5, 1, 0, 2, 4]).rst.held = none ∧ (wResetsAreTaken [5, 1, 0, 2, 4]).rd hubSt O.MIRROR_STATE = 0) ∧
    ((wResetsAreTaken [7, 5, 1, 2, 6]).rst.held = none ∧ (wResetsAreTaken [7, 5, 1, 2, 6]).rd hubSt O.MIRROR_STATE ≠ 0 ∧ (wResetsAreTaken [7, 5, 1, 2, 6]).supply.vstby = false) ∧
    ((wResetsAreTaken [6, 0, 1, 1, 6]).rst.held = none ∧ (wResetsAreTaken [6, 0, 1, 1, 6]).rd hubSt O.MIRROR_STATE ≠ 0 ∧ (wResetsAreTaken [6, 0, 1, 1, 6]).supply.vstby = true) ∧
    ((wResetsAreTaken [6, 0, 1, 1, 6]).rst.held = none ∧ (wResetsAreTaken [6, 0, 1, 1, 6]).supply.vstby = true) ∧
    ((wResetsAreTaken [3, 0, 1, 2, 0]).rst.held ≠ none) ∧
    ((wResetsAreTaken [3, 0, 1, 2, 0]).rd hubSt O.MIRROR_STATE = 1) ∧
    ((wResetsAreTaken [5, 1, 0, 2, 4]).rd hubSt O.MIRROR_STATE ≠ 1) := by
  refine ⟨?_, ?_, ?_, ?_, ?_, ?_, ?_, ?_, ?_, ?_, ?_, ?_, ?_, ?_, ?_, ?_, ?_, ?_, ?_, ?_, ?_, ?_, ?_, ?_, ?_, ?_, ?_, ?_, ?_⟩ <;> decide +kernel
def wReleaseAndBoot : List Nat → State := pick
  ([rA, [id, fun s => {s with supply := {s.supply with vio18 := false}}, fun s => {s with supply := {s.supply with vio18 := false, vstby := false}}], [id, bo (fun b => {b with stage := 2, cur := 0}), bo (fun b => {b with stage := 2, cur := 2}), bo (fun b => {b with stage := 4}), bo (fun b => {b with stage := 1})], alts hubSt O.CLK_GOOD [0, 1, 63], nowAlts [0, 2000000, 100000000000]])
theorem test_meets_ReleaseAndBoot :
    (((wReleaseAndBoot [2, 1, 2, 1, 1]).rst.held.isSome && (wReleaseAndBoot [2, 1, 2, 1, 1]).supply.vstby && decide (((wReleaseAndBoot [2, 1, 2, 1, 1]).rst.heldAt + if (wReleaseAndBoot [2, 1, 2, 1, 1]).rst.held = some 0 then 1000000 else 100000) ≤ (wReleaseAndBoot [2, 1, 2, 1, 1]).time hubSt) && !((wReleaseAndBoot [2, 1, 2, 1, 1]).rst.held == some 0 && (wReleaseAndBoot [2, 1, 2, 1, 1]).supply.aonOut)) = true ∧ (wReleaseAndBoot [2, 1, 2, 1, 1]).supply.vio18 = false) ∧
    (((wReleaseAndBoot [3, 0, 3, 1, 2]).rst.held.isSome && (wReleaseAndBoot [3, 0, 3, 1, 2]).supply.vstby && decide (((wReleaseAndBoot [3, 0, 3, 1, 2]).rst.heldAt + if (wReleaseAndBoot [3, 0, 3, 1, 2]).rst.held = some 0 then 1000000 else 100000) ≤ (wReleaseAndBoot [3, 0, 3, 1, 2]).time hubSt) && !((wReleaseAndBoot [3, 0, 3, 1, 2]).rst.held == some 0 && (wReleaseAndBoot [3, 0, 3, 1, 2]).supply.aonOut)) = true ∧ (wReleaseAndBoot [3, 0, 3, 1, 2]).supply.vio18 = true) ∧
    (((wReleaseAndBoot [6, 0, 3, 2, 1]).rst.held.isSome && (wReleaseAndBoot [6, 0, 3, 2, 1]).supply.vstby && decide (((wReleaseAndBoot [6, 0, 3, 2, 1]).rst.heldAt + if (wReleaseAndBoot [6, 0, 3, 2, 1]).rst.held = some 0 then 1000000 else 100000) ≤ (wReleaseAndBoot [6, 0, 3, 2, 1]).time hubSt) && !((wReleaseAndBoot [6, 0, 3, 2, 1]).rst.held == some 0 && (wReleaseAndBoot [6, 0, 3, 2, 1]).supply.aonOut)) = false) ∧
    ((wReleaseAndBoot [3, 0, 3, 1, 2]).supply.vio18 = true) ∧
    ((wReleaseAndBoot [1, 2, 3, 2, 0]).supply.vio18 = false ∧ (wReleaseAndBoot [1, 2, 3, 2, 0]).rst.strapWait = false) ∧
    ((wReleaseAndBoot [6, 2, 4, 2, 1]).supply.vio18 = false ∧ (wReleaseAndBoot [6, 2, 4, 2, 1]).rst.strapWait = true) ∧
    ((wReleaseAndBoot [0, 0, 3, 1, 2]).rst.held = none ∧ (wReleaseAndBoot [0, 0, 3, 1, 2]).rst.releasedAt + (wReleaseAndBoot [0, 0, 3, 1, 2]).rd hubSt O.RST_STRETCH ≤ (wReleaseAndBoot [0, 0, 3, 1, 2]).time hubSt) ∧
    (((wReleaseAndBoot [3, 0, 3, 1, 2]).rst.held ≠ none ∨ (wReleaseAndBoot [3, 0, 3, 1, 2]).time hubSt < (wReleaseAndBoot [3, 0, 3, 1, 2]).rst.releasedAt + (wReleaseAndBoot [3, 0, 3, 1, 2]).rd hubSt O.RST_STRETCH)) ∧
    ((wReleaseAndBoot [3, 0, 3, 1, 2]).rst.boot.stage ≠ 2) ∧
    ((wReleaseAndBoot [2, 0, 1, 0, 1]).rst.boot.stage = 2 ∧ (if (wReleaseAndBoot [2, 0, 1, 0, 1]).rst.boot.cur = 2 then if (if (wReleaseAndBoot [2, 0, 1, 0, 1]).rst.boot.cur = 2 then (wReleaseAndBoot [2, 0, 1, 0, 1]).moult.otpImage else (wReleaseAndBoot [2, 0, 1, 0, 1]).bankImage (wReleaseAndBoot [2, 0, 1, 0, 1]).rst.boot.cur) = [] then 3 else (wReleaseAndBoot [2, 0, 1, 0, 1]).oparnError (if (wReleaseAndBoot [2, 0, 1, 0, 1]).rst.boot.cur = 2 then (wReleaseAndBoot [2, 0, 1, 0, 1]).moult.otpImage else (wReleaseAndBoot [2, 0, 1, 0, 1]).bankImage (wReleaseAndBoot [2, 0, 1, 0, 1]).rst.boot.cur) 1 none else if false = false ∨ (wReleaseAndBoot [2, 0, 1, 0, 1]).pinsLive = false then 7 else if (wReleaseAndBoot [2, 0, 1, 0, 1]).bankErased (wReleaseAndBoot [2, 0, 1, 0, 1]).rst.boot.cur = true then 3 else (wReleaseAndBoot [2, 0, 1, 0, 1]).oparnError (if (wReleaseAndBoot [2, 0, 1, 0, 1]).rst.boot.cur = 2 then (wReleaseAndBoot [2, 0, 1, 0, 1]).moult.otpImage else (wReleaseAndBoot [2, 0, 1, 0, 1]).bankImage (wReleaseAndBoot [2, 0, 1, 0, 1]).rst.boot.cur) 1 none) ≠ 0) ∧
    ((wReleaseAndBoot [6, 0, 3, 2, 1]).rst.held = none ∧ (wReleaseAndBoot [6, 0, 3, 2, 1]).rst.boot.stage = 4) ∧
    (((wReleaseAndBoot [3, 0, 3, 1, 2]).rst.held ≠ none ∨ (wReleaseAndBoot [3, 0, 3, 1, 2]).rst.boot.stage ≠ 4)) ∧
    (((wReleaseAndBoot [0, 0, 3, 1, 2]).rst.held.isNone && !(wReleaseAndBoot [0, 0, 3, 1, 2]).rst.strapWait && !bit (wReleaseAndBoot [0, 0, 3, 1, 2]).rst.clkStuck 5 && !bit ((wReleaseAndBoot [0, 0, 3, 1, 2]).rd hubSt O.CLK_GOOD) 5 && (5 != 0 || (wReleaseAndBoot [0, 0, 3, 1, 2]).bootOpts.2.1) && (5 != 0 || (wReleaseAndBoot [0, 0, 3, 1, 2]).supply.vio18)) = true ∧ (wReleaseAndBoot [0, 0, 3, 1, 2]).rst.boot.stage ≠ 1) ∧
    (((wReleaseAndBoot [3, 0, 3, 1, 2]).rst.held.isNone && !(wReleaseAndBoot [3, 0, 3, 1, 2]).rst.strapWait && !bit (wReleaseAndBoot [3, 0, 3, 1, 2]).rst.clkStuck 0 && !bit ((wReleaseAndBoot [3, 0, 3, 1, 2]).rd hubSt O.CLK_GOOD) 0 && (0 != 0 || (wReleaseAndBoot [3, 0, 3, 1, 2]).bootOpts.2.1) && (0 != 0 || (wReleaseAndBoot [3, 0, 3, 1, 2]).supply.vio18)) = false) ∧
    (((wReleaseAndBoot [0, 0, 3, 1, 2]).rst.held.isNone && !(wReleaseAndBoot [0, 0, 3, 1, 2]).rst.strapWait && !bit (wReleaseAndBoot [0, 0, 3, 1, 2]).rst.clkStuck 5 && !bit ((wReleaseAndBoot [0, 0, 3, 1, 2]).rd hubSt O.CLK_GOOD) 5 && (5 != 0 || (wReleaseAndBoot [0, 0, 3, 1, 2]).bootOpts.2.1)) = true ∧ ((5 == 5 || decide (max (wReleaseAndBoot [0, 0, 3, 1, 2]).rst.releasedAt (tblGet 0 (wReleaseAndBoot [0, 0, 3, 1, 2]).rst.clkFrom 5) + 1000000 ≤ (wReleaseAndBoot [0, 0, 3, 1, 2]).time hubSt)) && (5 != 0 || !(wReleaseAndBoot [0, 0, 3, 1, 2]).rst.refSeen)) = true ∧ (wReleaseAndBoot [0, 0, 3, 1, 2]).rst.boot.stage ≠ 1) ∧
    ((((wReleaseAndBoot [3, 0, 3, 1, 2]).rst.held.isNone && !(wReleaseAndBoot [3, 0, 3, 1, 2]).rst.strapWait && !bit (wReleaseAndBoot [3, 0, 3, 1, 2]).rst.clkStuck 0 && !bit ((wReleaseAndBoot [3, 0, 3, 1, 2]).rd hubSt O.CLK_GOOD) 0 && (0 != 0 || (wReleaseAndBoot [3, 0, 3, 1, 2]).bootOpts.2.1)) = false ∨ ((0 == 5 || decide (max (wReleaseAndBoot [3, 0, 3, 1, 2]).rst.releasedAt (tblGet 0 (wReleaseAndBoot [3, 0, 3, 1, 2]).rst.clkFrom 0) + 1000000 ≤ (wReleaseAndBoot [3, 0, 3, 1, 2]).time hubSt)) && (0 != 0 || !(wReleaseAndBoot [3, 0, 3, 1, 2]).rst.refSeen)) = false)) ∧
    (bit ((wReleaseAndBoot [3, 0, 3, 1, 2]).rd hubSt O.CLK_GOOD) 0 = true) ∧
    (bit ((wReleaseAndBoot [2, 0, 1, 0, 1]).rd hubSt O.CLK_GOOD) 0 = false) := by
  refine ⟨?_, ?_, ?_, ?_, ?_, ?_, ?_, ?_, ?_, ?_, ?_, ?_, ?_, ?_, ?_, ?_, ?_, ?_⟩ <;> decide +kernel
end Sys2Proof.Tests.C13

namespace Sys2Proof.Tests.C14

def own : List (State → State) := [id, wrs [(hubSt, O.OWNER.at 0, 0x1001), (fSt 0, O.OWNER.at 0, 0x1000)], wrs [(hubSt, O.OWNER.at 0, 0x5000), (fSt 0, O.OWNER.at 0, 0xFFFF), (hubSt, O.OWNER.at 4, 0xFFFF), (fSt 0, O.OWNER.at 4, 0xFFFF), (hubSt, O.OWNER.at 3, 0xFFFF)], wrs [(hubSt, O.OWNER.at 4, 0), (hubSt, O.OWNER.at 5, 0), (fSt 0, O.OWNER.at 4, 0), (fSt 0, O.OWNER.at 5, 0)]]
def bs (v : Nat) : State → State := fun s => (List.range 6).foldl (fun s k => (s.wr hubSt (O.BANK_STATE.at k) v).wr (fSt 0) (O.BANK_STATE.at k) v) s
def cx : PageCtx := ⟨0, .hub, 0, 0, 16, []⟩
def wMemoryAccesses : List Nat → State := pick
  ([own, [bs 0, bs 0, bs 2, bs 3], [id, fun s => s.putPad hubSt 0 [1,2,3,255,255,255,255,255,9], fun s => s.putPad (fSt 0) 0 [255,255,255,255]], [id, fun s => {s with poison := [padKey hubSt 0 / 8, padKey (fSt 0) 8 / 8]}]])
theorem test_meets_MemoryAccesses :
    (((3#32).toNat % 8 ≠ 0 ∨ padLimit (padSt PadRef.hub) < (3#32).toNat + 8)) ∧
    ((16#32).toNat % 8 = 0 ∧ (16#32).toNat + 8 ≤ padLimit (padSt (PadRef.field 0)) ∧ (wMemoryAccesses [0, 3, 2, 1]).bankState (padSt (PadRef.field 0)) ((16#32).toNat / bankSize (padSt (PadRef.field 0))) = 3) ∧
    ((60000#32).toNat % 8 = 0 ∧ (60000#32).toNat + 8 ≤ padLimit (padSt PadRef.hub) ∧ (wMemoryAccesses [2, 2, 0, 1]).bankState (padSt PadRef.hub) ((60000#32).toNat / bankSize (padSt PadRef.hub)) = 2) ∧
    ((0#32).toNat % 8 = 0 ∧ (0#32).toNat + 8 ≤ padLimit (padSt PadRef.hub) ∧ (wMemoryAccesses [3, 0, 0, 0]).bankState (padSt PadRef.hub) ((0#32).toNat / bankSize (padSt PadRef.hub)) ≠ 3 ∧ (wMemoryAccesses [3, 0, 0, 0]).bankState (padSt PadRef.hub) ((0#32).toNat / bankSize (padSt PadRef.hub)) ≠ 2 ∧ ¬((16#16).toNat / 2 ^ 12 ≠ 0 ∧ ((16#16).toNat = (wMemoryAccesses [3, 0, 0, 0]).rd (padSt PadRef.hub) (O.OWNER.at ((0#32).toNat / bankSize (padSt PadRef.hub))) ∨ dualBank (padSt PadRef.hub) ((0#32).toNat / bankSize (padSt PadRef.hub)) = true ∧ (16#16).toNat = (wMemoryAccesses [3, 0, 0, 0]).rd (padSt PadRef.hub) (O.PORTB_AGENT.at ((0#32).toNat / bankSize (padSt PadRef.hub)))))) ∧
    ((20#32).toNat % 4 = 0 ∧ (20#32).toNat + 4 ≤ padLimit (padSt (PadRef.field 0)) ∧ (wMemoryAccesses [2, 1, 0, 1]).bankState (padSt (PadRef.field 0)) ((20#32).toNat / bankSize (padSt (PadRef.field 0))) ≠ 3 ∧ (wMemoryAccesses [2, 1, 0, 1]).bankState (padSt (PadRef.field 0)) ((20#32).toNat / bankSize (padSt (PadRef.field 0))) ≠ 2 ∧ ((65535#16).toNat / 2 ^ 12 ≠ 0 ∧ ((65535#16).toNat = (wMemoryAccesses [2, 1, 0, 1]).rd (padSt (PadRef.field 0)) (O.OWNER.at ((20#32).toNat / bankSize (padSt (PadRef.field 0)))) ∨ dualBank (padSt (PadRef.field 0)) ((20#32).toNat / bankSize (padSt (PadRef.field 0))) = true ∧ (65535#16).toNat = (wMemoryAccesses [2, 1, 0, 1]).rd (padSt (PadRef.field 0)) (O.PORTB_AGENT.at ((20#32).toNat / bankSize (padSt (PadRef.field 0)))))) ∧ ¬((wMemoryAccesses [2, 1, 0, 1]).poisoned (padSt (PadRef.field 0)) (20#32).toNat = true ∨ WordErr.corrected 5 = WordErr.uncorrectable) ∧ (dualBank (padSt (PadRef.field 0)) ((20#32).toNat / bankSize (padSt (PadRef.field 0))) = false ∨ Clash.waited = Clash.none ∨ Clash.waited = Clash.waited)) ∧
    ((20#32).toNat % 4 = 0 ∧ (20#32).toNat + 4 ≤ padLimit (padSt (PadRef.field 0)) ∧ (wMemoryAccesses [2, 1, 0, 1]).bankState (padSt (PadRef.field 0)) ((20#32).toNat / bankSize (padSt (PadRef.field 0))) ≠ 3 ∧ (wMemoryAccesses [2, 1, 0, 1]).bankState (padSt (PadRef.field 0)) ((20#32).toNat / bankSize (padSt (PadRef.field 0))) ≠ 2 ∧ ((65535#16).toNat / 2 ^ 12 ≠ 0 ∧ ((65535#16).toNat = (wMemoryAccesses [2, 1, 0, 1]).rd (padSt (PadRef.field 0)) (O.OWNER.at ((20#32).toNat / bankSize (padSt (PadRef.field 0)))) ∨ dualBank (padSt (PadRef.field 0)) ((20#32).toNat / bankSize (padSt (PadRef.field 0))) = true ∧ (65535#16).toNat = (wMemoryAccesses [2, 1, 0, 1]).rd (padSt (PadRef.field 0)) (O.PORTB_AGENT.at ((20#32).toNat / bankSize (padSt (PadRef.field 0)))))) ∧ ((wMemoryAccesses [2, 1, 0, 1]).poisoned (padSt (PadRef.field 0)) (20#32).toNat = true ∨ WordErr.uncorrectable = WordErr.uncorrectable) ∧ false = false) ∧
    ((20#32).toNat % 4 = 0 ∧ (20#32).toNat + 4 ≤ padLimit (padSt (PadRef.field 0)) ∧ (wMemoryAccesses [2, 1, 0, 1]).bankState (padSt (PadRef.field 0)) ((20#32).toNat / bankSize (padSt (PadRef.field 0))) ≠ 3 ∧ (wMemoryAccesses [2, 1, 0, 1]).bankState (padSt (PadRef.field 0)) ((20#32).toNat / bankSize (padSt (PadRef.field 0))) ≠ 2 ∧ ((65535#16).toNat / 2 ^ 12 ≠ 0 ∧ ((65535#16).toNat = (wMemoryAccesses [2, 1, 0, 1]).rd (padSt (PadRef.field 0)) (O.OWNER.at ((20#32).toNat / bankSize (padSt (PadRef.field 0)))) ∨ dualBank (padSt (PadRef.field 0)) ((20#32).toNat / bankSize (padSt (PadRef.field 0))) = true ∧ (65535#16).toNat = (wMemoryAccesses [2, 1, 0, 1]).rd (padSt (PadRef.field 0)) (O.PORTB_AGENT.at ((20#32).toNat / bankSize (padSt (PadRef.field 0)))))) ∧ (¬((wMemoryAccesses [2, 1, 0, 1]).poisoned (padSt (PadRef.field 0)) (20#32).toNat = true ∨ WordErr.corrected 5 = WordErr.uncorrectable) ∨ false = true)) := by
  refine ⟨?_, ?_, ?_, ?_, ?_, ?_, ?_⟩ <;> decide +kernel
def wBanksAreOwnedAndRepaired : List Nat → State := pick
  ([own, [bs 0, bs 0, bs 2, bs 3], alts hubSt O.HOST_TIER_STATE [0,1], [id, fun s => {s with memory := {s.memory with ctxs := [cx, cx, {cx with kind := 4}]}}], [id, wrs [(hubSt, O.TRACE_STATE, 3), (fSt 0, O.TRACE_STATE, 3)]], [id, wrs [(hubSt, O.SPARE_FUSED.at 0, 15), (fSt 0, O.SPARE_SOFT.at 0, 15)]]])
theorem test_meets_BanksAreOwnedAndRepaired :
    ((wBanksAreOwnedAndRepaired [1, 2, 0, 1, 1, 1]).Admitted 0 (padSt PadRef.hub) (O.OWNER.at 0) 2 ∧ ((wBanksAreOwnedAndRepaired [1, 2, 0, 1, 1, 1]).bankState (padSt PadRef.hub) 0 ≠ 0 ∨ (wBanksAreOwnedAndRepaired [1, 2, 0, 1, 1, 1]).ownerHolds (padSt PadRef.hub) 0 = true ∨ dualBank (padSt PadRef.hub) 0 = true ∧ (65535#16).toNat - bits (65535#16).toNat 11 8 * 2 ^ 8 = (wBanksAreOwnedAndRepaired [1, 2, 0, 1, 1, 1]).rd (padSt PadRef.hub) (O.PORTB_AGENT.at 0) ∧ (65535#16).toNat - bits (65535#16).toNat 11 8 * 2 ^ 8 ≠ 0)) ∧
    ((wBanksAreOwnedAndRepaired [1, 2, 0, 1, 1, 1]).Admitted 0 (padSt PadRef.hub) (O.OWNER.at 63) 2 ∧ ¬((wBanksAreOwnedAndRepaired [1, 2, 0, 1, 1, 1]).bankState (padSt PadRef.hub) 63 ≠ 0 ∨ (wBanksAreOwnedAndRepaired [1, 2, 0, 1, 1, 1]).ownerHolds (padSt PadRef.hub) 63 = true ∨ dualBank (padSt PadRef.hub) 63 = true ∧ (0#16).toNat - bits (0#16).toNat 11 8 * 2 ^ 8 = (wBanksAreOwnedAndRepaired [1, 2, 0, 1, 1, 1]).rd (padSt PadRef.hub) (O.PORTB_AGENT.at 63) ∧ (0#16).toNat - bits (0#16).toNat 11 8 * 2 ^ 8 ≠ 0) ∧ ownerOk (padSt PadRef.hub) ((0#16).toNat - bits (0#16).toNat 11 8 * 2 ^ 8) true = true) ∧
    ((wBanksAreOwnedAndRepaired [1, 2, 0, 1, 1, 1]).Admitted 0 (padSt PadRef.hub) (O.OWNER.at 63) 2 ∧ ¬((wBanksAreOwnedAndRepaired [1, 2, 0, 1, 1, 1]).bankState (padSt PadRef.hub) 63 ≠ 0 ∨ (wBanksAreOwnedAndRepaired [1, 2, 0, 1, 1, 1]).ownerHolds (padSt PadRef.hub) 63 = true ∨ dualBank (padSt PadRef.hub) 63 = true ∧ (60000#16).toNat - bits (60000#16).toNat 11 8 * 2 ^ 8 = (wBanksAreOwnedAndRepaired [1, 2, 0, 1, 1, 1]).rd (padSt PadRef.hub) (O.PORTB_AGENT.at 63) ∧ (60000#16).toNat - bits (60000#16).toNat 11 8 * 2 ^ 8 ≠ 0) ∧ ownerOk (padSt PadRef.hub) ((60000#16).toNat - bits (60000#16).toNat 11 8 * 2 ^ 8) true = false) ∧
    (¬(63 < bankCount (padSt (PadRef.field 0)) ∧ (wBanksAreOwnedAndRepaired [3, 0, 1, 0, 0, 1]).bankState (padSt (PadRef.field 0)) 63 = 0 ∧ tblGet 0 (wBanksAreOwnedAndRepaired [3, 0, 1, 0, 0, 1]).marks (markKey 16 (padSt (PadRef.field 0) * 64 + 63)) ≠ (wBanksAreOwnedAndRepaired [3, 0, 1, 0, 0, 1]).time (padSt (PadRef.field 0)) / (wBanksAreOwnedAndRepaired [3, 0, 1, 0, 0, 1]).rd (padSt (PadRef.field 0)) O.SCRUB_PERIOD + 1)) ∧
    ((1 < bankCount (padSt (PadRef.field 0)) ∧ (wBanksAreOwnedAndRepaired [3, 0, 1, 0, 0, 1]).bankState (padSt (PadRef.field 0)) 1 = 0 ∧ tblGet 0 (wBanksAreOwnedAndRepaired [3, 0, 1, 0, 0, 1]).marks (markKey 16 (padSt (PadRef.field 0) * 64 + 1)) ≠ (wBanksAreOwnedAndRepaired [3, 0, 1, 0, 0, 1]).time (padSt (PadRef.field 0)) / (wBanksAreOwnedAndRepaired [3, 0, 1, 0, 0, 1]).rd (padSt (PadRef.field 0)) O.SCRUB_PERIOD + 1) ∧ 1 < (wBanksAreOwnedAndRepaired [3, 0, 1, 0, 0, 1]).rd (padSt (PadRef.field 0)) O.COL_THRESH ∧ 8 * (20#12).toNat < bankSize (padSt (PadRef.field 0))) ∧
    ((wBanksAreOwnedAndRepaired [1, 2, 0, 1, 1, 1]).Admitted 0 (padSt PadRef.hub) (O.REPAIR_CTRL.at 0) 2 ∧ ((wBanksAreOwnedAndRepaired [1, 2, 0, 1, 1, 1]).bankState (padSt PadRef.hub) 0 ≠ 0 ∨ ¬(bits (1#16).toNat 15 8 = 1 ∧ bits (1#16).toNat 7 0 < 72) ∧ (wBanksAreOwnedAndRepaired [1, 2, 0, 1, 1, 1]).freeSpare (padSt PadRef.hub) 0 = none)) ∧
    ((wBanksAreOwnedAndRepaired [1, 2, 0, 1, 1, 1]).Admitted 0 (padSt PadRef.hub) (O.REPAIR_CTRL.at 63) 2 ∧ (wBanksAreOwnedAndRepaired [1, 2, 0, 1, 1, 1]).bankState (padSt PadRef.hub) 63 = 0 ∧ (wBanksAreOwnedAndRepaired [1, 2, 0, 1, 1, 1]).freeSpare (padSt PadRef.hub) 63 = some 0 ∧ ¬(bits (700#16).toNat 15 8 = 1 ∧ bits (700#16).toNat 7 0 < 72)) ∧
    ((bankCount (padSt (PadRef.field 0)) ≤ 1 ∨ (wBanksAreOwnedAndRepaired [3, 0, 1, 0, 0, 1]).bankState (padSt (PadRef.field 0)) 1 ≠ 2)) ∧
    (4 < bankCount (padSt (PadRef.field 0)) ∧ (wBanksAreOwnedAndRepaired [0, 2, 0, 0, 1, 0]).bankState (padSt (PadRef.field 0)) 4 = 2 ∧ (wBanksAreOwnedAndRepaired [0, 2, 0, 0, 1, 0]).rd (padSt (PadRef.field 0)) (O.OWNER.at 4) / 2 ^ 12 ≠ 2 ∧ (wBanksAreOwnedAndRepaired [0, 2, 0, 0, 1, 0]).memory.ctxs = []) ∧
    ((wBanksAreOwnedAndRepaired [3, 0, 1, 0, 0, 1]).findCtx (padSt (PadRef.field 0)) 5 (3#32).toNat = none) ∧
    ((wBanksAreOwnedAndRepaired [1, 2, 0, 1, 1, 1]).findCtx (padSt PadRef.hub) 4 (0#32).toNat = some ({ kind := 4, place := Sys2Proof.PagePlace.hub, id := 0, addr := 0, len := 16, data := [] } : PageCtx)) ∧
    (PadRef.field 0 = PadRef.field 0 ∧ (wBanksAreOwnedAndRepaired [3, 0, 1, 0, 0, 1]).memory.ctxs = [] ∧ (wBanksAreOwnedAndRepaired [3, 0, 1, 0, 0, 1]).storeWaits (fSt 0) (60000#32).toNat (0#32).toNat = false ∧ ((wBanksAreOwnedAndRepaired [3, 0, 1, 0, 0, 1]).tile 0 (Fin.ofNat 16 (2#32).toNat)).snap.length = (0#32).toNat ∧ ((wBanksAreOwnedAndRepaired [3, 0, 1, 0, 0, 1]).storeFits (fSt 0) (60000#32).toNat (0#32).toNat = false ∨ (wBanksAreOwnedAndRepaired [3, 0, 1, 0, 0, 1]).storeFree (fSt 0) < (0#32).toNat)) ∧
    ((wBanksAreOwnedAndRepaired [1, 2, 0, 1, 1, 1]).Admitted 0 hubSt O.HOST_TIER_SIZE 4 ∧ 3#32 ≠ 0 ∧ (3#32).toNat ≤ 65536) ∧
    ((wBanksAreOwnedAndRepaired [1, 2, 0, 1, 1, 1]).Admitted 0 hubSt O.HOST_TIER_SIZE 4 ∧ 0#32 = 0) ∧
    ((wBanksAreOwnedAndRepaired [1, 2, 0, 1, 1, 1]).Admitted 0 hubSt O.HOST_TIER_SIZE 4 ∧ 65536 < (4294967295#32).toNat) ∧
    ((wBanksAreOwnedAndRepaired [1, 2, 0, 1, 1, 1]).Admitted 0 hubSt O.TRACE_DUMP 2 ∧ (∀ (x : Station), addrStation (65535#16).toNat = some x → ∃ f c, x = Station.cluster f c)) ∧
    ((wBanksAreOwnedAndRepaired [1, 3, 1, 1, 1, 1]).Admitted 0 hubSt O.TRACE_DUMP 2 ∧ addrStation (16#16).toNat = some (Station.field 0) ∧ (∀ (f : FieldId) (c : ClusterId), Station.field 0 ≠ Station.cluster f c) ∧ (wBanksAreOwnedAndRepaired [1, 3, 1, 1, 1, 1]).rd (Station.field 0).addr O.TRACE_STATE = 3 ∧ (wBanksAreOwnedAndRepaired [1, 3, 1, 1, 1, 1]).rd hubSt O.HOST_TIER_STATE = 1) ∧
    ((wBanksAreOwnedAndRepaired [1, 2, 0, 1, 1, 1]).Admitted 0 hubSt O.TRACE_DUMP 2 ∧ addrStation (16#16).toNat = some (Station.field 0) ∧ (∀ (f : FieldId) (c : ClusterId), Station.field 0 ≠ Station.cluster f c) ∧ ((wBanksAreOwnedAndRepaired [1, 2, 0, 1, 1, 1]).rd (Station.field 0).addr O.TRACE_STATE ≠ 3 ∨ (wBanksAreOwnedAndRepaired [1, 2, 0, 1, 1, 1]).rd hubSt O.HOST_TIER_STATE ≠ 1)) := by
  refine ⟨?_, ?_, ?_, ?_, ?_, ?_, ?_, ?_, ?_, ?_, ?_, ?_, ?_, ?_, ?_, ?_, ?_, ?_⟩ <;> decide +kernel
end Sys2Proof.Tests.C14

namespace Sys2Proof.Tests.C15

def fi : FltId := fltId 1 .hub 0
def fid (c : Nat) (st : Nat) : FltId := ⟨c, st, 0⟩
def ids : List FltId := [fid 1 0, fid 255 0, fid 2 0, fid 4 0]
def msgs (arr : Bool) (s : State) : State := { s with flt := { s.flt with outbox := ids.map (fun i => ⟨i, 5, 6, false, arr⟩) } }
def recs (sev : Nat) (due : Nat) (s : State) : State := { s with flt := { s.flt with set := ids.zipIdx.map (fun p => { newRecord s p.1 p.2 sev 100 false false with escDue := due }) } }
def acts (s : State) : State := { s with flt := { s.flt with actions := ids.map (fun i => ⟨i, 4, i, none⟩) } }
def acts5 (s : State) : State := { s with flt := { s.flt with actions := ids.map (fun i => ⟨i, 5, i, none⟩) } }
def inj (s : State) : State := { s with flt := { s.flt with injection := some ⟨0, 0, 6, 0⟩ } }
def wiresM (s : State) : State := { s with flt := { s.flt with wires := [⟨0, none⟩, ⟨0, some 0⟩] } }
def resM (s : State) : State := { s with flt := { s.flt with resends := ids } }
def endM (s : State) : State := { s with flt := { s.flt with ends := ids } }
def wFaultsAreCollected : List Nat → State := pick
  ([[id, msgs false, msgs true], [id, recs 3 5, recs 5 5, recs 4 1000], [id, acts, acts5], [id, resM], [id, endM], [id, inj], [id, wiresM, wiresM], alts hubSt O.INJ_STATE [0,1], alts hubSt O.ESC_RESET [0,1], nowAlts [0, 10, 30000, 200000, 2000000]])
theorem test_meets_FaultsAreCollected :
    (((List.find? (fun m => m.id == fltId (16#16) (Station.field 0) 700#16 && (true || !m.arrived)) (wFaultsAreCollected [2, 0, 0, 0, 0, 1, 2, 1, 1, 1]).flt.outbox).isSome && !(wFaultsAreCollected [2, 0, 0, 0, 0, 1, 2, 1, 1, 1]).unreachable (Station.field 0) && (!true || (wFaultsAreCollected [2, 0, 0, 0, 0, 1, 2, 1, 1, 1]).flt.resends.contains (fltId (16#16) (Station.field 0) 700#16))) = false) ∧
    (((List.find? (fun m => m.id == fltId (255#16) Station.hub 0#16 && (true || !m.arrived)) (wFaultsAreCollected [1, 3, 0, 1, 0, 1, 1, 0, 1, 2]).flt.outbox).isSome && !(wFaultsAreCollected [1, 3, 0, 1, 0, 1, 1, 0, 1, 2]).unreachable Station.hub && (!true || (wFaultsAreCollected [1, 3, 0, 1, 0, 1, 1, 0, 1, 2]).flt.resends.contains (fltId (255#16) Station.hub 0#16))) = true ∧ true = true ∧ (wFaultsAreCollected [1, 3, 0, 1, 0, 1, 1, 0, 1, 2]).matched (fltId (255#16) Station.hub 0#16) = true) ∧
    (List.find? (fun m => m.id == fltId (1#16) Station.hub 0#16 && (false || !m.arrived)) (wFaultsAreCollected [1, 2, 2, 0, 1, 1, 0, 0, 1, 3]).flt.outbox = some ({ id := { code := 1, station := 0, item := 0 }, data := 5, time := 6, injected := false, arrived := false } : FltMsg) ∧ ((List.find? (fun m => m.id == fltId (1#16) Station.hub 0#16 && (false || !m.arrived)) (wFaultsAreCollected [1, 2, 2, 0, 1, 1, 0, 0, 1, 3]).flt.outbox).isSome && !(wFaultsAreCollected [1, 2, 2, 0, 1, 1, 0, 0, 1, 3]).unreachable Station.hub && (!false || (wFaultsAreCollected [1, 2, 2, 0, 1, 1, 0, 0, 1, 3]).flt.resends.contains (fltId (1#16) Station.hub 0#16))) = true ∧ false = false ∧ ((wFaultsAreCollected [1, 2, 2, 0, 1, 1, 0, 0, 1, 3]).flt.set.any fun r => r.id == fltId (1#16) Station.hub 0#16) = true) ∧
    (List.find? (fun m => m.id == fltId (255#16) Station.hub 0#16 && (false || !m.arrived)) (wFaultsAreCollected [1, 0, 2, 0, 1, 1, 2, 0, 1, 0]).flt.outbox = some ({ id := { code := 255, station := 0, item := 0 }, data := 5, time := 6, injected := false, arrived := false } : FltMsg) ∧ ((List.find? (fun m => m.id == fltId (255#16) Station.hub 0#16 && (false || !m.arrived)) (wFaultsAreCollected [1, 0, 2, 0, 1, 1, 2, 0, 1, 0]).flt.outbox).isSome && !(wFaultsAreCollected [1, 0, 2, 0, 1, 1, 2, 0, 1, 0]).unreachable Station.hub && (!false || (wFaultsAreCollected [1, 0, 2, 0, 1, 1, 2, 0, 1, 0]).flt.resends.contains (fltId (255#16) Station.hub 0#16))) = true ∧ false = false ∧ ((wFaultsAreCollected [1, 0, 2, 0, 1, 1, 2, 0, 1, 0]).flt.set.any fun r => r.id == fltId (255#16) Station.hub 0#16) = false ∧ (wFaultsAreCollected [1, 0, 2, 0, 1, 1, 2, 0, 1, 0]).flt.set.length < 1024) ∧
    ((wFaultsAreCollected [2, 0, 0, 0, 0, 1, 2, 1, 1, 1]).unreachable (Station.field 0) = false) ∧
    ((wFaultsAreCollected [0, 0, 1, 0, 1, 1, 1, 0, 1, 4]).flt.ends.contains (fltId (2#16) Station.hub 0#16) = true ∧ (wFaultsAreCollected [0, 0, 1, 0, 1, 1, 1, 0, 1, 4]).unreachable Station.hub = false ∧ ((wFaultsAreCollected [0, 0, 1, 0, 1, 1, 1, 0, 1, 4]).flt.outbox.any fun m => m.id == fltId (2#16) Station.hub 0#16 && !m.arrived) = false) ∧
    (((wFaultsAreCollected [2, 0, 0, 0, 0, 1, 2, 1, 1, 1]).flt.ends.contains (fltId (16#16) (Station.field 0) 700#16) = false ∨ ((wFaultsAreCollected [2, 0, 0, 0, 0, 1, 2, 1, 1, 1]).flt.outbox.any fun m => m.id == fltId (16#16) (Station.field 0) 700#16 && !m.arrived) = true)) ∧
    ((wFaultsAreCollected [0, 3, 2, 0, 1, 1, 2, 0, 1, 0]).flt.escWait.contains (fltId (1#16) Station.hub 0#16) = false ∧ (wFaultsAreCollected [0, 3, 2, 0, 1, 1, 2, 0, 1, 0]).recordOf (fltId (1#16) Station.hub 0#16) = some ({ slot := 0, id := { code := 1, station := 0, item := 0 }, sev := 4, present := false, injected := false, acted := false, count := 1, entryTime := 0, escDue := 1000, window := 100 } : FltRec) ∧ (({ slot := 0, id := { code := 1, station := 0, item := 0 }, sev := 4, present := false, injected := false, acted := false, count := 1, entryTime := 0, escDue := 1000, window := 100 } : FltRec).escDue = 0 ∨ (wFaultsAreCollected [0, 3, 2, 0, 1, 1, 2, 0, 1, 0]).time hubSt < ({ slot := 0, id := { code := 1, station := 0, item := 0 }, sev := 4, present := false, injected := false, acted := false, count := 1, entryTime := 0, escDue := 1000, window := 100 } : FltRec).escDue)) ∧
    ((wFaultsAreCollected [0, 1, 2, 0, 1, 1, 0, 0, 0, 3]).flt.escWait.contains (fltId (1#16) Station.hub 0#16) = false ∧ (wFaultsAreCollected [0, 1, 2, 0, 1, 1, 0, 0, 0, 3]).recordOf (fltId (1#16) Station.hub 0#16) = some ({ slot := 0, id := { code := 1, station := 0, item := 0 }, sev := 3, present := false, injected := false, acted := false, count := 1, entryTime := 0, escDue := 5, window := 100 } : FltRec) ∧ ({ slot := 0, id := { code := 1, station := 0, item := 0 }, sev := 3, present := false, injected := false, acted := false, count := 1, entryTime := 0, escDue := 5, window := 100 } : FltRec).escDue ≠ 0 ∧ ({ slot := 0, id := { code := 1, station := 0, item := 0 }, sev := 3, present := false, injected := false, acted := false, count := 1, entryTime := 0, escDue := 5, window := 100 } : FltRec).escDue ≤ (wFaultsAreCollected [0, 1, 2, 0, 1, 1, 0, 0, 0, 3]).time hubSt ∧ ({ slot := 0, id := { code := 1, station := 0, item := 0 }, sev := 3, present := false, injected := false, acted := false, count := 1, entryTime := 0, escDue := 5, window := 100 } : FltRec).sev < 5) ∧
    ((wFaultsAreCollected [1, 2, 2, 0, 1, 1, 0, 0, 1, 3]).flt.escWait.contains (fltId (1#16) Station.hub 0#16) = false ∧ (wFaultsAreCollected [1, 2, 2, 0, 1, 1, 0, 0, 1, 3]).recordOf (fltId (1#16) Station.hub 0#16) = some ({ slot := 0, id := { code := 1, station := 0, item := 0 }, sev := 5, present := false, injected := false, acted := false, count := 1, entryTime := 0, escDue := 5, window := 100 } : FltRec) ∧ ({ slot := 0, id := { code := 1, station := 0, item := 0 }, sev := 5, present := false, injected := false, acted := false, count := 1, entryTime := 0, escDue := 5, window := 100 } : FltRec).escDue ≠ 0 ∧ ({ slot := 0, id := { code := 1, station := 0, item := 0 }, sev := 5, present := false, injected := false, acted := false, count := 1, entryTime := 0, escDue := 5, window := 100 } : FltRec).escDue ≤ (wFaultsAreCollected [1, 2, 2, 0, 1, 1, 0, 0, 1, 3]).time hubSt ∧ 5 ≤ ({ slot := 0, id := { code := 1, station := 0, item := 0 }, sev := 5, present := false, injected := false, acted := false, count := 1, entryTime := 0, escDue := 5, window := 100 } : FltRec).sev ∧ (wFaultsAreCollected [1, 2, 2, 0, 1, 1, 0, 0, 1, 3]).rd hubSt O.ESC_RESET ≠ 0 ∧ (wFaultsAreCollected [1, 2, 2, 0, 1, 1, 0, 0, 1, 3]).stopDone ({ slot := 0, id := { code := 1, station := 0, item := 0 }, sev := 5, present := false, injected := false, acted := false, count := 1, entryTime := 0, escDue := 5, window := 100 } : FltRec).id = false) ∧
    ((wFaultsAreCollected [1, 2, 0, 0, 0, 0, 2, 0, 0, 3]).flt.escWait.contains (fltId (4#16) Station.hub 0#16) = false ∧ (wFaultsAreCollected [1, 2, 0, 0, 0, 0, 2, 0, 0, 3]).recordOf (fltId (4#16) Station.hub 0#16) = some ({ slot := 3, id := { code := 4, station := 0, item := 0 }, sev := 5, present := false, injected := false, acted := false, count := 1, entryTime := 0, escDue := 5, window := 100 } : FltRec) ∧ ({ slot := 3, id := { code := 4, station := 0, item := 0 }, sev := 5, present := false, injected := false, acted := false, count := 1, entryTime := 0, escDue := 5, window := 100 } : FltRec).escDue ≠ 0 ∧ ({ slot := 3, id := { code := 4, station := 0, item := 0 }, sev := 5, present := false, injected := false, acted := false, count := 1, entryTime := 0, escDue := 5, window := 100 } : FltRec).escDue ≤ (wFaultsAreCollected [1, 2, 0, 0, 0, 0, 2, 0, 0, 3]).time hubSt ∧ 5 ≤ ({ slot := 3, id := { code := 4, station := 0, item := 0 }, sev := 5, present := false, injected := false, acted := false, count := 1, entryTime := 0, escDue := 5, window := 100 } : FltRec).sev ∧ (wFaultsAreCollected [1, 2, 0, 0, 0, 0, 2, 0, 0, 3]).rd hubSt O.ESC_RESET = 0) ∧
    ((wFaultsAreCollected [2, 0, 0, 0, 0, 1, 2, 1, 1, 1]).flt.escWait.contains (fltId (16#16) (Station.field 0) 700#16) = false ∧ (wFaultsAreCollected [2, 0, 0, 0, 0, 1, 2, 1, 1, 1]).recordOf (fltId (16#16) (Station.field 0) 700#16) = none) ∧
    (List.find? (fun a => a.id == fltId (16#16) (Station.field 0) 700#16) (wFaultsAreCollected [2, 0, 0, 0, 0, 1, 2, 1, 1, 1]).flt.actions = none) ∧
    (List.find? (fun a => a.id == fltId (2#16) Station.hub 0#16) (wFaultsAreCollected [0, 0, 1, 0, 1, 1, 1, 0, 1, 4]).flt.actions = some ({ id := { code := 2, station := 0, item := 0 }, sev := 4, body := { code := 2, station := 0, item := 0 }, seq := none } : FltAction) ∧ (wFaultsAreCollected [0, 0, 1, 0, 1, 1, 1, 0, 1, 4]).actsOn ({ id := { code := 2, station := 0, item := 0 }, sev := 4, body := { code := 2, station := 0, item := 0 }, seq := none } : FltAction).id ({ id := { code := 2, station := 0, item := 0 }, sev := 4, body := { code := 2, station := 0, item := 0 }, seq := none } : FltAction).sev = false) ∧
    (List.find? (fun a => a.id == fltId (1#16) Station.hub 0#16) (wFaultsAreCollected [1, 2, 2, 0, 1, 1, 0, 0, 1, 3]).flt.actions = some ({ id := { code := 1, station := 0, item := 0 }, sev := 5, body := { code := 1, station := 0, item := 0 }, seq := none } : FltAction) ∧ (wFaultsAreCollected [1, 2, 2, 0, 1, 1, 0, 0, 1, 3]).actsOn ({ id := { code := 1, station := 0, item := 0 }, sev := 5, body := { code := 1, station := 0, item := 0 }, seq := none } : FltAction).id ({ id := { code := 1, station := 0, item := 0 }, sev := 5, body := { code := 1, station := 0, item := 0 }, seq := none } : FltAction).sev = true) ∧
    ((wFaultsAreCollected [2, 0, 0, 0, 0, 1, 2, 1, 1, 1]).Admitted 0 hubSt O.FLT_CLEAR 8) ∧
    ((wFaultsAreCollected [2, 0, 0, 0, 0, 1, 2, 1, 1, 1]).Admitted 0 hubSt O.FLT_CLEAR_ALL 1) ∧
    ((wFaultsAreCollected [2, 0, 0, 0, 0, 1, 2, 1, 1, 1]).flt.wires.contains { field := 0, cluster := some 2 } = false) ∧
    ((wFaultsAreCollected [2, 0, 0, 0, 0, 1, 2, 1, 1, 1]).flt.wires.contains { field := 0, cluster := none } = true) ∧
    (((wFaultsAreCollected [0, 0, 1, 0, 1, 1, 1, 0, 1, 4]).pairOut 0 && decide ((tblGet 0 (wFaultsAreCollected [0, 0, 1, 0, 1, 1, 1, 0, 1, 4]).flt.pairAt 0 + if ((wFaultsAreCollected [0, 0, 1, 0, 1, 1, 1, 0, 1, 4]).flt.wires.any fun w => w.field == 0) = true then 100000 else 20000) ≤ (wFaultsAreCollected [0, 0, 1, 0, 1, 1, 1, 0, 1, 4]).time hubSt)) = true) ∧
    (((wFaultsAreCollected [2, 0, 0, 0, 0, 1, 2, 1, 1, 1]).pairOut 0 && decide ((tblGet 0 (wFaultsAreCollected [2, 0, 0, 0, 0, 1, 2, 1, 1, 1]).flt.pairAt 0 + if ((wFaultsAreCollected [2, 0, 0, 0, 0, 1, 2, 1, 1, 1]).flt.wires.any fun w => w.field == 0) = true then 100000 else 20000) ≤ (wFaultsAreCollected [2, 0, 0, 0, 0, 1, 2, 1, 1, 1]).time hubSt)) = false) ∧
    ((wFaultsAreCollected [2, 0, 0, 0, 0, 1, 2, 1, 1, 1]).Admitted 0 hubSt O.INJ_ARM 1) ∧
    ((wFaultsAreCollected [2, 0, 0, 0, 0, 1, 2, 1, 1, 1]).Admitted 0 hubSt O.INJ_REQ 4 ∧ ((wFaultsAreCollected [2, 0, 0, 0, 0, 1, 2, 1, 1, 1]).rd hubSt O.INJ_STATE == 1 && decide ((wFaultsAreCollected [2, 0, 0, 0, 0, 1, 2, 1, 1, 1]).time hubSt < (wFaultsAreCollected [2, 0, 0, 0, 0, 1, 2, 1, 1, 1]).flt.injAt + 1000000)) = true ∧ injPresent (bits (700#32).toNat 31 16) (bits (700#32).toNat 15 12) (bits (700#32).toNat 11 8) (bits (700#32).toNat 7 0) = false) ∧
    ((wFaultsAreCollected [2, 1, 1, 0, 0, 1, 1, 0, 1, 0]).Admitted 0 hubSt O.INJ_REQ 4 ∧ ((wFaultsAreCollected [2, 1, 1, 0, 0, 1, 1, 0, 1, 0]).rd hubSt O.INJ_STATE == 1 && decide ((wFaultsAreCollected [2, 1, 1, 0, 0, 1, 1, 0, 1, 0]).time hubSt < (wFaultsAreCollected [2, 1, 1, 0, 0, 1, 1, 0, 1, 0]).flt.injAt + 1000000)) = false) ∧
    (((wFaultsAreCollected [1, 3, 2, 1, 0, 1, 0, 1, 0, 4]).rd hubSt O.INJ_STATE == 1 && decide ((wFaultsAreCollected [1, 3, 2, 1, 0, 1, 0, 1, 0, 4]).flt.injAt + 1000000 ≤ (wFaultsAreCollected [1, 3, 2, 1, 0, 1, 0, 1, 0, 4]).time hubSt)) = true) ∧
    (((wFaultsAreCollected [2, 0, 0, 0, 0, 1, 2, 1, 1, 1]).rd hubSt O.INJ_STATE == 1 && decide ((wFaultsAreCollected [2, 0, 0, 0, 0, 1, 2, 1, 1, 1]).flt.injAt + 1000000 ≤ (wFaultsAreCollected [2, 0, 0, 0, 0, 1, 2, 1, 1, 1]).time hubSt)) = false) ∧
    ((wFaultsAreCollected [0, 3, 0, 0, 0, 0, 0, 0, 0, 3]).flt.injection = none) ∧
    ((wFaultsAreCollected [2, 1, 1, 0, 0, 1, 1, 0, 1, 0]).flt.injection = some ({ station := 0, mode := 0, checker := 6, unit := 0 } : InjReq) ∧ (wFaultsAreCollected [2, 1, 1, 0, 0, 1, 1, 0, 1, 0]).rd hubSt O.INJ_STATE ≠ 1 ∧ ({ station := 0, mode := 0, checker := 6, unit := 0 } : InjReq).checker = 6 ∧ addrStation ({ station := 0, mode := 0, checker := 6, unit := 0 } : InjReq).station ≠ none) := by
  refine ⟨?_, ?_, ?_, ?_, ?_, ?_, ?_, ?_, ?_, ?_, ?_, ?_, ?_, ?_, ?_, ?_, ?_, ?_, ?_, ?_, ?_, ?_, ?_, ?_, ?_, ?_, ?_, ?_⟩ <;> decide +kernel
end Sys2Proof.Tests.C15

namespace Sys2Proof.Tests.C16

def mo (g : Moult → Moult) (s : State) : State := { s with moult := g s.moult }
def rs (g : ResetRec → ResetRec) (s : State) : State := { s with rst := g s.rst }
def stg4 : State → State := rs (fun r => {r with boot := {r.boot with stage := 4}})
def stg5 : State → State := rs (fun r => {r with boot := {r.boot with stage := 5}})
def ch (off n : Nat) : List Byte := leBytes 4 off ++ List.replicate n 7
def wImagesAreTransferred : List Nat → State := pick
  ([alts hubSt O.IMG_STATE [0,1,2,3,4,5,6,7,2,4], alts hubSt O.IMG_TARGET [1,2,3,4], [id, wr' hubSt O.IMG_LEN 100], [id, mo (fun m => {m with ops := [.slotSeq 1 2]}), mo (fun m => {m with ops := [.confirm 1]}), mo (fun m => {m with ops := [.manifest]})], alts hubSt O.CONFIRMED [0,1], [id, wrs [(hubSt, O.ACTIVE_SVN, 3), (hubSt, O.ROLLBACK_CTR, 1)]], [id, mo (fun m => {m with activeKey := some 0}), wrs [(hubSt, O.KEY_SLOTS, 15), (hubSt, O.KEY_REVOKED, 2)]], [stg4, stg5, rs (fun r => {r with trialDue := some 100})], nowAlts [0, 100, 100]])
theorem test_meets_ImagesAreTransferred :
    ((wImagesAreTransferred [7, 3, 0, 3, 1, 0, 0, 1, 1]).Admitted 0 hubSt O.IMG_CTRL 1 ∧ ((wImagesAreTransferred [7, 3, 0, 3, 1, 0, 0, 1, 1]).rd hubSt O.IMG_STATE = 0 ∨ (wImagesAreTransferred [7, 3, 0, 3, 1, 0, 0, 1, 1]).rd hubSt O.IMG_STATE = 4 ∨ (wImagesAreTransferred [7, 3, 0, 3, 1, 0, 0, 1, 1]).rd hubSt O.IMG_STATE = 5 ∨ (wImagesAreTransferred [7, 3, 0, 3, 1, 0, 0, 1, 1]).rd hubSt O.IMG_STATE = 7) ∧ ¬((wImagesAreTransferred [7, 3, 0, 3, 1, 0, 0, 1, 1]).rd hubSt O.IMG_TARGET = 4 ∧ (wImagesAreTransferred [7, 3, 0, 3, 1, 0, 0, 1, 1]).rst.boot.stage ≠ 5) ∧ (wImagesAreTransferred [7, 3, 0, 3, 1, 0, 0, 1, 1]).rd hubSt O.IMG_TARGET = 4) ∧
    ((wImagesAreTransferred [9, 0, 1, 2, 0, 1, 2, 2, 2]).Admitted 0 hubSt O.IMG_CTRL 1 ∧ ((wImagesAreTransferred [9, 0, 1, 2, 0, 1, 2, 2, 2]).rd hubSt O.IMG_STATE = 0 ∨ (wImagesAreTransferred [9, 0, 1, 2, 0, 1, 2, 2, 2]).rd hubSt O.IMG_STATE = 4 ∨ (wImagesAreTransferred [9, 0, 1, 2, 0, 1, 2, 2, 2]).rd hubSt O.IMG_STATE = 5 ∨ (wImagesAreTransferred [9, 0, 1, 2, 0, 1, 2, 2, 2]).rd hubSt O.IMG_STATE = 7) ∧ ¬((wImagesAreTransferred [9, 0, 1, 2, 0, 1, 2, 2, 2]).rd hubSt O.IMG_TARGET = 4 ∧ (wImagesAreTransferred [9, 0, 1, 2, 0, 1, 2, 2, 2]).rst.boot.stage ≠ 5) ∧ (wImagesAreTransferred [9, 0, 1, 2, 0, 1, 2, 2, 2]).rd hubSt O.IMG_TARGET ≠ 4) ∧
    ((wImagesAreTransferred [4, 3, 0, 1, 0, 1, 1, 0, 0]).Admitted 0 hubSt O.IMG_CTRL 1 ∧ (¬((wImagesAreTransferred [4, 3, 0, 1, 0, 1, 1, 0, 0]).rd hubSt O.IMG_STATE = 0 ∨ (wImagesAreTransferred [4, 3, 0, 1, 0, 1, 1, 0, 0]).rd hubSt O.IMG_STATE = 4 ∨ (wImagesAreTransferred [4, 3, 0, 1, 0, 1, 1, 0, 0]).rd hubSt O.IMG_STATE = 5 ∨ (wImagesAreTransferred [4, 3, 0, 1, 0, 1, 1, 0, 0]).rd hubSt O.IMG_STATE = 7) ∨ (wImagesAreTransferred [4, 3, 0, 1, 0, 1, 1, 0, 0]).rd hubSt O.IMG_TARGET = 4 ∧ (wImagesAreTransferred [4, 3, 0, 1, 0, 1, 1, 0, 0]).rst.boot.stage ≠ 5)) ∧
    ((wImagesAreTransferred [8, 2, 0, 0, 0, 0, 2, 1, 0]).Admitted 0 hubSt O.IMG_CTRL 1 ∧ (wImagesAreTransferred [8, 2, 0, 0, 0, 0, 2, 1, 0]).rd hubSt O.IMG_STATE = 2) ∧
    ((wImagesAreTransferred [9, 0, 1, 2, 0, 1, 2, 2, 2]).Admitted 0 hubSt O.IMG_CTRL 1 ∧ (wImagesAreTransferred [9, 0, 1, 2, 0, 1, 2, 2, 2]).rd hubSt O.IMG_STATE ≠ 2) ∧
    ((wImagesAreTransferred [9, 0, 1, 2, 0, 1, 2, 2, 2]).Admitted 0 hubSt O.IMG_CTRL 1 ∧ 1 ≤ (wImagesAreTransferred [9, 0, 1, 2, 0, 1, 2, 2, 2]).rd hubSt O.IMG_STATE ∧ (wImagesAreTransferred [9, 0, 1, 2, 0, 1, 2, 2, 2]).rd hubSt O.IMG_STATE ≤ 4) ∧
    ((wImagesAreTransferred [7, 3, 0, 3, 1, 0, 0, 1, 1]).Admitted 0 hubSt O.IMG_CTRL 1 ∧ ((wImagesAreTransferred [7, 3, 0, 3, 1, 0, 0, 1, 1]).rd hubSt O.IMG_STATE = 0 ∨ 4 < (wImagesAreTransferred [7, 3, 0, 3, 1, 0, 0, 1, 1]).rd hubSt O.IMG_STATE)) ∧
    ((wImagesAreTransferred [1, 3, 1, 2, 0, 1, 2, 2, 2]).rd hubSt O.IMG_STATE = 1 ∧ ((if (wImagesAreTransferred [1, 3, 1, 2, 0, 1, 2, 2, 2]).pinsLive = true then 0 else 2) = 0 ∨ (wImagesAreTransferred [1, 3, 1, 2, 0, 1, 2, 2, 2]).rd hubSt O.IMG_TARGET = 4)) ∧
    ((wImagesAreTransferred [1, 1, 0, 1, 1, 0, 0, 1, 0]).rd hubSt O.IMG_STATE = 1 ∧ (if (wImagesAreTransferred [1, 1, 0, 1, 1, 0, 0, 1, 0]).pinsLive = true then 2 else 2) ≠ 0 ∧ (wImagesAreTransferred [1, 1, 0, 1, 1, 0, 0, 1, 0]).rd hubSt O.IMG_TARGET ≠ 4) ∧
    ((wImagesAreTransferred [9, 0, 1, 2, 0, 1, 2, 2, 2]).rd hubSt O.IMG_STATE ≠ 1) ∧
    ((wImagesAreTransferred [7, 3, 0, 3, 1, 0, 0, 1, 1]).Admitted 0 hubSt O.IMG_CHUNK [0#8, 96#8].length ∧ ([0#8, 96#8].length < 5 ∨ 65540 < [0#8, 96#8].length)) ∧
    ((wImagesAreTransferred [9, 0, 1, 2, 0, 1, 2, 2, 2]).Admitted 0 hubSt O.IMG_CHUNK [14#8, 0#8, 0#8, 0#8, 7#8, 7#8, 7#8, 7#8, 7#8, 7#8, 7#8, 7#8, 7#8, 7#8, 7#8, 7#8].length ∧ 5 ≤ [14#8, 0#8, 0#8, 0#8, 7#8, 7#8, 7#8, 7#8, 7#8, 7#8, 7#8, 7#8, 7#8, 7#8, 7#8, 7#8].length ∧ [14#8, 0#8, 0#8, 0#8, 7#8, 7#8, 7#8, 7#8, 7#8, 7#8, 7#8, 7#8, 7#8, 7#8, 7#8, 7#8].length ≤ 65540 ∧ (wImagesAreTransferred [9, 0, 1, 2, 0, 1, 2, 2, 2]).rd hubSt O.IMG_STATE ≠ 2) ∧
    ((wImagesAreTransferred [8, 2, 0, 0, 0, 0, 2, 1, 0]).Admitted 0 hubSt O.IMG_CHUNK [255#8, 255#8, 255#8, 96#8, 255#8].length ∧ 5 ≤ [255#8, 255#8, 255#8, 96#8, 255#8].length ∧ [255#8, 255#8, 255#8, 96#8, 255#8].length ≤ 65540 ∧ (wImagesAreTransferred [8, 2, 0, 0, 0, 0, 2, 1, 0]).rd hubSt O.IMG_STATE = 2 ∧ oparnLimit (targetType ((wImagesAreTransferred [8, 2, 0, 0, 0, 0, 2, 1, 0]).rd hubSt O.IMG_TARGET)) < leNat (List.take 4 [255#8, 255#8, 255#8, 96#8, 255#8]) + ([255#8, 255#8, 255#8, 96#8, 255#8].length - 4)) ∧
    ((wImagesAreTransferred [8, 2, 0, 0, 0, 0, 2, 1, 0]).Admitted 0 hubSt O.IMG_CHUNK [20#8, 0#8, 0#8, 0#8, 7#8, 7#8, 7#8, 7#8, 7#8, 7#8, 7#8, 7#8, 7#8].length ∧ 5 ≤ [20#8, 0#8, 0#8, 0#8, 7#8, 7#8, 7#8, 7#8, 7#8, 7#8, 7#8, 7#8, 7#8].length ∧ [20#8, 0#8, 0#8, 0#8, 7#8, 7#8, 7#8, 7#8, 7#8, 7#8, 7#8, 7#8, 7#8].length ≤ 65540 ∧ (wImagesAreTransferred [8, 2, 0, 0, 0, 0, 2, 1, 0]).rd hubSt O.IMG_STATE = 2 ∧ leNat (List.take 4 [20#8, 0#8, 0#8, 0#8, 7#8, 7#8, 7#8, 7#8, 7#8, 7#8, 7#8, 7#8, 7#8]) + ([20#8, 0#8, 0#8, 0#8, 7#8, 7#8, 7#8, 7#8, 7#8, 7#8, 7#8, 7#8, 7#8].length - 4) ≤ oparnLimit (targetType ((wImagesAreTransferred [8, 2, 0, 0, 0, 0, 2, 1, 0]).rd hubSt O.IMG_TARGET)) ∧ ((if (wImagesAreTransferred [8, 2, 0, 0, 0, 0, 2, 1, 0]).pinsLive = true then 0 else 2) = 0 ∨ (wImagesAreTransferred [8, 2, 0, 0, 0, 0, 2, 1, 0]).rd hubSt O.IMG_TARGET = 4)) ∧
    ((wImagesAreTransferred [8, 2, 0, 0, 0, 0, 2, 1, 0]).Admitted 0 hubSt O.IMG_CHUNK [20#8, 0#8, 0#8, 0#8, 7#8, 7#8, 7#8, 7#8, 7#8, 7#8, 7#8, 7#8, 7#8].length ∧ 5 ≤ [20#8, 0#8, 0#8, 0#8, 7#8, 7#8, 7#8, 7#8, 7#8, 7#8, 7#8, 7#8, 7#8].length ∧ [20#8, 0#8, 0#8, 0#8, 7#8, 7#8, 7#8, 7#8, 7#8, 7#8, 7#8, 7#8, 7#8].length ≤ 65540 ∧ (wImagesAreTransferred [8, 2, 0, 0, 0, 0, 2, 1, 0]).rd hubSt O.IMG_STATE = 2 ∧ leNat (List.take 4 [20#8, 0#8, 0#8, 0#8, 7#8, 7#8, 7#8, 7#8, 7#8, 7#8, 7#8, 7#8, 7#8]) + ([20#8, 0#8, 0#8, 0#8, 7#8, 7#8, 7#8, 7#8, 7#8, 7#8, 7#8, 7#8, 7#8].length - 4) ≤ oparnLimit (targetType ((wImagesAreTransferred [8, 2, 0, 0, 0, 0, 2, 1, 0]).rd hubSt O.IMG_TARGET)) ∧ ((if (wImagesAreTransferred [8, 2, 0, 0, 0, 0, 2, 1, 0]).pinsLive = true then 0 else 2) = 0 ∨ (wImagesAreTransferred [8, 2, 0, 0, 0, 0, 2, 1, 0]).rd hubSt O.IMG_TARGET = 4) ∧ (wImagesAreTransferred [8, 2, 0, 0, 0, 0, 2, 1, 0]).rd hubSt O.IMG_TARGET ≠ 4 ∧ 1 < [20#8, 0#8, 0#8, 0#8, 7#8, 7#8, 7#8, 7#8, 7#8, 7#8, 7#8, 7#8, 7#8].length - 4 ∧ ((wImagesAreTransferred [8, 2, 0, 0, 0, 0, 2, 1, 0]).rd hubSt O.IMG_TARGET = 1 → leNat (List.take 4 [20#8, 0#8, 0#8, 0#8, 7#8, 7#8, 7#8, 7#8, 7#8, 7#8, 7#8, 7#8, 7#8]) + 1 < 16 ∨ 24 ≤ leNat (List.take 4 [20#8, 0#8, 0#8, 0#8, 7#8, 7#8, 7#8, 7#8, 7#8, 7#8, 7#8, 7#8, 7#8]) + 1)) ∧
    ((wImagesAreTransferred [2, 0, 0, 0, 1, 0, 2, 2, 1]).Admitted 0 hubSt O.IMG_CHUNK [0#8, 0#8, 0#8, 0#8, 7#8, 7#8, 7#8].length ∧ 5 ≤ [0#8, 0#8, 0#8, 0#8, 7#8, 7#8, 7#8].length ∧ [0#8, 0#8, 0#8, 0#8, 7#8, 7#8, 7#8].length ≤ 65540 ∧ (wImagesAreTransferred [2, 0, 0, 0, 1, 0, 2, 2, 1]).rd hubSt O.IMG_STATE = 2 ∧ leNat (List.take 4 [0#8, 0#8, 0#8, 0#8, 7#8, 7#8, 7#8]) + ([0#8, 0#8, 0#8, 0#8, 7#8, 7#8, 7#8].length - 4) ≤ oparnLimit (targetType ((wImagesAreTransferred [2, 0, 0, 0, 1, 0, 2, 2, 1]).rd hubSt O.IMG_TARGET)) ∧ (if (wImagesAreTransferred [2, 0, 0, 0, 1, 0, 2, 2, 1]).pinsLive = true then 1 else 2) ≠ 0 ∧ (wImagesAreTransferred [2, 0, 0, 0, 1, 0, 2, 2, 1]).rd hubSt O.IMG_TARGET ≠ 4) ∧
    ((wImagesAreTransferred [3, 2, 0, 3, 1, 0, 0, 0, 1]).rd hubSt O.IMG_STATE = 3) ∧
    ((wImagesAreTransferred [4, 3, 0, 1, 0, 1, 1, 0, 0]).Admitted 0 hubSt O.KEY_REVOKE 1 ∧ ((wImagesAreTransferred [4, 3, 0, 1, 0, 1, 1, 0, 0]).moult.activeKey = some (0#8).toNat ∨ (bit ((wImagesAreTransferred [4, 3, 0, 1, 0, 1, 1, 0, 0]).rd hubSt O.KEY_SLOTS) (0#8).toNat && !bit ((wImagesAreTransferred [4, 3, 0, 1, 0, 1, 1, 0, 0]).rd hubSt O.KEY_REVOKED) (0#8).toNat) = true ∧ (0#8).toNat ≤ 3 ∧ ∀ (j : Fin 4), ↑j ≠ (0#8).toNat → (bit ((wImagesAreTransferred [4, 3, 0, 1, 0, 1, 1, 0, 0]).rd hubSt O.KEY_SLOTS) ↑j && !bit ((wImagesAreTransferred [4, 3, 0, 1, 0, 1, 1, 0, 0]).rd hubSt O.KEY_REVOKED) ↑j) = false)) ∧
    ((wImagesAreTransferred [9, 0, 1, 2, 0, 1, 2, 2, 2]).Admitted 0 hubSt O.KEY_REVOKE 1 ∧ ¬((wImagesAreTransferred [9, 0, 1, 2, 0, 1, 2, 2, 2]).moult.activeKey = some (128#8).toNat ∨ (bit ((wImagesAreTransferred [9, 0, 1, 2, 0, 1, 2, 2, 2]).rd hubSt O.KEY_SLOTS) (128#8).toNat && !bit ((wImagesAreTransferred [9, 0, 1, 2, 0, 1, 2, 2, 2]).rd hubSt O.KEY_REVOKED) (128#8).toNat) = true ∧ (128#8).toNat ≤ 3 ∧ ∀ (j : Fin 4), ↑j ≠ (128#8).toNat → (bit ((wImagesAreTransferred [9, 0, 1, 2, 0, 1, 2, 2, 2]).rd hubSt O.KEY_SLOTS) ↑j && !bit ((wImagesAreTransferred [9, 0, 1, 2, 0, 1, 2, 2, 2]).rd hubSt O.KEY_REVOKED) ↑j) = false) ∧ 3 < (128#8).toNat) ∧
    ((wImagesAreTransferred [9, 0, 1, 2, 0, 1, 2, 2, 2]).Admitted 0 hubSt O.KEY_REVOKE 1 ∧ ¬((wImagesAreTransferred [9, 0, 1, 2, 0, 1, 2, 2, 2]).moult.activeKey = some (1#8).toNat ∨ (bit ((wImagesAreTransferred [9, 0, 1, 2, 0, 1, 2, 2, 2]).rd hubSt O.KEY_SLOTS) (1#8).toNat && !bit ((wImagesAreTransferred [9, 0, 1, 2, 0, 1, 2, 2, 2]).rd hubSt O.KEY_REVOKED) (1#8).toNat) = true ∧ (1#8).toNat ≤ 3 ∧ ∀ (j : Fin 4), ↑j ≠ (1#8).toNat → (bit ((wImagesAreTransferred [9, 0, 1, 2, 0, 1, 2, 2, 2]).rd hubSt O.KEY_SLOTS) ↑j && !bit ((wImagesAreTransferred [9, 0, 1, 2, 0, 1, 2, 2, 2]).rd hubSt O.KEY_REVOKED) ↑j) = false) ∧ (1#8).toNat ≤ 3) ∧
    ((wImagesAreTransferred [4, 0, 0, 0, 1, 0, 1, 0, 0]).Admitted 0 hubSt O.IMG_CTRL 1 ∧ (wImagesAreTransferred [4, 0, 0, 0, 1, 0, 1, 0, 0]).rd hubSt O.IMG_STATE = 4 ∧ (wImagesAreTransferred [4, 0, 0, 0, 1, 0, 1, 0, 0]).rd hubSt O.IMG_TARGET = 1 ∧ (wImagesAreTransferred [4, 0, 0, 0, 1, 0, 1, 0, 0]).rd hubSt O.CONFIRMED = 1) ∧
    ((wImagesAreTransferred [9, 3, 1, 1, 1, 0, 1, 1, 1]).Admitted 0 hubSt O.IMG_CTRL 1 ∧ (wImagesAreTransferred [9, 3, 1, 1, 1, 0, 1, 1, 1]).rd hubSt O.IMG_STATE = 4 ∧ (wImagesAreTransferred [9, 3, 1, 1, 1, 0, 1, 1, 1]).rd hubSt O.IMG_TARGET = 4 ∧ (wImagesAreTransferred [9, 3, 1, 1, 1, 0, 1, 1, 1]).rst.boot.stage = 5) ∧
    ((wImagesAreTransferred [6, 2, 1, 0, 1, 1, 2, 0, 2]).Admitted 0 hubSt O.IMG_CTRL 1 ∧ ¬((wImagesAreTransferred [6, 2, 1, 0, 1, 1, 2, 0, 2]).rd hubSt O.IMG_STATE = 4 ∧ ((wImagesAreTransferred [6, 2, 1, 0, 1, 1, 2, 0, 2]).rd hubSt O.IMG_TARGET = 1 ∧ (wImagesAreTransferred [6, 2, 1, 0, 1, 1, 2, 0, 2]).rd hubSt O.CONFIRMED = 1 ∨ (wImagesAreTransferred [6, 2, 1, 0, 1, 1, 2, 0, 2]).rd hubSt O.IMG_TARGET = 4 ∧ (wImagesAreTransferred [6, 2, 1, 0, 1, 1, 2, 0, 2]).rst.boot.stage = 5))) ∧
    ((wImagesAreTransferred [7, 2, 1, 2, 0, 0, 1, 0, 1]).Admitted 0 hubSt O.IMG_CTRL 1 ∧ (wImagesAreTransferred [7, 2, 1, 2, 0, 0, 1, 0, 1]).rd hubSt O.CONFIRMED = 0 ∧ (wImagesAreTransferred [7, 2, 1, 2, 0, 0, 1, 0, 1]).rst.boot.stage = 4) ∧
    ((wImagesAreTransferred [6, 2, 1, 0, 1, 1, 2, 0, 2]).Admitted 0 hubSt O.IMG_CTRL 1 ∧ ((wImagesAreTransferred [6, 2, 1, 0, 1, 1, 2, 0, 2]).rd hubSt O.CONFIRMED ≠ 0 ∨ (wImagesAreTransferred [6, 2, 1, 0, 1, 1, 2, 0, 2]).rst.boot.stage ≠ 4)) ∧
    ((wImagesAreTransferred [9, 2, 1, 3, 1, 1, 2, 0, 0]).Admitted 0 hubSt O.IMG_CTRL 1 ∧ (wImagesAreTransferred [9, 2, 1, 3, 1, 1, 2, 0, 0]).rd hubSt O.IMG_STATE = 4 ∧ (wImagesAreTransferred [9, 2, 1, 3, 1, 1, 2, 0, 0]).rd hubSt O.IMG_TARGET = 3) ∧
    ((wImagesAreTransferred [6, 2, 1, 0, 1, 1, 2, 0, 2]).Admitted 0 hubSt O.IMG_CTRL 1 ∧ ((wImagesAreTransferred [6, 2, 1, 0, 1, 1, 2, 0, 2]).rd hubSt O.IMG_STATE ≠ 4 ∨ (wImagesAreTransferred [6, 2, 1, 0, 1, 1, 2, 0, 2]).rd hubSt O.IMG_TARGET ≠ 3)) ∧
    ((wImagesAreTransferred [6, 2, 1, 0, 1, 1, 2, 0, 2]).Admitted 0 hubSt O.IMG_CTRL 1 ∧ (wImagesAreTransferred [6, 2, 1, 0, 1, 1, 2, 0, 2]).rd hubSt O.CONFIRMED = 1 ∧ (wImagesAreTransferred [6, 2, 1, 0, 1, 1, 2, 0, 2]).rd hubSt O.ROLLBACK_CTR < (wImagesAreTransferred [6, 2, 1, 0, 1, 1, 2, 0, 2]).rd hubSt O.ACTIVE_SVN) ∧
    ((wImagesAreTransferred [1, 3, 0, 1, 1, 0, 1, 0, 0]).Admitted 0 hubSt O.IMG_CTRL 1 ∧ ((wImagesAreTransferred [1, 3, 0, 1, 1, 0, 1, 0, 0]).rd hubSt O.CONFIRMED ≠ 1 ∨ (wImagesAreTransferred [1, 3, 0, 1, 1, 0, 1, 0, 0]).rd hubSt O.ACTIVE_SVN ≤ (wImagesAreTransferred [1, 3, 0, 1, 1, 0, 1, 0, 0]).rd hubSt O.ROLLBACK_CTR)) ∧
    ((wImagesAreTransferred [6, 2, 1, 0, 1, 1, 2, 0, 2]).moult.ops = []) ∧
    ((wImagesAreTransferred [0, 0, 1, 1, 1, 1, 2, 2, 1]).moult.ops = FlashOp.slotSeq 1 2 :: ([] : List FlashOp) ∧ (wImagesAreTransferred [0, 0, 1, 1, 1, 1, 2, 2, 1]).pinsLive = true ∧ (wImagesAreTransferred [0, 0, 1, 1, 1, 1, 2, 2, 1]).rst.held = none) ∧
    ((wImagesAreTransferred [3, 1, 1, 2, 0, 0, 2, 2, 1]).moult.ops = FlashOp.confirm 1 :: ([] : List FlashOp) ∧ (wImagesAreTransferred [3, 1, 1, 2, 0, 0, 2, 2, 1]).pinsLive = true) ∧
    ((wImagesAreTransferred [9, 3, 0, 3, 1, 1, 0, 1, 0]).moult.ops = FlashOp.manifest :: ([] : List FlashOp) ∧ (wImagesAreTransferred [9, 3, 0, 3, 1, 1, 0, 1, 0]).pinsLive = true) ∧
    ((wImagesAreTransferred [0, 2, 0, 1, 0, 1, 1, 2, 2]).rst.held = none ∧ Option.any (fun u => decide (u ≤ (wImagesAreTransferred [0, 2, 0, 1, 0, 1, 1, 2, 2]).time hubSt)) (wImagesAreTransferred [0, 2, 0, 1, 0, 1, 1, 2, 2]).rst.trialDue = true) ∧
    (((wImagesAreTransferred [9, 3, 0, 3, 1, 1, 0, 1, 0]).rst.held ≠ none ∨ Option.any (fun u => decide (u ≤ (wImagesAreTransferred [9, 3, 0, 3, 1, 1, 0, 1, 0]).time hubSt)) (wImagesAreTransferred [9, 3, 0, 3, 1, 1, 0, 1, 0]).rst.trialDue = false)) := by
  refine ⟨?_, ?_, ?_, ?_, ?_, ?_, ?_, ?_, ?_, ?_, ?_, ?_, ?_, ?_, ?_, ?_, ?_, ?_, ?_, ?_, ?_, ?_, ?_, ?_, ?_, ?_, ?_, ?_, ?_, ?_, ?_, ?_, ?_, ?_, ?_⟩ <;> decide +kernel
end Sys2Proof.Tests.C16

namespace Sys2Proof.Tests.C17

def ss (k : Slot) (g : Session → Session) (s : State) : State := s.putSession k (g (s.session k))
def a0 : DictAddr := ⟨0, 0x1001, 1⟩
def a1 : DictAddr := ⟨0, 0x1200, 0⟩
def n0 : Note := ⟨1,2,3,4,5,6,7,8,9⟩
def sA (k : Slot) : List (State → State) := [id, ss k (fun x => {x with isOpen := true, carrier := 3, xfer := some (.read a0 (some [1,2,3,4,5]))}), ss k (fun x => {x with isOpen := true, carrier := 3, xfer := some (.read a1 none)}), ss k (fun x => {x with isOpen := true, carrier := 3, xfer := some (.write a0 8 [1,2,3])}), ss k (fun x => {x with isOpen := true, carrier := 3, xfer := some (.write a0 3 [])}), ss k (fun x => {x with isOpen := true, carrier := 1, notes := [n0, n0]}), ss k (fun x => {x with isOpen := true, carrier := 2, notes := [n0]}), ss k (fun x => {x with isOpen := true, carrier := 3, noteSev := 3, notes := [n0], lostSince := 2}), ss k (fun x => {x with isOpen := true, carrier := 3, notes := [n0]})]
def regA : List (State → State) := [id, wrs [(hubSt, O.CLK_GOOD, 63), (hubSt, O.PCIE_STATE, 1)], wrs [(hubSt, O.CLK_GOOD, 63)], wrs [(hubSt, O.CLK_GOOD, 16)]]
def asm (s : State) : State := { s with tr := { s.tr with assembly := [⟨0, 0, 0, 1, 0, [1]⟩, ⟨1, 1, 8, 1, 0, [1]⟩] } }
def outs (s : State) : State := (s.putBinding 0 { s.binding 0 with out := [[1],[2]] }).putBinding 1 { s.binding 1 with out := [[1],[2]] }
def wSessionsReadAndTransfer : List Nat → State := pick
  ([sA 0, sA 5, sA 1, regA, nowAlts [0, 100000000000]])
theorem test_meets_SessionsReadAndTransfer :
    ((wSessionsReadAndTransfer [5, 0, 6, 2, 0]).hears 1 = true ∧ ((wSessionsReadAndTransfer [5, 0, 6, 2, 0]).touch 1).readObj 1 ({ station := 0x0000#16, index := 0x1001#16, sub := 0x01#8 } : DictAddr) = Except.ok [82#8, 73#8, 78#8, 72#8, 69#8, 67#8, 79#8, 32#8, 32#8, 32#8, 32#8, 32#8, 32#8, 32#8, 32#8, 32#8] ∧ ((wSessionsReadAndTransfer [5, 0, 6, 2, 0]).session 1).xfer = none) ∧
    ((wSessionsReadAndTransfer [8, 5, 5, 0, 1]).hears 1 = true ∧ ((wSessionsReadAndTransfer [8, 5, 5, 0, 1]).touch 1).readObj 1 ({ station := 0x7777#16, index := 0x0001#16, sub := 0x01#8 } : DictAddr) = Except.error Abort.unknownStation ∧ (Abort.unknownStation ≠ Abort.state ∨ (((wSessionsReadAndTransfer [8, 5, 5, 0, 1]).touch 1).objValue 1 ({ station := 0x7777#16, index := 0x0001#16, sub := 0x01#8 } : DictAddr).station.toNat ({ station := 0x7777#16, index := 0x0001#16, sub := 0x01#8 } : DictAddr).index.toNat ({ station := 0x7777#16, index := 0x0001#16, sub := 0x01#8 } : DictAddr).sub.toNat).length ≤ 8)) ∧
    ((wSessionsReadAndTransfer [8, 5, 5, 0, 1]).hears 1 = true ∧ ((wSessionsReadAndTransfer [8, 5, 5, 0, 1]).touch 1).readObj 1 ({ station := 0x7777#16, index := 0x0001#16, sub := 0x01#8 } : DictAddr) = Except.error Abort.unknownStation ∧ ((wSessionsReadAndTransfer [8, 5, 5, 0, 1]).session 1).xfer = none) ∧
    ((wSessionsReadAndTransfer [1, 0, 3, 0, 0]).hears 0 = true ∧ ((wSessionsReadAndTransfer [1, 0, 3, 0, 0]).session 0).xfer ≠ none) ∧
    ((wSessionsReadAndTransfer [1, 0, 3, 0, 0]).hears 0 = true ∧ ((wSessionsReadAndTransfer [1, 0, 3, 0, 0]).session 0).xfer = some (Xfer.read ({ station := 0x0000#16, index := 0x1001#16, sub := 0x01#8 } : DictAddr) (some [1#8, 2#8, 3#8, 4#8, 5#8])) ∧ (({ station := 0x0000#16, index := 0x1001#16, sub := 0x01#8 } : DictAddr) ≠ ({ station := 0x0000#16, index := 0x1110#16, sub := 0x00#8 } : DictAddr) ∨ 3#16 = 0 ∨ segLimit ((wSessionsReadAndTransfer [1, 0, 3, 0, 0]).session 0) < (3#16).toNat)) ∧
    ((wSessionsReadAndTransfer [6, 5, 2, 2, 1]).hears 1 = true ∧ ((wSessionsReadAndTransfer [6, 5, 2, 2, 1]).session 1).xfer = some (Xfer.read ({ station := 0x0000#16, index := 0x1200#16, sub := 0x00#8 } : DictAddr) none) ∧ ({ station := 0x0000#16, index := 0x1200#16, sub := 0x00#8 } : DictAddr) = ({ station := 0x0000#16, index := 0x1200#16, sub := 0x00#8 } : DictAddr) ∧ 128#16 ≠ 0 ∧ (128#16).toNat ≤ segLimit ((wSessionsReadAndTransfer [6, 5, 2, 2, 1]).session 1) ∧ (wSessionsReadAndTransfer [6, 5, 2, 2, 1]).xferGone 1 ({ station := 0x0000#16, index := 0x1200#16, sub := 0x00#8 } : DictAddr) = none ∧ ((none : Option (List Byte)) = some [16#8] ∨ (none : Option (List Byte)) = none ∧ ((wSessionsReadAndTransfer [6, 5, 2, 2, 1]).touch 1).readObj 1 ({ station := 0x0000#16, index := 0x1200#16, sub := 0x00#8 } : DictAddr) = Except.ok [16#8])) ∧
    ((wSessionsReadAndTransfer [1, 0, 3, 0, 0]).hears 0 = true ∧ ((wSessionsReadAndTransfer [1, 0, 3, 0, 0]).session 0).xfer = some (Xfer.read ({ station := 0x0000#16, index := 0x1001#16, sub := 0x01#8 } : DictAddr) (some [1#8, 2#8, 3#8, 4#8, 5#8])) ∧ ({ station := 0x0000#16, index := 0x1001#16, sub := 0x01#8 } : DictAddr) ≠ ({ station := 0x0000#16, index := 0x1110#16, sub := 0x00#8 } : DictAddr)) ∧
    ((wSessionsReadAndTransfer [5, 0, 6, 2, 0]).hears 1 = true ∧ ((wSessionsReadAndTransfer [5, 0, 6, 2, 0]).session 1).xfer = none ∧ ((wSessionsReadAndTransfer [5, 0, 6, 2, 0]).touch 1).admitInit 1 ({ station := 0x0000#16, index := 0x1001#16, sub := 0x01#8 } : DictAddr).station.toNat ({ station := 0x0000#16, index := 0x1001#16, sub := 0x01#8 } : DictAddr).index.toNat ({ station := 0x0000#16, index := 0x1001#16, sub := 0x01#8 } : DictAddr).sub.toNat (0#32).toNat = some Abort.denied) ∧
    ((wSessionsReadAndTransfer [0, 8, 4, 3, 0]).hears 0 = true ∧ ((wSessionsReadAndTransfer [0, 8, 4, 3, 0]).session 0).xfer = none ∧ ((wSessionsReadAndTransfer [0, 8, 4, 3, 0]).touch 0).admitInit 0 ({ station := 0x0000#16, index := 0x1300#16, sub := 0x01#8 } : DictAddr).station.toNat ({ station := 0x0000#16, index := 0x1300#16, sub := 0x01#8 } : DictAddr).index.toNat ({ station := 0x0000#16, index := 0x1300#16, sub := 0x01#8 } : DictAddr).sub.toNat (1#32).toNat = none ∧ lengthOk ({ station := 0x0000#16, index := 0x1300#16, sub := 0x01#8 } : DictAddr).station.toNat ({ station := 0x0000#16, index := 0x1300#16, sub := 0x01#8 } : DictAddr).index.toNat ({ station := 0x0000#16, index := 0x1300#16, sub := 0x01#8 } : DictAddr).sub.toNat (1#32).toNat = true ∧ ((wSessionsReadAndTransfer [0, 8, 4, 3, 0]).touch 0).bufUsed (bufHolder ({ station := 0x0000#16, index := 0x1300#16, sub := 0x01#8 } : DictAddr).station.toNat) + (1#32).toNat ≤ ((wSessionsReadAndTransfer [0, 8, 4, 3, 0]).touch 0).bufBytes (bufHolder ({ station := 0x0000#16, index := 0x1300#16, sub := 0x01#8 } : DictAddr).station.toNat)) ∧
    ((wSessionsReadAndTransfer [2, 3, 5, 0, 1]).hears 5 = true ∧ ((wSessionsReadAndTransfer [2, 3, 5, 0, 1]).session 5).xfer = some (Xfer.write ({ station := 0x0000#16, index := 0x1001#16, sub := 0x01#8 } : DictAddr) 8 [1#8, 2#8, 3#8]) ∧ (({ station := 0x0000#16, index := 0x1001#16, sub := 0x01#8 } : DictAddr) ≠ ({ station := 0x0000#16, index := 0x1110#16, sub := 0x00#8 } : DictAddr) ∨ [1#8, 2#8, 3#8] = [] ∨ segLimit ((wSessionsReadAndTransfer [2, 3, 5, 0, 1]).session 5) < [1#8, 2#8, 3#8].length)) ∧
    ((wSessionsReadAndTransfer [3, 3, 5, 1, 1]).hears 0 = true ∧ ((wSessionsReadAndTransfer [3, 3, 5, 1, 1]).session 0).xfer = some (Xfer.write ({ station := 0x0000#16, index := 0x1001#16, sub := 0x01#8 } : DictAddr) 8 [1#8, 2#8, 3#8]) ∧ ({ station := 0x0000#16, index := 0x1001#16, sub := 0x01#8 } : DictAddr) = ({ station := 0x0000#16, index := 0x1001#16, sub := 0x01#8 } : DictAddr) ∧ [16#8, 4#8, 96#8, 8#8, 255#8] ≠ [] ∧ [16#8, 4#8, 96#8, 8#8, 255#8].length ≤ segLimit ((wSessionsReadAndTransfer [3, 3, 5, 1, 1]).session 0) ∧ ((wSessionsReadAndTransfer [3, 3, 5, 1, 1]).touch 0).bufGone 0 ({ station := 0x0000#16, index := 0x1001#16, sub := 0x01#8 } : DictAddr) = none ∧ (16#32).toNat ≠ [1#8, 2#8, 3#8].length) ∧
    ((wSessionsReadAndTransfer [2, 3, 5, 0, 1]).hears 5 = true ∧ ((wSessionsReadAndTransfer [2, 3, 5, 0, 1]).session 5).xfer = some (Xfer.write ({ station := 0x0000#16, index := 0x1001#16, sub := 0x01#8 } : DictAddr) 8 [1#8, 2#8, 3#8]) ∧ ({ station := 0x0000#16, index := 0x1001#16, sub := 0x01#8 } : DictAddr) ≠ ({ station := 0x0000#16, index := 0x1110#16, sub := 0x00#8 } : DictAddr)) ∧
    ((wSessionsReadAndTransfer [3, 3, 5, 1, 1]).hears 0 = true ∧ ((wSessionsReadAndTransfer [3, 3, 5, 1, 1]).session 0).xfer = some (Xfer.write ({ station := 0x0000#16, index := 0x1001#16, sub := 0x01#8 } : DictAddr) 8 [1#8, 2#8, 3#8]) ∧ ({ station := 0x0000#16, index := 0x1001#16, sub := 0x01#8 } : DictAddr) = ({ station := 0x0000#16, index := 0x1001#16, sub := 0x01#8 } : DictAddr) ∧ ((wSessionsReadAndTransfer [3, 3, 5, 1, 1]).touch 0).bufGone 0 ({ station := 0x0000#16, index := 0x1001#16, sub := 0x01#8 } : DictAddr) = none ∧ (128#32).toNat ≠ [1#8, 2#8, 3#8].length) ∧
    ((wSessionsReadAndTransfer [3, 3, 5, 1, 1]).hears 0 = true ∧ ((wSessionsReadAndTransfer [3, 3, 5, 1, 1]).session 0).xfer = some (Xfer.write ({ station := 0x0000#16, index := 0x1001#16, sub := 0x01#8 } : DictAddr) 8 [1#8, 2#8, 3#8]) ∧ ({ station := 0x0000#16, index := 0x1001#16, sub := 0x01#8 } : DictAddr) = ({ station := 0x0000#16, index := 0x1001#16, sub := 0x01#8 } : DictAddr) ∧ ((wSessionsReadAndTransfer [3, 3, 5, 1, 1]).touch 0).bufGone 0 ({ station := 0x0000#16, index := 0x1001#16, sub := 0x01#8 } : DictAddr) = none ∧ (3#32).toNat = [1#8, 2#8, 3#8].length ∧ (((wSessionsReadAndTransfer [3, 3, 5, 1, 1]).touch 0).setXfer 0 none).admitValue 0 ({ station := 0x0000#16, index := 0x1001#16, sub := 0x01#8 } : DictAddr).station.toNat ({ station := 0x0000#16, index := 0x1001#16, sub := 0x01#8 } : DictAddr).index.toNat ({ station := 0x0000#16, index := 0x1001#16, sub := 0x01#8 } : DictAddr).sub.toNat [1#8, 2#8, 3#8] = some Abort.denied) ∧
    ((wSessionsReadAndTransfer [8, 4, 5, 0, 0]).hears 5 = true ∧ 5 ≤ 5) ∧
    ((wSessionsReadAndTransfer [5, 0, 6, 2, 0]).hears 1 = true ∧ 1 < 5) ∧
    ((wSessionsReadAndTransfer [5, 0, 6, 2, 0]).hears 6 = false) ∧
    (((wSessionsReadAndTransfer [3, 3, 5, 1, 1]).session 0).xfer ≠ none ∧ ((wSessionsReadAndTransfer [3, 3, 5, 1, 1]).rst.held == none && decide (((wSessionsReadAndTransfer [3, 3, 5, 1, 1]).session 0).xferAt + (wSessionsReadAndTransfer [3, 3, 5, 1, 1]).rd hubSt O.XFER_TIMEOUT * 1000000 ≤ (wSessionsReadAndTransfer [3, 3, 5, 1, 1]).time hubSt)) = true) ∧
    ((((wSessionsReadAndTransfer [5, 0, 6, 2, 0]).session 1).xfer = none ∨ ((wSessionsReadAndTransfer [5, 0, 6, 2, 0]).rst.held == none && decide (((wSessionsReadAndTransfer [5, 0, 6, 2, 0]).session 1).xferAt + (wSessionsReadAndTransfer [5, 0, 6, 2, 0]).rd hubSt O.XFER_TIMEOUT * 1000000 ≤ (wSessionsReadAndTransfer [5, 0, 6, 2, 0]).time hubSt)) = false)) ∧
    ((((wSessionsReadAndTransfer [2, 3, 5, 0, 1]).session 5).isOpen && ((wSessionsReadAndTransfer [2, 3, 5, 0, 1]).session 5).noteSev == 0 && decide (5 ≤ 5) && decide (((wSessionsReadAndTransfer [2, 3, 5, 0, 1]).session 5).lastActive + (wSessionsReadAndTransfer [2, 3, 5, 0, 1]).rd hubSt O.SESSION_IDLE * 1000000 ≤ (wSessionsReadAndTransfer [2, 3, 5, 0, 1]).time hubSt)) = true) ∧
    ((((wSessionsReadAndTransfer [5, 0, 6, 2, 0]).session 1).isOpen && ((wSessionsReadAndTransfer [5, 0, 6, 2, 0]).session 1).noteSev == 0 && decide (5 ≤ 1) && decide (((wSessionsReadAndTransfer [5, 0, 6, 2, 0]).session 1).lastActive + (wSessionsReadAndTransfer [5, 0, 6, 2, 0]).rd hubSt O.SESSION_IDLE * 1000000 ≤ (wSessionsReadAndTransfer [5, 0, 6, 2, 0]).time hubSt)) = false) ∧
    ((((wSessionsReadAndTransfer [5, 0, 6, 2, 0]).session 6).notes = [] ∨ ((wSessionsReadAndTransfer [5, 0, 6, 2, 0]).session 6).isOpen = false ∨ ((wSessionsReadAndTransfer [5, 0, 6, 2, 0]).session 6).carrier = 3 ∨ ¬(wSessionsReadAndTransfer [5, 0, 6, 2, 0]).Up)) ∧
    (((wSessionsReadAndTransfer [5, 0, 6, 2, 0]).session 1).notes = (({ kind := 1, sev := 2, code := 3, station := 4, item := 5, sub := 6, value := 7, stnTime := 8, hubTime := 9 }, []) : Note × List Note).1 :: (({ kind := 1, sev := 2, code := 3, station := 4, item := 5, sub := 6, value := 7, stnTime := 8, hubTime := 9 }, []) : Note × List Note).2 ∧ ((wSessionsReadAndTransfer [5, 0, 6, 2, 0]).session 1).isOpen = true ∧ ((wSessionsReadAndTransfer [5, 0, 6, 2, 0]).session 1).carrier ≠ 3 ∧ (wSessionsReadAndTransfer [5, 0, 6, 2, 0]).Up ∧ ((wSessionsReadAndTransfer [5, 0, 6, 2, 0]).session 1).carrier ≠ 0 ∧ ((wSessionsReadAndTransfer [5, 0, 6, 2, 0]).mctpReach (if ((wSessionsReadAndTransfer [5, 0, 6, 2, 0]).session 1).carrier = 1 then 0 else 1) = false ∨ (if ((wSessionsReadAndTransfer [5, 0, 6, 2, 0]).session 1).carrier = 1 then 0 else 1) = 0 ∧ ((wSessionsReadAndTransfer [5, 0, 6, 2, 0]).binding (if ((wSessionsReadAndTransfer [5, 0, 6, 2, 0]).session 1).carrier = 1 then 0 else 1)).ibiOff = true)) ∧
    (((wSessionsReadAndTransfer [5, 3, 6, 1, 1]).session 1).notes = (({ kind := 1, sev := 2, code := 3, station := 4, item := 5, sub := 6, value := 7, stnTime := 8, hubTime := 9 }, []) : Note × List Note).1 :: (({ kind := 1, sev := 2, code := 3, station := 4, item := 5, sub := 6, value := 7, stnTime := 8, hubTime := 9 }, []) : Note × List Note).2 ∧ ((wSessionsReadAndTransfer [5, 3, 6, 1, 1]).session 1).isOpen = true ∧ ((wSessionsReadAndTransfer [5, 3, 6, 1, 1]).session 1).carrier ≠ 3 ∧ (wSessionsReadAndTransfer [5, 3, 6, 1, 1]).Up ∧ ((wSessionsReadAndTransfer [5, 3, 6, 1, 1]).session 1).carrier ≠ 0 ∧ (wSessionsReadAndTransfer [5, 3, 6, 1, 1]).mctpReach (if ((wSessionsReadAndTransfer [5, 3, 6, 1, 1]).session 1).carrier = 1 then 0 else 1) = true ∧ (if ((wSessionsReadAndTransfer [5, 3, 6, 1, 1]).session 1).carrier = 1 then 0 else 1) = 1 ∧ ((wSessionsReadAndTransfer [5, 3, 6, 1, 1]).session 1).lostSince = 0) := by
  refine ⟨?_, ?_, ?_, ?_, ?_, ?_, ?_, ?_, ?_, ?_, ?_, ?_, ?_, ?_, ?_, ?_, ?_, ?_, ?_, ?_, ?_, ?_, ?_, ?_⟩ <;> decide +kernel
def wTransportsCarrySessions : List Nat → State := pick
  ([sA 1, sA 2, regA, [id, asm], [id, outs], nowAlts [0, 200000000]])
theorem test_meets_TransportsCarrySessions :
    ((wTransportsCarrySessions [0, 0, 1, 0, 1, 0]).mctpReach 1 = true ∧ (wTransportsCarrySessions [0, 0, 1, 0, 1, 0]).mctpServed 1 = true ∧ 1 = 1) ∧
    ((wTransportsCarrySessions [0, 0, 1, 0, 1, 0]).mctpReach 1 = true ∧ (wTransportsCarrySessions [0, 0, 1, 0, 1, 0]).mctpServed 1 = true ∧ ([1#8, 2#8, 3#8].length ≤ 4 ∨ 68 < [1#8, 2#8, 3#8].length)) ∧
    ((wTransportsCarrySessions [0, 0, 1, 0, 1, 0]).mctpReach 1 = true ∧ (wTransportsCarrySessions [0, 0, 1, 0, 1, 0]).mctpServed 1 = true ∧ (255#8 = 0 ∨ 255#8 = 255)) ∧
    ((wTransportsCarrySessions [0, 0, 1, 0, 1, 0]).mctpReach 1 = true ∧ (wTransportsCarrySessions [0, 0, 1, 0, 1, 0]).mctpServed 1 = true ∧ 3#8 ≠ 0 ∧ 3#8 ≠ 255 ∧ false = false) ∧
    (((wTransportsCarrySessions [5, 0, 3, 0, 0, 1]).mctpReach 0 = false ∨ (wTransportsCarrySessions [5, 0, 3, 0, 0, 1]).mctpServed 0 = false ∧ 0 = 0)) ∧
    (((wTransportsCarrySessions [5, 0, 3, 0, 0, 1]).mctpReach 0 = false ∨ (wTransportsCarrySessions [5, 0, 3, 0, 0, 1]).mctpServed 0 = false)) ∧
    ((List.filter (fun x => x.binding == 0 && x.src == (188#8).toNat && x.tag % 8 == 3 && decide (x.start + 100000000 ≤ (wTransportsCarrySessions [5, 0, 3, 0, 0, 1]).time hubSt)) (wTransportsCarrySessions [5, 0, 3, 0, 0, 1]).tr.assembly).length = 0) ∧
    ((List.filter (fun x => x.binding == 1 && x.src == (1#8).toNat && x.tag % 8 == 0 && decide (x.start + 100000000 ≤ (wTransportsCarrySessions [3, 3, 0, 1, 1, 1]).time hubSt)) (wTransportsCarrySessions [3, 3, 0, 1, 1, 1]).tr.assembly).length ≠ 0) ∧
    ((wTransportsCarrySessions [5, 0, 3, 0, 0, 1]).i3cUp = true) ∧
    ((wTransportsCarrySessions [3, 3, 0, 1, 1, 1]).i3cUp = false) ∧
    (((wTransportsCarrySessions [2, 0, 2, 1, 1, 0]).rst.held.isNone && bit ((wTransportsCarrySessions [2, 0, 2, 1, 1, 0]).rd hubSt O.CLK_GOOD) 5 && (wTransportsCarrySessions [2, 0, 2, 1, 1, 0]).rd hubSt O.PCIE_STATE != 1) = true) ∧
    (((wTransportsCarrySessions [5, 0, 3, 0, 0, 1]).rst.held.isNone && bit ((wTransportsCarrySessions [5, 0, 3, 0, 0, 1]).rd hubSt O.CLK_GOOD) 5 && (wTransportsCarrySessions [5, 0, 3, 0, 0, 1]).rd hubSt O.PCIE_STATE != 1) = false) ∧
    ((wTransportsCarrySessions [0, 0, 1, 0, 1, 0]).rst.held = none ∧ (wTransportsCarrySessions [0, 0, 1, 0, 1, 0]).rd hubSt O.PCIE_STATE = 1) ∧
    ((wTransportsCarrySessions [5, 0, 3, 0, 0, 1]).rst.held = none ∧ (wTransportsCarrySessions [5, 0, 3, 0, 0, 1]).rd hubSt O.PCIE_STATE ≠ 1) ∧
    (((wTransportsCarrySessions [5, 0, 3, 0, 0, 1]).rst.held ≠ none ∨ (wTransportsCarrySessions [5, 0, 3, 0, 0, 1]).rd hubSt O.PCIE_STATE ≠ 1)) ∧
    ((wTransportsCarrySessions [5, 0, 3, 0, 0, 1]).hears (chanSlot 0) = true ∧ (128#32 = 0 ∨ 8 < (128#32).toNat)) ∧
    ((wTransportsCarrySessions [1, 1, 2, 0, 1, 1]).hears (chanSlot 1) = true ∧ 255#32 ≠ 0 ∧ (255#32).toNat ≤ 4096 ∧ 2#32 ≠ 0 ∧ ((wTransportsCarrySessions [1, 1, 2, 0, 1, 1]).session (chanSlot 1)).carrier = 3 ∧ ((wTransportsCarrySessions [1, 1, 2, 0, 1, 1]).session (chanSlot 1)).xfer = some (Xfer.read ({ station := 0x0000#16, index := 0x1001#16, sub := 0x01#8 } : DictAddr) (some [1#8, 2#8, 3#8, 4#8, 5#8])) ∧ (wTransportsCarrySessions [1, 1, 2, 0, 1, 1]).xferGone (chanSlot 1) ({ station := 0x0000#16, index := 0x1001#16, sub := 0x01#8 } : DictAddr) = none) ∧
    ((wTransportsCarrySessions [5, 0, 3, 0, 0, 1]).hears (chanSlot 0) = true ∧ [1#8, 2#8, 3#8] ≠ [] ∧ [1#8, 2#8, 3#8].length ≤ 4096 ∧ 0#32 = 0) ∧
    ((wTransportsCarrySessions [3, 8, 3, 0, 1, 0]).hears (chanSlot 0) = true ∧ [9#8] ≠ [] ∧ [9#8].length ≤ 4096 ∧ 3#32 ≠ 0 ∧ ((wTransportsCarrySessions [3, 8, 3, 0, 1, 0]).session (chanSlot 0)).carrier = 3 ∧ ((wTransportsCarrySessions [3, 8, 3, 0, 1, 0]).session (chanSlot 0)).xfer = some (Xfer.write ({ station := 0x0000#16, index := 0x1001#16, sub := 0x01#8 } : DictAddr) 8 [1#8, 2#8, 3#8]) ∧ ((wTransportsCarrySessions [3, 8, 3, 0, 1, 0]).touch (chanSlot 0)).bufGone (chanSlot 0) ({ station := 0x0000#16, index := 0x1001#16, sub := 0x01#8 } : DictAddr) = none ∧ (3#32).toNat = [1#8, 2#8, 3#8].length ∧ [1#8, 2#8, 3#8].length + [9#8].length ≤ 8) ∧
    ((wTransportsCarrySessions [5, 0, 3, 0, 0, 1]).hears (chanSlot 0) = true ∧ ((wTransportsCarrySessions [5, 0, 3, 0, 0, 1]).session (chanSlot 0)).lostSince = 0) ∧
    ((wTransportsCarrySessions [5, 0, 3, 0, 0, 1]).hears (chanSlot 1) = false) := by
  refine ⟨?_, ?_, ?_, ?_, ?_, ?_, ?_, ?_, ?_, ?_, ?_, ?_, ?_, ?_, ?_, ?_, ?_, ?_, ?_, ?_, ?_⟩ <;> decide +kernel
end Sys2Proof.Tests.C17

namespace Sys2Proof.Tests.C18


def wWritesTakeEffectOrAreRefused : List Nat → State := pick
  ([[id, fun s => s.putSession 1 {s.session 1 with isOpen := true, carrier := 3}, fun s => s.putSession 5 {s.session 5 with isOpen := true, carrier := 1}], [id, wr' hubSt O.HOST_WRITE 0], [id, fun s => {s with rst := {s.rst with closedSt := [0x10]}}], wAlts (.cluster 0 0)])
theorem test_meets_WritesTakeEffectOrAreRefused :
    ((wWritesTakeEffectOrAreRefused [2, 0, 1, 2]).hears 5 = true ∧ ((wWritesTakeEffectOrAreRefused [2, 0, 1, 2]).touch 5).admitValue 5 ({ station := 0x0000#16, index := 0x1110#16, sub := 0x07#8 } : DictAddr).station.toNat ({ station := 0x0000#16, index := 0x1110#16, sub := 0x07#8 } : DictAddr).index.toNat ({ station := 0x0000#16, index := 0x1110#16, sub := 0x07#8 } : DictAddr).sub.toNat [1#8, 0#8, 0#8, 0#8] = none) ∧
    ((wWritesTakeEffectOrAreRefused [2, 0, 1, 2]).hears 5 = true ∧ ((wWritesTakeEffectOrAreRefused [2, 0, 1, 2]).touch 5).admitExpedited 5 ({ station := 0x0000#16, index := 0x1110#16, sub := 0x07#8 } : DictAddr).station.toNat ({ station := 0x0000#16, index := 0x1110#16, sub := 0x07#8 } : DictAddr).index.toNat ({ station := 0x0000#16, index := 0x1110#16, sub := 0x07#8 } : DictAddr).sub.toNat [1#8, 0#8, 0#8, 0#8] = none) ∧
    ((wWritesTakeEffectOrAreRefused [2, 1, 1, 3]).hears 0 = true ∧ addrStation ({ station := 0x7777#16, index := 0x0001#16, sub := 0x01#8 } : DictAddr).station.toNat = none ∧ ({ station := 0x7777#16, index := 0x0001#16, sub := 0x01#8 } : DictAddr).station.toNat < 32768) ∧
    ((wWritesTakeEffectOrAreRefused [1, 1, 1, 0]).hears 1 = true ∧ addrStation ({ station := 0x0000#16, index := 0x1300#16, sub := 0x01#8 } : DictAddr).station.toNat = some Station.hub ∧ (wWritesTakeEffectOrAreRefused [1, 1, 1, 0]).denies 1 ({ station := 0x0000#16, index := 0x1300#16, sub := 0x01#8 } : DictAddr).station.toNat ({ station := 0x0000#16, index := 0x1300#16, sub := 0x01#8 } : DictAddr).index.toNat ({ station := 0x0000#16, index := 0x1300#16, sub := 0x01#8 } : DictAddr).sub.toNat = true) ∧
    ((wWritesTakeEffectOrAreRefused [2, 0, 1, 2]).hears 0 = true ∧ addrStation ({ station := 0x0010#16, index := 0x1001#16, sub := 0x01#8 } : DictAddr).station.toNat = some (Station.field 0) ∧ (wWritesTakeEffectOrAreRefused [2, 0, 1, 2]).denies 0 ({ station := 0x0010#16, index := 0x1001#16, sub := 0x01#8 } : DictAddr).station.toNat ({ station := 0x0010#16, index := 0x1001#16, sub := 0x01#8 } : DictAddr).index.toNat ({ station := 0x0010#16, index := 0x1001#16, sub := 0x01#8 } : DictAddr).sub.toNat = false ∧ (wWritesTakeEffectOrAreRefused [2, 0, 1, 2]).unreachable (Station.field 0) = false ∧ (wWritesTakeEffectOrAreRefused [2, 0, 1, 2]).rindClosed ({ station := 0x0010#16, index := 0x1001#16, sub := 0x01#8 } : DictAddr).station.toNat ({ station := 0x0010#16, index := 0x1001#16, sub := 0x01#8 } : DictAddr).index.toNat ({ station := 0x0010#16, index := 0x1001#16, sub := 0x01#8 } : DictAddr).sub.toNat = true) ∧
    ((wWritesTakeEffectOrAreRefused [1, 1, 0, 0]).hears 0 = true ∧ addrStation ({ station := 0x0010#16, index := 0x2111#16, sub := 0x01#8 } : DictAddr).station.toNat = some (Station.field 0) ∧ (wWritesTakeEffectOrAreRefused [1, 1, 0, 0]).denies 0 ({ station := 0x0010#16, index := 0x2111#16, sub := 0x01#8 } : DictAddr).station.toNat ({ station := 0x0010#16, index := 0x2111#16, sub := 0x01#8 } : DictAddr).index.toNat ({ station := 0x0010#16, index := 0x2111#16, sub := 0x01#8 } : DictAddr).sub.toNat = false ∧ (wWritesTakeEffectOrAreRefused [1, 1, 0, 0]).unreachable (Station.field 0) = false ∧ (wWritesTakeEffectOrAreRefused [1, 1, 0, 0]).rindClosed ({ station := 0x0010#16, index := 0x2111#16, sub := 0x01#8 } : DictAddr).station.toNat ({ station := 0x0010#16, index := 0x2111#16, sub := 0x01#8 } : DictAddr).index.toNat ({ station := 0x0010#16, index := 0x2111#16, sub := 0x01#8 } : DictAddr).sub.toNat = false ∧ (wWritesTakeEffectOrAreRefused [1, 1, 0, 0]).coreBusy 0 ({ station := 0x0010#16, index := 0x2111#16, sub := 0x01#8 } : DictAddr).station.toNat ({ station := 0x0010#16, index := 0x2111#16, sub := 0x01#8 } : DictAddr).index.toNat ({ station := 0x0010#16, index := 0x2111#16, sub := 0x01#8 } : DictAddr).sub.toNat = false ∧ objRow ({ station := 0x0010#16, index := 0x2111#16, sub := 0x01#8 } : DictAddr).station.toNat ({ station := 0x0010#16, index := 0x2111#16, sub := 0x01#8 } : DictAddr).index.toNat ({ station := 0x0010#16, index := 0x2111#16, sub := 0x01#8 } : DictAddr).sub.toNat = none) ∧
    ((wWritesTakeEffectOrAreRefused [2, 0, 1, 2]).hears 0 = true ∧ addrStation ({ station := 0x0000#16, index := 0x2440#16, sub := 0x00#8 } : DictAddr).station.toNat = some Station.hub ∧ (wWritesTakeEffectOrAreRefused [2, 0, 1, 2]).denies 0 ({ station := 0x0000#16, index := 0x2440#16, sub := 0x00#8 } : DictAddr).station.toNat ({ station := 0x0000#16, index := 0x2440#16, sub := 0x00#8 } : DictAddr).index.toNat ({ station := 0x0000#16, index := 0x2440#16, sub := 0x00#8 } : DictAddr).sub.toNat = false ∧ (wWritesTakeEffectOrAreRefused [2, 0, 1, 2]).unreachable Station.hub = false ∧ (wWritesTakeEffectOrAreRefused [2, 0, 1, 2]).rindClosed ({ station := 0x0000#16, index := 0x2440#16, sub := 0x00#8 } : DictAddr).station.toNat ({ station := 0x0000#16, index := 0x2440#16, sub := 0x00#8 } : DictAddr).index.toNat ({ station := 0x0000#16, index := 0x2440#16, sub := 0x00#8 } : DictAddr).sub.toNat = false ∧ (wWritesTakeEffectOrAreRefused [2, 0, 1, 2]).coreBusy 0 ({ station := 0x0000#16, index := 0x2440#16, sub := 0x00#8 } : DictAddr).station.toNat ({ station := 0x0000#16, index := 0x2440#16, sub := 0x00#8 } : DictAddr).index.toNat ({ station := 0x0000#16, index := 0x2440#16, sub := 0x00#8 } : DictAddr).sub.toNat = false ∧ objRow ({ station := 0x0000#16, index := 0x2440#16, sub := 0x00#8 } : DictAddr).station.toNat ({ station := 0x0000#16, index := 0x2440#16, sub := 0x00#8 } : DictAddr).index.toNat ({ station := 0x0000#16, index := 0x2440#16, sub := 0x00#8 } : DictAddr).sub.toNat = some ({ own := 7, base := 9280, count := 16, subLo := 0, subHi := 0, size := 1, access := Sys2Proof.Machine.Access.ro, dflt := 10, lo := 0, hi := 255 } : ObjRow) ∧ ({ own := 7, base := 9280, count := 16, subLo := 0, subHi := 0, size := 1, access := Sys2Proof.Machine.Access.ro, dflt := 10, lo := 0, hi := 255 } : ObjRow).access = Access.ro) ∧
    ((wWritesTakeEffectOrAreRefused [2, 0, 1, 2]).hears 5 = true ∧ addrStation ({ station := 0x0000#16, index := 0x1200#16, sub := 0x0f#8 } : DictAddr).station.toNat = some Station.hub ∧ (wWritesTakeEffectOrAreRefused [2, 0, 1, 2]).denies 5 ({ station := 0x0000#16, index := 0x1200#16, sub := 0x0f#8 } : DictAddr).station.toNat ({ station := 0x0000#16, index := 0x1200#16, sub := 0x0f#8 } : DictAddr).index.toNat ({ station := 0x0000#16, index := 0x1200#16, sub := 0x0f#8 } : DictAddr).sub.toNat = false ∧ (wWritesTakeEffectOrAreRefused [2, 0, 1, 2]).unreachable Station.hub = false ∧ (wWritesTakeEffectOrAreRefused [2, 0, 1, 2]).rindClosed ({ station := 0x0000#16, index := 0x1200#16, sub := 0x0f#8 } : DictAddr).station.toNat ({ station := 0x0000#16, index := 0x1200#16, sub := 0x0f#8 } : DictAddr).index.toNat ({ station := 0x0000#16, index := 0x1200#16, sub := 0x0f#8 } : DictAddr).sub.toNat = false ∧ (wWritesTakeEffectOrAreRefused [2, 0, 1, 2]).coreBusy 5 ({ station := 0x0000#16, index := 0x1200#16, sub := 0x0f#8 } : DictAddr).station.toNat ({ station := 0x0000#16, index := 0x1200#16, sub := 0x0f#8 } : DictAddr).index.toNat ({ station := 0x0000#16, index := 0x1200#16, sub := 0x0f#8 } : DictAddr).sub.toNat = false ∧ objRow ({ station := 0x0000#16, index := 0x1200#16, sub := 0x0f#8 } : DictAddr).station.toNat ({ station := 0x0000#16, index := 0x1200#16, sub := 0x0f#8 } : DictAddr).index.toNat ({ station := 0x0000#16, index := 0x1200#16, sub := 0x0f#8 } : DictAddr).sub.toNat = some ({ own := 1, base := 4608, count := 1, subLo := 15, subHi := 15, size := 1, access := Sys2Proof.Machine.Access.rw, dflt := 1, lo := 0, hi := 1 } : ObjRow) ∧ ({ own := 1, base := 4608, count := 1, subLo := 15, subHi := 15, size := 1, access := Sys2Proof.Machine.Access.rw, dflt := 1, lo := 0, hi := 1 } : ObjRow).access ≠ Access.ro ∧ levelReadOnly (wWritesTakeEffectOrAreRefused [2, 0, 1, 2]) ({ station := 0x0000#16, index := 0x1200#16, sub := 0x0f#8 } : DictAddr).station.toNat ({ station := 0x0000#16, index := 0x1200#16, sub := 0x0f#8 } : DictAddr).index.toNat ({ station := 0x0000#16, index := 0x1200#16, sub := 0x0f#8 } : DictAddr).sub.toNat = false ∧ ({ own := 1, base := 4608, count := 1, subLo := 15, subHi := 15, size := 1, access := Sys2Proof.Machine.Access.rw, dflt := 1, lo := 0, hi := 1 } : ObjRow).size ≠ 0 ∧ [5#8, 0#8].length ≠ ({ own := 1, base := 4608, count := 1, subLo := 15, subHi := 15, size := 1, access := Sys2Proof.Machine.Access.rw, dflt := 1, lo := 0, hi := 1 } : ObjRow).size) ∧
    ((wWritesTakeEffectOrAreRefused [0, 1, 0, 1]).hears 0 = true ∧ addrStation ({ station := 0x0100#16, index := 0x2200#16, sub := 0x04#8 } : DictAddr).station.toNat = some (Station.cluster 0 0) ∧ (wWritesTakeEffectOrAreRefused [0, 1, 0, 1]).denies 0 ({ station := 0x0100#16, index := 0x2200#16, sub := 0x04#8 } : DictAddr).station.toNat ({ station := 0x0100#16, index := 0x2200#16, sub := 0x04#8 } : DictAddr).index.toNat ({ station := 0x0100#16, index := 0x2200#16, sub := 0x04#8 } : DictAddr).sub.toNat = false ∧ (wWritesTakeEffectOrAreRefused [0, 1, 0, 1]).unreachable (Station.cluster 0 0) = false ∧ (wWritesTakeEffectOrAreRefused [0, 1, 0, 1]).rindClosed ({ station := 0x0100#16, index := 0x2200#16, sub := 0x04#8 } : DictAddr).station.toNat ({ station := 0x0100#16, index := 0x2200#16, sub := 0x04#8 } : DictAddr).index.toNat ({ station := 0x0100#16, index := 0x2200#16, sub := 0x04#8 } : DictAddr).sub.toNat = false ∧ (wWritesTakeEffectOrAreRefused [0, 1, 0, 1]).coreBusy 0 ({ station := 0x0100#16, index := 0x2200#16, sub := 0x04#8 } : DictAddr).station.toNat ({ station := 0x0100#16, index := 0x2200#16, sub := 0x04#8 } : DictAddr).index.toNat ({ station := 0x0100#16, index := 0x2200#16, sub := 0x04#8 } : DictAddr).sub.toNat = false ∧ objRow ({ station := 0x0100#16, index := 0x2200#16, sub := 0x04#8 } : DictAddr).station.toNat ({ station := 0x0100#16, index := 0x2200#16, sub := 0x04#8 } : DictAddr).index.toNat ({ station := 0x0100#16, index := 0x2200#16, sub := 0x04#8 } : DictAddr).sub.toNat = some ({ own := 4, base := 8704, count := 1, subLo := 4, subHi := 4, size := 4, access := Sys2Proof.Machine.Access.rws, dflt := 0, lo := 0, hi := 4294967295 } : ObjRow) ∧ ({ own := 4, base := 8704, count := 1, subLo := 4, subHi := 4, size := 4, access := Sys2Proof.Machine.Access.rws, dflt := 0, lo := 0, hi := 4294967295 } : ObjRow).access = Access.rws ∧ levelReadOnly (wWritesTakeEffectOrAreRefused [0, 1, 0, 1]) ({ station := 0x0100#16, index := 0x2200#16, sub := 0x04#8 } : DictAddr).station.toNat ({ station := 0x0100#16, index := 0x2200#16, sub := 0x04#8 } : DictAddr).index.toNat ({ station := 0x0100#16, index := 0x2200#16, sub := 0x04#8 } : DictAddr).sub.toNat = false ∧ [100#8, 0#8, 0#8, 0#8].length = ({ own := 4, base := 8704, count := 1, subLo := 4, subHi := 4, size := 4, access := Sys2Proof.Machine.Access.rws, dflt := 0, lo := 0, hi := 4294967295 } : ObjRow).size ∧ ({ own := 4, base := 8704, count := 1, subLo := 4, subHi := 4, size := 4, access := Sys2Proof.Machine.Access.rws, dflt := 0, lo := 0, hi := 4294967295 } : ObjRow).size ≠ 0 ∧ (wWritesTakeEffectOrAreRefused [0, 1, 0, 1]).ownerStopped ({ station := 0x0100#16, index := 0x2200#16, sub := 0x04#8 } : DictAddr).station.toNat = false) ∧
    ((wWritesTakeEffectOrAreRefused [0, 1, 0, 1]).hears 0 = true ∧ ({ index := 4864, sub := 1 } : Obj) ∈ [O.XFER_TIMEOUT, O.SESSION_IDLE, O.ERR_THRESH, O.ESC_RESET] ∧ ({ station := 0x0000#16, index := 0x1300#16, sub := 0x01#8 } : DictAddr).station.toNat = hubSt ∧ ({ station := 0x0000#16, index := 0x1300#16, sub := 0x01#8 } : DictAddr).index.toNat = ({ index := 4864, sub := 1 } : Obj).index ∧ ({ station := 0x0000#16, index := 0x1300#16, sub := 0x01#8 } : DictAddr).sub.toNat = ({ index := 4864, sub := 1 } : Obj).sub ∧ objRow hubSt ({ index := 4864, sub := 1 } : Obj).index ({ index := 4864, sub := 1 } : Obj).sub = some ({ own := 1, base := 4864, count := 1, subLo := 1, subHi := 1, size := 1, access := Sys2Proof.Machine.Access.rw, dflt := 3, lo := 1, hi := 5 } : ObjRow) ∧ ((wWritesTakeEffectOrAreRefused [0, 1, 0, 1]).touch 0).admitValue 0 ({ station := 0x0000#16, index := 0x1300#16, sub := 0x01#8 } : DictAddr).station.toNat ({ station := 0x0000#16, index := 0x1300#16, sub := 0x01#8 } : DictAddr).index.toNat ({ station := 0x0000#16, index := 0x1300#16, sub := 0x01#8 } : DictAddr).sub.toNat [1#8] = none ∧ ({ own := 1, base := 4864, count := 1, subLo := 1, subHi := 1, size := 1, access := Sys2Proof.Machine.Access.rw, dflt := 3, lo := 1, hi := 5 } : ObjRow).lo ≤ leNat [1#8] ∧ leNat [1#8] ≤ ({ own := 1, base := 4864, count := 1, subLo := 1, subHi := 1, size := 1, access := Sys2Proof.Machine.Access.rw, dflt := 3, lo := 1, hi := 5 } : ObjRow).hi) ∧
    ((wWritesTakeEffectOrAreRefused [2, 0, 1, 2]).hears 5 = true ∧ ({ index := 4368, sub := 7 } : Obj) ∈ [O.XFER_TIMEOUT, O.SESSION_IDLE, O.ERR_THRESH, O.ESC_RESET] ∧ ({ station := 0x0000#16, index := 0x1110#16, sub := 0x07#8 } : DictAddr).station.toNat = hubSt ∧ ({ station := 0x0000#16, index := 0x1110#16, sub := 0x07#8 } : DictAddr).index.toNat = ({ index := 4368, sub := 7 } : Obj).index ∧ ({ station := 0x0000#16, index := 0x1110#16, sub := 0x07#8 } : DictAddr).sub.toNat = ({ index := 4368, sub := 7 } : Obj).sub ∧ objRow hubSt ({ index := 4368, sub := 7 } : Obj).index ({ index := 4368, sub := 7 } : Obj).sub = some ({ own := 1, base := 4368, count := 1, subLo := 7, subHi := 7, size := 4, access := Sys2Proof.Machine.Access.rw, dflt := 100, lo := 10, hi := 10000 } : ObjRow) ∧ ((wWritesTakeEffectOrAreRefused [2, 0, 1, 2]).touch 5).admitValue 5 ({ station := 0x0000#16, index := 0x1110#16, sub := 0x07#8 } : DictAddr).station.toNat ({ station := 0x0000#16, index := 0x1110#16, sub := 0x07#8 } : DictAddr).index.toNat ({ station := 0x0000#16, index := 0x1110#16, sub := 0x07#8 } : DictAddr).sub.toNat [1#8, 0#8, 0#8, 0#8] = none ∧ (leNat [1#8, 0#8, 0#8, 0#8] < ({ own := 1, base := 4368, count := 1, subLo := 7, subHi := 7, size := 4, access := Sys2Proof.Machine.Access.rw, dflt := 100, lo := 10, hi := 10000 } : ObjRow).lo ∨ ({ own := 1, base := 4368, count := 1, subLo := 7, subHi := 7, size := 4, access := Sys2Proof.Machine.Access.rw, dflt := 100, lo := 10, hi := 10000 } : ObjRow).hi < leNat [1#8, 0#8, 0#8, 0#8])) ∧
    ((wWritesTakeEffectOrAreRefused [2, 0, 1, 2]).hears 1 = false) := by
  refine ⟨?_, ?_, ?_, ?_, ?_, ?_, ?_, ?_, ?_, ?_, ?_, ?_⟩ <;> decide +kernel
end Sys2Proof.Tests.C18

namespace Sys2Proof.Tests.C02b


def wClusterCommandsAct : List Nat → State := pick
  ([[ws [(.cluster 0 0, .parked)]], [fun s => s.putWheel (.cluster 0 0) { s.wheel (.cluster 0 0) with parkCause := .noSpare }], [fun s => s.putEng (cle 0 0) { s.eng (cle 0 0) with tested := true, closed := true }]])
theorem test_meets_ClusterCommandsAct_b :
    ((wClusterCommandsAct [0, 0, 0]).Admitted 0 (clSt 0 0) ((WheelRef.cluster 0 0).obj 3) 1 ∧ (wClusterCommandsAct [0, 0, 0]).actionOn (WheelRef.cluster 0 0) = false ∧ (wClusterCommandsAct [0, 0, 0]).cstate 0 0 = WState.parked ∧ ((wClusterCommandsAct [0, 0, 0]).link (LinkRef.cl 0 0)).failed = false ∧ (wClusterCommandsAct [0, 0, 0]).parkGone 0 0 = true ∧ ((wClusterCommandsAct [0, 0, 0]).wheel (WheelRef.cluster 0 0)).parkCause = ParkCause.noSpare) := by
  decide +kernel
def wSetpointsAreCheckedAndSpread : List Nat → State := pick
  ([[id]])
theorem test_meets_SetpointsAreCheckedAndSpread_b :
    ((wSetpointsAreCheckedAndSpread [0]).Admitted 0 hubSt (O.VSET.at 56) 2 ∧ (wSetpointsAreCheckedAndSpread [0]).takes (WheelRef.domain 56) (900#16).toNat = true ∧ isAux 56 = true) ∧
    ((wSetpointsAreCheckedAndSpread [0]).Admitted 0 (WheelRef.cluster 0 0).station ((WheelRef.cluster 0 0).obj 8) 4) := by
  refine ⟨?_, ?_⟩ <;> decide +kernel
end Sys2Proof.Tests.C02b

namespace Sys2Proof.Tests.C02d

def job (t : SeqTarget) (s : State) : State := { s with seq := { s.seq with jobs := [{ target := t, on := true, origin := .parent, step := .ramping }] } }
def grp (s : State) : State := { s with groups := [⟨0x8000, [wheelWord (.cluster 0 0), wheelWord (.cluster 0 16)]⟩] }
def act (s : State) : State := { s with flt := { s.flt with actions := [⟨⟨F.CL_FENCE, clSt 0 0, 0⟩, 5, ⟨F.CL_FENCE, clSt 0 0, 0⟩, none⟩] } }
def grp2 (s : State) : State := { s with groups := [⟨0x8000, [wheelWord (.domain 56)]⟩] }
def wStartAndStopGoToTheSequencer : List Nat → State := pick
  ([[id, ws [(.domain 0, .running)], ws [(.domain 0, .latched), (.field 0, .running)], ws [(.field 0, .latched), (.die, .latched)]], [id, job .die, job (.domain 0), job (.field 0)], [id, act], [id, grp]])
theorem test_meets_StartAndStopGoToTheSequencer_d :
    ((wStartAndStopGoToTheSequencer [0, 1, 0, 1]).Admitted 0 WheelRef.die.station (WheelRef.die.obj 3) 1 ∧ (wStartAndStopGoToTheSequencer [0, 1, 0, 1]).actionOn WheelRef.die = false ∧ ((∃ d, WheelRef.die = WheelRef.domain d) ∨ (∃ f, WheelRef.die = WheelRef.field f) ∨ WheelRef.die = WheelRef.die) ∧ (wStartAndStopGoToTheSequencer [0, 1, 0, 1]).wstate WheelRef.die = WState.stopped ∧ Option.any SeqJob.on ((wStartAndStopGoToTheSequencer [0, 1, 0, 1]).job (wheelTarget WheelRef.die)) = true ∧ (wStartAndStopGoToTheSequencer [0, 1, 0, 1]).rst.configured = false) ∧
    ((wStartAndStopGoToTheSequencer [3, 3, 1, 1]).Admitted 0 WheelRef.die.station (WheelRef.die.obj 3) 1 ∧ (wStartAndStopGoToTheSequencer [3, 3, 1, 1]).actionOn WheelRef.die = false ∧ ((∃ d, WheelRef.die = WheelRef.domain d) ∨ (∃ f, WheelRef.die = WheelRef.field f) ∨ WheelRef.die = WheelRef.die) ∧ (wStartAndStopGoToTheSequencer [3, 3, 1, 1]).wstate WheelRef.die ≠ WState.stopped ∧ (wStartAndStopGoToTheSequencer [3, 3, 1, 1]).wstate WheelRef.die ≠ WState.stopping) ∧
    ((wStartAndStopGoToTheSequencer [3, 3, 1, 1]).Admitted 0 WheelRef.die.station (WheelRef.die.obj 3) 1 ∧ (wStartAndStopGoToTheSequencer [3, 3, 1, 1]).actionOn WheelRef.die = false ∧ ((∃ d, WheelRef.die = WheelRef.domain d) ∨ (∃ f, WheelRef.die = WheelRef.field f) ∨ WheelRef.die = WheelRef.die) ∧ (wStartAndStopGoToTheSequencer [3, 3, 1, 1]).wstate WheelRef.die ∉ [WState.starting, WState.running, WState.derated, WState.holding] ∧ ¬((wStartAndStopGoToTheSequencer [3, 3, 1, 1]).wstate WheelRef.die = WState.stopped ∧ Option.any SeqJob.on ((wStartAndStopGoToTheSequencer [3, 3, 1, 1]).job (wheelTarget WheelRef.die)) = true)) ∧
    ((wStartAndStopGoToTheSequencer [3, 3, 1, 1]).Admitted 0 (WheelRef.field 0).station ((WheelRef.field 0).obj 3) 1 ∧ (wStartAndStopGoToTheSequencer [3, 3, 1, 1]).actionOn (WheelRef.field 0) = true) := by
  refine ⟨?_, ?_, ?_, ?_⟩ <;> decide +kernel
def wSetpointsAreCheckedAndSpread : List Nat → State := pick
  ([[id, grp2, grp]])
theorem test_meets_SetpointsAreCheckedAndSpread_d :
    ((wSetpointsAreCheckedAndSpread [1]).Admitted 0 (32768 + 0) { index := 8208, sub := 4 } 2 ∧ (wSetpointsAreCheckedAndSpread [1]).hasSetpoint 257 (WheelRef.group 0) = false) := by
  decide +kernel
end Sys2Proof.Tests.C02d

namespace Sys2Proof.Tests.C02g

def job (t : SeqTarget) (s : State) : State := { s with seq := { s.seq with jobs := [{ target := t, on := true, origin := .parent, step := .ramping }] } }
def grp (s : State) : State := { s with groups := [⟨0x8000, [wheelWord (.cluster 0 0), wheelWord (.cluster 0 16)]⟩] }
def act (s : State) : State := { s with flt := { s.flt with actions := [⟨⟨F.CL_FENCE, clSt 0 0, 0⟩, 5, ⟨F.CL_FENCE, clSt 0 0, 0⟩, none⟩] } }
def wStartAndStopGoToTheSequencer : List Nat → State := pick
  ([[id, ws [(.domain 0, .running)], ws [(.domain 0, .latched), (.field 0, .running)], ws [(.field 0, .latched), (.die, .latched)]], [id, job .die, job (.domain 0), job (.field 0)], [id, fun s => {s with rst := {s.rst with configured := true}}, act], [id, grp]])
theorem test_meets_StartAndStopGoToTheSequencer_g :
    ((wStartAndStopGoToTheSequencer [0, 0, 0, 1]).Admitted 0 WheelRef.die.station (WheelRef.die.obj 3) 1 ∧ (wStartAndStopGoToTheSequencer [0, 0, 0, 1]).actionOn WheelRef.die = false ∧ ((∃ d, WheelRef.die = WheelRef.domain d) ∨ (∃ f, WheelRef.die = WheelRef.field f) ∨ WheelRef.die = WheelRef.die) ∧ ((wStartAndStopGoToTheSequencer [0, 0, 0, 1]).wstate WheelRef.die = WState.stopped ∨ (wStartAndStopGoToTheSequencer [0, 0, 0, 1]).wstate WheelRef.die = WState.stopping) ∧ (((wStartAndStopGoToTheSequencer [0, 0, 0, 1]).touch 0).submit (wheelTarget WheelRef.die) true (SeqOrigin.session 0) false).2 ≠ 0 ∧ (((wStartAndStopGoToTheSequencer [0, 0, 0, 1]).touch 0).submit (wheelTarget WheelRef.die) true (SeqOrigin.session 0) false).2 ≠ 13) ∧
    ((wStartAndStopGoToTheSequencer [2, 1, 1, 0]).Admitted 0 (WheelRef.field 0).station ((WheelRef.field 0).obj 3) 1 ∧ (wStartAndStopGoToTheSequencer [2, 1, 1, 0]).actionOn (WheelRef.field 0) = false ∧ ((∃ d, WheelRef.field 0 = WheelRef.domain d) ∨ (∃ f, WheelRef.field 0 = WheelRef.field f) ∨ WheelRef.field 0 = WheelRef.die) ∧ (wStartAndStopGoToTheSequencer [2, 1, 1, 0]).wstate (WheelRef.field 0) ∈ [WState.starting, WState.running, WState.derated, WState.holding] ∧ (wStartAndStopGoToTheSequencer [2, 1, 1, 0]).rst.configured = true) ∧
    ((wStartAndStopGoToTheSequencer [2, 1, 1, 0]).Admitted 0 WheelRef.die.station (WheelRef.die.obj 3) 1 ∧ (wStartAndStopGoToTheSequencer [2, 1, 1, 0]).actionOn WheelRef.die = false ∧ ((∃ d, WheelRef.die = WheelRef.domain d) ∨ (∃ f, WheelRef.die = WheelRef.field f) ∨ WheelRef.die = WheelRef.die) ∧ (wStartAndStopGoToTheSequencer [2, 1, 1, 0]).wstate WheelRef.die = WState.stopped ∧ Option.any SeqJob.on ((wStartAndStopGoToTheSequencer [2, 1, 1, 0]).job (wheelTarget WheelRef.die)) = true ∧ (wStartAndStopGoToTheSequencer [2, 1, 1, 0]).rst.configured = true) ∧
    ((wStartAndStopGoToTheSequencer [0, 0, 0, 1]).Admitted 0 WheelRef.die.station (WheelRef.die.obj 3) 1 ∧ (wStartAndStopGoToTheSequencer [0, 0, 0, 1]).actionOn WheelRef.die = false ∧ ((∃ d, WheelRef.die = WheelRef.domain d) ∨ (∃ f, WheelRef.die = WheelRef.field f) ∨ WheelRef.die = WheelRef.die) ∧ ((wStartAndStopGoToTheSequencer [0, 0, 0, 1]).wstate WheelRef.die ≠ WState.latched ∨ (wStartAndStopGoToTheSequencer [0, 0, 0, 1]).wheelFaulted WheelRef.die = true)) ∧
    ((wStartAndStopGoToTheSequencer [1, 1, 2, 0]).Admitted 0 (WheelRef.cluster 0 0).station ((WheelRef.cluster 0 0).obj 3) 1 ∧ (wStartAndStopGoToTheSequencer [1, 1, 2, 0]).actionOn (WheelRef.cluster 0 0) = true) := by
  refine ⟨?_, ?_, ?_, ?_, ?_⟩ <;> decide +kernel
end Sys2Proof.Tests.C02g

namespace Sys2Proof.Tests.C03b

def lk (f : FieldId) (n : Fin 2) (r : LinkRec) (s : State) : State := s.putLink (.fh f n) r
def m0 (src dst : Nat) (cls : NetClass) : NetMsg := { dest := BitVec.ofNat 16 dst, src := BitVec.ofNat 16 src, cls := cls, len := 0, type := 0, elapsed := 0 }
def tq (l : List (Nat × Nat × NetMsg)) (s : State) : State := l.foldl (fun s x => { s with net := { s.net with transit := s.net.transit ++ [{ src := x.1, dst := x.2.1, msg := x.2.2 }] } }) s
def wLinksFailAndReturn : List Nat → State := pick
  ([[id, lk 0 1 {failed := true}, fun s => lk 0 0 {failed := true} (lk 0 1 {failed := true} s)], [id, lk 0 0 {lastBad := some 3}], nowAlts [0, 3000, 3000000]])
theorem test_meets_LinksFailAndReturn_b :
    (((wLinksFailAndReturn [1, 1, 0]).link (LinkRef.fh 0 1)).failed = true ∧ LinkRef.fh 0 1 = LinkRef.fh 0 1 ∧ (∀ (k : Fin 2), k ≠ 1 → ((wLinksFailAndReturn [1, 1, 0]).link (LinkRef.fh 0 k)).failed = false)) ∧
    (((wLinksFailAndReturn [2, 0, 1]).link (LinkRef.fh 0 0)).failed = true ∧ LinkRef.fh 0 0 = LinkRef.fh 0 0 ∧ (wLinksFailAndReturn [2, 0, 1]).fieldCut 0 = true) ∧
    (LinkRef.fh 0 0 ∈ linksOf Station.hub) := by
  refine ⟨?_, ?_, ?_⟩ <;> decide +kernel
def wMessagesAndOffsets : List Nat → State := pick
  ([[id, tq [(0, fSt 0, m0 0 0x10 0)], tq [(0, fSt 0, m0 0 0x100 1), (0, fSt 0, m0 0 0x10 0)], tq [(fSt 0, clSt 0 0, m0 0 0x100 1), (fSt 0, 0, m0 (clSt 0 0) 0 0), (fSt 0, 0, m0 (clSt 0 0) 0 1)]]])
theorem test_meets_MessagesAndOffsets_b :
    ((wMessagesAndOffsets [3]).sender Station.hub ({ dest := 0x0101#16, src := 0x0100#16, cls := 0, len := 1, type := 0x00#8, elapsed := 0x3ffff#18 } : NetMsg) = none ∧ ({ dest := 0x0101#16, src := 0x0100#16, cls := 0, len := 1, type := 0x00#8, elapsed := 0x3ffff#18 } : NetMsg).src.toNat ≠ Station.hub.addr) ∧
    ((wMessagesAndOffsets [3]).sender (Station.cluster 0 0) ({ dest := 0x0100#16, src := 0x0000#16, cls := 1, len := 0, type := 0x00#8, elapsed := 0x00000#18 } : NetMsg) = some (Station.field 0).addr ∧ (wMessagesAndOffsets [3]).linkBetween (Station.field 0) (Station.cluster 0 0) = some (LinkRef.cl 0 0) ∧ (wMessagesAndOffsets [3]).nextOut (Station.field 0).addr (Station.cluster 0 0).addr = some (({ src := 16, dst := 256, msg := { dest := 0x0100#16, src := 0x0000#16, cls := 1, len := 0, type := 0x00#8, elapsed := 0x00000#18 }, sent := 1, resent := false }, [], { since2 := 0, since3 := 0 }) : Transit × List Transit × OutArb)) ∧
    (¬(({ dest := 0x0000#16, src := 0x0100#16, cls := 1, len := 1, type := 0x00#8, elapsed := 0x3ffff#18 } : NetMsg).cls = 0 ∧ 1 < ↑({ dest := 0x0000#16, src := 0x0100#16, cls := 1, len := 1, type := 0x00#8, elapsed := 0x3ffff#18 } : NetMsg).len) ∧ destOf ({ dest := 0x0000#16, src := 0x0100#16, cls := 1, len := 1, type := 0x00#8, elapsed := 0x3ffff#18 } : NetMsg).dest.toNat = some Station.hub) ∧
    (¬(({ dest := 0x0101#16, src := 0x0100#16, cls := 0, len := 1, type := 0x00#8, elapsed := 0x3ffff#18 } : NetMsg).cls = 0 ∧ 1 < ↑({ dest := 0x0101#16, src := 0x0100#16, cls := 0, len := 1, type := 0x00#8, elapsed := 0x3ffff#18 } : NetMsg).len) ∧ destOf ({ dest := 0x0101#16, src := 0x0100#16, cls := 0, len := 1, type := 0x00#8, elapsed := 0x3ffff#18 } : NetMsg).dest.toNat = some (Station.cluster 0 1) ∧ Station.cluster 0 1 ≠ Station.hub) := by
  refine ⟨?_, ?_, ?_, ?_⟩ <;> decide +kernel
end Sys2Proof.Tests.C03b

namespace Sys2Proof.Tests.C03g

def cl := wAlts (.cluster 0 0)
def lk (r : LinkRec) (s : State) : State := ((s.putLink (.cl 0 0) r).putLink (.fh 0 0) r)
def lk2 (r : LinkRec) (s : State) : State := ((s.putLink (.fh 0 1) r))
def tr (s : State) : State := {s with net := {s.net with transit := [{src := fSt 0, dst := hubSt, msg := (⟨0x8, 0x8, 1, 0, 0, 0⟩ : NetMsg), sent := 1}, {src := clSt 0 0, dst := fSt 0, msg := (⟨0x8, 0x8, 2, 0, 0, 0⟩ : NetMsg)}]}}
def wLinksFailAndReturn : List Nat → State := pick
  ([[id, ws [(.cluster 0 0, .running)]], [id, tr], [id, lk2 {failed := true}], [id, lk {failed := true}, lk {failed := true, contain := true}, lk {lastBad := some 3}, lk {lastBad := some 3000000, lastFlit := 3000000}], nowAlts [0, 5, 3000000, 9000000]])
theorem test_meets_LinksFailAndReturn_g :
    (LinkRef.cl 0 0 = LinkRef.cl 0 0 ∧ ((wLinksFailAndReturn [0, 1, 1, 2, 1]).link (LinkRef.cl 0 0)).failed = true ∧ ((wLinksFailAndReturn [0, 1, 1, 2, 1]).link (LinkRef.cl 0 0)).contain = true) ∧
    (((wLinksFailAndReturn [0, 1, 1, 2, 1]).link (LinkRef.cl 0 0)).contain = true) ∧
    (LinkRef.cl 0 0 ∈ linksOf (Station.cluster 0 0)) := by
  refine ⟨?_, ?_, ?_⟩ <;> decide +kernel
end Sys2Proof.Tests.C03g

namespace Sys2Proof.Tests.C04b

def mrA : List (State → State) := [fun s => s.putMr 0 0 0 { s.mr 0 0 0 with cell := .switching, limRun := 6400, hiccups := 65000, duty := 50 }, fun s => s.putMr 0 0 0 { s.mr 0 0 0 with cell := .clusterHiccup }]
def wSlotsAndClusterHiccup : List Nat → State := pick
  ([mrA, alts (clSt 0 0) O.SHORT_STATE [1], [ws [(.cluster 0 0, .running)]], nowAlts [0, 3000, 20000, 2000000, 3000000000000]])
theorem test_meets_SlotsAndClusterHiccup_b :
    ((wSlotsAndClusterHiccup [1, 0, 0, 3]).shortState 0 0 = 1 ∧ ((wSlotsAndClusterHiccup [1, 0, 0, 3]).cstate 0 0).isOn = true ∧ ((wSlotsAndClusterHiccup [1, 0, 0, 3]).cellsOf 0 0).hicAt + (wSlotsAndClusterHiccup [1, 0, 0, 3]).rd (clSt 0 0) O.HICCUP_OFF ≤ (wSlotsAndClusterHiccup [1, 0, 0, 3]).time (clSt 0 0) ∧ 0 < mrCount 0 ∧ ((wSlotsAndClusterHiccup [1, 0, 0, 3]).mr 0 0 0).cell = Cell.clusterHiccup) := by
  decide +kernel
end Sys2Proof.Tests.C04b

namespace Sys2Proof.Tests.C04c

def mrA : List (State → State) := [fun s => s.putMr 0 0 0 { s.mr 0 0 0 with cell := .switching, limRun := 64, hiccups := 2, duty := 50 }]
def wHiccupsRetire : List Nat → State := pick
  ([mrA, alts (clSt 0 0) O.SHORT_STATE [0,1], alts (clSt 0 0) O.HICCUP_LIMIT [3, 4], alts (clSt 0 0) O.SHORT_FRAC [75, 0], alts (clSt 0 0) O.ISUM [0, 100000], [fun s => s.wr (clSt 0 0) O.MC_OPEN_RUN 3]])
theorem test_meets_HiccupsRetire_c :
    (0 < mrCount 0 ∧ (((wHiccupsRetire [0, 0, 0, 1, 0, 0]).mr 0 0 0).cell = Cell.starting ∨ ((wHiccupsRetire [0, 0, 0, 1, 0, 0]).mr 0 0 0).cell = Cell.switching) ∧ (wHiccupsRetire [0, 0, 0, 1, 0, 0]).rd (clSt 0 0) O.LIM_RUN ≤ ((wHiccupsRetire [0, 0, 0, 1, 0, 0]).mr 0 0 0).limRun ∧ (wHiccupsRetire [0, 0, 0, 1, 0, 0]).shortState 0 0 ≠ 1 ∧ (((wHiccupsRetire [0, 0, 0, 1, 0, 0]).putMr 0 0 0 { cell := Cell.hiccupOff, cause := ((wHiccupsRetire [0, 0, 0, 1, 0, 0]).mr 0 0 0).cause, limAt := ((wHiccupsRetire [0, 0, 0, 1, 0, 0]).mr 0 0 0).limAt, truncNow := ((wHiccupsRetire [0, 0, 0, 1, 0, 0]).mr 0 0 0).truncNow, trunc := ((wHiccupsRetire [0, 0, 0, 1, 0, 0]).mr 0 0 0).trunc, rampAt := ((wHiccupsRetire [0, 0, 0, 1, 0, 0]).mr 0 0 0).rampAt, released := ((wHiccupsRetire [0, 0, 0, 1, 0, 0]).mr 0 0 0).released, hiccups := ((wHiccupsRetire [0, 0, 0, 1, 0, 0]).mr 0 0 0).hiccups + 1, windowOpen := true, hicAt := (wHiccupsRetire [0, 0, 0, 1, 0, 0]).time (clSt 0 0), winAt := if ((wHiccupsRetire [0, 0, 0, 1, 0, 0]).mr 0 0 0).windowOpen = true then ((wHiccupsRetire [0, 0, 0, 1, 0, 0]).mr 0 0 0).winAt else (wHiccupsRetire [0, 0, 0, 1, 0, 0]).time (clSt 0 0), pa := ((wHiccupsRetire [0, 0, 0, 1, 0, 0]).mr 0 0 0).pa, pb := ((wHiccupsRetire [0, 0, 0, 1, 0, 0]).mr 0 0 0).pb }).inc32 (clSt 0 0) (O.MR_HICCUP_TOTAL.at 0)).hiccupMany 0 0 = true) ∧
    (0 < mrCount 0 ∧ (((wHiccupsRetire [0, 1, 1, 0, 0, 0]).mr 0 0 0).cell = Cell.starting ∨ ((wHiccupsRetire [0, 1, 1, 0, 0, 0]).mr 0 0 0).cell = Cell.switching) ∧ (wHiccupsRetire [0, 1, 1, 0, 0, 0]).rd (clSt 0 0) O.LIM_RUN ≤ ((wHiccupsRetire [0, 1, 1, 0, 0, 0]).mr 0 0 0).limRun ∧ (wHiccupsRetire [0, 1, 1, 0, 0, 0]).shortState 0 0 = 1) ∧
    (0 < mrCount 0 ∧ (((wHiccupsRetire [0, 0, 0, 1, 1, 0]).mr 0 0 0).cell = Cell.starting ∨ ((wHiccupsRetire [0, 0, 0, 1, 1, 0]).mr 0 0 0).cell = Cell.switching) ∧ (wHiccupsRetire [0, 0, 0, 1, 1, 0]).shortState 0 0 ≠ 1 ∧ 40 ≤ ((wHiccupsRetire [0, 0, 0, 1, 1, 0]).mr 0 0 0).duty ∧ (wHiccupsRetire [0, 0, 0, 1, 1, 0]).rd (clSt 0 0) O.MC_OPEN_RUN ≤ (65535#16).toNat ∧ (wHiccupsRetire [0, 0, 0, 1, 1, 0]).openMr 0 0 (10#16).toNat (65535#16).toNat = true) := by
  refine ⟨?_, ?_, ?_⟩ <;> decide +kernel
end Sys2Proof.Tests.C04c

namespace Sys2Proof.Tests.C04d

def mrA : List (State → State) := [fun s => s.putMr 0 0 0 { s.mr 0 0 0 with cell := .restartRamp }, fun s => s.putMr 0 0 0 { s.mr 0 0 0 with cell := .hiccupOff }]
def wMrLimitAndHiccup : List Nat → State := pick
  ([mrA, alts (clSt 0 0) O.SHORT_STATE [0], nowAlts [0, 3000, 3000000000000]])
theorem test_meets_MrLimitAndHiccup_d :
    (0 < mrCount 0 ∧ ((wMrLimitAndHiccup [0, 0, 2]).mr 0 0 0).cell = Cell.restartRamp ∧ ((wMrLimitAndHiccup [0, 0, 2]).mr 0 0 0).rampAt + 2000 ≤ (wMrLimitAndHiccup [0, 0, 2]).time (clSt 0 0)) := by
  decide +kernel
end Sys2Proof.Tests.C04d

namespace Sys2Proof.Tests.C04g

def cells : List Cell := [.off, .starting, .switching, .restartRamp, .hiccupOff, .clusterHiccup, .retired]
def mrA : List (State → State) := cells.map (fun x s => s.putMr 0 0 0 { s.mr 0 0 0 with cell := x })
def mrB : List (State → State) := [id, fun s => s.putMr 0 0 0 { s.mr 0 0 0 with limRun := 64, hiccups := 2, duty := 41, windowOpen := true }, fun s => s.putMr 0 0 0 { s.mr 0 0 0 with limRun := 6400, hiccups := 300, duty := 39 }, fun s => s.putMr 0 0 0 { s.mr 0 0 0 with limRun := 6400, duty := 40 }]
def sh : List (State → State) := [id] ++ alts (clSt 0 0) O.SHORT_STATE [0,1,2]
def cl := wAlts (.cluster 0 0)
def wSensorsAndMasks : List Nat → State := pick
  ([cl, nowAlts [0, 5, 3000000], [id, fun s => s.mark (markKey 17 (clSt 0 0)) (clSt 0 0)]])
theorem test_meets_SensorsAndMasks_g :
    (¬((wSensorsAndMasks [7, 1, 0]).time (clSt 0 0) % 1000000 = 0 ∧ tblGet 0 (wSensorsAndMasks [7, 1, 0]).marks (markKey 17 (clSt 0 0)) ≠ (wSensorsAndMasks [7, 1, 0]).time (clSt 0 0) + 1)) ∧
    (4 < sensorCount 4) := by
  refine ⟨?_, ?_⟩ <;> decide +kernel
end Sys2Proof.Tests.C04g

namespace Sys2Proof.Tests.C05f

def lpp (g : LoopRec → LoopRec) (s : State) : State := s.putLoop 0 0 (g (s.loop 0 0))
def fd (s : State) : State := s.putTile 0 0 { s.tile 0 0 with feed := [(-3, 5), (2, 7)] }
def ti (g : TileRec → TileRec) (s : State) : State := s.putTile 0 0 (g (s.tile 0 0))
def wClusterMessages : List Nat → State := pick
  ([[id, fd, fd]])
theorem test_meets_ClusterMessages_f :
    (isCompute 0 = true ∧ ((wClusterMessages [2]).tile 0 (clusterTile 0)).feed = [(-3, 5), (2, 7)] ∧ 1000 < (262143#18).toNat) ∧
    (isCompute 0 = true ∧ ((wClusterMessages [2]).tile 0 (clusterTile 0)).feed = [(-3, 5), (2, 7)] ∧ (0#18).toNat ≤ 1000) := by
  refine ⟨?_, ?_⟩ <;> decide +kernel
def wHoldingEndsAndParks : List Nat → State := pick
  ([[ws [(.cluster 0 0, .running)], ws [(.cluster 0 0, .holding)]], [id, lpp (fun x => {x with excessSince := some 0, deadSince := some 0}), lpp (fun x => {x with deadSince := some 0})], nowAlts [0, 1000000000000]])
theorem test_meets_HoldingEndsAndParks_f :
    (isCompute 0 = true ∧ (wHoldingEndsAndParks [0, 2, 1]).cstate 0 0 ∈ [WState.starting, WState.running, WState.derated, WState.holding] ∧ (if false = true then Option.any (fun u => decide (u + (wHoldingEndsAndParks [0, 2, 1]).rd (clSt 0 0) O.DEAD_TIME ≤ (wHoldingEndsAndParks [0, 2, 1]).time (clSt 0 0))) ((wHoldingEndsAndParks [0, 2, 1]).loop 0 0).excessSince else Option.any (fun u => decide (u + (wHoldingEndsAndParks [0, 2, 1]).rd (clSt 0 0) O.DEAD_TIME ≤ (wHoldingEndsAndParks [0, 2, 1]).time (clSt 0 0))) ((wHoldingEndsAndParks [0, 2, 1]).loop 0 0).deadSince && decide (((wHoldingEndsAndParks [0, 2, 1]).tile 0 (clusterTile 0)).advancedAt + (wHoldingEndsAndParks [0, 2, 1]).rd (clSt 0 0) O.DEAD_TIME ≤ (wHoldingEndsAndParks [0, 2, 1]).time (fSt 0))) = true ∧ ((wHoldingEndsAndParks [0, 2, 1]).loop 0 0).parkFor = ParkCause.none) ∧
    ((isCompute 0 = false ∨ (wHoldingEndsAndParks [1, 0, 1]).cstate 0 0 ∉ [WState.starting, WState.running, WState.derated, WState.holding] ∨ (if false = true then Option.any (fun u => decide (u + (wHoldingEndsAndParks [1, 0, 1]).rd (clSt 0 0) O.DEAD_TIME ≤ (wHoldingEndsAndParks [1, 0, 1]).time (clSt 0 0))) ((wHoldingEndsAndParks [1, 0, 1]).loop 0 0).excessSince else Option.any (fun u => decide (u + (wHoldingEndsAndParks [1, 0, 1]).rd (clSt 0 0) O.DEAD_TIME ≤ (wHoldingEndsAndParks [1, 0, 1]).time (clSt 0 0))) ((wHoldingEndsAndParks [1, 0, 1]).loop 0 0).deadSince && decide (((wHoldingEndsAndParks [1, 0, 1]).tile 0 (clusterTile 0)).advancedAt + (wHoldingEndsAndParks [1, 0, 1]).rd (clSt 0 0) O.DEAD_TIME ≤ (wHoldingEndsAndParks [1, 0, 1]).time (fSt 0))) = false ∨ ((wHoldingEndsAndParks [1, 0, 1]).loop 0 0).parkFor ≠ ParkCause.none)) := by
  refine ⟨?_, ?_⟩ <;> decide +kernel
end Sys2Proof.Tests.C05f

namespace Sys2Proof.Tests.C05g

def lpp (g : LoopRec → LoopRec) (s : State) : State := s.putLoop 0 0 (g (s.loop 0 0))
def sv (n : Nat) (s : State) : State := s.wrRaw hubSt (0x1310 + F.CL_HOLD_EXPIRE / 256) (F.CL_HOLD_EXPIRE % 256) (n * 2 ^ 29)
def wHoldingEndsAndParks : List Nat → State := pick
  ([[ws [(.cluster 0 0, .running)], ws [(.cluster 0 0, .holding)], id], [id, sv 4, sv 5, sv 1], [id, lpp (fun x => {x with resetDue := true}), lpp (fun x => {x with resetDue := true, parkFor := .fence, parking := some 0})], nowAlts [0, 1000000000000]])
theorem test_meets_HoldingEndsAndParks_g :
    ((wHoldingEndsAndParks [1, 2, 0, 1]).cstate 0 0 = WState.holding ∧ ((wHoldingEndsAndParks [1, 2, 0, 1]).loop 0 0).parkFor = ParkCause.none ∧ ((wHoldingEndsAndParks [1, 2, 0, 1]).loop 0 0).holdAt + (wHoldingEndsAndParks [1, 2, 0, 1]).rd (clSt 0 0) O.HOLD_TIME ≤ (wHoldingEndsAndParks [1, 2, 0, 1]).time (clSt 0 0) ∧ 4 ≤ (wHoldingEndsAndParks [1, 2, 0, 1]).sevOf F.CL_HOLD_EXPIRE) ∧
    ((((wHoldingEndsAndParks [2, 1, 2, 0]).loop 0 0).parkFor = ParkCause.none ∨ ∀ (u : ℕ), ((wHoldingEndsAndParks [2, 1, 2, 0]).loop 0 0).parking = some u → (wHoldingEndsAndParks [2, 1, 2, 0]).time (clSt 0 0) < u + (wHoldingEndsAndParks [2, 1, 2, 0]).rd (clSt 0 0) O.PARK_DELAY) ∧ ((wHoldingEndsAndParks [2, 1, 2, 0]).loop 0 0).resetDue = true ∧ ((wHoldingEndsAndParks [2, 1, 2, 0]).cstate 0 0).isOn = false) := by
  refine ⟨?_, ?_⟩ <;> decide +kernel
end Sys2Proof.Tests.C05g

namespace Sys2Proof.Tests.C05h

def msg (s : State) : State := (s.putTile 0 0 { s.tile 0 0 with posOut := [5], markers := [9] }).putTherm 0 { s.therm 0 with sent := [(0, [1000])] }
def wClusterMessages : List Nat → State := pick
  ([[id, msg]])
theorem test_meets_ClusterMessages_h :
    (isCompute 0 = true ∧ ((wClusterMessages [1]).tile 0 (clusterTile 0)).posOut = (5#8).toNat :: ([] : List ℕ)) ∧
    (isCompute 0 = true ∧ ((wClusterMessages [1]).tile 0 (clusterTile 0)).markers = [9]) ∧
    (tblGet [] ((wClusterMessages [1]).therm 0).sent 0 = (1000#32).toNat :: ([] : List ℕ)) := by
  refine ⟨?_, ?_, ?_⟩ <;> decide +kernel
end Sys2Proof.Tests.C05h

namespace Sys2Proof.Tests.C06b


def wImagesLoadAndSwap : List Nat → State := pick
  ([[id]])
theorem test_meets_ImagesLoadAndSwap_b :
    ((wImagesLoadAndSwap [0]).Admitted 0 (engSt 231) (engObj O.IMAGE 231) ([] : List Byte).length ∧ ([] : List Byte).length ≤ 5220 ∧ ((wImagesLoadAndSwap [0]).eng 231).swapDue = 0) ∧
    ((wImagesLoadAndSwap [0]).Admitted 0 (engSt 231) (engObj O.IMAGE 231) (List.replicate 5221 0).length ∧ 5220 < (List.replicate 5221 0).length) := by
  refine ⟨?_, ?_⟩ <;> decide +kernel
end Sys2Proof.Tests.C06b

namespace Sys2Proof.Tests.C06f

def memA : Tbl Nat := memWrite (memWrite (memWrite (memWrite (memWrite [] 0 [0,2,2,7,1,9,200,3]) 16 [5, 66, 2, 1,2,3,4,5,6,7,8,9,10]) 64 [2,0,0,0,1]) 80 [0,2,1,1]) 96 [0,2,2,0,1,0,0,1]
def mask3 : Tbl Nat := [(0,3),(1,2),(8,1)]
def bk (k : Nat) : Bank := { task := k, v := (List.range 16).map (fun i => ⟨i % 3, (i : Int) - 3, if i % 2 = 1 then [5, -3] else [100]⟩), a := [⟨0,[3,4]⟩, ⟨2,[1,1]⟩, {}, {}], ports := [(0, 5), (1, -7), (2, 300)], masks := mask3, pc := 3, first := true }
def img : Image := { kind := 2, order := 0, cbase := 0, wbase := 0, wlines := 0, flags := 0, xline0 := 0, xline1 := 0, regfmt := [], ps := [1,2], xscale := [], words := [0xFC000000], consts := [], init := [], id := 77, ttab := 5 }
def engM (e : EngId) (g : EngRec → EngRec) (s : State) : State := s.putEng e (g (s.eng e))
def runs0 (e : EngId) (s : State) : State := engM e (fun r => { r with banks := [(0, some (bk 0))], running := some 0, mem := memA, images := [(0, some img)] }) s
def ls (e : EngId) (v : Nat) (s : State) : State := s.wr (engSt e) (engObj O.LOAD_STATE e) v
def loaded (s : State) : State := [152, 156, 231].foldl (fun s e => (engM e (fun r => { r with images := [(0, some img)] }) s).wr (engSt e) (taskObj O.TASK_STATE e 0) 2) s
def busyE (s : State) : State := [152, 156, 231].foldl (fun s e => (engM e (fun r => { r with images := [(0, some img)], banks := [(0, some (bk 0))], running := some 0 }) s).wr (engSt e) (taskObj O.TASK_STATE e 0) 2) s
def cls3 (s : State) : State := [152, 156, 231].foldl (fun s e => s.wr (engSt e) (taskObj O.CLASS e 0) 3) s
def hb (s : State) : State := (((engM (cle 0 0) (fun r => {r with failed := true, closed := true, tested := true, shadowImg := some img}) s).wr (fSt 0) O.SPARE_FOR 0).putEng (spareOf 0) { s.eng (spareOf 0) with handback := true, images := [(0, some img)] })
def fire (s : State) : State := ((s.putTrace 0 { s.trace 0 with fired := true }).putTrace 8 { s.trace 8 with fired := true })
def wActivationsRunAndCommit : List Nat → State := pick
  ([[id, loaded, busyE, fun s => engM 231 (fun r => { r with failed := true }) (loaded s)], [id, cls3], nowAlts [0, 7, 1000000]])
theorem test_meets_ActivationsRunAndCommit_f :
    (¬(↑((wActivationsRunAndCommit [1, 0, 1]).time (engSt 156)) - ↑((wActivationsRunAndCommit [1, 0, 1]).taskPhase 156 0)) % ↑((wActivationsRunAndCommit [1, 0, 1]).taskPeriod 156 0) = 0) ∧
    ((↑((wActivationsRunAndCommit [3, 0, 0]).time (engSt 152)) - ↑((wActivationsRunAndCommit [3, 0, 0]).taskPhase 152 0)) % ↑((wActivationsRunAndCommit [3, 0, 0]).taskPeriod 152 0) = 0 ∧ engStation 152 = Station.field 0 ∧ 0 = 0 ∧ engNum 152 < 4) ∧
    ((↑((wActivationsRunAndCommit [3, 0, 0]).time (engSt 156)) - ↑((wActivationsRunAndCommit [3, 0, 0]).taskPhase 156 0)) % ↑((wActivationsRunAndCommit [3, 0, 0]).taskPeriod 156 0) = 0 ∧ engStation 156 = Station.field 0 ∧ 0 = 0 ∧ engNum 156 = 4) ∧
    (isCle 156 = false ∧ (wActivationsRunAndCommit [2, 0, 2]).rd (engSt 156) (taskObj O.TASK_STATE 156 0) = 2 ∧ ((wActivationsRunAndCommit [2, 0, 2]).eng 156).failed = false ∧ ((wActivationsRunAndCommit [2, 0, 2]).eng 156).closed = false ∧ (((wActivationsRunAndCommit [2, 0, 2]).eng 156).image 0).isSome = true ∧ ((wActivationsRunAndCommit [2, 0, 2]).eng 156).busy 0 = true ∧ (wActivationsRunAndCommit [2, 0, 2]).taskClass 156 0 = 3) := by
  refine ⟨?_, ?_, ?_, ?_⟩ <;> decide +kernel
def wTasksAreAdmitted : List Nat → State := pick
  ([[loaded, busyE]])
theorem test_meets_TasksAreAdmitted_f :
    ((wTasksAreAdmitted [1]).Admitted 0 (engSt 231) (taskObj O.TASK_CTRL 231 0) 1 ∧ isCle 231 = false ∧ ((wTasksAreAdmitted [1]).eng 231).busy 0 = true) := by
  decide +kernel
def wEnginesFailAndReturn : List Nat → State := pick
  ([[hb]])
theorem test_meets_EnginesFailAndReturn_f :
    ((wEnginesFailAndReturn [0]).spareFor 0 = some 0 ∧ ((wEnginesFailAndReturn [0]).eng (spareOf 0)).handback = true ∧ ((wEnginesFailAndReturn [0]).eng (cle 0 0)).shadowImg.isSome = true) := by
  decide +kernel
def wTraceUnitRuns : List Nat → State := pick
  ([[id, fire], [wrs [(hubSt, O.TRACE_STATE, 1), (fSt 0, O.TRACE_STATE, 1)], id]])
theorem test_meets_TraceUnitRuns_f :
    (((wTraceUnitRuns [1, 0]).trace 0).fired = true ∧ (wTraceUnitRuns [1, 0]).rd (traceSt 0) O.TRACE_STATE = 1) := by
  decide +kernel
end Sys2Proof.Tests.C06f

namespace Sys2Proof.Tests.C07f

def ag (s : State) : State := (((s.wrRaw hubSt 0x2880 0x19 0).wrRaw hubSt 0x2880 1 1800).wr hubSt (O.V_LOCAL.at 0) 1800).wr hubSt (O.SENSE_SRC.at 0) 1
def wRailsAndTheirBus : List Nat → State := pick
  ([[ag]])
theorem test_meets_RailsAndTheirBus_f :
    (((wRailsAndTheirBus [0]).hasRecord F.SENSE_LOST hubSt 0 = false ∧ (wRailsAndTheirBus [0]).matched { code := F.SENSE_LOST, station := hubSt, item := 0 } = false ∧ (wRailsAndTheirBus [0]).senseAgrees 0 = true)) := by
  decide +kernel
end Sys2Proof.Tests.C07f

namespace Sys2Proof.Tests.C07v

def ra (g : RailRec → RailRec) (s : State) : State := (s.putRail 0 (g (s.rail 0))).putRail 15 (g (s.rail 15))
def ph (p : PhaseId) (g : PhaseRec → PhaseRec) (s : State) : State := (s.putPhase 0 p (g (s.phase 0 p))).putPhase 15 p (g (s.phase 15 p))
def rst : List (State → State) := [0,1,2,2,2,3,4,5,6].map (fun v s => (s.wr hubSt (O.RAIL_STATE.at 0) v).wr hubSt (O.RAIL_STATE.at 15) v)
def rA : List (State → State) := [id, ra (fun x => {x with stgEn := true, lead := true}), ra (fun x => {x with stgEn := true, lead := true, regFrom := some 0, uvFrom := some 0, snsFrom := some 0}), ra (fun x => {x with lead := true, held := 2, ptr := 3, ovFrom := some 0}), ra (fun x => {x with lead := true, lastTrip := some 3, ocRun := 63, ocPh := List.range 16, ocWin := 0}), ra (fun x => {x with discharge := true, stgEn := true}), ra (fun x => {x with stgDrop := true, axLimit := true, vfb := 4000})]
def pA : List (State → State) := [id, ph 0 (fun x => {x with pwm := .high, onAt := some 3}), ph 0 (fun x => {x with pwm := .high, onAt := some 3, limRun := 500, openRun := 100000}), ph 0 (fun x => {x with pwm := .low, offAt := some 0}), ph 0 (fun x => {x with pwm := .low, fallback := true, offAt := some 0}), ph 0 (fun x => {x with dropped := 5, trim := 4, limRun := 2}), ph 0 (fun x => {x with dropped := 3}), ph 0 (fun x => {x with fallback := true, snsCause := 2}), fun s => (List.range 32).foldl (fun s k => ph (Fin.ofNat 32 k) (fun x => {x with pwm := .high}) s) s]
def nA := nowAlts [0, 4, 100, 100000, 1000000, 1000000000]
def sel : List (State → State) := [id, fun s => (s.wr hubSt (O.RL_OPEN_RUN.at 0) 0).wr hubSt (O.RL_OPEN_RUN.at 15) 0]
def misc : List (State → State) := [id, ra (fun x => {x with axFrom := some 0}), fun s => s.raise F.SENSE_LOST hubSt 0 0, fun s => (s.wr hubSt (O.AX_EXCESS.at 15) 5), fun s => (s.wr hubSt (O.SENSE_SRC.at 0) 1), fun s => (s.wr hubSt (O.HICCUPS.at 0) 3).wr hubSt (O.HICCUPS.at 15) 200, fun s => (s.putRail 0 {s.rail 0 with curMs := ⟨2, 1000000000, 0, 0⟩, remMs := ⟨2, 3000, 0, 0⟩, locMs := ⟨2, 3100, 0, 0⟩}).wr hubSt (O.R_DROP.at 0) 777]
def wRailsAndTheirBus : List Nat → State := pick
  ([rst, rA, pA, misc, wAlts (.field 0), wAlts (.domain 56), nA, [id, fun s => {s with supply := {s.supply with vio18 := false}}, fun s => {s with rst := {s.rst with held := some 1}}]])
theorem test_meets_RailsAndTheirBus_v :
    ((wRailsAndTheirBus [5, 4, 6, 4, 0, 3, 2, 2]).pinsLive = false) := by
  decide +kernel
end Sys2Proof.Tests.C07v

namespace Sys2Proof.Tests.C08f

def st1 (c : Bool) (s : State) : State := (s.wr hubSt (O.DX_STATE.at 0) 1).putConv 0 { s.conv 0 with contacted := c, enable := true, enAt := 0, pec := false }
def wConvertersStartAndStop : List Nat → State := pick
  ([[st1 true, st1 false], alts hubSt O.PEC_REQ [0, 1], nowAlts [0, 1000000000]])
theorem test_meets_ConvertersStartAndStop_f :
    (((wConvertersStartAndStop [0, 1, 1]).dxState 0 = 1 ∧ ((wConvertersStartAndStop [0, 1, 1]).conv 0).contactDue = false ∧ ((wConvertersStartAndStop [0, 1, 1]).conv 0).enAt + (wConvertersStartAndStop [0, 1, 1]).rd hubSt (O.START_TIME.at 0) ≤ (wConvertersStartAndStop [0, 1, 1]).time hubSt) ∧ false = false ∧ ((0#16).toNat &&& 120 = 0 ∧ 80 * (wConvertersStartAndStop [0, 1, 1]).voutMv 0 (0#16).toNat ≤ 11 * satU 16 (linear11 (0#16).toNat 1000) ∧ 9 * satU 16 (linear11 (0#16).toNat 1000) ≤ 80 * (wConvertersStartAndStop [0, 1, 1]).voutMv 0 (0#16).toNat) ∧ ((wConvertersStartAndStop [0, 1, 1]).rd hubSt O.PEC_REQ = 1 ∧ ((wConvertersStartAndStop [0, 1, 1]).conv 0).contacted = true ∧ ((wConvertersStartAndStop [0, 1, 1]).conv 0).pec = false)) := by
  decide +kernel
end Sys2Proof.Tests.C08f

namespace Sys2Proof.Tests.C09b

def goodP : List Nat := [1,0] ++ (leBytes 2 250).map BitVec.toNat ++ List.replicate 12 0 ++ (List.range 19).flatMap (fun _ => (List.flatMap (fun x => (leBytes 4 x).map BitVec.toNat) [100,100,100,10000,10000,10000])) ++ List.replicate (0x358 - 16 - 19*24) 0
def gp : List Byte := goodP.map (BitVec.ofNat 8) ++ leBytes 4 1971437564
def wConverterWritesAreChecked : List Nat → State := pick
  ([[id], alts (fSt 0) (O.CMP_HYST.at 0) [0, 4]])
theorem test_meets_ConverterWritesAreChecked_b :
    ((wConverterWritesAreChecked [0, 0]).Admitted 0 (fSt 0) ((O.CMP_CFG.at 4).nth 0) 4 ∧ cmpOk ((268369920#32).toNat - bits (268369920#32).toNat 30 29 * 2 ^ 29) ((wConverterWritesAreChecked [0, 0]).rd (fSt 0) (O.CMP_HYST.at 4)) = true) := by
  decide +kernel
def wThermalUnitRuns : List Nat → State := pick
  ([[id]])
theorem test_meets_ThermalUnitRuns_b :
    ((wThermalUnitRuns [0]).Admitted 0 (fSt 0) O.PARAMS ([] : List Byte).length ∧ ([] : List Byte).length ≠ 860) := by
  decide +kernel
end Sys2Proof.Tests.C09b

namespace Sys2Proof.Tests.C09f

def rs (s : State) : State := [0, 1].foldl (fun s k => (s.wr (fSt 0) (O.REF_STATE.at k) 2).wr (fSt 0) (O.REF_READY_TIME.at k) 0) s
def d0 (s : State) : State := s.putTherm 0 { s.therm 0 with seen := false, startLost := false }
def wWindowsCloseAndPublish : List Nat → State := pick
  ([nowAlts [0, 7, 1000000000]])
theorem test_meets_WindowsCloseAndPublish_f :
    ((wWindowsCloseAndPublish [1]).periodic (markKey (3, 10000).1 (Station.cluster 0 16).addr) (Station.cluster 0 16).addr (3, 10000).2 0 = false) ∧
    ((wWindowsCloseAndPublish [2]).periodic (markKey (3, 10000).1 (Station.cluster 0 0).addr) (Station.cluster 0 0).addr (3, 10000).2 0 = true) ∧
    ((wWindowsCloseAndPublish [2]).Admitted 0 (telAddr (TelRef.station (Station.cluster 0 0))).1 { index := (telAddr (TelRef.station (Station.cluster 0 0))).2.1, sub := (telAddr (TelRef.station (Station.cluster 0 0))).2.2 } 1 ∧ (∀ (g : FieldId), TelRef.station (Station.cluster 0 0) ≠ TelRef.temp g)) ∧
    ((wWindowsCloseAndPublish [2]).Admitted 0 (telAddr (TelRef.station (Station.cluster 0 0))).1 { index := (telAddr (TelRef.station (Station.cluster 0 0))).2.1, sub := (telAddr (TelRef.station (Station.cluster 0 0))).2.2 } 1 ∧ 1 < (20#8).toNat) ∧
    ((wWindowsCloseAndPublish [1]).periodic (markKey (if false = true then 7 else 6) hubSt) hubSt (if false = true then 1000000 else 10000) 0 = false) := by
  refine ⟨?_, ?_, ?_, ?_, ?_⟩ <;> decide +kernel
end Sys2Proof.Tests.C09f

namespace Sys2Proof.Tests.C09k

def th (g : ThermRec → ThermRec) (s : State) : State := s.putTherm 0 (g (s.therm 0))
def sm : Samp := ⟨1, 300, 300, 300⟩
def wThermalUnitRuns : List Nat → State := pick
  ([[th (fun x => {x with readyAt := [(0, 1), (1, 1)]}), th (fun x => {x with d0 := {x.d0 with resid := sm, last := 5}})], [id, wr' (fSt 0) O.CORR_GAIN 0], nowAlts [0, 20000000, 3000000]])
theorem test_meets_ThermalUnitRuns_k :
    ((wThermalUnitRuns [1, 1, 1]).rd (fSt 0) O.CORR_GAIN = 0) ∧
    (((∀ k < 2, tblGet 0 ((wThermalUnitRuns [0, 0, 1]).therm 0).readyAt k ≠ 0 ∧ tblGet 0 ((wThermalUnitRuns [0, 0, 1]).therm 0).readyAt k + 10000000 ≤ (wThermalUnitRuns [0, 0, 1]).time (fSt 0) + 1) ∧ ((wThermalUnitRuns [0, 0, 1]).therm 0).seen = false ∧ ((wThermalUnitRuns [0, 0, 1]).therm 0).startLost = false)) := by
  refine ⟨?_, ?_⟩ <;> decide +kernel
end Sys2Proof.Tests.C09k

namespace Sys2Proof.Tests.C10b

def img : Image := { kind := 2, order := 0, cbase := 0, wbase := 0, wlines := 0, flags := 0, xline0 := 0, xline1 := 0, regfmt := [], ps := [1,2], xscale := [], words := [0xFC000000], consts := [], init := [], id := 77, ttab := 5 }
def descL : List Nat := [77,0,0,0,1,0,0,0] ++ List.replicate (0x4E-8) 0 ++ [0x60,0xEA] ++ List.replicate (0x60-0x50) 0 ++ [2,2,2,2] ++ List.replicate (0xFC-0x64) 0
def desc : List Byte := (descL.map (BitVec.ofNat 8)) ++ leBytes 4 2892715724
def withDesc (s : State) : State := (List.range 4).foldl (fun s g => (s.putEng (gle 0 g) { s.eng (gle 0 g) with images := [(0, some img)] }).putBlob (fSt 0) (O.DESC.at g) desc) s
def tl (g : TileRec → TileRec) (s : State) : State := s.putTile 0 0 (g (s.tile 0 0))
def wActivityAndLearning : List Nat → State := pick
  ([[id, withDesc], [tl (fun x => {x with closed := [⟨5, 100, false⟩]}), tl (fun x => {x with closed := [⟨5, 100, true⟩, ⟨7, 4, false⟩]})], [fun s => s.putLoop 0 (tileCluster 0) { s.loop 0 (tileCluster 0) with reply := [(5, 123456, false)] }, fun s => s.putLoop 0 (tileCluster 0) { s.loop 0 (tileCluster 0) with reply := [(5, 123456, true)] }], [id, ws [(.cluster 0 (tileCluster 0), .running)]]])
theorem test_meets_ActivityAndLearning_b :
    (((wActivityAndLearning [0, 1, 1, 1]).loop 0 (tileCluster 0)).reply = [(5, 123456, true)] ∧ ((123456, true).2 = true ∨ List.find? (fun w => w.endAt == (5, 123456, true).1) ((wActivityAndLearning [0, 1, 1, 1]).tile 0 0).closed = none ∨ (5, 123456, true).1 + 100000 < (wActivityAndLearning [0, 1, 1, 1]).time (fSt 0) ∨ (wActivityAndLearning [0, 1, 1, 1]).tileLive 0 0 = false)) := by
  decide +kernel
end Sys2Proof.Tests.C10b

namespace Sys2Proof.Tests.C10c

def img : Image := { kind := 2, order := 0, cbase := 0, wbase := 0, wlines := 0, flags := 0, xline0 := 0, xline1 := 0, regfmt := [], ps := [1,2], xscale := [], words := [0xFC000000], consts := [], init := [], id := 77, ttab := 5 }
def descL : List Nat := [77,0,0,0,1,0,0,0] ++ List.replicate (0x4E-8) 0 ++ [0x60,0xEA] ++ List.replicate (0x60-0x50) 0 ++ [2,2,2,2] ++ List.replicate (0xFC-0x64) 0
def desc : List Byte := (descL.map (BitVec.ofNat 8)) ++ leBytes 4 2892715724
def withDesc (s : State) : State := (List.range 4).foldl (fun s g => (s.putEng (gle 0 g) { s.eng (gle 0 g) with images := [(0, some img)] }).putBlob (fSt 0) (O.DESC.at g) desc) s
def tl (g : TileRec → TileRec) (s : State) : State := s.putTile 0 0 (g (s.tile 0 0))
def wActivityAndLearning : List Nat → State := pick
  ([[tl (fun x => {x with closed := [⟨5, 100, false⟩]}), tl (fun x => {x with closed := [⟨5, 100, true⟩, ⟨7, 4, false⟩]})], [fun s => s.putLoop 0 (tileCluster 0) { s.loop 0 (tileCluster 0) with reply := [(5, 123456, false)] }, fun s => s.putLoop 0 (tileCluster 0) { s.loop 0 (tileCluster 0) with reply := [(5, 123456, true)] }], [id, ws [(.cluster 0 (tileCluster 0), .running)]]])
theorem test_meets_ActivityAndLearning_c :
    ((wActivityAndLearning [0, 0, 1]).Admitted 0 (fSt 0) O.FREEZE_CTRL 4 ∧ (1#16).getLsbD 0 = true) := by
  decide +kernel
end Sys2Proof.Tests.C10c

namespace Sys2Proof.Tests.C10f

def ent (h id st : Nat) (s : State) : State := (s.newEntry h id).setEntryState h st
def noBank (s : State) : State := (List.range 64).foldl (fun s k => s.wr hubSt (O.BANK_STATE.at k) 2) s
def cnt (s : State) : State := { s with ledger := { s.ledger with count := 512 } }
def full (s : State) : State := (List.range 59).foldl (fun s k => s.wr hubSt (O.BANK_STATE.at (k + 5)) 2) { s with mem := (List.range 256).map (fun h => (0x20033 + 128 * h, 0xC0)) }
def mk10 (s : State) : State := s.mark (markKey 10 0) (fSt 0)
def mk10' (s : State) : State := { s with marks := tblSet 0 s.marks (markKey 10 0) (s.time (fSt 0) / 10000 + 1) }
def wActivityAndLearning : List Nat → State := pick
  ([nowAlts [7, 1000000], [id, mk10', mk10']])
theorem test_meets_ActivityAndLearning_f :
    (tblGet 0 (wActivityAndLearning [0, 2]).marks (markKey 10 0) = (wActivityAndLearning [0, 2]).time (fSt 0) / 10000 + 1) ∧
    ((wActivityAndLearning [1, 2]).Admitted 0 (fSt 0) (O.DESC.at 3) ([] : List Byte).length ∧ ([] : List Byte).length ≠ 256) ∧
    ((wActivityAndLearning [0, 1]).periodic (markKey 8 0) (fSt 0) 1000000 0 = false) := by
  refine ⟨?_, ?_, ?_⟩ <;> decide +kernel
def wJobsOpenAndClose : List Nat → State := pick
  ([[noBank, full], [id, cnt, wr' hubSt (O.OWNER.at 20) 0x2000, fun s => (s.wr hubSt (O.OWNER.at 20) 0x2000).wr hubSt (O.BANK_STATE.at 20) 0]])
end Sys2Proof.Tests.C10f

namespace Sys2Proof.Tests.C11b

def pr : PartRec := { weight := 3, pmin := 1, pmax := 900, mask := 7 }
def dsc (n w : Nat) : List Byte := leBytes 2 n ++ leBytes 2 w ++ leBytes 4 5 ++ leBytes 4 9 ++ leBytes 4 0 ++ leBytes 16 3
def tl (g : TileRec → TileRec) (s : State) : State := s.putTile 0 0 (g (s.tile 0 0))
def ar (g : ArbRec → ArbRec) (s : State) : State := s.putArb 0 (g (s.arb 0))
def jb (t : SeqTarget) (on : Bool) (st : SeqStep) (s : State) : State := { s with seq := { s.seq with jobs := s.seq.jobs ++ [{ target := t, on := on, origin := .session 0, step := st }] } }
def poolD : List (Fin 64) := [0,56]
def wReservationsAndHints : List Nat → State := pick
  ([[tl (fun x => {x with pos := [(5, 700), (9, 1)]})], nowAlts [0, 9]])
theorem test_meets_ReservationsAndHints_b :
    ((wReservationsAndHints [0, 0]).time (fSt 0) % 1000 = 0) := by
  decide +kernel
def wTheTripRuns : List Nat → State := pick
  ([alts hubSt O.TCRIT_CAP [7680, 7000], [id, wr' hubSt O.THROTTLE_TEMP 5000, wr' hubSt O.THROTTLE_TEMP 6872], [id, fun s => (List.range 8).foldl (fun s f => s.wr (256 * f + 16) O.DERATE_TEMP 5000) s]])
theorem test_meets_TheTripRuns_b :
    ((wTheTripRuns [0, 1, 1]).Admitted 0 hubSt O.TCRIT 2 ∧ (5760 ≤ (7000#16).toInt ∧ (7000#16).toInt ≤ (wTheTripRuns [0, 1, 1]).rdS hubSt O.TCRIT_CAP ∧ (wTheTripRuns [0, 1, 1]).rdS hubSt O.THROTTLE_TEMP + 128 ≤ (7000#16).toInt ∧ ∀ (f : FieldId), (wTheTripRuns [0, 1, 1]).rdS (fSt f) O.DERATE_TEMP + 64 ≤ (7000#16).toInt)) := by
  decide +kernel
def wSequencerRequestsAndWaits : List Nat → State := pick
  ([[jb (.domain 0) true .ramping, jb (.domain 56) true .ramping], [fun s => (domClusters 0).foldl (fun s c => ((s.wr (clSt 0 c) ⟨0x2010, 5⟩ 0).putWheel (.cluster 0 c) {s.wheel (.cluster 0 c) with state := .running})) s, fun s => (domClusters 0).foldl (fun s c => s.putWheel (.cluster 0 c) {s.wheel (.cluster 0 c) with state := .parked}) s], ws [(.domain 56, .stopping)] :: wAlts (.field 0)])
theorem test_meets_SequencerRequestsAndWaits_b :
    ((Option.any (fun j => j.on && j.step == SeqStep.ramping) ((wSequencerRequestsAndWaits [0, 1, 4]).job (SeqTarget.domain 0)) && !isAux 0) = true ∧ (List.filter ((wSequencerRequestsAndWaits [0, 1, 4]).taking (domField 0)) (domClusters 0)).all ((wSequencerRequestsAndWaits [0, 1, 4]).clusterGood (domField 0)) = true) := by
  decide +kernel
end Sys2Proof.Tests.C11b

namespace Sys2Proof.Tests.C11d

def jb (t : SeqTarget) (on : Bool) (st : SeqStep) (s : State) : State := { s with seq := { s.seq with jobs := s.seq.jobs ++ [{ target := t, on := on, origin := .session 0, step := st }] } }
def drn : List (State → State) := [id, fun s => {s with seq := {s.seq with drains := [(0, 0), (56, 0)]}}]
def wSequencerRequestsAndWaits : List Nat → State := pick
  ([[jb (.domain 0) true .ramping, jb (.domain 0) false .draining, jb (.domain 0) false .falling, id], [fun s => (domClusters 0).foldl (fun s c => ((s.wr (clSt 0 c) ⟨0x2010, 5⟩ 0).putWheel (.cluster 0 c) {s.wheel (.cluster 0 c) with state := .running})) s, fun s => (domClusters 0).foldl (fun s c => s.putWheel (.cluster 0 c) {s.wheel (.cluster 0 c) with state := .parked}) s], drn, [ws [(.domain 0, .stopping)], ws [(.domain 56, .stopping)], id], nowAlts [0, 1000000000000]])
theorem test_meets_SequencerRequestsAndWaits_d :
    ((Option.any (fun j => j.on && j.step == SeqStep.ramping) ((wSequencerRequestsAndWaits [0, 1, 1, 2, 1]).job (SeqTarget.domain 0)) && !isAux 0) = true ∧ Option.any (fun j => decide (j.since + (wSequencerRequestsAndWaits [0, 1, 1, 2, 1]).rd hubSt O.DOM_SS_TIMEOUT ≤ (wSequencerRequestsAndWaits [0, 1, 1, 2, 1]).time hubSt)) ((wSequencerRequestsAndWaits [0, 1, 1, 2, 1]).job (SeqTarget.domain 0)) = true) ∧
    ((wSequencerRequestsAndWaits [1, 0, 1, 1, 1]).drainDue 0 = true ∧ (wSequencerRequestsAndWaits [1, 0, 1, 1, 1]).job (SeqTarget.domain 0) = some ({ target := Sys2Proof.Machine.SeqTarget.domain 0, on := false, origin := Sys2Proof.Machine.SeqOrigin.session 0, step := Sys2Proof.Machine.SeqStep.draining, rest := [], run := [], failed := [], fail := 0, keepDx := false, since := 0 } : SeqJob) ∧ ({ target := Sys2Proof.Machine.SeqTarget.domain 0, on := false, origin := Sys2Proof.Machine.SeqOrigin.session 0, step := Sys2Proof.Machine.SeqStep.draining, rest := [], run := [], failed := [], fail := 0, keepDx := false, since := 0 } : SeqJob).on = false ∧ ({ target := Sys2Proof.Machine.SeqTarget.domain 0, on := false, origin := Sys2Proof.Machine.SeqOrigin.session 0, step := Sys2Proof.Machine.SeqStep.draining, rest := [], run := [], failed := [], fail := 0, keepDx := false, since := 0 } : SeqJob).step = SeqStep.draining) ∧
    ((wSequencerRequestsAndWaits [2, 0, 1, 1, 1]).drainDue 0 = true ∧ (wSequencerRequestsAndWaits [2, 0, 1, 1, 1]).job (SeqTarget.domain 0) = some ({ target := Sys2Proof.Machine.SeqTarget.domain 0, on := false, origin := Sys2Proof.Machine.SeqOrigin.session 0, step := Sys2Proof.Machine.SeqStep.falling, rest := [], run := [], failed := [], fail := 0, keepDx := false, since := 0 } : SeqJob) ∧ ({ target := Sys2Proof.Machine.SeqTarget.domain 0, on := false, origin := Sys2Proof.Machine.SeqOrigin.session 0, step := Sys2Proof.Machine.SeqStep.falling, rest := [], run := [], failed := [], fail := 0, keepDx := false, since := 0 } : SeqJob).on = false ∧ ({ target := Sys2Proof.Machine.SeqTarget.domain 0, on := false, origin := Sys2Proof.Machine.SeqOrigin.session 0, step := Sys2Proof.Machine.SeqStep.falling, rest := [], run := [], failed := [], fail := 0, keepDx := false, since := 0 } : SeqJob).step ≠ SeqStep.draining) ∧
    ((wSequencerRequestsAndWaits [3, 0, 1, 0, 1]).drainDue 0 = true ∧ Option.all SeqJob.on ((wSequencerRequestsAndWaits [3, 0, 1, 0, 1]).job (SeqTarget.domain 0)) = true ∧ (wSequencerRequestsAndWaits [3, 0, 1, 0, 1]).dstate 0 = WState.stopping) ∧
    ((wSequencerRequestsAndWaits [3, 1, 1, 2, 1]).drainDue 0 = true ∧ Option.all SeqJob.on ((wSequencerRequestsAndWaits [3, 1, 1, 2, 1]).job (SeqTarget.domain 0)) = true ∧ (wSequencerRequestsAndWaits [3, 1, 1, 2, 1]).dstate 0 ≠ WState.stopping) := by
  refine ⟨?_, ?_, ?_, ?_, ?_⟩ <;> decide +kernel
end Sys2Proof.Tests.C11d

namespace Sys2Proof.Tests.C11f

def live (s : State) : State := (ws [(.die, .running), (.field 0, .running), (.domain 0, .running), (.cluster 0 (tileCluster 0), .running)] s)
def fen (s : State) : State := s.putTile 0 0 { s.tile 0 0 with fence := true }
def wPeriodsAndPredictions : List Nat → State := pick
  ([nowAlts [7, 10000]])
theorem test_meets_PeriodsAndPredictions_f :
    ((wPeriodsAndPredictions [0]).periodic (markKey 13 0) hubSt 10000 0 = false) := by
  decide +kernel
def wWindowsChooseTheCodes : List Nat → State := pick
  ([[live, id], [id, fen]])
theorem test_meets_WindowsChooseTheCodes_f :
    (((wWindowsChooseTheCodes [0, 0]).forcedReason 0 0).isSome = false) := by
  decide +kernel
end Sys2Proof.Tests.C11f

namespace Sys2Proof.Tests.C12f

def lbk (p : Nat) (s : State) : State := { s with tap := { s.tap with instr := .loopback, pin := p } }
def wBlockResetsAndTap : List Nat → State := pick
  ([[lbk 3, lbk 400]])
theorem test_meets_BlockResetsAndTap_f :
    (BlkUnit.trace 8 ∉ (wBlockResetsAndTap [1]).rst.testing) ∧
    ((wBlockResetsAndTap [1]).tapPowered = true ∧ (wBlockResetsAndTap [1]).tap.instr = TapInstr.loopback ∧ (wBlockResetsAndTap [1]).pinServed (wBlockResetsAndTap [1]).tap.pin = false) := by
  refine ⟨?_, ?_⟩ <;> decide +kernel
end Sys2Proof.Tests.C12f

namespace Sys2Proof.Tests.C12g

def req (v : Nat) : State → State := wr' hubSt O.BLK_REQ v
def us : List BlkUnit := [.engine 216, .adc 0 0, .cluster 0 0, .trace 8]
def tst (s : State) : State := {s with rst := {s.rst with testing := [.engine 216, .adc 0 0, .cluster 0 0]}}
def wBlockResetsAndTap : List Nat → State := pick
  ([[id, req (hubSt * 65536 + 0x100), req (fSt 0 * 65536 + 0x200)], [id, tst], [id, fun s => s.putEng 216 {s.eng 216 with closed := true, tested := true}], [id, fun s => {s with flt := {s.flt with escWait := [⟨3,4,0⟩]}}]])
theorem test_meets_BlockResetsAndTap_g :
    ((wBlockResetsAndTap [1, 1, 1, 0]).Admitted 0 hubSt O.BLK_CTRL 1 ∧ blkUnit ((wBlockResetsAndTap [1, 1, 1, 0]).rd hubSt O.BLK_REQ) = some (BlkUnit.engine 216) ∧ ((wBlockResetsAndTap [1, 1, 1, 0]).rst.held.isSome || (wBlockResetsAndTap [1, 1, 1, 0]).flt.escWait != [] || (wBlockResetsAndTap [1, 1, 1, 0]).moult.ops.any fun o => match o with | FlashOp.slotSeq bank value => true | x => false) = false ∧ (wBlockResetsAndTap [1, 1, 1, 0]).blkAccepts (BlkUnit.engine 216) = true) ∧
    ((wBlockResetsAndTap [1, 1, 1, 1]).Admitted 0 hubSt O.BLK_CTRL 1 ∧ blkUnit ((wBlockResetsAndTap [1, 1, 1, 1]).rd hubSt O.BLK_REQ) = some (BlkUnit.engine 216) ∧ (wBlockResetsAndTap [1, 1, 1, 1]).unitClosed (BlkUnit.engine 216) = true ∧ (wBlockResetsAndTap [1, 1, 1, 1]).unitTested (BlkUnit.engine 216) = true ∧ BlkUnit.engine 216 ∉ (wBlockResetsAndTap [1, 1, 1, 1]).rst.contained ∧ blkIsCle (BlkUnit.engine 216) = false) ∧
    (BlkUnit.adc 0 0 ∈ (wBlockResetsAndTap [2, 1, 0, 1]).rst.testing ∧ blkUnit ((wBlockResetsAndTap [2, 1, 0, 1]).rd hubSt O.BLK_REQ) = some (BlkUnit.adc 0 0)) := by
  refine ⟨?_, ?_, ?_⟩ <;> decide +kernel
end Sys2Proof.Tests.C12g

namespace Sys2Proof.Tests.C13g

def due (s : State) : State := {s with budget := {s.budget with mirrorDue := true, copyParts := [(3, some {weight := 5, pmin := 1, pmax := 3, mask := 5})], parts := [(4, some {weight := 7, pmin := 1, pmax := 3, mask := 2})], copyBinds := [(3, [7])]}}
def wResetsAreTaken : List Nat → State := pick
  ([[id, due], [id, wr' hubSt O.MIRROR_STATE 2], [id, fun s => {s with supply := {s.supply with vstby := false}}], nowAlts [0, 10000]])
theorem test_meets_ResetsAreTaken_g :
    ((wResetsAreTaken [1, 0, 1, 0]).budget.mirrorDue = true ∧ (wResetsAreTaken [1, 0, 1, 0]).periodic (markKey 13 0) hubSt 10000 0 = true) := by
  decide +kernel
end Sys2Proof.Tests.C13g

namespace Sys2Proof.Tests.C14c

def own : List (State → State) := [id, wrs [(hubSt, O.OWNER.at 0, 0x1001), (fSt 0, O.OWNER.at 0, 0x1000)], wrs [(hubSt, O.OWNER.at 0, 0x5000), (fSt 0, O.OWNER.at 0, 0xFFFF), (hubSt, O.OWNER.at 4, 0xFFFF), (fSt 0, O.OWNER.at 4, 0xFFFF), (hubSt, O.OWNER.at 3, 0xFFFF)], wrs [(hubSt, O.OWNER.at 4, 0), (hubSt, O.OWNER.at 5, 0), (fSt 0, O.OWNER.at 4, 0), (fSt 0, O.OWNER.at 5, 0)]]
def bs (v : Nat) : State → State := fun s => (List.range 6).foldl (fun s k => (s.wr hubSt (O.BANK_STATE.at k) v).wr (fSt 0) (O.BANK_STATE.at k) v) s
def cx : PageCtx := ⟨0, .hub, 0, 0, 16, []⟩
def ctxM : State → State := fun s => {s with memory := {s.memory with ctxs := [cx]}}
def wMemoryAccesses : List Nat → State := pick
  ([own, [bs 0], [fun s => {s with poison := [padKey hubSt 0 / 8, padKey (fSt 0) 0 / 8, padKey hubSt 16 / 8]}]])
theorem test_meets_MemoryAccesses_c :
    ((16#32).toNat % 8 = 0 ∧ (16#32).toNat + 8 ≤ padLimit (padSt PadRef.hub) ∧ (wMemoryAccesses [2, 0, 0]).bankState (padSt PadRef.hub) ((16#32).toNat / bankSize (padSt PadRef.hub)) ≠ 3 ∧ (wMemoryAccesses [2, 0, 0]).bankState (padSt PadRef.hub) ((16#32).toNat / bankSize (padSt PadRef.hub)) ≠ 2 ∧ ((20480#16).toNat / 2 ^ 12 ≠ 0 ∧ ((20480#16).toNat = (wMemoryAccesses [2, 0, 0]).rd (padSt PadRef.hub) (O.OWNER.at ((16#32).toNat / bankSize (padSt PadRef.hub))) ∨ dualBank (padSt PadRef.hub) ((16#32).toNat / bankSize (padSt PadRef.hub)) = true ∧ (20480#16).toNat = (wMemoryAccesses [2, 0, 0]).rd (padSt PadRef.hub) (O.PORTB_AGENT.at ((16#32).toNat / bankSize (padSt PadRef.hub))))) ∧ ((wMemoryAccesses [2, 0, 0]).poisoned (padSt PadRef.hub) (16#32).toNat = true ∨ WordErr.uncorrectable = WordErr.uncorrectable)) ∧
    ((16#32).toNat % 8 = 0 ∧ (16#32).toNat + 8 ≤ padLimit (padSt (PadRef.field 0)) ∧ (wMemoryAccesses [1, 0, 0]).bankState (padSt (PadRef.field 0)) ((16#32).toNat / bankSize (padSt (PadRef.field 0))) ≠ 3 ∧ (wMemoryAccesses [1, 0, 0]).bankState (padSt (PadRef.field 0)) ((16#32).toNat / bankSize (padSt (PadRef.field 0))) ≠ 2 ∧ ((4096#16).toNat / 2 ^ 12 ≠ 0 ∧ ((4096#16).toNat = (wMemoryAccesses [1, 0, 0]).rd (padSt (PadRef.field 0)) (O.OWNER.at ((16#32).toNat / bankSize (padSt (PadRef.field 0)))) ∨ dualBank (padSt (PadRef.field 0)) ((16#32).toNat / bankSize (padSt (PadRef.field 0))) = true ∧ (4096#16).toNat = (wMemoryAccesses [1, 0, 0]).rd (padSt (PadRef.field 0)) (O.PORTB_AGENT.at ((16#32).toNat / bankSize (padSt (PadRef.field 0)))))) ∧ ¬((wMemoryAccesses [1, 0, 0]).poisoned (padSt (PadRef.field 0)) (16#32).toNat = true ∨ WordErr.none = WordErr.uncorrectable) ∧ (dualBank (padSt (PadRef.field 0)) ((16#32).toNat / bankSize (padSt (PadRef.field 0))) = false ∨ Clash.none = Clash.none ∨ Clash.none = Clash.waited)) ∧
    ((16#32).toNat % 8 = 0 ∧ (16#32).toNat + 8 ≤ padLimit (padSt PadRef.hub) ∧ (wMemoryAccesses [2, 0, 0]).bankState (padSt PadRef.hub) ((16#32).toNat / bankSize (padSt PadRef.hub)) ≠ 3 ∧ (wMemoryAccesses [2, 0, 0]).bankState (padSt PadRef.hub) ((16#32).toNat / bankSize (padSt PadRef.hub)) ≠ 2 ∧ ((20480#16).toNat / 2 ^ 12 ≠ 0 ∧ ((20480#16).toNat = (wMemoryAccesses [2, 0, 0]).rd (padSt PadRef.hub) (O.OWNER.at ((16#32).toNat / bankSize (padSt PadRef.hub))) ∨ dualBank (padSt PadRef.hub) ((16#32).toNat / bankSize (padSt PadRef.hub)) = true ∧ (20480#16).toNat = (wMemoryAccesses [2, 0, 0]).rd (padSt PadRef.hub) (O.PORTB_AGENT.at ((16#32).toNat / bankSize (padSt PadRef.hub))))) ∧ (¬((wMemoryAccesses [2, 0, 0]).poisoned (padSt PadRef.hub) (16#32).toNat = true ∨ WordErr.uncorrectable = WordErr.uncorrectable) ∨ true = true) ∧ true = true) ∧
    ((16#32).toNat % 4 = 0 ∧ (16#32).toNat + 4 ≤ padLimit (padSt PadRef.hub) ∧ (wMemoryAccesses [2, 0, 0]).bankState (padSt PadRef.hub) ((16#32).toNat / bankSize (padSt PadRef.hub)) ≠ 3 ∧ (wMemoryAccesses [2, 0, 0]).bankState (padSt PadRef.hub) ((16#32).toNat / bankSize (padSt PadRef.hub)) ≠ 2 ∧ ((20480#16).toNat / 2 ^ 12 ≠ 0 ∧ ((20480#16).toNat = (wMemoryAccesses [2, 0, 0]).rd (padSt PadRef.hub) (O.OWNER.at ((16#32).toNat / bankSize (padSt PadRef.hub))) ∨ dualBank (padSt PadRef.hub) ((16#32).toNat / bankSize (padSt PadRef.hub)) = true ∧ (20480#16).toNat = (wMemoryAccesses [2, 0, 0]).rd (padSt PadRef.hub) (O.PORTB_AGENT.at ((16#32).toNat / bankSize (padSt PadRef.hub))))) ∧ ((wMemoryAccesses [2, 0, 0]).poisoned (padSt PadRef.hub) (16#32).toNat = true ∨ WordErr.uncorrectable = WordErr.uncorrectable) ∧ false = false) ∧
    ((16#32).toNat % 4 = 0 ∧ (16#32).toNat + 4 ≤ padLimit (padSt (PadRef.field 0)) ∧ (wMemoryAccesses [1, 0, 0]).bankState (padSt (PadRef.field 0)) ((16#32).toNat / bankSize (padSt (PadRef.field 0))) ≠ 3 ∧ (wMemoryAccesses [1, 0, 0]).bankState (padSt (PadRef.field 0)) ((16#32).toNat / bankSize (padSt (PadRef.field 0))) ≠ 2 ∧ ((4096#16).toNat / 2 ^ 12 ≠ 0 ∧ ((4096#16).toNat = (wMemoryAccesses [1, 0, 0]).rd (padSt (PadRef.field 0)) (O.OWNER.at ((16#32).toNat / bankSize (padSt (PadRef.field 0)))) ∨ dualBank (padSt (PadRef.field 0)) ((16#32).toNat / bankSize (padSt (PadRef.field 0))) = true ∧ (4096#16).toNat = (wMemoryAccesses [1, 0, 0]).rd (padSt (PadRef.field 0)) (O.PORTB_AGENT.at ((16#32).toNat / bankSize (padSt (PadRef.field 0)))))) ∧ (¬((wMemoryAccesses [1, 0, 0]).poisoned (padSt (PadRef.field 0)) (16#32).toNat = true ∨ WordErr.none = WordErr.uncorrectable) ∨ false = true)) ∧
    ((wMemoryAccesses [2, 0, 0]) = (wMemoryAccesses [2, 0, 0]) ∧ (wMemoryAccesses [2, 0, 0]).poisoned (padSt PadRef.hub) (16#32).toNat = true ∧ (16#32).toNat % 8 = 0 ∧ (16#32).toNat + 8 ≤ padLimit (padSt PadRef.hub) ∧ (wMemoryAccesses [2, 0, 0]).bankState (padSt PadRef.hub) ((16#32).toNat / bankSize (padSt PadRef.hub)) ≠ 3 ∧ (wMemoryAccesses [2, 0, 0]).bankState (padSt PadRef.hub) ((16#32).toNat / bankSize (padSt PadRef.hub)) ≠ 2 ∧ ((20480#16).toNat / 2 ^ 12 ≠ 0 ∧ ((20480#16).toNat = (wMemoryAccesses [2, 0, 0]).rd (padSt PadRef.hub) (O.OWNER.at ((16#32).toNat / bankSize (padSt PadRef.hub))) ∨ dualBank (padSt PadRef.hub) ((16#32).toNat / bankSize (padSt PadRef.hub)) = true ∧ (20480#16).toNat = (wMemoryAccesses [2, 0, 0]).rd (padSt PadRef.hub) (O.PORTB_AGENT.at ((16#32).toNat / bankSize (padSt PadRef.hub)))))) := by
  refine ⟨?_, ?_, ?_, ?_, ?_, ?_⟩ <;> decide +kernel
def wBanksAreOwnedAndRepaired : List Nat → State := pick
  ([own, [bs 0, bs 0, bs 2, bs 3], [id, ctxM], [id, wrs [(hubSt, O.SPARE_FUSED.at 0, 1), (fSt 0, O.SPARE_SOFT.at 0, 15)]]])
theorem test_meets_BanksAreOwnedAndRepaired_c :
    ((wBanksAreOwnedAndRepaired [3, 1, 1, 1]).Admitted 0 (padSt (PadRef.field 0)) (O.OWNER.at 5) 2 ∧ ¬((wBanksAreOwnedAndRepaired [3, 1, 1, 1]).bankState (padSt (PadRef.field 0)) 5 ≠ 0 ∨ (wBanksAreOwnedAndRepaired [3, 1, 1, 1]).ownerHolds (padSt (PadRef.field 0)) 5 = true ∨ dualBank (padSt (PadRef.field 0)) 5 = true ∧ (20480#16).toNat - bits (20480#16).toNat 11 8 * 2 ^ 8 = (wBanksAreOwnedAndRepaired [3, 1, 1, 1]).rd (padSt (PadRef.field 0)) (O.PORTB_AGENT.at 5) ∧ (20480#16).toNat - bits (20480#16).toNat 11 8 * 2 ^ 8 ≠ 0) ∧ ownerOk (padSt (PadRef.field 0)) ((20480#16).toNat - bits (20480#16).toNat 11 8 * 2 ^ 8) true = true) ∧
    ((wBanksAreOwnedAndRepaired [3, 1, 1, 1]).Admitted 0 (padSt (PadRef.field 0)) (O.OWNER.at 0) 2 ∧ ¬((wBanksAreOwnedAndRepaired [3, 1, 1, 1]).bankState (padSt (PadRef.field 0)) 0 ≠ 0 ∨ (wBanksAreOwnedAndRepaired [3, 1, 1, 1]).ownerHolds (padSt (PadRef.field 0)) 0 = true ∨ dualBank (padSt (PadRef.field 0)) 0 = true ∧ (327#16).toNat - bits (327#16).toNat 11 8 * 2 ^ 8 = (wBanksAreOwnedAndRepaired [3, 1, 1, 1]).rd (padSt (PadRef.field 0)) (O.PORTB_AGENT.at 0) ∧ (327#16).toNat - bits (327#16).toNat 11 8 * 2 ^ 8 ≠ 0) ∧ ownerOk (padSt (PadRef.field 0)) ((327#16).toNat - bits (327#16).toNat 11 8 * 2 ^ 8) true = false) ∧
    ((wBanksAreOwnedAndRepaired [3, 1, 1, 1]).Admitted 0 (padSt (PadRef.field 0)) (O.REPAIR_CTRL.at 0) 2 ∧ (wBanksAreOwnedAndRepaired [3, 1, 1, 1]).bankState (padSt (PadRef.field 0)) 0 = 0 ∧ (wBanksAreOwnedAndRepaired [3, 1, 1, 1]).freeSpare (padSt (PadRef.field 0)) 0 = none ∧ (bits (327#16).toNat 15 8 = 1 ∧ bits (327#16).toNat 7 0 < 72)) ∧
    ((wBanksAreOwnedAndRepaired [3, 1, 1, 1]).Admitted 0 (padSt (PadRef.field 0)) (O.REPAIR_CTRL.at 5) 2 ∧ (wBanksAreOwnedAndRepaired [3, 1, 1, 1]).bankState (padSt (PadRef.field 0)) 5 = 0 ∧ (wBanksAreOwnedAndRepaired [3, 1, 1, 1]).freeSpare (padSt (PadRef.field 0)) 5 = some 0 ∧ (bits (327#16).toNat 15 8 = 1 ∧ bits (327#16).toNat 7 0 < 72)) ∧
    ((wBanksAreOwnedAndRepaired [3, 1, 1, 1]).Admitted 0 (padSt (PadRef.field 0)) (O.REPAIR_CTRL.at 5) 2 ∧ (wBanksAreOwnedAndRepaired [3, 1, 1, 1]).bankState (padSt (PadRef.field 0)) 5 = 0 ∧ (wBanksAreOwnedAndRepaired [3, 1, 1, 1]).freeSpare (padSt (PadRef.field 0)) 5 = some 0 ∧ ¬(bits (4096#16).toNat 15 8 = 1 ∧ bits (4096#16).toNat 7 0 < 72)) := by
  refine ⟨?_, ?_, ?_, ?_, ?_⟩ <;> decide +kernel
end Sys2Proof.Tests.C14c

namespace Sys2Proof.Tests.C14h

def po (s : State) : State := { s with poison := [0] }
def wMemoryAccesses : List Nat → State := pick
  ([[wrs [(hubSt, O.OWNER.at 0, 0x1001)]], [id, po]])
theorem test_meets_MemoryAccesses_h :
    ((0#32).toNat % 8 = 0 ∧ (0#32).toNat + 8 ≤ padLimit (padSt PadRef.hub) ∧ (wMemoryAccesses [0, 0]).bankState (padSt PadRef.hub) ((0#32).toNat / bankSize (padSt PadRef.hub)) ≠ 3 ∧ (wMemoryAccesses [0, 0]).bankState (padSt PadRef.hub) ((0#32).toNat / bankSize (padSt PadRef.hub)) ≠ 2 ∧ ((4097#16).toNat / 2 ^ 12 ≠ 0 ∧ ((4097#16).toNat = (wMemoryAccesses [0, 0]).rd (padSt PadRef.hub) (O.OWNER.at ((0#32).toNat / bankSize (padSt PadRef.hub))) ∨ dualBank (padSt PadRef.hub) ((0#32).toNat / bankSize (padSt PadRef.hub)) = true ∧ (4097#16).toNat = (wMemoryAccesses [0, 0]).rd (padSt PadRef.hub) (O.PORTB_AGENT.at ((0#32).toNat / bankSize (padSt PadRef.hub))))) ∧ ¬((wMemoryAccesses [0, 0]).poisoned (padSt PadRef.hub) (0#32).toNat = true ∨ WordErr.none = WordErr.uncorrectable) ∧ (dualBank (padSt PadRef.hub) ((0#32).toNat / bankSize (padSt PadRef.hub)) = false ∨ Clash.none = Clash.none ∨ Clash.none = Clash.waited)) ∧
    ((0#32).toNat % 4 = 0 ∧ (0#32).toNat + 4 ≤ padLimit (padSt PadRef.hub) ∧ (wMemoryAccesses [0, 0]).bankState (padSt PadRef.hub) ((0#32).toNat / bankSize (padSt PadRef.hub)) ≠ 3 ∧ (wMemoryAccesses [0, 0]).bankState (padSt PadRef.hub) ((0#32).toNat / bankSize (padSt PadRef.hub)) ≠ 2 ∧ ((4097#16).toNat / 2 ^ 12 ≠ 0 ∧ ((4097#16).toNat = (wMemoryAccesses [0, 0]).rd (padSt PadRef.hub) (O.OWNER.at ((0#32).toNat / bankSize (padSt PadRef.hub))) ∨ dualBank (padSt PadRef.hub) ((0#32).toNat / bankSize (padSt PadRef.hub)) = true ∧ (4097#16).toNat = (wMemoryAccesses [0, 0]).rd (padSt PadRef.hub) (O.PORTB_AGENT.at ((0#32).toNat / bankSize (padSt PadRef.hub))))) ∧ (¬((wMemoryAccesses [0, 0]).poisoned (padSt PadRef.hub) (0#32).toNat = true ∨ WordErr.none = WordErr.uncorrectable) ∨ false = true)) := by
  refine ⟨?_, ?_⟩ <;> decide +kernel
end Sys2Proof.Tests.C14h

namespace Sys2Proof.Tests.C14k

def cx : PageCtx := ⟨0, .hub, 0, 0, 16, []⟩
def sn (s : State) : State := (s.putTile 0 0 { s.tile 0 0 with snap := List.range 16 }).putTile 0 1 { s.tile 0 1 with snap := List.range 16 }
def wBanksAreOwnedAndRepaired : List Nat → State := pick
  ([[sn]])
theorem test_meets_BanksAreOwnedAndRepaired_k :
    (PadRef.field 0 = PadRef.field 0 ∧ (wBanksAreOwnedAndRepaired [0]).memory.ctxs = [] ∧ (wBanksAreOwnedAndRepaired [0]).storeWaits (fSt 0) (131072#32).toNat (16#32).toNat = false ∧ ((wBanksAreOwnedAndRepaired [0]).tile 0 (Fin.ofNat 16 (65536#32).toNat)).snap.length = (16#32).toNat ∧ (16#32).toNat ≤ (wBanksAreOwnedAndRepaired [0]).storeFree (fSt 0) ∧ (wBanksAreOwnedAndRepaired [0]).storeFits (fSt 0) (131072#32).toNat (16#32).toNat = true ∧ 1 < (16#32).toNat) ∧
    ((wBanksAreOwnedAndRepaired [0]).Admitted 0 hubSt O.TRACE_DUMP 2 ∧ addrStation (0#16).toNat = some Station.hub ∧ (∀ (f : FieldId) (c : ClusterId), Station.hub ≠ Station.cluster f c) ∧ ((wBanksAreOwnedAndRepaired [0]).rd Station.hub.addr O.TRACE_STATE ≠ 3 ∨ (wBanksAreOwnedAndRepaired [0]).rd hubSt O.HOST_TIER_STATE ≠ 1)) := by
  refine ⟨?_, ?_⟩ <;> decide +kernel
end Sys2Proof.Tests.C14k

namespace Sys2Proof.Tests.C15b

def fi : FltId := fltId 1 .hub 0
def fid (c : Nat) (st : Nat) : FltId := ⟨c, st, 0⟩
def ids : List FltId := [fid 1 0, fid 255 0, fid 2 0, fid 4 0]
def msgs (arr : Bool) (s : State) : State := { s with flt := { s.flt with outbox := ids.map (fun i => ⟨i, 5, 6, false, arr⟩) } }
def recs (sev : Nat) (due : Nat) (s : State) : State := { s with flt := { s.flt with set := ids.zipIdx.map (fun p => { newRecord s p.1 p.2 sev 100 false false with escDue := due }) } }
def acts (s : State) : State := { s with flt := { s.flt with actions := ids.map (fun i => ⟨i, 4, i, none⟩) } }
def acts5 (s : State) : State := { s with flt := { s.flt with actions := ids.map (fun i => ⟨i, 5, i, none⟩) } }
def inj (s : State) : State := { s with flt := { s.flt with injection := some ⟨0, 0, 6, 0⟩ } }
def wiresM (s : State) : State := { s with flt := { s.flt with wires := [⟨0, none⟩, ⟨0, some 0⟩] } }
def resM (s : State) : State := { s with flt := { s.flt with resends := ids } }
def endM (s : State) : State := { s with flt := { s.flt with ends := ids } }
def wFaultsAreCollected : List Nat → State := pick
  ([[id, recs 3 5], alts hubSt O.INJ_STATE [1,2]])
theorem test_meets_FaultsAreCollected_b :
    (((List.find? (fun m => m.id == fltId (255#16) Station.hub 16#16 && (true || !m.arrived)) (wFaultsAreCollected [1, 0]).flt.outbox).isSome && !(wFaultsAreCollected [1, 0]).unreachable Station.hub && (!true || (wFaultsAreCollected [1, 0]).flt.resends.contains (fltId (255#16) Station.hub 16#16))) = false) ∧
    ((wFaultsAreCollected [1, 0]).unreachable Station.hub = false) ∧
    (((wFaultsAreCollected [1, 0]).flt.ends.contains (fltId (255#16) Station.hub 16#16) = false ∨ ((wFaultsAreCollected [1, 0]).flt.outbox.any fun m => m.id == fltId (255#16) Station.hub 16#16 && !m.arrived) = true)) ∧
    ((wFaultsAreCollected [1, 0]).flt.escWait.contains (fltId (255#16) Station.hub 16#16) = false ∧ (wFaultsAreCollected [1, 0]).recordOf (fltId (255#16) Station.hub 16#16) = none) ∧
    (List.find? (fun a => a.id == fltId (255#16) Station.hub 16#16) (wFaultsAreCollected [1, 0]).flt.actions = none) ∧
    ((wFaultsAreCollected [1, 0]).Admitted 0 hubSt O.INJ_REQ 4 ∧ ((wFaultsAreCollected [1, 0]).rd hubSt O.INJ_STATE == 1 && decide ((wFaultsAreCollected [1, 0]).time hubSt < (wFaultsAreCollected [1, 0]).flt.injAt + 1000000)) = true ∧ injPresent (bits (8193#32).toNat 31 16) (bits (8193#32).toNat 15 12) (bits (8193#32).toNat 11 8) (bits (8193#32).toNat 7 0) = true) := by
  refine ⟨?_, ?_, ?_, ?_, ?_, ?_⟩ <;> decide +kernel
end Sys2Proof.Tests.C15b

namespace Sys2Proof.Tests.C15f

def fid (c : Nat) (st : Nat) : FltId := ⟨c, st, 0⟩
def ids : List FltId := [⟨1, 0x10, 0⟩, ⟨1, 0, 0⟩, ⟨1, 0, 1⟩]
def cut (s : State) : State := (s.putLink (.fh 0 0) {failed := true}).putLink (.fh 0 1) {failed := true}
def msgs (s : State) : State := { s with flt := { s.flt with outbox := ids.map (fun i => ⟨i, 5, 6, false, false⟩) } }
def recs (s : State) : State := { s with flt := { s.flt with set := ids.zipIdx.map (fun p => { newRecord s p.1 p.2 5 100 false false with escDue := 5 }) } }
def wFaultsAreCollected : List Nat → State := pick
  ([[id, cut], [id, msgs], [id, recs], alts hubSt O.ESC_RESET [0, 1], nowAlts [10]])
theorem test_meets_FaultsAreCollected_f :
    (((List.find? (fun m => m.id == fltId (1#16) Station.hub 0#16 && (false || !m.arrived)) (wFaultsAreCollected [1, 0, 1, 0, 0]).flt.outbox).isSome && !(wFaultsAreCollected [1, 0, 1, 0, 0]).unreachable Station.hub && (!false || (wFaultsAreCollected [1, 0, 1, 0, 0]).flt.resends.contains (fltId (1#16) Station.hub 0#16))) = false) ∧
    (((List.find? (fun m => m.id == fltId (1#16) (Station.field 0) 0#16 && (false || !m.arrived)) (wFaultsAreCollected [0, 1, 0, 0, 0]).flt.outbox).isSome && !(wFaultsAreCollected [0, 1, 0, 0, 0]).unreachable (Station.field 0) && (!false || (wFaultsAreCollected [0, 1, 0, 0, 0]).flt.resends.contains (fltId (1#16) (Station.field 0) 0#16))) = true) ∧
    (List.find? (fun m => m.id == fltId (1#16) (Station.field 0) 0#16 && (false || !m.arrived)) (wFaultsAreCollected [0, 1, 0, 0, 0]).flt.outbox = some ({ id := { code := 1, station := 16, item := 0 }, data := 5, time := 6, injected := false, arrived := false } : FltMsg) ∧ ((List.find? (fun m => m.id == fltId (1#16) (Station.field 0) 0#16 && (false || !m.arrived)) (wFaultsAreCollected [0, 1, 0, 0, 0]).flt.outbox).isSome && !(wFaultsAreCollected [0, 1, 0, 0, 0]).unreachable (Station.field 0) && (!false || (wFaultsAreCollected [0, 1, 0, 0, 0]).flt.resends.contains (fltId (1#16) (Station.field 0) 0#16))) = true ∧ false = false ∧ ((wFaultsAreCollected [0, 1, 0, 0, 0]).flt.set.any fun r => r.id == fltId (1#16) (Station.field 0) 0#16) = false ∧ (wFaultsAreCollected [0, 1, 0, 0, 0]).flt.set.length < 1024) ∧
    ((wFaultsAreCollected [1, 0, 1, 0, 0]).unreachable (Station.field 0) = true) ∧
    ((wFaultsAreCollected [0, 1, 1, 1, 0]).flt.escWait.contains (fltId (1#16) Station.hub 0#16) = false ∧ (wFaultsAreCollected [0, 1, 1, 1, 0]).recordOf (fltId (1#16) Station.hub 0#16) = some ({ slot := 1, id := { code := 1, station := 0, item := 0 }, sev := 5, present := false, injected := false, acted := false, count := 1, entryTime := 0, escDue := 5, window := 100 } : FltRec) ∧ ({ slot := 1, id := { code := 1, station := 0, item := 0 }, sev := 5, present := false, injected := false, acted := false, count := 1, entryTime := 0, escDue := 5, window := 100 } : FltRec).escDue ≠ 0 ∧ ({ slot := 1, id := { code := 1, station := 0, item := 0 }, sev := 5, present := false, injected := false, acted := false, count := 1, entryTime := 0, escDue := 5, window := 100 } : FltRec).escDue ≤ (wFaultsAreCollected [0, 1, 1, 1, 0]).time hubSt ∧ 5 ≤ ({ slot := 1, id := { code := 1, station := 0, item := 0 }, sev := 5, present := false, injected := false, acted := false, count := 1, entryTime := 0, escDue := 5, window := 100 } : FltRec).sev ∧ (wFaultsAreCollected [0, 1, 1, 1, 0]).rd hubSt O.ESC_RESET ≠ 0 ∧ (wFaultsAreCollected [0, 1, 1, 1, 0]).stopDone ({ slot := 1, id := { code := 1, station := 0, item := 0 }, sev := 5, present := false, injected := false, acted := false, count := 1, entryTime := 0, escDue := 5, window := 100 } : FltRec).id = true) := by
  refine ⟨?_, ?_, ?_, ?_, ?_⟩ <;> decide +kernel
end Sys2Proof.Tests.C15f

namespace Sys2Proof.Tests.C15g

def w (s : State) : State := {s with flt := {s.flt with escWait := [fltId 3 .hub 0, fltId 3 .hub 3, fltId 0 .hub 3, fltId 0 .hub 0]}}
def wFaultsAreCollected : List Nat → State := pick
  ([[id, w], [id, fun s => {s with flt := {s.flt with actions := [⟨fltId 3 .hub 0, 5, fltId 3 .hub 0, none⟩]}}]])
theorem test_meets_FaultsAreCollected_g :
    ((wFaultsAreCollected [1, 0]).flt.escWait.contains (fltId (3#16) Station.hub 0#16) = true ∧ (wFaultsAreCollected [1, 0]).stopDone (fltId (3#16) Station.hub 0#16) = true) ∧
    ((wFaultsAreCollected [1, 1]).flt.escWait.contains (fltId (3#16) Station.hub 0#16) = true ∧ (wFaultsAreCollected [1, 1]).stopDone (fltId (3#16) Station.hub 0#16) = false) := by
  refine ⟨?_, ?_⟩ <;> decide +kernel
end Sys2Proof.Tests.C15g

namespace Sys2Proof.Tests.C16c

def mo (g : Moult → Moult) (s : State) : State := { s with moult := g s.moult }
def rs (g : ResetRec → ResetRec) (s : State) : State := { s with rst := g s.rst }
def stg4 : State → State := rs (fun r => {r with boot := {r.boot with stage := 4}})
def ch (off n : Nat) : List Byte := leBytes 4 off ++ List.replicate n 7
def mani : List Nat := [2,0,0,0, 1,0,0,0, 9,0,0,0]
def lenM : Nat := mani.length + 225
def bytes : List Nat := [0x50,0x52,0x4F,0x4E,1,3,0,0, lenM, 0,0,0] ++ List.replicate 20 0 ++ mani
def image (s : State) : State := bytes.zipIdx.foldl (fun s p => { s with moult := { s.moult with flash := tblSet 0xFF s.moult.flash (s.targetBase 3 + p.2) p.1 } }) s
def wImagesAreTransferred : List Nat → State := pick
  ([[image], [wrs [(hubSt, O.IMG_STATE, 4), (hubSt, O.IMG_TARGET, 3), (hubSt, O.IMG_LEN, lenM)]]])
theorem test_meets_ImagesAreTransferred_c :
    ((wImagesAreTransferred [0, 0]).Admitted 0 hubSt O.IMG_CTRL 1 ∧ (wImagesAreTransferred [0, 0]).rd hubSt O.IMG_STATE = 4 ∧ (wImagesAreTransferred [0, 0]).rd hubSt O.IMG_TARGET = 3 ∧ manifestIds (oparnPayload ((wImagesAreTransferred [0, 0]).targetBytes 3 ((wImagesAreTransferred [0, 0]).rd hubSt O.IMG_LEN))) = some [1, 9]) := by
  decide +kernel
end Sys2Proof.Tests.C16c

namespace Sys2Proof.Tests.C16g

def mo (g : Moult → Moult) (s : State) : State := { s with moult := g s.moult }
def rs (g : ResetRec → ResetRec) (s : State) : State := { s with rst := g s.rst }
def stg4 : State → State := rs (fun r => {r with boot := {r.boot with stage := 4}})
def stg5 : State → State := rs (fun r => {r with boot := {r.boot with stage := 5}})
def ch (off n : Nat) : List Byte := leBytes 4 off ++ List.replicate n 7
def wImagesAreTransferred : List Nat → State := pick
  ([[id, fun s => {s with supply := {s.supply with vio18 := false}}], alts hubSt O.IMG_TARGET [1,4], alts hubSt O.IMG_STATE [0,1,2,3,4], [id, fun s => { s with rst := {s.rst with boot := {s.rst.boot with stage := 5}}, moult := {s.moult with buffer := true}}], [id, fun s => {s with moult := {s.moult with ops := [.slotSeq 1 5]}}]])
theorem test_meets_ImagesAreTransferred_g :
    ((wImagesAreTransferred [0, 1, 4, 1, 0]).Admitted 0 hubSt O.IMG_CTRL 1 ∧ ((wImagesAreTransferred [0, 1, 4, 1, 0]).rd hubSt O.IMG_STATE = 0 ∨ (wImagesAreTransferred [0, 1, 4, 1, 0]).rd hubSt O.IMG_STATE = 4 ∨ (wImagesAreTransferred [0, 1, 4, 1, 0]).rd hubSt O.IMG_STATE = 5 ∨ (wImagesAreTransferred [0, 1, 4, 1, 0]).rd hubSt O.IMG_STATE = 7) ∧ ¬((wImagesAreTransferred [0, 1, 4, 1, 0]).rd hubSt O.IMG_TARGET = 4 ∧ (wImagesAreTransferred [0, 1, 4, 1, 0]).rst.boot.stage ≠ 5) ∧ (wImagesAreTransferred [0, 1, 4, 1, 0]).rd hubSt O.IMG_TARGET = 4 ∧ 24 ≤ 24 ∧ 24 < 56) ∧
    ((wImagesAreTransferred [1, 0, 3, 0, 0]).Admitted 0 hubSt O.IMG_CHUNK ([] : List Byte).length ∧ (([] : List Byte).length < 5 ∨ 65540 < ([] : List Byte).length)) ∧
    ((wImagesAreTransferred [1, 1, 4, 1, 0]).Admitted 0 hubSt O.IMG_CTRL 1 ∧ (wImagesAreTransferred [1, 1, 4, 1, 0]).rd hubSt O.IMG_STATE = 4 ∧ (wImagesAreTransferred [1, 1, 4, 1, 0]).rd hubSt O.IMG_TARGET = 4 ∧ (wImagesAreTransferred [1, 1, 4, 1, 0]).rst.boot.stage = 5 ∧ (wImagesAreTransferred [1, 1, 4, 1, 0]).moult.buffer = true ∧ 24 ≤ 55 ∧ 55 < 56) ∧
    ((wImagesAreTransferred [1, 1, 3, 0, 1]).pinsLive = false) := by
  refine ⟨?_, ?_, ?_, ?_⟩ <;> decide +kernel
end Sys2Proof.Tests.C16g

namespace Sys2Proof.Tests.C17b

def ss (k : Slot) (g : Session → Session) (s : State) : State := s.putSession k (g (s.session k))
def a0 : DictAddr := ⟨0, 0x1001, 1⟩
def a1 : DictAddr := ⟨0, 0x1200, 0⟩
def n0 : Note := ⟨1,2,3,4,5,6,7,8,9⟩
def sA (k : Slot) : List (State → State) := [id, ss k (fun x => {x with isOpen := true, carrier := 3, xfer := some (.read a0 (some [1,2,3,4,5]))}), ss k (fun x => {x with isOpen := true, carrier := 3, xfer := some (.read a1 none)}), ss k (fun x => {x with isOpen := true, carrier := 3, xfer := some (.write a0 8 [1,2,3])}), ss k (fun x => {x with isOpen := true, carrier := 3, xfer := some (.write a0 3 [])}), ss k (fun x => {x with isOpen := true, carrier := 1, notes := [n0, n0]}), ss k (fun x => {x with isOpen := true, carrier := 2, notes := [n0]}), ss k (fun x => {x with isOpen := true, carrier := 3, noteSev := 3, notes := [n0], lostSince := 2}), ss k (fun x => {x with isOpen := true, carrier := 3, notes := [n0]})]
def regZ : List (State → State) := [id, wrs [(hubSt, O.CLK_GOOD, 63), (hubSt, O.PCIE_STATE, 1)], wrs [(hubSt, O.CLK_GOOD, 63)], wrs [(hubSt, O.CLK_GOOD, 16)]]
def pe (s : State) : State := { (ss 0 (fun x => {x with notes := [n0, n0]}) s) with rst := s.rst }
def regA : List (State → State) := [wrs [(hubSt, O.CLK_GOOD, 63), (hubSt, O.I3C_DADDR, 9)]]
def setA : List (State → State) := [ss 5 (fun x => {x with isOpen := true, carrier := 1, notes := [n0, n0]}), ss 5 (fun x => {x with isOpen := true, xfer := some (.write ⟨0, 0x1200, 6⟩ 2 [100,0])})]
def xw (s : State) : State := ss 5 (fun x => {x with isOpen := true, xfer := some (.write ⟨0, BitVec.ofNat 16 O.XFER_TIMEOUT.index, BitVec.ofNat 8 O.XFER_TIMEOUT.sub⟩ 4 [100,0,0,0])}) s
def noBuf (s : State) : State := (List.range 64).foldl (fun s b => s.wr hubSt (O.OWNER.at b) 0) s
def w9 (s : State) : State := ss 1 (fun x => {x with isOpen := true, carrier := 3, xfer := some (.write a0 4 [1,2,3])}) s
def pc (n w : Nat) : List Byte := leBytes 2 n ++ leBytes 2 w ++ leBytes 4 5 ++ leBytes 4 9 ++ leBytes 4 0 ++ leBytes 16 3
def wSessionsReadAndTransfer : List Nat → State := pick
  ([[pe, xw], setA ++ [xw], regA, [id, noBuf]])
theorem test_meets_SessionsReadAndTransfer_b :
    ((wSessionsReadAndTransfer [1, 0, 0, 0]).hears 0 = true ∧ ((wSessionsReadAndTransfer [1, 0, 0, 0]).session 0).xfer = none ∧ ((wSessionsReadAndTransfer [1, 0, 0, 0]).touch 0).admitInit 0 ({ station := 0x0000#16, index := 0x1001#16, sub := 0x01#8 } : DictAddr).station.toNat ({ station := 0x0000#16, index := 0x1001#16, sub := 0x01#8 } : DictAddr).index.toNat ({ station := 0x0000#16, index := 0x1001#16, sub := 0x01#8 } : DictAddr).sub.toNat (3#32).toNat = some Abort.readOnly) ∧
    (((wSessionsReadAndTransfer [0, 0, 0, 1]).session 0).notes = (({ kind := 1, sev := 2, code := 3, station := 4, item := 5, sub := 6, value := 7, stnTime := 8, hubTime := 9 }, [{ kind := 1, sev := 2, code := 3, station := 4, item := 5, sub := 6, value := 7, stnTime := 8, hubTime := 9 }]) : Note × List Note).1 :: (({ kind := 1, sev := 2, code := 3, station := 4, item := 5, sub := 6, value := 7, stnTime := 8, hubTime := 9 }, [{ kind := 1, sev := 2, code := 3, station := 4, item := 5, sub := 6, value := 7, stnTime := 8, hubTime := 9 }]) : Note × List Note).2 ∧ ((wSessionsReadAndTransfer [0, 0, 0, 1]).session 0).isOpen = true ∧ ((wSessionsReadAndTransfer [0, 0, 0, 1]).session 0).carrier ≠ 3 ∧ (wSessionsReadAndTransfer [0, 0, 0, 1]).Up ∧ ((wSessionsReadAndTransfer [0, 0, 0, 1]).session 0).carrier = 0) := by
  refine ⟨?_, ?_⟩ <;> decide +kernel
def wTransportsCarrySessions : List Nat → State := pick
  ([[w9, ss 5 (fun x => {x with isOpen := true, carrier := 1})], regA, [id, wr' hubSt O.PART_BUDGET 100000]])
theorem test_meets_TransportsCarrySessions_b :
    ((wTransportsCarrySessions [1, 0, 1]).mctpReach 0 = true ∧ (wTransportsCarrySessions [1, 0, 1]).mctpServed 0 = true ∧ 2#8 ≠ 0 ∧ 2#8 ≠ 255 ∧ 5 ≤ 5 ∧ ((wTransportsCarrySessions [1, 0, 1]).session 5).isOpen = true ∧ ((wTransportsCarrySessions [1, 0, 1]).session 5).carrier = 1 + 0) ∧
    ((wTransportsCarrySessions [1, 0, 1]).mctpReach 0 = true ∧ (wTransportsCarrySessions [1, 0, 1]).mctpServed 0 = true ∧ ((∀ p ∈ ((wTransportsCarrySessions [1, 0, 1]).binding 0).out.head?, endsNotify p = false) ∨ ((wTransportsCarrySessions [1, 0, 1]).binding 0).notes = [])) ∧
    ((wTransportsCarrySessions [0, 0, 1]).hears (chanSlot 0) = true ∧ 3#32 ≠ 0 ∧ (3#32).toNat ≤ 4096 ∧ 3#32 ≠ 0) := by
  refine ⟨?_, ?_, ?_⟩ <;> decide +kernel
end Sys2Proof.Tests.C17b

namespace Sys2Proof.Tests.C17d

def ss (k : Slot) (g : Session → Session) (s : State) : State := s.putSession k (g (s.session k))
def a0 : DictAddr := ⟨0, 0x1001, 1⟩
def a1 : DictAddr := ⟨0, 0x1200, 0⟩
def n0 : Note := ⟨1,2,3,4,5,6,7,8,9⟩
def sA (k : Slot) : List (State → State) := [id, ss k (fun x => {x with isOpen := true, carrier := 3, xfer := some (.read a0 (some [1,2,3,4,5]))}), ss k (fun x => {x with isOpen := true, carrier := 3, xfer := some (.read a1 none)}), ss k (fun x => {x with isOpen := true, carrier := 3, xfer := some (.write a0 8 [1,2,3])}), ss k (fun x => {x with isOpen := true, carrier := 3, xfer := some (.write a0 3 [])}), ss k (fun x => {x with isOpen := true, carrier := 1, notes := [n0, n0]}), ss k (fun x => {x with isOpen := true, carrier := 2, notes := [n0]}), ss k (fun x => {x with isOpen := true, carrier := 3, noteSev := 3, notes := [n0], lostSince := 2}), ss k (fun x => {x with isOpen := true, carrier := 3, notes := [n0]})]
def regZ : List (State → State) := [id, wrs [(hubSt, O.CLK_GOOD, 63), (hubSt, O.PCIE_STATE, 1)], wrs [(hubSt, O.CLK_GOOD, 63)], wrs [(hubSt, O.CLK_GOOD, 16)]]
def pe (s : State) : State := { (ss 0 (fun x => {x with notes := [n0, n0]}) s) with rst := s.rst }
def regQ : List (State → State) := [wrs [(hubSt, O.CLK_GOOD, 63), (hubSt, O.I3C_DADDR, 9)]]
def setA : List (State → State) := [ss 5 (fun x => {x with isOpen := true, carrier := 1, notes := [n0, n0]}), ss 5 (fun x => {x with isOpen := true, xfer := some (.write ⟨0, 0x1200, 6⟩ 2 [100,0])})]
def xw (s : State) : State := ss 5 (fun x => {x with isOpen := true, xfer := some (.write ⟨0, BitVec.ofNat 16 O.XFER_TIMEOUT.index, BitVec.ofNat 8 O.XFER_TIMEOUT.sub⟩ 4 [100,0,0,0])}) s
def noBuf (s : State) : State := (List.range 64).foldl (fun s b => s.wr hubSt (O.OWNER.at b) 0) s
def wx (o : Obj) (n : Nat) (l : List Byte) (s : State) : State := ss 0 (fun x => {x with xfer := some (.write ⟨0, BitVec.ofNat 16 o.index, BitVec.ofNat 8 o.sub⟩ n l)}) s
def fifty (s : State) : State := [1,2,3,4,5,6,7,8,9].foldl (fun s k => ss k (fun x => {x with isOpen := true, xfer := some (.write ⟨0, 0x1510, 5⟩ 65536 [])}) s) s
def wI (n : Nat) (l : List Byte) (s : State) : State := ss 0 (fun x => {x with xfer := some (.write ⟨0x0010, 0x2440, 1⟩ n l)}) s
def rI (s : State) : State := ss 0 (fun x => {x with xfer := some (.read ⟨0, BitVec.ofNat 16 O.XFER_TIMEOUT.index, BitVec.ofNat 8 O.XFER_TIMEOUT.sub⟩ (some [1,2,3,4]))}) s
def wSessionsReadAndTransfer : List Nat → State := pick
  ([[wx O.XFER_TIMEOUT 2 [100,0], wx O.XFER_TIMEOUT 4 [], wI 4 [], wI 4 [1,2], rI, id], [id, fun s => ss 0 (fun x => {x with timedOut := true}) s, fun s => {s with rst := {s.rst with coreUp := false}}]])
theorem test_meets_SessionsReadAndTransfer_d :
    ((wSessionsReadAndTransfer [5, 0]).hears 0 = true ∧ ((wSessionsReadAndTransfer [5, 0]).session 0).xfer = none ∧ ((wSessionsReadAndTransfer [5, 0]).touch 0).admitInit 0 ({ station := 0x0000#16, index := 0x1110#16, sub := 0x07#8 } : DictAddr).station.toNat ({ station := 0x0000#16, index := 0x1110#16, sub := 0x07#8 } : DictAddr).index.toNat ({ station := 0x0000#16, index := 0x1110#16, sub := 0x07#8 } : DictAddr).sub.toNat (0#32).toNat = some Abort.length) ∧
    ((wSessionsReadAndTransfer [0, 0]).hears 0 = true ∧ ((wSessionsReadAndTransfer [0, 0]).session 0).xfer = some (Xfer.write ({ station := 0x0000#16, index := 0x1110#16, sub := 0x07#8 } : DictAddr) 2 [100#8, 0#8]) ∧ ({ station := 0x0000#16, index := 0x1110#16, sub := 0x07#8 } : DictAddr) = ({ station := 0x0000#16, index := 0x1110#16, sub := 0x07#8 } : DictAddr) ∧ [100#8, 0#8] ≠ [] ∧ [100#8, 0#8].length ≤ segLimit ((wSessionsReadAndTransfer [0, 0]).session 0) ∧ ((wSessionsReadAndTransfer [0, 0]).touch 0).bufGone 0 ({ station := 0x0000#16, index := 0x1110#16, sub := 0x07#8 } : DictAddr) = none ∧ (2#32).toNat = [100#8, 0#8].length ∧ 2 < [100#8, 0#8].length + [100#8, 0#8].length) ∧
    ((wSessionsReadAndTransfer [2, 1]).hears 0 = true ∧ ((wSessionsReadAndTransfer [2, 1]).session 0).xfer = some (Xfer.write ({ station := 0x0010#16, index := 0x2440#16, sub := 0x01#8 } : DictAddr) 4 ([] : List Byte)) ∧ ({ station := 0x0010#16, index := 0x2440#16, sub := 0x01#8 } : DictAddr) = ({ station := 0x0010#16, index := 0x2440#16, sub := 0x01#8 } : DictAddr) ∧ [100#8, 0#8] ≠ [] ∧ [100#8, 0#8].length ≤ segLimit ((wSessionsReadAndTransfer [2, 1]).session 0) ∧ ((wSessionsReadAndTransfer [2, 1]).touch 0).bufGone 0 ({ station := 0x0010#16, index := 0x2440#16, sub := 0x01#8 } : DictAddr) = none ∧ (0#32).toNat = ([] : List Byte).length ∧ ([] : List Byte).length + [100#8, 0#8].length ≤ 4 ∧ (if ([] : List Byte) = [] then firstSegment ({ station := 0x0010#16, index := 0x2440#16, sub := 0x01#8 } : DictAddr).station.toNat ({ station := 0x0010#16, index := 0x2440#16, sub := 0x01#8 } : DictAddr).index.toNat ({ station := 0x0010#16, index := 0x2440#16, sub := 0x01#8 } : DictAddr).sub.toNat ((wSessionsReadAndTransfer [2, 1]).touch 0) else Except.ok ((wSessionsReadAndTransfer [2, 1]).touch 0)).isOk = true) ∧
    ((wSessionsReadAndTransfer [1, 0]).hears 0 = true ∧ ((wSessionsReadAndTransfer [1, 0]).session 0).xfer = some (Xfer.write ({ station := 0x0000#16, index := 0x1110#16, sub := 0x07#8 } : DictAddr) 4 ([] : List Byte)) ∧ ({ station := 0x0000#16, index := 0x1110#16, sub := 0x07#8 } : DictAddr) = ({ station := 0x0000#16, index := 0x1110#16, sub := 0x07#8 } : DictAddr) ∧ [100#8, 0#8] ≠ [] ∧ [100#8, 0#8].length ≤ segLimit ((wSessionsReadAndTransfer [1, 0]).session 0) ∧ ((wSessionsReadAndTransfer [1, 0]).touch 0).bufGone 0 ({ station := 0x0000#16, index := 0x1110#16, sub := 0x07#8 } : DictAddr) = none ∧ (0#32).toNat = ([] : List Byte).length ∧ ([] : List Byte).length + [100#8, 0#8].length ≤ 4 ∧ (([] : List Byte) ≠ [] ∨ ({ station := 0x0000#16, index := 0x1110#16, sub := 0x07#8 } : DictAddr).index.toNat < 9280 ∨ 9296 ≤ ({ station := 0x0000#16, index := 0x1110#16, sub := 0x07#8 } : DictAddr).index.toNat)) ∧
    ((wSessionsReadAndTransfer [0, 0]).hears 0 = true ∧ ((wSessionsReadAndTransfer [0, 0]).session 0).xfer = some (Xfer.write ({ station := 0x0000#16, index := 0x1110#16, sub := 0x07#8 } : DictAddr) 2 [100#8, 0#8]) ∧ ({ station := 0x0000#16, index := 0x1110#16, sub := 0x07#8 } : DictAddr) = ({ station := 0x0000#16, index := 0x1110#16, sub := 0x07#8 } : DictAddr) ∧ ((wSessionsReadAndTransfer [0, 0]).touch 0).bufGone 0 ({ station := 0x0000#16, index := 0x1110#16, sub := 0x07#8 } : DictAddr) = none ∧ (2#32).toNat = [100#8, 0#8].length ∧ (((wSessionsReadAndTransfer [0, 0]).touch 0).setXfer 0 none).admitValue 0 ({ station := 0x0000#16, index := 0x1110#16, sub := 0x07#8 } : DictAddr).station.toNat ({ station := 0x0000#16, index := 0x1110#16, sub := 0x07#8 } : DictAddr).index.toNat ({ station := 0x0000#16, index := 0x1110#16, sub := 0x07#8 } : DictAddr).sub.toNat [100#8, 0#8] = some Abort.length) := by
  refine ⟨?_, ?_, ?_, ?_, ?_⟩ <;> decide +kernel
end Sys2Proof.Tests.C17d

namespace Sys2Proof.Tests.C17f

def ss (k : Slot) (g : Session → Session) (s : State) : State := s.putSession k (g (s.session k))
def aI : DictAddr := ⟨0x10, 0x2440, 2⟩
def aT : DictAddr := ⟨0, BitVec.ofNat 16 O.XFER_TIMEOUT.index, BitVec.ofNat 8 O.XFER_TIMEOUT.sub⟩
def xf : List (State → State) := [id, ss 0 (fun x => {x with xfer := some (.read aI none)}), ss 0 (fun x => {x with xfer := some (.write aI 4 [])}), ss 0 (fun x => {x with xfer := some (.write aI 4 [1,2,3,4])}), ss 0 (fun x => {x with xfer := some (.write aT 4 [100,0,0,0])})]
def gone : List (State → State) := [id, fun s => (s.putLink (.fh 0 0) {failed := true}).putLink (.fh 0 1) {failed := true}, fun s => s.putEng 152 { s.eng 152 with swapDue := 1 }, fun s => s.putEng 152 { s.eng 152 with closed := true }]
def noBuf (s : State) : State := (List.range 64).foldl (fun s b => s.wr hubSt (O.OWNER.at b) 0x2000) s
def full (s : State) : State := [1, 2, 3, 4, 6, 7, 8, 9, 10].foldl (fun s k => ss k (fun x => { x with isOpen := true, xfer := some (.write aI 65536 []) }) s) s
def wSessionsReadAndTransfer : List Nat → State := pick
  ([xf, gone, [id, noBuf, full]])
theorem test_meets_SessionsReadAndTransfer_f :
    ((wSessionsReadAndTransfer [4, 0, 0]).hears 0 = true ∧ ((wSessionsReadAndTransfer [4, 0, 0]).touch 0).readObj 0 ({ station := 0x0010#16, index := 0x2440#16, sub := 0x02#8 } : DictAddr) = Except.error Abort.writeOnly ∧ (Abort.writeOnly ≠ Abort.state ∨ (((wSessionsReadAndTransfer [4, 0, 0]).touch 0).objValue 0 ({ station := 0x0010#16, index := 0x2440#16, sub := 0x02#8 } : DictAddr).station.toNat ({ station := 0x0010#16, index := 0x2440#16, sub := 0x02#8 } : DictAddr).index.toNat ({ station := 0x0010#16, index := 0x2440#16, sub := 0x02#8 } : DictAddr).sub.toNat).length ≤ 8)) ∧
    ((wSessionsReadAndTransfer [0, 3, 2]).hears 0 = true ∧ ((wSessionsReadAndTransfer [0, 3, 2]).touch 0).readObj 0 ({ station := 0x0010#16, index := 0x2440#16, sub := 0x02#8 } : DictAddr) = Except.error Abort.blockReset ∧ ((wSessionsReadAndTransfer [0, 3, 2]).session 0).xfer = none) ∧
    ((wSessionsReadAndTransfer [1, 2, 2]).hears 0 = true ∧ ((wSessionsReadAndTransfer [1, 2, 2]).session 0).xfer = some (Xfer.read ({ station := 0x0010#16, index := 0x2440#16, sub := 0x02#8 } : DictAddr) none) ∧ (({ station := 0x0010#16, index := 0x2440#16, sub := 0x02#8 } : DictAddr) ≠ ({ station := 0x0000#16, index := 0x1110#16, sub := 0x07#8 } : DictAddr) ∨ 4#16 = 0 ∨ segLimit ((wSessionsReadAndTransfer [1, 2, 2]).session 0) < (4#16).toNat)) ∧
    ((wSessionsReadAndTransfer [1, 1, 1]).hears 0 = true ∧ ((wSessionsReadAndTransfer [1, 1, 1]).session 0).xfer = some (Xfer.read ({ station := 0x0010#16, index := 0x2440#16, sub := 0x02#8 } : DictAddr) none) ∧ ({ station := 0x0010#16, index := 0x2440#16, sub := 0x02#8 } : DictAddr) = ({ station := 0x0010#16, index := 0x2440#16, sub := 0x02#8 } : DictAddr) ∧ 4#16 ≠ 0 ∧ (4#16).toNat ≤ segLimit ((wSessionsReadAndTransfer [1, 1, 1]).session 0) ∧ (wSessionsReadAndTransfer [1, 1, 1]).xferGone 0 ({ station := 0x0010#16, index := 0x2440#16, sub := 0x02#8 } : DictAddr) = some Abort.unreachable) ∧
    ((wSessionsReadAndTransfer [1, 2, 2]).hears 0 = true ∧ ((wSessionsReadAndTransfer [1, 2, 2]).session 0).xfer = some (Xfer.read ({ station := 0x0010#16, index := 0x2440#16, sub := 0x02#8 } : DictAddr) none) ∧ ({ station := 0x0010#16, index := 0x2440#16, sub := 0x02#8 } : DictAddr) = ({ station := 0x0010#16, index := 0x2440#16, sub := 0x02#8 } : DictAddr) ∧ 2#16 ≠ 0 ∧ (2#16).toNat ≤ segLimit ((wSessionsReadAndTransfer [1, 2, 2]).session 0) ∧ (wSessionsReadAndTransfer [1, 2, 2]).xferGone 0 ({ station := 0x0010#16, index := 0x2440#16, sub := 0x02#8 } : DictAddr) = none ∧ ((wSessionsReadAndTransfer [1, 2, 2]).touch 0).readObj 0 ({ station := 0x0010#16, index := 0x2440#16, sub := 0x02#8 } : DictAddr) = Except.error Abort.writeOnly) ∧
    ((wSessionsReadAndTransfer [1, 2, 2]).hears 0 = true ∧ ((wSessionsReadAndTransfer [1, 2, 2]).session 0).xfer = some (Xfer.read ({ station := 0x0010#16, index := 0x2440#16, sub := 0x02#8 } : DictAddr) none) ∧ ({ station := 0x0010#16, index := 0x2440#16, sub := 0x02#8 } : DictAddr) ≠ ({ station := 0x0000#16, index := 0x1110#16, sub := 0x07#8 } : DictAddr)) ∧
    ((wSessionsReadAndTransfer [0, 3, 2]).hears 0 = true ∧ ((wSessionsReadAndTransfer [0, 3, 2]).session 0).xfer = none ∧ ((wSessionsReadAndTransfer [0, 3, 2]).touch 0).admitInit 0 ({ station := 0x0010#16, index := 0x2440#16, sub := 0x02#8 } : DictAddr).station.toNat ({ station := 0x0010#16, index := 0x2440#16, sub := 0x02#8 } : DictAddr).index.toNat ({ station := 0x0010#16, index := 0x2440#16, sub := 0x02#8 } : DictAddr).sub.toNat (65536#32).toNat = some Abort.blockReset) ∧
    ((wSessionsReadAndTransfer [0, 2, 0]).hears 0 = true ∧ ((wSessionsReadAndTransfer [0, 2, 0]).session 0).xfer = none ∧ ((wSessionsReadAndTransfer [0, 2, 0]).touch 0).admitInit 0 ({ station := 0x0010#16, index := 0x2440#16, sub := 0x02#8 } : DictAddr).station.toNat ({ station := 0x0010#16, index := 0x2440#16, sub := 0x02#8 } : DictAddr).index.toNat ({ station := 0x0010#16, index := 0x2440#16, sub := 0x02#8 } : DictAddr).sub.toNat (65536#32).toNat = none ∧ lengthOk ({ station := 0x0010#16, index := 0x2440#16, sub := 0x02#8 } : DictAddr).station.toNat ({ station := 0x0010#16, index := 0x2440#16, sub := 0x02#8 } : DictAddr).index.toNat ({ station := 0x0010#16, index := 0x2440#16, sub := 0x02#8 } : DictAddr).sub.toNat (65536#32).toNat = false) ∧
    ((wSessionsReadAndTransfer [0, 1, 1]).hears 0 = true ∧ ((wSessionsReadAndTransfer [0, 1, 1]).session 0).xfer = none ∧ ((wSessionsReadAndTransfer [0, 1, 1]).touch 0).admitInit 0 ({ station := 0x0000#16, index := 0x1110#16, sub := 0x07#8 } : DictAddr).station.toNat ({ station := 0x0000#16, index := 0x1110#16, sub := 0x07#8 } : DictAddr).index.toNat ({ station := 0x0000#16, index := 0x1110#16, sub := 0x07#8 } : DictAddr).sub.toNat (4#32).toNat = none ∧ lengthOk ({ station := 0x0000#16, index := 0x1110#16, sub := 0x07#8 } : DictAddr).station.toNat ({ station := 0x0000#16, index := 0x1110#16, sub := 0x07#8 } : DictAddr).index.toNat ({ station := 0x0000#16, index := 0x1110#16, sub := 0x07#8 } : DictAddr).sub.toNat (4#32).toNat = true ∧ ((wSessionsReadAndTransfer [0, 1, 1]).touch 0).bufBytes (bufHolder ({ station := 0x0000#16, index := 0x1110#16, sub := 0x07#8 } : DictAddr).station.toNat) < ((wSessionsReadAndTransfer [0, 1, 1]).touch 0).bufUsed (bufHolder ({ station := 0x0000#16, index := 0x1110#16, sub := 0x07#8 } : DictAddr).station.toNat) + (4#32).toNat) ∧
    ((wSessionsReadAndTransfer [2, 1, 2]).hears 0 = true ∧ ((wSessionsReadAndTransfer [2, 1, 2]).session 0).xfer = some (Xfer.write ({ station := 0x0010#16, index := 0x2440#16, sub := 0x02#8 } : DictAddr) 4 ([] : List Byte)) ∧ ({ station := 0x0010#16, index := 0x2440#16, sub := 0x02#8 } : DictAddr) = ({ station := 0x0010#16, index := 0x2440#16, sub := 0x02#8 } : DictAddr) ∧ [100#8, 0#8, 0#8, 0#8] ≠ [] ∧ [100#8, 0#8, 0#8, 0#8].length ≤ segLimit ((wSessionsReadAndTransfer [2, 1, 2]).session 0) ∧ ((wSessionsReadAndTransfer [2, 1, 2]).touch 0).bufGone 0 ({ station := 0x0010#16, index := 0x2440#16, sub := 0x02#8 } : DictAddr) = some Abort.unreachable) ∧
    ((wSessionsReadAndTransfer [2, 2, 0]).hears 0 = true ∧ ((wSessionsReadAndTransfer [2, 2, 0]).session 0).xfer = some (Xfer.write ({ station := 0x0010#16, index := 0x2440#16, sub := 0x02#8 } : DictAddr) 4 ([] : List Byte)) ∧ ({ station := 0x0010#16, index := 0x2440#16, sub := 0x02#8 } : DictAddr) = ({ station := 0x0010#16, index := 0x2440#16, sub := 0x02#8 } : DictAddr) ∧ [1#8, 2#8] ≠ [] ∧ [1#8, 2#8].length ≤ segLimit ((wSessionsReadAndTransfer [2, 2, 0]).session 0) ∧ ((wSessionsReadAndTransfer [2, 2, 0]).touch 0).bufGone 0 ({ station := 0x0010#16, index := 0x2440#16, sub := 0x02#8 } : DictAddr) = none ∧ (0#32).toNat = ([] : List Byte).length ∧ ([] : List Byte).length + [1#8, 2#8].length ≤ 4 ∧ (if ([] : List Byte) = [] then firstSegment ({ station := 0x0010#16, index := 0x2440#16, sub := 0x02#8 } : DictAddr).station.toNat ({ station := 0x0010#16, index := 0x2440#16, sub := 0x02#8 } : DictAddr).index.toNat ({ station := 0x0010#16, index := 0x2440#16, sub := 0x02#8 } : DictAddr).sub.toNat ((wSessionsReadAndTransfer [2, 2, 0]).touch 0) else Except.ok ((wSessionsReadAndTransfer [2, 2, 0]).touch 0)) = Except.error Abort.state) ∧
    ((wSessionsReadAndTransfer [2, 0, 1]).hears 0 = true ∧ ((wSessionsReadAndTransfer [2, 0, 1]).session 0).xfer = some (Xfer.write ({ station := 0x0010#16, index := 0x2440#16, sub := 0x02#8 } : DictAddr) 4 ([] : List Byte)) ∧ ({ station := 0x0010#16, index := 0x2440#16, sub := 0x02#8 } : DictAddr) = ({ station := 0x0010#16, index := 0x2440#16, sub := 0x02#8 } : DictAddr) ∧ [100#8, 0#8, 0#8, 0#8] ≠ [] ∧ [100#8, 0#8, 0#8, 0#8].length ≤ segLimit ((wSessionsReadAndTransfer [2, 0, 1]).session 0) ∧ ((wSessionsReadAndTransfer [2, 0, 1]).touch 0).bufGone 0 ({ station := 0x0010#16, index := 0x2440#16, sub := 0x02#8 } : DictAddr) = none ∧ (0#32).toNat = ([] : List Byte).length ∧ ([] : List Byte).length + [100#8, 0#8, 0#8, 0#8].length ≤ 4 ∧ (if ([] : List Byte) = [] then firstSegment ({ station := 0x0010#16, index := 0x2440#16, sub := 0x02#8 } : DictAddr).station.toNat ({ station := 0x0010#16, index := 0x2440#16, sub := 0x02#8 } : DictAddr).index.toNat ({ station := 0x0010#16, index := 0x2440#16, sub := 0x02#8 } : DictAddr).sub.toNat ((wSessionsReadAndTransfer [2, 0, 1]).touch 0) else Except.ok ((wSessionsReadAndTransfer [2, 0, 1]).touch 0)).isOk = true) ∧
    ((wSessionsReadAndTransfer [2, 1, 2]).hears 0 = true ∧ ((wSessionsReadAndTransfer [2, 1, 2]).session 0).xfer = some (Xfer.write ({ station := 0x0010#16, index := 0x2440#16, sub := 0x02#8 } : DictAddr) 4 ([] : List Byte)) ∧ ({ station := 0x0010#16, index := 0x2440#16, sub := 0x02#8 } : DictAddr) = ({ station := 0x0010#16, index := 0x2440#16, sub := 0x02#8 } : DictAddr) ∧ ((wSessionsReadAndTransfer [2, 1, 2]).touch 0).bufGone 0 ({ station := 0x0010#16, index := 0x2440#16, sub := 0x02#8 } : DictAddr) = some Abort.unreachable) ∧
    ((wSessionsReadAndTransfer [4, 0, 0]).hears 0 = true ∧ ((wSessionsReadAndTransfer [4, 0, 0]).session 0).xfer = some (Xfer.write ({ station := 0x0000#16, index := 0x1110#16, sub := 0x07#8 } : DictAddr) 4 [100#8, 0#8, 0#8, 0#8]) ∧ ({ station := 0x0000#16, index := 0x1110#16, sub := 0x07#8 } : DictAddr) = ({ station := 0x0000#16, index := 0x1110#16, sub := 0x07#8 } : DictAddr) ∧ ((wSessionsReadAndTransfer [4, 0, 0]).touch 0).bufGone 0 ({ station := 0x0000#16, index := 0x1110#16, sub := 0x07#8 } : DictAddr) = none ∧ (4#32).toNat = [100#8, 0#8, 0#8, 0#8].length ∧ (((wSessionsReadAndTransfer [4, 0, 0]).touch 0).setXfer 0 none).admitValue 0 ({ station := 0x0000#16, index := 0x1110#16, sub := 0x07#8 } : DictAddr).station.toNat ({ station := 0x0000#16, index := 0x1110#16, sub := 0x07#8 } : DictAddr).index.toNat ({ station := 0x0000#16, index := 0x1110#16, sub := 0x07#8 } : DictAddr).sub.toNat [100#8, 0#8, 0#8, 0#8] = none) := by
  refine ⟨?_, ?_, ?_, ?_, ?_, ?_, ?_, ?_, ?_, ?_, ?_, ?_, ?_, ?_⟩ <;> decide +kernel
end Sys2Proof.Tests.C17f

namespace Sys2Proof.Tests.C17g

def hst (s : State) : State := { s with rst := { s.rst with held := some 1 } }
def dn (s : State) : State := { s with rst := { s.rst with coreUp := false } }
def wTransportsCarrySessions : List Nat → State := pick
  ([[wrs [(hubSt, O.CLK_GOOD, 63), (hubSt, O.PCIE_STATE, 1), (hubSt, O.I3C_DADDR, 9)]], [id, hst, dn, wr' hubSt O.HOST_TIER_STATE 1], [id, wr' hubSt O.HOST_WRITE 1]])
theorem test_meets_TransportsCarrySessions_g :
    ((wTransportsCarrySessions [0, 2, 1]).mctpReach 1 = true ∧ (wTransportsCarrySessions [0, 2, 1]).mctpServed 1 = false ∧ 1 = 1) ∧
    ((wTransportsCarrySessions [0, 3, 1]).rst.held = none ∧ (wTransportsCarrySessions [0, 3, 1]).rd hubSt O.PCIE_STATE = 1 ∧ (wTransportsCarrySessions [0, 3, 1]).rd hubSt O.HOST_TIER_STATE = 1) ∧
    ((wTransportsCarrySessions [0, 1, 1]).rst.held ≠ none) := by
  refine ⟨?_, ?_, ?_⟩ <;> decide +kernel
end Sys2Proof.Tests.C17g

namespace Sys2Proof.Tests.C17h

def hst (s : State) : State := { s with rst := { s.rst with held := some 1 } }
def nk (s : State) : State := wr' hubSt O.CLK_GOOD 3 s
def ss (k : Slot) (g : Session → Session) (s : State) : State := s.putSession k (g (s.session k))
def tr0 (s : State) : State := { s with traces := (List.range 9).map (fun k => (k, { count := 100 })) }
def wSessionsReadAndTransfer : List Nat → State := pick
  ([[tr0], [id]])
theorem test_meets_SessionsReadAndTransfer_h :
    ((wSessionsReadAndTransfer [0, 0]).hears 0 = true ∧ ((wSessionsReadAndTransfer [0, 0]).touch 0).readObj 0 ({ station := 0x0010#16, index := 0x2460#16, sub := 0x0b#8 } : DictAddr) = Except.error Abort.state ∧ Abort.state = Abort.state ∧ 8 < (((wSessionsReadAndTransfer [0, 0]).touch 0).objValue 0 ({ station := 0x0010#16, index := 0x2460#16, sub := 0x0b#8 } : DictAddr).station.toNat ({ station := 0x0010#16, index := 0x2460#16, sub := 0x0b#8 } : DictAddr).index.toNat ({ station := 0x0010#16, index := 0x2460#16, sub := 0x0b#8 } : DictAddr).sub.toNat).length) ∧
    ((wSessionsReadAndTransfer [0, 0]).hears 0 = true ∧ ((wSessionsReadAndTransfer [0, 0]).touch 0).readObj 0 ({ station := 0x0010#16, index := 0x2460#16, sub := 0x0b#8 } : DictAddr) = Except.error Abort.state ∧ ((wSessionsReadAndTransfer [0, 0]).session 0).xfer = none) := by
  refine ⟨?_, ?_⟩ <;> decide +kernel
end Sys2Proof.Tests.C17h

namespace Sys2Proof.Tests.C17k

def n0 : Note := ⟨1,2,3,4,5,6,7,8,9⟩
def n1 : Note := ⟨2,2,3,4,5,6,7,8,9⟩
def ss (k : Slot) (g : Session → Session) (s : State) : State := s.putSession k (g (s.session k))
def nts : List (State → State) := [id, ss 7 (fun x => {x with isOpen := true, carrier := 1, notes := [n0, n1]}), ss 7 (fun x => {x with isOpen := true, carrier := 1, notes := [n0, n1], lostSince := 3}), ss 7 (fun x => {x with isOpen := true, carrier := 1, notes := [n1]})]
def bnd : List (State → State) := [id, fun s => s.putBinding 0 { s.binding 0 with out := [[1,2,3,0x48,5],[2]], notes := [(7, n0), (8, n1)] }, fun s => s.putBinding 0 { s.binding 0 with out := [[1,2,3,0x40,5],[2]], notes := [(7, n0)] }]
def nt2 : List (State → State) := (nts ++ nts.map (fun f s => ss 7 (fun x => {x with carrier := 2}) (f s)))
def wSessionsReadAndTransfer : List Nat → State := pick
  ([[wrs [(hubSt, O.CLK_GOOD, 63), (hubSt, O.PCIE_STATE, 1), (hubSt, O.I3C_DADDR, 9)]], nt2, bnd])
theorem test_meets_SessionsReadAndTransfer_k :
    ((wSessionsReadAndTransfer [0, 5, 1]).hears 7 = true ∧ ((wSessionsReadAndTransfer [0, 5, 1]).touch 7).readObj 7 ({ station := 0x0100#16, index := 0x1200#16, sub := 0x08#8 } : DictAddr) = Except.error Abort.unknownObject ∧ (Abort.unknownObject ≠ Abort.state ∨ (((wSessionsReadAndTransfer [0, 5, 1]).touch 7).objValue 7 ({ station := 0x0100#16, index := 0x1200#16, sub := 0x08#8 } : DictAddr).station.toNat ({ station := 0x0100#16, index := 0x1200#16, sub := 0x08#8 } : DictAddr).index.toNat ({ station := 0x0100#16, index := 0x1200#16, sub := 0x08#8 } : DictAddr).sub.toNat).length ≤ 8)) ∧
    ((wSessionsReadAndTransfer [0, 5, 1]).hears 7 = true ∧ ((wSessionsReadAndTransfer [0, 5, 1]).touch 7).readObj 7 ({ station := 0x0100#16, index := 0x1200#16, sub := 0x08#8 } : DictAddr) = Except.error Abort.unknownObject ∧ ((wSessionsReadAndTransfer [0, 5, 1]).session 7).xfer = none) ∧
    (((wSessionsReadAndTransfer [0, 6, 0]).session 7).notes = (({ kind := 1, sev := 2, code := 3, station := 4, item := 5, sub := 6, value := 7, stnTime := 8, hubTime := 9 }, [{ kind := 2, sev := 2, code := 3, station := 4, item := 5, sub := 6, value := 7, stnTime := 8, hubTime := 9 }]) : Note × List Note).1 :: (({ kind := 1, sev := 2, code := 3, station := 4, item := 5, sub := 6, value := 7, stnTime := 8, hubTime := 9 }, [{ kind := 2, sev := 2, code := 3, station := 4, item := 5, sub := 6, value := 7, stnTime := 8, hubTime := 9 }]) : Note × List Note).2 ∧ ((wSessionsReadAndTransfer [0, 6, 0]).session 7).isOpen = true ∧ ((wSessionsReadAndTransfer [0, 6, 0]).session 7).carrier ≠ 3 ∧ (wSessionsReadAndTransfer [0, 6, 0]).Up ∧ ((wSessionsReadAndTransfer [0, 6, 0]).session 7).carrier ≠ 0 ∧ (wSessionsReadAndTransfer [0, 6, 0]).mctpReach (if ((wSessionsReadAndTransfer [0, 6, 0]).session 7).carrier = 1 then 0 else 1) = true ∧ (if ((wSessionsReadAndTransfer [0, 6, 0]).session 7).carrier = 1 then 0 else 1) = 1 ∧ ((wSessionsReadAndTransfer [0, 6, 0]).session 7).lostSince ≠ 0) := by
  refine ⟨?_, ?_, ?_⟩ <;> decide +kernel
def wTransportsCarrySessions : List Nat → State := pick
  ([[wrs [(hubSt, O.CLK_GOOD, 63), (hubSt, O.PCIE_STATE, 1), (hubSt, O.I3C_DADDR, 9)]], nts, bnd])
theorem test_meets_TransportsCarrySessions_k :
    ((wTransportsCarrySessions [0, 3, 1]).mctpReach 0 = true ∧ (wTransportsCarrySessions [0, 3, 1]).mctpServed 0 = true ∧ ((wTransportsCarrySessions [0, 3, 1]).binding 0).out = [[1#8, 2#8, 3#8, 72#8, 5#8], [2#8]] ∧ endsNotify [1#8, 2#8, 3#8, 72#8, 5#8] = true ∧ ((wTransportsCarrySessions [0, 3, 1]).binding 0).notes = [(7, ({ kind := 1, sev := 2, code := 3, station := 4, item := 5, sub := 6, value := 7, stnTime := 8, hubTime := 9 } : Note)), (8, { kind := 2, sev := 2, code := 3, station := 4, item := 5, sub := 6, value := 7, stnTime := 8, hubTime := 9 })] ∧ ((wTransportsCarrySessions [0, 3, 1]).session 7).notes.head? ≠ some ({ kind := 1, sev := 2, code := 3, station := 4, item := 5, sub := 6, value := 7, stnTime := 8, hubTime := 9 } : Note)) ∧
    ((wTransportsCarrySessions [0, 1, 1]).mctpReach 0 = true ∧ (wTransportsCarrySessions [0, 1, 1]).mctpServed 0 = true ∧ ((wTransportsCarrySessions [0, 1, 1]).binding 0).out = [[1#8, 2#8, 3#8, 72#8, 5#8], [2#8]] ∧ endsNotify [1#8, 2#8, 3#8, 72#8, 5#8] = true ∧ ((wTransportsCarrySessions [0, 1, 1]).binding 0).notes = [(7, ({ kind := 1, sev := 2, code := 3, station := 4, item := 5, sub := 6, value := 7, stnTime := 8, hubTime := 9 } : Note)), (8, { kind := 2, sev := 2, code := 3, station := 4, item := 5, sub := 6, value := 7, stnTime := 8, hubTime := 9 })] ∧ ((wTransportsCarrySessions [0, 1, 1]).session 7).notes = [({ kind := 1, sev := 2, code := 3, station := 4, item := 5, sub := 6, value := 7, stnTime := 8, hubTime := 9 } : Note), { kind := 2, sev := 2, code := 3, station := 4, item := 5, sub := 6, value := 7, stnTime := 8, hubTime := 9 }] ∧ ((wTransportsCarrySessions [0, 1, 1]).session 7).lostSince = 0) ∧
    ((wTransportsCarrySessions [0, 2, 1]).mctpReach 0 = true ∧ (wTransportsCarrySessions [0, 2, 1]).mctpServed 0 = true ∧ ((wTransportsCarrySessions [0, 2, 1]).binding 0).out = [[1#8, 2#8, 3#8, 72#8, 5#8], [2#8]] ∧ endsNotify [1#8, 2#8, 3#8, 72#8, 5#8] = true ∧ ((wTransportsCarrySessions [0, 2, 1]).binding 0).notes = [(7, ({ kind := 1, sev := 2, code := 3, station := 4, item := 5, sub := 6, value := 7, stnTime := 8, hubTime := 9 } : Note)), (8, { kind := 2, sev := 2, code := 3, station := 4, item := 5, sub := 6, value := 7, stnTime := 8, hubTime := 9 })] ∧ ((wTransportsCarrySessions [0, 2, 1]).session 7).notes = [({ kind := 1, sev := 2, code := 3, station := 4, item := 5, sub := 6, value := 7, stnTime := 8, hubTime := 9 } : Note), { kind := 2, sev := 2, code := 3, station := 4, item := 5, sub := 6, value := 7, stnTime := 8, hubTime := 9 }] ∧ ((wTransportsCarrySessions [0, 2, 1]).session 7).lostSince ≠ 0) := by
  refine ⟨?_, ?_, ?_⟩ <;> decide +kernel
end Sys2Proof.Tests.C17k

namespace Sys2Proof.Tests.C18b

def k : Slot := 5
def wWritesTakeEffectOrAreRefused : List Nat → State := pick
  ([[fun s => s.putSession 5 {s.session 5 with isOpen := true, carrier := 1}, fun s => s.putSession 5 {s.session 5 with isOpen := true, carrier := 2}, id], [id, wr' hubSt O.HOST_WRITE 1], [id, fun s => {s with rst := {s.rst with closedSt := [0x10]}}]])
theorem test_meets_WritesTakeEffectOrAreRefused_b :
    (writeOf (Instr.domainOn 5 0) = some ({ slot := 5, st := 0, obj := { index := 11520, sub := 11 }, len := 4 } : WriteReq) ∧ (wWritesTakeEffectOrAreRefused [2, 0, 1]).hears ({ slot := 5, st := 0, obj := { index := 11520, sub := 11 }, len := 4 } : WriteReq).slot = false) ∧
    (writeOf (Instr.converterEnable 5 0) = some ({ slot := 5, st := 0, obj := { index := 9744, sub := 3 }, len := 1 } : WriteReq) ∧ (wWritesTakeEffectOrAreRefused [1, 0, 0]).hears ({ slot := 5, st := 0, obj := { index := 9744, sub := 3 }, len := 1 } : WriteReq).slot = true ∧ ((wWritesTakeEffectOrAreRefused [1, 0, 0]).touch ({ slot := 5, st := 0, obj := { index := 9744, sub := 3 }, len := 1 } : WriteReq).slot).admitWrite ({ slot := 5, st := 0, obj := { index := 9744, sub := 3 }, len := 1 } : WriteReq).slot ({ slot := 5, st := 0, obj := { index := 9744, sub := 3 }, len := 1 } : WriteReq).st ({ slot := 5, st := 0, obj := { index := 9744, sub := 3 }, len := 1 } : WriteReq).obj.index ({ slot := 5, st := 0, obj := { index := 9744, sub := 3 }, len := 1 } : WriteReq).obj.sub ({ slot := 5, st := 0, obj := { index := 9744, sub := 3 }, len := 1 } : WriteReq).len = some Abort.denied ∧ Abort.denied = Abort.denied) ∧
    (writeOf (Instr.groupSetpointWrite 5 0 4#16) = some ({ slot := 5, st := 32768, obj := { index := 8208, sub := 4 }, len := 2 } : WriteReq) ∧ (wWritesTakeEffectOrAreRefused [0, 1, 0]).hears ({ slot := 5, st := 32768, obj := { index := 8208, sub := 4 }, len := 2 } : WriteReq).slot = true ∧ ((wWritesTakeEffectOrAreRefused [0, 1, 0]).touch ({ slot := 5, st := 32768, obj := { index := 8208, sub := 4 }, len := 2 } : WriteReq).slot).admitWrite ({ slot := 5, st := 32768, obj := { index := 8208, sub := 4 }, len := 2 } : WriteReq).slot ({ slot := 5, st := 32768, obj := { index := 8208, sub := 4 }, len := 2 } : WriteReq).st ({ slot := 5, st := 32768, obj := { index := 8208, sub := 4 }, len := 2 } : WriteReq).obj.index ({ slot := 5, st := 32768, obj := { index := 8208, sub := 4 }, len := 2 } : WriteReq).obj.sub ({ slot := 5, st := 32768, obj := { index := 8208, sub := 4 }, len := 2 } : WriteReq).len = some Abort.unknownStation ∧ Abort.unknownStation ≠ Abort.denied ∧ Abort.unknownStation ≠ Abort.value) := by
  refine ⟨?_, ?_, ?_⟩ <;> decide +kernel
end Sys2Proof.Tests.C18b


namespace Sys2Proof.Tests

/-- The next state of an outcome, and the empty state where there is none. -/
def next (o : Out) : State := match o with | .next t => t | _ => {}

/-! ### Witnesses written by hand -/

/-- Some well-formed commands, and an ill-formed one of each check of `Instr.wf`. -/
theorem test_meets_WellFormedCommandsRun : (Instr.hiccupEntry 0 0 23).wf = true ∧ (Instr.insnSatu 0 3 2 0 16).wf = true ∧
    (Instr.sensorConversionRound 0 0 (List.replicate (sensorCount 0) 700) 700).wf = true := by decide +kernel
theorem test_wf_refuses_missing_units : (Instr.cycleLimit 0 16 16 true).wf = false ∧ (Instr.hiccupEntry 0 16 16).wf = false ∧
    (Instr.hiccupWindowClose 0 16 (some 16)).wf = false ∧ (Instr.onTimeEnd 8 4).wf = false ∧ (Instr.zeroCrossing 8 ⟨5, 0⟩).wf = false := by
  decide +kernel
theorem test_wf_refuses_wrong_lengths : (Instr.activitySnapshotReceive 0 0 [1] [] []).wf = false ∧
    (Instr.activitySnapshotReceive 0 0 (List.replicate 48 1) (List.replicate 8 ⟨0, [1, 2]⟩) []).wf = false ∧
    (Instr.clusterInputInstant 0 0 [1] [2] 900).wf = false ∧ (Instr.sensorConversionRound 0 0 [1] 700).wf = false := by decide +kernel
theorem test_wf_refuses_reserved_operands : (Instr.insnIn 0 3 0 0 0).wf = false ∧ (Instr.insnIn 0 3 0 60 5).wf = false ∧
    (Instr.insnOut 0 64 0 0).wf = false ∧ (Instr.insnLdv 0 3 16 0).wf = false ∧ (Instr.insnMvma 0 0 0 0).wf = false ∧
    (Instr.insnSatu 0 3 0 0 17).wf = false ∧ (Instr.insnRls 0 2 0 0 0).wf = false ∧ (Instr.insnSupv 0 4 0 0).wf = false ∧
    (Instr.insnMova 0 3 0 0).wf = false ∧ (Instr.insnVadd 0 3 0 0 20).wf = false := by decide +kernel
/-- `step` goes on from a state that meets the invariant, and takes the front of a queue. -/
theorem test_meets_EveryStepKeepsInv : up.Inv ∧ ∃ t, step up = .next t := ⟨⟨rfl, rfl, rfl⟩, _, rfl⟩
theorem test_meets_QueueIsFirstInFirstOut : ∃ t, step { up with pending := [.tapReset, .vbakLoss] } = .next t := ⟨_, rfl⟩
theorem test_meets_StepRunsTheFrontCommand : up.pending = [] := rfl
/-- An engine running the bank `b`, with the word `w` next in its program. -/
def onWordOf (e : EngId) (b : Bank) (w : Nat) : State := C06.engM e (fun r => { r with
  banks := [(0, some b)]
  images := [(0, some { C06.img with words := List.replicate b.pc 0xFC000000 ++ [w] })] }) (C06.runs0 e up)
def onWord (w : Nat) : State := onWordOf 0 (C06.bk 0) w
/-- A command of each reserved form is refused by name. -/
def refusal (o : Out) : Option Refusal := match o with | .refused r => some r | _ => none
theorem test_reserved_operand_is_refused : refusal (exec (.insnMvma 0 0 0 0) (onWord (insnWord 9 3 0 0 0))) = some .reservedOperand ∧
    refusal (exec (.hiccupEntry 0 16 16) up) = some .noSuchUnit := by decide +kernel
/-- It is, at each of the words given: the operand codes are V3, V5 (or line 6) and V1, of length 2. -/
def runsAt (ws : List Nat) : Bool := ws.all (fun w => decide ((onWord w).At 0 0 (C06.bk 0) w))
theorem test_meets_ElementwiseInstructions :
    runsAt [insnWord 0x0D 3 3 5 1, insnWord 0x0E 3 3 5 1, insnWord 0x0F 3 3 5 1, insnWord 0x10 3 3 5 1, insnWord 0x11 3 3 5 1,
      insnWord 0x12 3 3 5 1, insnWord 0x16 3 3 5 1, insnWord 0x17 3 3 5 1, insnWord 0x19 3 3 5 0] = true ∧
    isV (3 : Byte).toNat = true ∧ isV (5 : Byte).toNat = true ∧ isV (1 : Byte).toNat = true ∧ condBits (C06.bk 0) 1 = some 2 ∧
    (broadcast ((C06.bk 0).reg 5).vals ((C06.bk 0).reg 1).vals).isSome = true ∧
    (broadcast ((C06.bk 0).reg 5).vals ((C06.bk 0).reg 3).vals).isSome = true := by decide +kernel
/-- An engine that runs nothing is at no word. -/
theorem test_meets_ElementwiseInstructions_idle : ∀ c b w, ¬ up.At 0 c b w := by
  have h : (up.eng 0).running = none := by decide +kernel
  rintro c b w ⟨⟨h1, -⟩, -⟩
  rw [h] at h1
  cases h1
theorem test_meets_MoveInstructions :
    runsAt [insnWord 0 3 0 0 0, insnWord 1 3 3 2 1, insnWord 2 3 63 5 1, insnWord 2 3 63 0x14 1, insnWord 3 3 3 0 0, insnWord 4 3 9 5 0,
      insnWord 5 3 3 0 200, insnWord 6 3 3 5 0, insnWord 0x0A 3 3 0x10 0, insnWord 0x0B 3 3 5 1, insnWord 0x0C 3 3 5 1,
      insnWord 0x1B 3 3 5 1] = true ∧
    ((C06.bk 0).reg 5).m[1]? = some (-3) ∧ (loadVec ((onWord 0).eng 0).mem 0).isSome = true ∧ isAcc (0x10 : Byte).toNat = true ∧
    ((C06.bk 0).reg 5).m.length + ((C06.bk 0).reg 1).m.length ≤ 32 := by decide +kernel
theorem test_meets_ProductInstructions :
    runsAt [insnWord 8 3 3 6 1, insnWord 8 3 0x10 6 1, insnWord 9 3 0x10 6 1, insnWord 0x18 3 3 1 1, insnWord 0x13 3 3 1 0,
      insnWord 0x14 3 3 1 5, insnWord 0x15 3 3 1 16, insnWord 0x1A 1 4 1 3, insnWord 0x1A 0 4 1 3] = true ∧
    (loadMat ((onWord 0).eng 0).mem 6).any (fun m => m.cols == ((C06.bk 0).reg 1).m.length &&
      (mvma ((C06.bk 0).a.getD 0 {}) (mvm m ((C06.bk 0).reg 1))).isSome) = true ∧
    (loadRls ((onWord 0).eng 0).mem 4).isSome = true ∧ ((C06.bk 0).reg 5).vals.length = 2 := by decide +kernel
theorem two_vals {l : List Dy} (h : l.length = 2) : ∃ lo hi, l = [lo, hi] :=
  match l, h with | [lo, hi], _ => ⟨lo, hi, rfl⟩
/-- CLAMP with its two limits. -/
theorem test_meets_ProductInstructions_clamp : ∃ lo hi, ((C06.bk 0).reg 5).vals = [lo, hi] :=
  two_vals test_meets_ProductInstructions.2.2.2

/-- The end of an activation, of a class below 3 and of class 3. -/
def ended (e : EngId) (s : State) : State :=
  let r : EngRec := { s.eng e with banks := tblSet none (s.eng e).banks 0 none, done := (s.eng e).done ++ [⟨0, 0, []⟩] }
  s.putEng e { r with running := r.lowestBank }
theorem test_meets_ActivationsRunAndCommit_end :
    ((onWord 0xFF000000).At 0 0 (C06.bk 0) (insnWord 0x3F 3 0 0 0) ∧ (ended 0 (onWord 0xFF000000)).taskClass 0 0 ≠ 3) ∧
    (let s := (onWordOf 156 (C06.bk 0) 0xFF000000).wr (engSt 156) (taskObj O.CLASS 156 0) 3;
      s.At 156 0 (C06.bk 0) (insnWord 0x3F 3 0 0 0) ∧ (ended 156 s).taskClass 156 0 = 3) := by decide +kernel

/-- The input instant of a cluster with a full slot, running and holding. -/
theorem test_meets_InputInstantTakesTheSlot :
    let s := C05.lpp (fun x => { x with slot := some ⟨720, 1⟩ }) (ws [(.cluster 0 0, .running)] up)
    s.cstate 0 0 ∈ [.starting, .running, .derated] ∧ (s.loop 0 0).slot = some ⟨720, 1⟩ ∧
      (ws [(.cluster 0 0, .holding)] s).cstate 0 0 = .holding := by decide +kernel
/-- The output instant of a cluster that is on, late and in time, and of one that is off. -/
def atOut (s : State) : State := match (s.eng (s.loopEngine 0 0)).finished 0 with
  | some d => s.commit (s.loopEngine 0 0) d
  | none => s
theorem test_meets_OutputInstantLatchesTheCode :
    (let y := atOut (ws [(.cluster 0 0, .running)] up); (y.cstate 0 0).isOn = true ∧ (y.loop 0 0).committed = false) ∧
    (let y := atOut (C05.lpp (fun x => { x with committed := true, outCode := some 700 }) (ws [(.cluster 0 0, .running)] up));
      (y.cstate 0 0).isOn = true ∧ (y.loop 0 0).committed = true ∧ (y.loop 0 0).outCode = some 700) ∧
    ((atOut up).cstate 0 0).isOn = false ∧ ((atOut up).loop 0 0).activated = false := by decide +kernel

/-- The four clauses of the grants, at the counts where they meet. -/
theorem test_meets_MessagesAndOffsets_grants :
    (fun c : Nat => c == 0) 0 = true ∧
    ((fun c : Nat => c == 2) 0 = false ∧ (fun c : Nat => c == 2) 2 = true ∧ 7 ≤ (OutArb.mk 7 0).since2) ∧
    ((fun c : Nat => c == 3) 0 = false ∧ (fun c : Nat => c == 3) 2 = false ∧ (fun c : Nat => c == 3) 3 = true ∧ 30 ≤ (OutArb.mk 0 30).since3) ∧
    ((fun c : Nat => c == 1) 0 = false ∧ (fun c : Nat => c == 1) 1 = true ∧ (OutArb.mk 6 29).since2 < 7 ∧ (OutArb.mk 6 29).since3 < 30) := by
  decide
/-- A Wheel that is no group: the field Wheel that a stopping action covers. -/
theorem test_meets_StartAndStopGoToTheSequencer_action :
    let s := C02d.wStartAndStopGoToTheSequencer [3, 3, 1, 1]
    (s.Admitted 0 (WheelRef.field 0).station ((WheelRef.field 0).obj 3) 1 ∧ s.actionOn (.field 0) = true) ∧
      ∀ g : Fin 32768, WheelRef.field 0 ≠ .group g := by
  refine ⟨by decide +kernel, fun g h => ?_⟩
  cases h

/-- A trip that finds a phase, and one that finds none. -/
def tripGoes (s : State) : Prop := s.railSwitching 15 = true ∧ (s.rail 15).lead = true ∧ (s.rail 15).discharge = false ∧
  (∀ u, (s.rail 15).lastTrip = some u → u + s.rd hubSt (O.TBLANK.at 15) ≤ s.time hubSt) ∧ s.tripMet 15 0 = true
def tripRing (s : State) : Option Nat := ((s.putRail 15 { s.rail 15 with lastTrip := some (s.time hubSt) }).takeOutputs 15).nextRing 15
theorem test_meets_ModulatorDrivesThePhases_trip :
    (let s := C07.wModulatorDrivesThePhases [2, 4, 0, 2]; tripGoes s ∧ (tripRing s).isSome = true) ∧
    (let s := C07.wModulatorDrivesThePhases [2, 4, 8, 2]; tripGoes s ∧ tripRing s = none) := by
  simp only [tripGoes]
  decide +kernel
/-- A hold that settles without OVR. -/
theorem test_meets_ResultsAndSlices_result :
    let s := (C09.wResultsAndSlices [9, 1, 0, 0]).settleSwap 0 0
    (s.adc 0 0).flight ≠ [] ∧ (s.adc 0 0).failed = false ∧ (s.adc 0 0).closed = false ∧
      (settle { s.adc 0 0 with flight := (s.adc 0 0).flight.tail } ((s.adc 0 0).flight.headD C09.h0).slot false).1 = false := by decide +kernel
/-- A window read of an object of at most 8 bytes, and a claim and a binding that are accepted. -/
theorem test_meets_TransportsCarrySessions_read :
    let s := C17.wTransportsCarrySessions [2, 3, 1, 0, 0, 0]
    let a : DictAddr := ⟨0, 0x1110, 7⟩
    s.hears (chanSlot 0) = true ∧ (match ((s.putChannel 0 { s.channel 0 with dictAddr := a }).touch (chanSlot 0)).readObj (chanSlot 0) a with
      | .ok v => decide (v.length ≤ 8) | .error _ => false) = true := by decide +kernel
/-- Fields of a claim of partition 0: weight 1, 5 to 9 mW, tiles 0 and 1. -/
def claim : List Byte := leBytes 2 0 ++ leBytes 2 1 ++ leBytes 4 5 ++ leBytes 4 9 ++ leBytes 4 0 ++ leBytes 16 3
theorem test_meets_TransportsCarrySessions_go :
    let s := (C17.wTransportsCarrySessions [2, 3, 1, 0, 0, 0]).wr hubSt O.PART_BUDGET 100000
    let k := chanSlot 0
    let u := s.putChannel 0 { s.channel 0 with partDesc := stage32 claim }
    let x := (s.putPart 0 (some { weight := 1, pmin := 5, pmax := 9, mask := 3 })).putChannel 0 { s.channel 0 with bindData := stage32 (List.replicate 32 255) }
    (s.hears k = true ∧ u.Admitted k hubSt O.PART_CLAIM 32 ∧ (effPartClaim k (stage32 claim) (u.touch k)).isOk = true) ∧
      x.Admitted k hubSt (partObj 0x2A40 0) 32 ∧ (effBind 0 (stage32 (List.replicate 32 255)) (x.touch k)).isOk = true := by
  decide +kernel
/-- A write that each check refuses. -/
theorem test_meets_WritesTakeEffectOrAreRefused_refused :
    (up.touch 0).admitValue 0 0x7777 1 1 [1] = some .unknownStation ∧
    (up.touch 0).admitExpedited 0 0 0x7777 1 [1] = some .unknownObject := by decide +kernel
/-- A request of each of the six forms. -/
theorem test_meets_SequencerRequestsAndWaits_six :
    up.Admitted 0 hubSt O.SEQ_REQ 4 ∧ (Instr.dieOn 0, SeqTarget.die, true) ∈ [(Instr.dieOn 0, SeqTarget.die, true), (.dieOff 0, .die, false)] := by
  decide +kernel
/-- An auxiliary rail whose Wheel stops while its rail does not switch. -/
theorem test_meets_SequencerRequestsAndWaits_aux :
    (ws [(.domain (fieldDomain 0 7), .stopping)] up).dstate (fieldDomain 0 7) = .stopping ∧
      (ws [(.domain (fieldDomain 0 7), .stopping)] up).railSwitching (axRail 0) = false := by decide +kernel
/-- VSET of an auxiliary domain. -/
theorem test_meets_SetpointsAreCheckedAndSpread_aux : up.Admitted 0 hubSt (O.VSET.at 56) 2 ∧ up.takes (.domain 56) 900 = true ∧
    isAux 56 = true := by decide +kernel
/-- A SEG_WRITE_INIT that the buffers cannot hold, and a SEG_END whose write is admitted. -/
theorem test_meets_SessionsReadAndTransfer_buffers :
    let a : DictAddr := ⟨0, 0x1510, 2⟩
    let o : DictAddr := ⟨0, 0x1110, 7⟩
    let full := [1, 2, 3, 4, 6, 7, 8, 9, 10].foldl (fun s k => s.putSession k { s.session k with isOpen := true, xfer := some (.write a 65536 []) }) up
    let x := up.putSession 0 { up.session 0 with xfer := some (.write o 4 [100, 0, 0, 0]) }
    (full.hears 0 = true ∧ (full.session 0).xfer = none ∧ (full.touch 0).admitInit 0 0 0x1510 2 65536 = none ∧
      lengthOk 0 0x1510 2 65536 = true ∧ (full.touch 0).bufBytes (bufHolder 0) < (full.touch 0).bufUsed (bufHolder 0) + 65536) ∧
      (x.hears 0 = true ∧ x.xferGone 0 o = none ∧ ((x.touch 0).setXfer 0 none).admitValue 0 0 0x1110 7 [100, 0, 0, 0] = none) := by
  decide +kernel

/-! ### No free handle: the banks past the first are away, and the first is away or full -/

theorem no_handle (s : State) (hb : ∀ b : Fin 16, b.val = 0 ∧ s.usedHandles = List.range 256 ∨ s.bankState hubSt (4 + b.val) = 2) :
    (List.range 4095).find? (fun h => !s.usedHandles.contains h && s.handleUsable h && s.bankState hubSt (entryBank h) == 0) = none := by
  rw [List.find?_eq_none]
  intro h hm
  have hh := List.mem_range.1 hm
  rcases hb ⟨h / 256, by omega⟩ with ⟨h0, hu⟩ | h2
  · have : h < 256 := by simp only at h0; omega
    simp [hu, this]
  · simp only at h2
    simp [entryBank, h2]
def away : State := (List.range 16).foldl (fun s k => s.wr hubSt (O.BANK_STATE.at (k + 4)) 2) up
def fullMem (h : Nat) : Byte := if h = 0 then 0xC0 else 0x40
def fullCells : List Host.Cell := (List.range 256).map (fun h => (0x20033 + 128 * h, fullMem h))
def fullOf (s : State) (n : Nat) : State := { s with mem := fullCells, ledger := { s.ledger with count := n } }
theorem fullOf_mem (s : State) (n : Nat) : (fullOf s n).mem = fullCells := rfl
def full (n : Nat) : State := fullOf ((List.range 15).foldl (fun s k => s.wr hubSt (O.BANK_STATE.at (k + 5)) 2) up) n
theorem full_mem (n : Nat) : (full n).mem = (List.range 256).map (fun h => (0x20033 + 128 * h, fullMem h)) := fullOf_mem _ n
theorem test_meets_JobsOpenAndClose_none : (away.Admitted 0 hubSt O.JOB_OPEN 8 ∧ away.findJob 7 = none ∧ 7 ∉ away.ledger.overflow ∧
    away.oldestClosed = none) ∧ ∀ b : Fin 16, away.bankState hubSt (4 + b.val) = 2 := by decide +kernel
theorem tblFind_append {α : Type} (x y : Tbl α) (k : Nat) : tblFind (x ++ y) k = (tblFind x k).or (tblFind y k) := by
  induction x with
  | nil => rfl
  | cons p r ih =>
    obtain ⟨j, a⟩ := p
    simp only [List.cons_append, tblFind, ih]
    split <;> simp
/-- The bytes of a scratchpad that lists one byte in every 128. -/
theorem tblFind_strided (n c : Nat) (g : Nat → Byte) (k : Nat) : tblFind ((List.range n).map (fun h => (c + 128 * h, g h))) k =
    if c ≤ k ∧ (k - c) % 128 = 0 ∧ (k - c) / 128 < n then some (g ((k - c) / 128)) else none := by
  induction n with
  | zero => simp [tblFind_nil]
  | succ n ih =>
    rw [List.range_succ, List.map_append, tblFind_append, ih]
    simp only [List.map_cons, List.map_nil, tblFind]
    by_cases h1 : c ≤ k ∧ (k - c) % 128 = 0 ∧ (k - c) / 128 < n
    · have h2 : c ≤ k ∧ (k - c) % 128 = 0 ∧ (k - c) / 128 < n + 1 := ⟨h1.1, h1.2.1, by omega⟩
      simp only [h1, h2, and_self, if_true, Option.some_or]
    · rw [if_neg h1, Option.none_or]
      by_cases h : c + 128 * n = k
      · have h3 : (k - c) / 128 = n := by omega
        have h2 : c ≤ k ∧ (k - c) % 128 = 0 ∧ (k - c) / 128 < n + 1 := ⟨by omega, by omega, by omega⟩
        rw [if_pos h, if_pos h2, h3]
      · have h2 : ¬ (c ≤ k ∧ (k - c) % 128 = 0 ∧ (k - c) / 128 < n + 1) := by omega
        rw [if_neg h, if_neg h2]
theorem full_pad (n a : Nat) : (full n).pad hubSt a =
    if 0x20033 ≤ a ∧ (a - 0x20033) % 128 = 0 ∧ (a - 0x20033) / 128 < 256 then (fullMem ((a - 0x20033) / 128)).toNat else 0 := by
  have h : padKey hubSt a = a := by simp only [padKey, hubSt, if_true, Nat.zero_mul, Nat.zero_add]
  rw [State.pad, tblGet, h, full_mem, tblFind_strided]
  split
  · rw [Option.getD_some]
  · rw [Option.getD_none]
    rfl
theorem full_id (n h : Nat) : (full n).entry h 0 8 = 0 := by
  have hp : ∀ i, i < 8 → (full n).pad hubSt (0x20000 + h * 128 + i) = 0 := fun i hi => by
    rw [full_pad, if_neg (by omega)]
  have h0 := hp 0
  simp only [Nat.add_zero] at h0
  simp [State.entry, State.padNat, entryAddr, h0, hp 1, hp 2, hp 3, hp 4, hp 5, hp 6, hp 7]
theorem full_state (n h : Nat) (hh : h < 256) : (full n).entryState h = if h = 0 then 3 else 1 := by
  have hp : ∀ i, i < 51 → (full n).pad hubSt (0x20000 + h * 128 + i) = 0 := fun i hi => by
    rw [full_pad, if_neg (by omega)]
  have h3 : (full n).pad hubSt (0x20000 + h * 128 + 51) = (fullMem h).toNat := by
    have e : (0x20000 + h * 128 + 51 - 0x20033) / 128 = h := by omega
    rw [full_pad, e, if_pos ⟨by omega, by omega, hh⟩]
  simp [State.entryState, State.entry, State.padNat, entryAddr, hp 48, hp 49, hp 50, h3, fullMem]
  split <;> rfl
theorem full_used (n : Nat) : (full n).usedHandles = List.range 256 := by
  rw [State.usedHandles, full_mem]
  decide +kernel
theorem full_oldest : List.foldl (fun a h => match a with
      | none => some h
      | some b => if (full 0).entry h 0x28 8 < (full 0).entry b 0x28 8 then some h else some b) none ((List.range 256).filter (· == 0)) =
    some 0 := by
  have h : (List.range 256).filter (· == 0) = [0] := by decide
  rw [h]
  rfl
theorem test_meets_JobsOpenAndClose_evict : (full 0).Admitted 0 hubSt O.JOB_OPEN 8 ∧ (full 0).ledger.count < 512 ∧
    (full 512).Admitted 0 hubSt O.JOB_OPEN 8 ∧ 512 ≤ (full 512).ledger.count ∧ (full 0).handleUsable 0 = true ∧
    ∀ b : Fin 16, b.val = 0 ∧ (full 0).bankState hubSt 4 = 0 ∨ (full 0).bankState hubSt (4 + b.val) = 2 := by decide +kernel
theorem full_bank (n h : Nat) : (full n).handleUsable h = (full 0).handleUsable h ∧ (full n).bankState = (full 0).bankState := ⟨rfl, rfl⟩
theorem test_meets_JobsOpenAndClose_full (n : Nat) : (full n).findJob 7 = none ∧ (full n).oldestClosed = some 0 := by
  refine ⟨?_, ?_⟩
  · rw [State.findJob, List.find?_eq_none]
    intro h _
    simp [full_id]
  · have h : ∀ k ∈ List.range 256, ((full n).entryState k == 3 && (full n).handleUsable k && (full n).bankState hubSt (entryBank k) == 0) =
        (k == 0) := by
      intro k hk
      rw [full_state n k (List.mem_range.1 hk), (full_bank n k).1, (full_bank n k).2]
      by_cases h0 : k = 0
      · subst h0
        decide +kernel
      · simp [h0]
    rw [State.oldestClosed, full_used, List.filter_congr h]
    exact full_oldest

/-! ### Checked blocks: their CRC-32 in pieces, which keeps each kernel evaluation small -/

/-- Each piece takes the CRC register from the value before it to its own. -/
def crcRuns : Nat → List (List Nat × Nat) → Bool
  | _, [] => true
  | c, p :: r => p.1.foldl crcByte c == p.2 && crcRuns p.2 r
/-- The CRC register after all pieces is the last value. -/
theorem crc_runs : ∀ (ps : List (List Nat × Nat)) (c : Nat), crcRuns c ps = true →
    (ps.flatMap Prod.fst).foldl crcByte c = (ps.map Prod.snd).getLastD c
  | [], _, _ => rfl
  | p :: r, c, h => by
    simp only [crcRuns, Bool.and_eq_true, beq_iff_eq] at h
    rw [List.flatMap_cons, List.foldl_append, h.1, crc_runs r _ h.2]
    simp only [List.map_cons, List.getLastD_cons]
/-- A list in pieces of `n`, with the register's value after each. -/
def pieces (n : Nat) (l : List Nat) (vs : List Nat) : List (List Nat × Nat) :=
  vs.zipIdx.map (fun v => ((l.drop (n * v.2)).take n, v.1))

def descRuns : List (List Nat × Nat) := pieces 42 C10.descL [2601920124, 1162937006, 4060817865, 475871162, 2038561535, 1402251571]
theorem crc_desc : crc32 ((C10.desc.take 0xFC).map BitVec.toNat) = 2892715724 := by
  have h : (C10.desc.take 0xFC).map BitVec.toNat = descRuns.flatMap Prod.fst := by decide +kernel
  rw [crc32, h, crc_runs descRuns _ (by decide +kernel)]
  decide +kernel
/-- A descriptor that passes its checks, and one whose format field is wrong. -/
theorem test_meets_ActivityAndLearning_desc : (up.Admitted 0 (fSt 0) (O.DESC.at 0) C10.desc.length ∧ C10.desc.length = 256 ∧
    descOk C10.desc = true) ∧ (C10.desc.set 4 5).length = 256 ∧ descOk (C10.desc.set 4 5) = false := by
  have h : (descNat (C10.desc.set 4 5) 4 2 == 1) = false := by decide +kernel
  refine ⟨⟨by decide +kernel, by decide +kernel, ?_⟩, by decide +kernel, ?_⟩
  · rw [descOk, crc_desc]; decide +kernel
  · simp only [descOk, h, Bool.and_false, Bool.false_and]
/-- The restart of learning where every tile has its image's descriptor. -/
theorem test_meets_ActivityAndLearning_restart : ∀ k : TileId, (C10.withDesc up).descFor 0 (estGroup k) = some C10.desc := by decide +kernel

def paramRuns : List (List Nat × Nat) := pieces 40 C09b.goodP [1492651403, 3281912083, 1053516738, 1246409483, 2924147214, 2644738012,
  3752538728, 3688993743, 2254521311, 1799450698, 2180311541, 362708943, 646235478, 1709716015, 328092871, 3670484165, 3325318216,
  492876940, 3358717045, 1098585442, 3646218632, 2323529731]
theorem crc_params : crc32 ((C09b.gp.take 0x358).map BitVec.toNat) = 1971437564 := by
  have h : (C09b.gp.take 0x358).map BitVec.toNat = paramRuns.flatMap Prod.fst := by decide +kernel
  rw [crc32, h, crc_runs paramRuns _ (by decide +kernel)]
  decide +kernel
/-- A block of thermal parameters that passes its checks, and one of another version. -/
theorem test_meets_ThermalUnitRuns_params : (up.Admitted 0 (fSt 0) O.PARAMS C09b.gp.length ∧ C09b.gp.length = 860 ∧
    paramsOk C09b.gp = true) ∧ (C09b.gp.set 0 2).length = 860 ∧ paramsOk (C09b.gp.set 0 2) = false := by
  have h : (descNat (C09b.gp.set 0 2) 0 1 == 1) = false := by decide +kernel
  refine ⟨⟨by decide +kernel, by decide +kernel, ?_⟩, by decide +kernel, ?_⟩
  · rw [paramsOk, crc_params]; decide +kernel
  · simp only [paramsOk, h, Bool.and_false, Bool.false_and]


/-! ### The default image of order 5 (R458) -/

/-- A matrix and a vector of zeros as stored (R130), filled to whole lines. -/
def mat (r c : Nat) : List Nat := let n := 4 + 2*r*c; [0, r, c, 0] ++ List.replicate ((n+15)/16*16 - 4) 0
def vec (n : Nat) : List Nat := [0, n] ++ List.replicate ((2+2*n+15)/16*16 - 2) 0
/-- R458: the program and the shapes of the constants of the default image of order 5. -/
def orderFive : Image where
  kind := 1
  order := 5
  cbase := 0
  wbase := 0xE0
  wlines := 2
  flags := 1
  xline0 := 0xE0
  xline1 := 0xE1
  regfmt := List.replicate 16 0
  ps := []
  xscale := []
  words := [0x07000002, 0x07010203, 0x0F02E000, 0x0F03E100, 0x2F040201, 0x23100004, 0x27100400, 0x2B051000, 0x23110600,
    0x2B061100, 0x5B050602, 0x33070101, 0x33080500, 0x3B080708, 0x37090308, 0x070E0D01, 0x2F0A0507, 0x2F0A0A0E,
    0x2312080A, 0x2B061200, 0x5B090602, 0x2F0A0509, 0x2F0A0A07, 0x2313090A, 0x2B0B1300, 0x070C0501, 0x630C0C0A,
    0x3F0B0B0C, 0x070E0C01, 0x5B0B0E00, 0x070D0703, 0x0F0C1300, 0x3F0D0D0C, 0x070E0601, 0x370D0E0D, 0x070E0B01,
    0x5F0D0E01, 0x2F0B0B0D, 0x070E0A02, 0x530B0B0E, 0x4F0F0B00, 0x5F090308, 0x5B090602, 0x33080000, 0x3B080708,
    0x070E0E01, 0x6F01080E, 0x0B000F00, 0x0B011400, 0x13E00500, 0x13E10900, 0xFF000000]
  consts := mat 4 7 ++ mat 4 2 ++ mat 4 2 ++ mat 1 6 ++ mat 1 6 ++ List.replicate 144 0 ++ vec 3
  init := []
  id := 0
  ttab := 0
  bytes := []
/-- Its table time is 49.2 ns, and its text fixes every length. -/
theorem test_default_image : orderFive.scan.time = 492 ∧ orderFive.scan.badLen = false := by decide +kernel

/-! ### Examples worked in the spec -/

/-- R41: F0.C16 is 0x01100000, D22 is 0x00002016, MR F3.C07.M12 is 0x0167100C. R8: F3.C07 is station 0x0167. -/
theorem test_wheel_words : wheelWord (.cluster 0 16) = 0x01100000 ∧ wheelWord (.domain 22) = 0x00002016 ∧
    wheelWord (.mr 3 7 12) = 0x0167100C ∧ clSt 3 7 = 0x0167 ∧ gid 3 7 = 64 := by decide +kernel
/-- Chapter 01: D22 after three MRs of F3.C07 are retired; chapter 10: ITHERM of that cluster at T_J 6,880. -/
def hot : State :=
  (([0, 1, 2] : List MrId).foldl (fun s m => s.putMr 3 7 m { s.mr 3 7 m with cell := .retired, cause := 3 }) up).wrS (fSt 3) (O.T_J.at 7) 6880
theorem test_retired_capacity : hot.domActiveMr 22 = 93 ∧ hot.domCapCont 22 = 651000 ∧ hot.domCapPeak 22 = 930000 ∧
    hot.nodeItherm 3 7 = 73500 := by decide +kernel
/-- Chapter 02: the offset exchange of station 0x0167. -/
theorem test_offset_exchange : (next (exec (.offsetExchange (.cluster 3 7) 5000000000 4987650410 4987650930 5000001300) up)).net.offset =
    some ⟨0x0167, -12349980, 390⟩ := by decide +kernel
/-- Chapter 05: VADD of [75.0, -2.1875] and [3] into BM12 at e = -6 saturates; NORM of [78.0, 0.8125] is exact at e = -4. -/
def bankOf (a : Block) : Bank := { task := 0, v := [a, ⟨0, 0, [3]⟩, ⟨1, -6, []⟩] ++ List.replicate 13 {}, a := [] }
def engineOf (a : Block) (w : Nat) : State := onWordOf 0 (bankOf a) w
theorem test_vadd_example : (((next (exec (.insnVadd 0 3 2 0 1) (engineOf ⟨0, -4, [1200, -35]⟩ (insnWord 0x0D 3 2 0 1)))).eng 0).bank 0).map
    (fun b => (b.reg 2, b.satNow)) = some (⟨1, -6, [2047, 52]⟩, true) := by decide +kernel
theorem test_norm_example : (((next (exec (.insnNorm 0 3 2 0) (engineOf ⟨0, -4, [1248, 13]⟩ (insnWord 6 3 2 0 0)))).eng 0).bank 0).map
    (fun b => (b.reg 2, b.satNow)) = some (⟨1, -4, [1248, 13]⟩, false) := by decide +kernel
/-- Chapter 06: T_ON of FR3 at 1,800 mV is 576.00 ns, and 587.50 ns with TRIM 20, in units of 250 ps. -/
def rail3 : State := (((up.wr hubSt (O.V_IB.at 3) 6250).wr hubSt (O.TON_K.at 3) 2000).wr hubSt (O.RAIL_STATE.at 3) 2).putRail 3
  { up.rail 3 with refFrom := 1800 }
theorem test_on_times : rail3.onTime 3 0 = 2304 ∧ (rail3.putPhase 3 16 { rail3.phase 3 16 with trim := 20 }).onTime 3 16 = 2350 := by
  decide +kernel
/-- Chapter 10: a diode code of 2,420 is 6,717 in 1/64 °C. -/
theorem test_diode_code : diodeTemp 0 2420 = 6717 := by decide +kernel
/-- Chapter 12: BOOT_STATUS after the fallback of the worked example. -/
theorem test_boot_status : bootWord { stage := 4, src := 1, bank := 1, fallback := true, err := 5 } = 0x8E050000 := by decide +kernel
/-- Chapter 15: a SETPOINT write of 720 mV to F3.C07 over I3C: the pending slot and the response packet, without its PEC. -/
def overI3c : State := ((((up.wr hubSt O.I3C_DADDR 9).wr hubSt O.CLK_GOOD 63).wr hubSt (eidObj 0) 0x21)).putWheel (.cluster 3 7)
  { up.wheel (.cluster 3 7) with state := .running }
def setpointPacket : List Byte := [0x01, 0x21, 0x08, 0xC8, 0x7F, 0x00, 0x17, 0xF3, 0xA9, 0x01, 0x02, 0x05, 0x00, 0x67, 0x01, 0x10, 0x20,
  0x04, 0x00, 0x00, 0x00, 0x02, 0x00, 0x00, 0x00, 0xD0, 0x02]
theorem test_setpoint_over_mctp :
    let t := next (exec (.mctpPacket 0 (setpointPacket ++ [overI3c.pec 0 setpointPacket])) overI3c)
    (t.loop 3 7).slot.map SetWrite.value = some 720 ∧ (t.binding 0).out.map List.dropLast = [[0x01, 0x08, 0x21, 0xC0, 0x7F, 0x00, 0x17,
      0xF3, 0xA9, 0x01, 0x02, 0x05, 0x00, 0x67, 0x01, 0x10, 0x20, 0x04, 0x01, 0, 0, 0, 0, 0, 0]] := by decide +kernel
/-- Chapter 15: the same write through window channel 0 with HOST_WRITE 0 reads DICT_STATUS 0x3200000B and raises PHO_DENIED. -/
theorem test_window_write_denied :
    let t := next (exec (.windowDictWrite 0 ⟨0x0167, 0x2010, 4⟩ 2 0x2D0) (next (exec .pcieCrossingUp (up.wr hubSt O.CLK_GOOD 63))))
    (t.channel 0).dictStatus = 0x3200000B ∧ t.flt.outbox.map (fun m => m.id.code) = [F.PHO_DENIED] := by decide +kernel
/-- Chapter 16: with ACTIVE_SVN 7, IMG_CTRL 7 raises the count of fuses from 5 to 7. -/
theorem test_rollback_commit : (next (exec (.rollbackCommit 0 true) (((up.wr hubSt O.CONFIRMED 1).wr hubSt O.ACTIVE_SVN 7).wr hubSt
    O.ROLLBACK_CTR 5))).rd hubSt O.ROLLBACK_CTR = 7 := by decide +kernel
/-- R337: a turn-on asked for while the sequencer is not armed reads back as code 1, operation 1, phase 5. -/
theorem test_unarmed_turn_on : ((next (exec (.domainOn 0 8) up)).session 0).seqResult = 0x11500008 := by decide +kernel
/-- R402, R403: a read of a constant object answers its bytes. -/
theorem test_read_answers : ((next (exec (.read 0 ⟨0, 0x1110, 7⟩) up)).session 0).resp = { op := 1, param := 4, data := [100, 0, 0, 0] } := by
  decide +kernel
/-- A loop whose code spans fewer than 8 codes meets the premise of the last clause of LostFeedbackHolds. -/
theorem test_meets_LostFeedbackHolds_b : spans8 ((up.loop 0 0).samples.map Sample.code) = false := by decide +kernel
/-- `decodeTableWord` spells no command: the table gives its rows no bits. -/
theorem test_no_word_spells_a_command : decodeTableWord 32 0 = none ∧ up.withFetchWord 32 7 = up := by decide +kernel

end Sys2Proof.Tests

end
end

/-!
PROOFS. Lost feedback (R105-R107, R109): what a change of STATE, the judgements of R454, the end of a target and a raised fault leave of
the Wheel table and of the loops, and from these what HOLDING keeps of its cause and of the state before it.
-/
namespace Sys2Proof.Machine
open Sys2Proof

/-- What every step of a fold keeps, the fold keeps. -/
theorem foldl_keeps {σ β γ : Type} (get : σ → γ) {g : σ → β → σ} (hg : ∀ s x, get (g s x) = get s) (l : List β) (s : σ) :
    get (l.foldl g s) = get s := by
  induction l generalizing s with
  | nil => rfl
  | cons x xs ih => exact (ih (g s x)).trans (hg s x)

theorem wheel_congr {s t : State} (h : t.wheels = s.wheels) (w : WheelRef) : t.wheel w = s.wheel w := by
  simp only [State.wheel, h]

theorem loop_congr {s t : State} (h : t.loops = s.loops) (f : FieldId) (c : ClusterId) : t.loop f c = s.loop f c := by
  simp only [State.loop, h]

theorem wheel_putWheel_ne (s : State) {w v : WheelRef} (r : WheelRec) (h : v.key ≠ w.key) : (s.putWheel w r).wheel v = s.wheel v :=
  tblGet_set_ne _ _ _ _ h

theorem loop_putWheel (s : State) (w : WheelRef) (r : WheelRec) (f : FieldId) (c : ClusterId) : (s.putWheel w r).loop f c = s.loop f c := rfl

/-! ### Keys of the Wheel table -/

theorem key_cluster_lt (f : FieldId) (c : ClusterId) : (WheelRef.cluster f c).key < 0x1000 := by
  simp only [WheelRef.key, gid]
  omega

theorem key_cluster_ne_domain (f : FieldId) (c : ClusterId) (d : DomId) : (WheelRef.cluster f c).key ≠ (WheelRef.domain d).key :=
  ((key_cluster_lt f c).trans_le (Nat.le_add_right _ _)).ne

theorem key_cluster_ne_field (f g : FieldId) (c : ClusterId) : (WheelRef.cluster f c).key ≠ (WheelRef.field g).key :=
  ((key_cluster_lt f c).trans_le (Nat.le_add_right_of_le (by decide))).ne

theorem key_cluster_ne_die (f : FieldId) (c : ClusterId) : (WheelRef.cluster f c).key ≠ WheelRef.die.key :=
  ((key_cluster_lt f c).trans_le (by decide)).ne

/-! ### A change of STATE -/

@[simp] theorem restamp_wheels (s old : State) (l : List WheelRef) : (s.restamp old l).wheels = s.wheels :=
  foldl_keeps State.wheels (fun t w => by split <;> simp) _ s

@[simp] theorem restamp_loops (s old : State) (l : List WheelRef) : (s.restamp old l).loops = s.loops :=
  foldl_keeps State.loops (fun t w => by split <;> simp) _ s

/-- The open sensor window of a cluster stands in its cells' record alone. -/
@[simp] theorem spoilWindow_fields (s : State) (w : WheelRef) (st : WState) :
    (s.spoilWindow w st).wheels = s.wheels ∧ (s.spoilWindow w st).loops = s.loops := by
  cases w with
  | cluster f c => by_cases h : st.judges <;> simp [State.spoilWindow, h]
  | _ => exact ⟨rfl, rfl⟩

/-- The figures of a tile are objects. -/
@[simp] theorem leaveLive_fields (s : State) (w : WheelRef) (st : WState) :
    (s.leaveLive w st).wheels = s.wheels ∧ (s.leaveLive w st).loops = s.loops := by
  cases w with
  | cluster f c => by_cases h : st.isLive ∨ isCompute c = false <;> simp [State.leaveLive, h]
  | _ => exact ⟨rfl, rfl⟩

/-- A change of STATE stores the new state in the Wheel's record and leaves the rest of the Wheel table. -/
theorem setWState_wheels (s : State) {w : WheelRef} {st : WState} (h : s.wstate w ≠ st) :
    (s.setWState w st).wheels = (s.putWheel w { s.wheel w with state := st }).wheels := by
  simp [State.setWState, h]

@[simp] theorem setWState_loops (s : State) (w : WheelRef) (st : WState) : (s.setWState w st).loops = s.loops := by
  by_cases h : s.wstate w = st <;> simp [State.setWState, h]

@[simp] theorem wheel_setWState_same (s : State) (w : WheelRef) (st : WState) :
    (s.setWState w st).wheel w = { s.wheel w with state := st } := by
  by_cases h : s.wstate w = st
  · subst h
    simp [State.setWState, State.wstate]
  · rw [wheel_congr (setWState_wheels s h), wheel_putWheel_same]

theorem wheel_setWState_ne (s : State) {w v : WheelRef} (st : WState) (hv : v.key ≠ w.key) : (s.setWState w st).wheel v = s.wheel v := by
  by_cases h : s.wstate w = st
  · simp [State.setWState, h]
  · rw [wheel_congr (setWState_wheels s h), wheel_putWheel_ne s _ hv]

/-! ### The judgements of R37 and R454 -/

/-- A judgement that acts is a change of the judged Wheel's STATE. -/
theorem judge_cases (s : State) (w : WheelRef) (b : Bool) : s.judge w b = s ∨ ∃ st, s.judge w b = s.setWState w st := by
  unfold State.judge
  split
  · cases b
    · exact .inl rfl
    · exact .inr ⟨_, rfl⟩
  · cases b
    · exact .inr ⟨_, rfl⟩
    · exact .inl rfl
  · exact .inl rfl

/-- Only RUNNING and DERATED are judged. -/
theorem judge_of_not_isUp (s : State) {w : WheelRef} (b : Bool) (h : (s.wstate w).isUp = false) : s.judge w b = s := by
  unfold State.judge
  split
  · simp_all [WState.isUp]
  · simp_all [WState.isUp]
  · rfl

@[simp] theorem judge_loops (s : State) (w : WheelRef) (b : Bool) : (s.judge w b).loops = s.loops := by
  obtain h | ⟨st, h⟩ := judge_cases s w b <;> simp [h]

theorem wheel_judge_ne (s : State) {w v : WheelRef} (b : Bool) (hv : v.key ≠ w.key) : (s.judge w b).wheel v = s.wheel v := by
  obtain h | ⟨st, h⟩ := judge_cases s w b
  · rw [h]
  · rw [h, wheel_setWState_ne s st hv]

theorem wheel_judgeField (s : State) (f g : FieldId) (c : ClusterId) : (s.judgeField g).wheel (.cluster f c) = s.wheel (.cluster f c) := by
  rw [State.judgeField, State.judgeDie, wheel_judge_ne _ _ (key_cluster_ne_die f c), wheel_judge_ne _ _ (key_cluster_ne_field f g c)]

@[simp] theorem judgeField_loops (s : State) (f : FieldId) : (s.judgeField f).loops = s.loops := by
  simp [State.judgeField, State.judgeDie]

@[simp] theorem judgeCluster_loops (s : State) (f : FieldId) (c : ClusterId) : (s.judgeCluster f c).loops = s.loops := by
  rw [State.judgeCluster, judgeField_loops]
  split
  · simp
  · rw [foldl_keeps State.loops (fun t k => judge_loops t _ _), judge_loops]

/-- Of a cluster neither RUNNING nor DERATED, the judgements that follow a change there leave the Wheel as it is. -/
theorem wheel_judgeCluster_of_not_isUp (s : State) {f : FieldId} {c : ClusterId} (h : (s.cstate f c).isUp = false) :
    (s.judgeCluster f c).wheel (.cluster f c) = s.wheel (.cluster f c) := by
  have hdom (t : State) (d : DomId) (b : Bool) : (t.judge (.domain d) b).wheel (.cluster f c) = t.wheel (.cluster f c) :=
    wheel_judge_ne t b (key_cluster_ne_domain f c d)
  rw [State.judgeCluster, judge_of_not_isUp s _ h, wheel_judgeField]
  split
  · exact hdom s _ _
  · exact foldl_keeps (fun t : State => t.wheel (.cluster f c)) (fun t k => hdom t _ _) _ s

/-! ### The end of a target, and a fault of group 0x04 -/

/-- A target's end is an object, the sessions' notes and the loop's record. -/
@[simp] theorem endTarget_wheels (s : State) (f : FieldId) (c : ClusterId) (o : Nat) (extra : List Nat) :
    (s.endTarget f c o extra).wheels = s.wheels := by
  by_cases h : (s.loop f c).open_
  · simp only [State.endTarget, h, if_true, putLoop_fields]
    refine (foldl_keeps State.wheels (fun t k => ?_) _ _).trans (by simp)
    split <;> simp
  · simp [State.endTarget, h]

/-- A target's end keeps the reason for HOLDING. -/
@[simp] theorem loss_endTarget (s : State) (f : FieldId) (c : ClusterId) (o : Nat) (extra : List Nat) :
    ((s.endTarget f c o extra).loop f c).loss = (s.loop f c).loss := by
  by_cases h : (s.loop f c).open_ <;> simp [State.endTarget, h]

@[simp] theorem raiseLoop_wheels (s : State) (code : Nat) (f : FieldId) (c : ClusterId) : (s.raiseLoop code f c).wheels = s.wheels := by
  simp [State.raiseLoop]

@[simp] theorem raiseLoop_loops (s : State) (code : Nat) (f : FieldId) (c : ClusterId) : (s.raiseLoop code f c).loops = s.loops := by
  simp [State.raiseLoop]

/-! ### Lost feedback (R109) -/

/-- The code raised for lost feedback of a cause (R109). -/
def lossFault (cause : Nat) : Nat := if cause = 1 then F.CL_FB_FROZEN else F.CL_FB_LOST

/-- The loop's record as its feedback is lost at a count (R109). -/
def LoopRec.held (x : LoopRec) (cause now : Nat) : LoopRec :=
  { x with holdMean := holdMeanOf x.codes, loss := cause, goodRun := 0, holdAt := now
           heldWriters := if x.open_ then x.writers else [] }

/-- A cluster on its way to HOLDING: the cause is in its loop's record, its target has ended, and its Wheel keeps the state before. -/
def State.keepLoss (s : State) (f : FieldId) (c : ClusterId) (cause : Nat) : State :=
  let t := (s.putLoop f c ((s.loop f c).held cause (s.time (clSt f c)))).endTarget f c 3 []
  t.putWheel (.cluster f c) { t.wheel (.cluster f c) with prior := s.cstate f c }

/-- HOLDING is entered, counted and reported. -/
def State.enterHolding (s : State) (f : FieldId) (c : ClusterId) (cause : Nat) : State :=
  ((s.setWState (.cluster f c) .holding).inc32 (clSt f c) O.HOLD_COUNT).raiseLoop (lossFault cause) f c

theorem loss_keepLoss (s : State) (f : FieldId) (c : ClusterId) (cause : Nat) : ((s.keepLoss f c cause).loop f c).loss = cause := by
  rw [State.keepLoss, loop_putWheel, loss_endTarget, loop_putLoop_same, LoopRec.held]

theorem wheel_keepLoss (s : State) (f : FieldId) (c : ClusterId) (cause : Nat) :
    (s.keepLoss f c cause).wheel (.cluster f c) = { s.wheel (.cluster f c) with prior := s.cstate f c } := by
  rw [State.keepLoss, wheel_putWheel_same, wheel_congr (s := s) (by simp)]

theorem wheel_enterHolding (s : State) (f : FieldId) (c : ClusterId) (cause : Nat) :
    (s.enterHolding f c cause).wheel (.cluster f c) = { s.wheel (.cluster f c) with state := .holding } := by
  rw [State.enterHolding, wheel_congr (s := s.setWState (.cluster f c) .holding) (by simp), wheel_setWState_same]

@[simp] theorem enterHolding_loops (s : State) (f : FieldId) (c : ClusterId) (cause : Nat) :
    (s.enterHolding f c cause).loops = s.loops := by
  simp [State.enterHolding]

/-- What lost feedback is of a RUNNING or DERATED cluster. -/
theorem feedbackLost_of_isUp {s : State} {f : FieldId} {c : ClusterId} (cause : Nat) (h : s.cstate f c = .running ∨ s.cstate f c = .derated) :
    s.feedbackLost f c cause = ((s.keepLoss f c cause).enterHolding f c cause).judgeCluster f c := by
  obtain h | h := h <;> simp only [State.feedbackLost, State.keepLoss, h] <;> rfl

/-- A RUNNING or DERATED cluster that loses its feedback is HOLDING, and its Wheel keeps the state before. -/
theorem wheel_feedbackLost {s : State} {f : FieldId} {c : ClusterId} (cause : Nat) (h : s.cstate f c = .running ∨ s.cstate f c = .derated) :
    (s.feedbackLost f c cause).wheel (.cluster f c) = { s.wheel (.cluster f c) with prior := s.cstate f c, state := .holding } := by
  have hw := wheel_enterHolding (s.keepLoss f c cause) f c cause
  have hup : (((s.keepLoss f c cause).enterHolding f c cause).cstate f c).isUp = false := by
    rw [State.cstate, State.wstate, hw]
    rfl
  rw [feedbackLost_of_isUp cause h, wheel_judgeCluster_of_not_isUp _ hup, hw, wheel_keepLoss]

theorem loss_feedbackLost {s : State} {f : FieldId} {c : ClusterId} (cause : Nat) (h : s.cstate f c = .running ∨ s.cstate f c = .derated) :
    ((s.feedbackLost f c cause).loop f c).loss = cause := by
  rw [feedbackLost_of_isUp cause h, loop_congr (s := s.keepLoss f c cause) (by simp), loss_keepLoss]

/-- Of a STARTING cluster, lost feedback is the fault and LATCHED. -/
theorem feedbackLost_of_starting {s : State} {f : FieldId} {c : ClusterId} (cause : Nat) (h : s.cstate f c = .starting) :
    s.feedbackLost f c cause = ((s.raiseLoop (lossFault cause) f c).latchCluster f c).drive := by
  simp only [State.feedbackLost, h, lossFault]

/-! ### The three checks (R105-R107) -/

variable (s : State) (f : FieldId) (c : ClusterId)

theorem exec_plausibilityLoss : exec (.plausibilityLoss f c) s =
    .next (if s.rd (clSt f c) O.ORDER = 3 ∧ s.rd (clSt f c) O.RESID_RUN ≤ (s.loop f c).residRun then s.feedbackLost f c 2 else s) := rfl

theorem exec_feTimerExpire : exec (.feTimerExpire f c) s =
    .next (if s.rd (clSt f c) O.ORDER = 5 ∧ s.rd (clSt f c) O.FE_TIME ≤ (s.loop f c).feTimer then s.feedbackLost f c 2 else s) := rfl

/-- R107's condition: the checks run, and MIN or ISUM has been the same at 64 input instants while the code spanned 8 codes or more. -/
def State.frozen : Bool :=
  !s.checksStill f c && decide ((s.loop f c).samples.length = 64) && decide (64 ≤ (s.loop f c).minRun ∨ 64 ≤ (s.loop f c).isumRun)
    && spans8 ((s.loop f c).samples.map Sample.code)

theorem frozen_iff : s.frozen f c = true ↔ s.checksStill f c = false ∧ (s.loop f c).samples.length = 64 ∧
    (64 ≤ (s.loop f c).minRun ∨ 64 ≤ (s.loop f c).isumRun) ∧ spans8 ((s.loop f c).samples.map Sample.code) = true := by
  simp [State.frozen, and_assoc]

theorem exec_feedbackFrozen : exec (.feedbackFrozen f c) s = .next (if s.frozen f c then s.feedbackLost f c 1 else s) := by
  show execFeedbackFrozen f c s = _
  simp [execFeedbackFrozen, frozen_iff]

end Sys2Proof.Machine

namespace Sys2Proof
open Machine

/-- Settles O22: the state, the cause and the state before from the frames of R109's steps; each check by its own condition. -/
theorem lostFeedbackHolds : Obligations.LostFeedbackHolds := by
  unfold Obligations.LostFeedbackHolds
  refine ⟨fun s f c cause h => ?_, fun s f c cause h => feedbackLost_of_starting cause h, fun s f c => ?_⟩
  · have hw := wheel_feedbackLost cause h
    exact ⟨congrArg WheelRec.state hw, loss_feedbackLost cause h, congrArg WheelRec.prior hw⟩
  · rw [exec_plausibilityLoss, exec_feTimerExpire, exec_feedbackFrozen]
    refine ⟨fun ho hr => ?_, fun hr => ?_, fun ho ht => ?_, fun ht => ?_, fun hc hl hm hs => ?_, fun hs => ?_, fun hm hi => ?_⟩
    · rw [if_pos ⟨ho, hr⟩]
    · rw [if_neg fun h => hr.not_ge h.2]
    · rw [if_pos ⟨ho, ht⟩]
    · rw [if_neg fun h => ht.not_ge h.2]
    · rw [if_pos ((frozen_iff s f c).2 ⟨hc, hl, hm, hs⟩)]
    · rw [if_neg fun h => ?_]
      obtain ⟨-, -, -, h8⟩ := (frozen_iff s f c).1 h
      simp [hs] at h8
    · rw [if_neg fun h => ?_]
      obtain ⟨-, -, hrun, -⟩ := (frozen_iff s f c).1 h
      omega

end Sys2Proof

/-!
PROOFS. Partitions (R263, R286, R287): what an admitted write answers, what a fold over the units leaves when each step writes one part of
the state, and from these what the figures sent to the field stations and a release write.
-/
namespace Sys2Proof.Machine
open Sys2Proof

/-! ### A write request that is admitted (R15, R406) -/

section
variable {s t : State} {slot : Slot} {st len : Nat} {o : Obj} {eff : Effect}

/-- An admitted write is its effect and an answer, but for RESET_CTRL, whose write may reset the block. -/
theorem writeReq_ok (ha : s.Admitted slot st o len) (ho : o.index ≠ 0x1200) (he : eff (s.touch slot) = .ok t) :
    s.writeReq slot st o len eff = t.respond slot { op := 2 } := by
  obtain ⟨hears, admits⟩ := ha
  simp [State.writeReq, State.request, State.requestA, Effect.act, State.answer, hears, admits, he, ho]

/-- An admitted write that its effect refuses changes what every refused write changes. -/
theorem writeReq_error {a : Abort} (ha : s.Admitted slot st o len) (ho : o.index ≠ 0x1200) (he : eff (s.touch slot) = .error a) :
    s.writeReq slot st o len eff = s.turned slot st o a := by
  obtain ⟨hears, admits⟩ := ha
  simp [State.writeReq, State.request, State.requestA, Effect.act, State.answer, hears, admits, he, ho]

theorem byte_eq_zero_or_one {v : Byte} (h : v.toNat ≤ 1) : v = 0 ∨ v = 1 := by
  bv_omega

end

/-! ### Folds that write one part of the state -/

/-- Where every step of a fold writes one part of the state, so does the fold. -/
theorem foldl_writes {σ β γ : Type} {set : σ → γ → σ} {g : σ → β → σ} (hself : ∀ s, ∃ a, set s a = s)
    (hset : ∀ s a b, set (set s a) b = set s b) (hg : ∀ s x, ∃ a, g s x = set s a) (l : List β) (s : σ) :
    ∃ a, l.foldl g s = set s a := by
  induction l generalizing s with
  | nil => exact (hself s).imp fun _ h => h.symm
  | cons x xs ih =>
    obtain ⟨a, ha⟩ := hg s x
    obtain ⟨b, hb⟩ := ih (set s a)
    exact ⟨b, by rw [List.foldl_cons, ha, hb, hset]⟩

/-- The paces sent stand in the field arbiters' records alone (R266). -/
theorem sendPaces_eq (s : State) : ∃ a, s.sendPaces = { s with arbs := a } := by
  refine foldl_writes (set := fun (s : State) a => { s with arbs := a }) (fun s => ⟨s.arbs, rfl⟩) (fun _ _ _ => rfl)
    (fun s f => ?_) allFields s
  unfold State.sendFigure
  split
  · exact ⟨s.arbs, rfl⟩
  · exact ⟨_, rfl⟩

/-- A release writes the partition's queues, the tiles' hints and the figures sent, and frees the claim (R263). -/
theorem releasePart_eq (s : State) (n : Nat) (x : PartRec) : ∃ tiles arbs ests, s.releasePart n x =
    State.putPart { s with tiles := tiles, arbs := arbs, ests := ests,
                           ledger := { s.ledger with binds := tblErase s.ledger.binds n } } n none := by
  obtain ⟨a, ha⟩ := foldl_writes (set := fun (s : State) (a : Tbl TileRec × Tbl ArbRec) => { s with tiles := a.1, arbs := a.2 })
    (g := fun s k => s.dropHints k.1 k.2) (fun s => ⟨(s.tiles, s.arbs), rfl⟩) (fun _ _ _ => rfl) (fun s k => ⟨(_, _), rfl⟩)
    (maskTiles x.mask) s
  obtain ⟨e, he⟩ := foldl_writes (set := fun (s : State) e => { s with ests := e })
    (g := fun s f => s.putEstr f { s.estr f with binds := tblErase (s.estr f).binds n })
    (fun s => ⟨s.ests, rfl⟩) (fun _ _ _ => rfl) (fun s f => ⟨_, rfl⟩) allFields
    { s with tiles := a.1, arbs := a.2, ledger := { s.ledger with binds := tblErase s.ledger.binds n } }
  obtain ⟨b, hb⟩ := sendPaces_eq (State.putPart { s with
    tiles := a.1, arbs := a.2, ests := e, ledger := { s.ledger with binds := tblErase s.ledger.binds n } } n none)
  refine ⟨a.1, b, e, ?_⟩
  simp only [State.releasePart, ha, he, hb]
  rfl

/-! ### Reads after a session's or a partition's write -/

/-- A claim reads back from every state with the partition table of the write. -/
theorem part_of_budget (s : State) {t : State} (p : Nat) (x : Option PartRec) (h : t.budget = (s.putPart p x).budget) : t.part p = x := by
  rw [← part_putPart_same s p x, State.part, State.part, h]

section
variable (s : State) (slot : Slot)

@[simp] theorem session_partDone_same (code op p : Nat) : (s.partDone slot code op p).session slot =
    { s.session slot with partResult := code * 2 ^ 28 + op * 2 ^ 24 + p % 1024 } :=
  session_putSession_same s slot _

/-- FAST_ABORT stands in its session (R413). -/
theorem noteFast_eq : ∃ tr, s.noteFast slot = { s with tr := tr } := by
  simp only [State.noteFast]
  split
  · exact ⟨_, rfl⟩
  · exact ⟨s.tr, rfl⟩

@[simp] theorem resp_noteFast : ((s.noteFast slot).session slot).resp = (s.session slot).resp := by
  simp only [State.noteFast]
  split
  · rw [session_putSession_same]
  · rfl

end

/-! ### Claims (R263) -/

section
variable (s : State) (slot : Slot) (d : List Byte)

/-- The number that a claim takes: its own, or the lowest free one. -/
def State.claimNumber : Nat := if descNat d 0 2 = 0xFFFF then s.freePart else descNat d 0 2

/-- The claim that a descriptor makes. -/
def claimRec : PartRec := { weight := descNat d 2 1, pmin := descNat d 4 4, pmax := descNat d 8 4, mask := descNat d 0x10 16 }

variable {s slot d}

theorem exec_partClaim_length (ha : s.Admitted slot hubSt O.PART_CLAIM d.length) (hl : d.length ≠ 32) :
    exec (.partClaim slot d) s = .next (s.turned slot hubSt O.PART_CLAIM .length) :=
  congrArg Host.Outcome.next (writeReq_error (eff := effPartClaim slot d) ha (by decide) (if_pos hl))

theorem exec_partClaim_taken (ha : s.Admitted slot hubSt O.PART_CLAIM d.length) (hl : d.length = 32) (hc : s.claimCode d = 0) :
    exec (.partClaim slot d) s = .next ((((s.touch slot).putPart (s.claimNumber d) (some (claimRec d))).partDone slot 0 1
      (s.claimNumber d)).respond slot { op := 2 }) := by
  have hc : (s.touch slot).claimCode d = 0 := hc
  exact congrArg Host.Outcome.next (writeReq_ok (eff := effPartClaim slot d) ha (by decide) (by simp [effPartClaim, hl, hc]; rfl))

theorem exec_partClaim_refused (ha : s.Admitted slot hubSt O.PART_CLAIM d.length) (hl : d.length = 32) (hc : s.claimCode d ≠ 0) :
    exec (.partClaim slot d) s = .next (((s.touch slot).partDone slot (s.claimCode d) 1
      (if descNat d 0 2 < 1024 then descNat d 0 2 else 0)).respond slot { op := 2 }) := by
  have hc : (s.touch slot).claimCode d ≠ 0 := hc
  exact congrArg Host.Outcome.next (writeReq_ok (eff := effPartClaim slot d) ha (by decide) (by simp [effPartClaim, hl, hc]; rfl))

end

/-! ### Releases (R263) -/

section
variable {s : State} {slot : Slot} {n : BitVec 16}

theorem exec_partRelease_unclaimed (ha : s.Admitted slot hubSt O.PART_RELEASE 2) (hp : s.part n.toNat = none) :
    exec (.partRelease slot n) s = .next (((s.touch slot).partDone slot 5 2 n.toNat).respond slot { op := 2 }) := by
  have hp : (s.touch slot).part n.toNat = none := hp
  exact congrArg Host.Outcome.next (writeReq_ok (eff := effPartRelease slot n.toNat) ha (by decide) (by simp [effPartRelease, hp]))

theorem exec_partRelease_claimed {x : PartRec} (ha : s.Admitted slot hubSt O.PART_RELEASE 2) (hp : s.part n.toNat = some x) :
    exec (.partRelease slot n) s =
      .next ((((s.touch slot).releasePart n.toNat x).partDone slot 0 2 n.toNat).respond slot { op := 2 }) := by
  have hp : (s.touch slot).part n.toNat = some x := hp
  exact congrArg Host.Outcome.next (writeReq_ok (eff := effPartRelease slot n.toNat) ha (by decide) (by simp [effPartRelease, hp]))

end

/-! ### Paces (R286, R287) -/

section
variable {s : State} {slot : Slot} {p : PartId} {v : BitVec 16}

theorem pace_index_ne (p : PartId) : (partObj 0x2B28 p).index ≠ 0x1200 := by
  simp only [partObj]
  omega

theorem exec_pace_claimed {x : PartRec} (ha : s.Admitted slot hubSt (partObj 0x2B28 p) 2) (hv : v.toNat ≤ 256)
    (hp : s.part p.val = some x) : exec (.pace slot p v) s = .next (((((s.touch slot).putPart p.val
      (some { x with pace := v.toNat, lapse := s.time hubSt + s.rd hubSt O.PACE_TTL })).sendPaces).respond slot { op := 2 }).noteFast slot) := by
  have hp : (s.touch slot).part p.val = some x := hp
  exact congrArg (fun t : State => Host.Outcome.next (t.noteFast slot))
    (writeReq_ok (eff := effPace p v.toNat) ha (pace_index_ne p) (by simp [effPace, hv.not_gt, hp]; rfl))

theorem exec_pace_unclaimed (ha : s.Admitted slot hubSt (partObj 0x2B28 p) 2) (hv : v.toNat ≤ 256) (hp : s.part p.val = none) :
    exec (.pace slot p v) s = .next ((s.turned slot hubSt (partObj 0x2B28 p) .state).noteFast slot) := by
  have hp : (s.touch slot).part p.val = none := hp
  exact congrArg (fun t : State => Host.Outcome.next (t.noteFast slot))
    (writeReq_error (eff := effPace p v.toNat) ha (pace_index_ne p) (by simp [effPace, hv.not_gt, hp]))

theorem exec_pace_above (ha : s.Admitted slot hubSt (partObj 0x2B28 p) 2) (hv : 256 < v.toNat) :
    exec (.pace slot p v) s = .next ((s.turned slot hubSt (partObj 0x2B28 p) .value).noteFast slot) :=
  congrArg (fun t : State => Host.Outcome.next (t.noteFast slot))
    (writeReq_error (eff := effPace p v.toNat) ha (pace_index_ne p) (if_pos hv))

theorem exec_paceLapse_due {x : PartRec} (hp : s.part p.val = some x) (hx : x.pace < 256) (hl : x.lapse ≤ s.time hubSt) :
    exec (.paceLapse p) s =
      .next (((s.putPart p.val (some { x with pace := 256 })).sendPaces).raise F.PACE_LAPSE hubSt p.val 0) := by
  show execPaceLapse p s = _
  simp [execPaceLapse, hp, hx, hl]

theorem exec_paceLapse_not_due (h : ¬ ∃ x, s.part p.val = some x ∧ x.pace < 256 ∧ x.lapse ≤ s.time hubSt) :
    exec (.paceLapse p) s = .next s := by
  show execPaceLapse p s = _
  cases hp : s.part p.val with
  | none => simp [execPaceLapse, hp]
  | some x => simp [execPaceLapse, hp, show ¬ (x.pace < 256 ∧ x.lapse ≤ s.time hubSt) from fun hx => h ⟨x, hp, hx⟩]

end

/-! ### CURD_CLEAR (R294) -/

section
variable {s : State} {slot : Slot} {v : Byte}

theorem exec_curdClear_bool (ha : s.Admitted slot hubSt O.CURD_CLEAR 1) (hv : v.toNat ≤ 1) : exec (.curdClear slot v) s =
    .next (State.respond { s.touch slot with budget := { s.budget with curdClear := s.budget.curdClear || v == 1 } } slot { op := 2 }) := by
  refine congrArg Host.Outcome.next (writeReq_ok (eff := effCurdClear v.toNat) ha (by decide) ?_)
  obtain rfl | rfl := byte_eq_zero_or_one hv
  · simp [effCurdClear]
    rfl
  · simp [effCurdClear]

theorem exec_curdClear_above (ha : s.Admitted slot hubSt O.CURD_CLEAR 1) (hv : 1 < v.toNat) :
    exec (.curdClear slot v) s = .next (s.turned slot hubSt O.CURD_CLEAR .value) :=
  congrArg Host.Outcome.next (writeReq_error (eff := effCurdClear v.toNat) ha (by decide)
    (by simp [effCurdClear, hv.ne', (Nat.zero_lt_of_lt hv).ne']))

end
end Sys2Proof.Machine

namespace Sys2Proof
open Machine

/-- Settles O45: each command's cases from its own equations; a release and the paces sent by what they write. -/
theorem partitionsAreClaimed : Obligations.PartitionsAreClaimed := by
  unfold Obligations.PartitionsAreClaimed
  refine fun s slot => ⟨fun d ha => ⟨exec_partClaim_length ha, fun hl hc => ?_, fun hl hc => ?_⟩,
    fun n ha => ⟨fun hp => ?_, fun hp => ?_⟩,
    fun p v ha => ⟨fun x hv hp => ?_, exec_pace_unclaimed ha, exec_pace_above ha⟩,
    fun p => ⟨fun x hp hx hl => ?_, exec_paceLapse_not_due⟩,
    fun v ha => ⟨fun hv => ?_, exec_curdClear_above ha⟩⟩
  · refine ⟨_, exec_partClaim_taken ha hl hc, by simp [State.claimNumber], by simp, ?_, by simp [State.partDone]⟩
    exact part_of_budget (s.touch slot) (s.claimNumber d) (some (claimRec d)) (by simp [State.partDone])
  · refine ⟨_, exec_partClaim_refused ha hl hc, ?_, by simp, by simp [State.partDone]⟩
    rw [session_respond_same, session_partDone_same, Nat.mod_eq_of_lt (by split <;> omega), Nat.one_mul]
  · exact ⟨_, exec_partRelease_unclaimed ha hp, by simp, by simp [State.partDone]⟩
  · obtain ⟨x, hx⟩ := Option.ne_none_iff_exists'.1 hp
    obtain ⟨tiles, arbs, ests, he⟩ := releasePart_eq (s.touch slot) n.toNat x
    refine ⟨_, exec_partRelease_claimed ha hx, ?_, by simp, ?_, ?_⟩ <;> rw [he]
    · exact part_of_budget (s.touch slot) n.toNat none (by simp [State.partDone, State.putPart])
    · simp [State.partDone, tblFind_erase_same]
    · simp [State.partDone]
  · have hexec := exec_pace_claimed ha hv hp
    generalize ({ x with pace := v.toNat, lapse := s.time hubSt + s.rd hubSt O.PACE_TTL } : PartRec) = y at hexec ⊢
    obtain ⟨arbs, he⟩ := sendPaces_eq ((s.touch slot).putPart p.val (some y))
    rw [he] at hexec
    obtain ⟨tr, ht⟩ := noteFast_eq (State.respond { (s.touch slot).putPart p.val (some y) with arbs := arbs } slot { op := 2 }) slot
    refine ⟨_, hexec, by simp, ?_, ?_⟩
    · exact part_of_budget (s.touch slot) p.val (some y) (by rw [ht]; simp)
    · rw [ht]
      simp
  · have hexec := exec_paceLapse_due hp hx hl
    obtain ⟨arbs, he⟩ := sendPaces_eq (s.putPart p.val (some { x with pace := 256 }))
    rw [he] at hexec
    refine ⟨_, hexec, ?_, rfl, by simp⟩
    exact part_of_budget s p.val _ (by simp)
  · exact ⟨_, exec_curdClear_bool ha hv, rfl, by simp, by simp⟩

end Sys2Proof

/-!
PROOFS. Reservations, hints and pre-position messages (R274-R278, R282-R285, R297): each command's equations, one for each of its cases, and
what a run of writes of one object leaves.
-/
namespace Sys2Proof.Machine
open Sys2Proof

/-! ### Reads that an update leaves alone -/

section
variable (s : State)

@[simp] theorem rd_raise (code st item data st' : Nat) (o : Obj) : (s.raise code st item data).rd st' o = s.rd st' o :=
  rd_congr (by simp) st' o

@[simp] theorem rd_putArb (f : FieldId) (x : ArbRec) (st : Nat) (o : Obj) : (s.putArb f x).rd st o = s.rd st o := rfl

@[simp] theorem arb_raise (code st item data : Nat) (f : FieldId) : (s.raise code st item data).arb f = s.arb f := rfl

@[simp] theorem arb_inc32 (st : Nat) (o : Obj) (f : FieldId) : (s.inc32 st o).arb f = s.arb f := rfl

@[simp] theorem tile_touch (slot : Slot) (f : FieldId) (k : TileId) : (s.touch slot).tile f k = s.tile f k := rfl

@[simp] theorem tile_respond (slot : Slot) (r : Response) (f : FieldId) (k : TileId) : (s.respond slot r).tile f k = s.tile f k := rfl

end

/-! ### Reservations (R274-R277) -/

section
variable {s : State} {d : DomId}

/-- A turn-on of a domain that is to reserve, and neither waits nor holds its reservation (R274). -/
def State.asksInrush (s : State) (d : DomId) : Bool :=
  (s.job (.domain d)).any (fun j => j.on && j.step == .reserving) && !(s.arb (domField d)).queue.contains d.val
    && !(s.arb (domField d)).granted.contains d.val

theorem job_of_asksInrush (h : s.asksInrush d = true) : ∃ j, s.job (.domain d) = some j := by
  cases hj : s.job (.domain d) with
  | none => simp [State.asksInrush, hj] at h
  | some j => exact ⟨j, rfl⟩

theorem exec_inrushRequest_of_job {j : SeqJob} (hj : s.job (.domain d) = some j) : exec (.inrushRequest d) s =
    .next (if s.asksInrush d then
      if 8 ≤ (s.arb (domField d)).queue.length then (s.closeJob j 9).drive
      else s.putArb (domField d) { s.arb (domField d) with
        queue := (s.arb (domField d)).queue ++ [d.val], headAt := s.headSince (domField d) ((s.arb (domField d)).queue ++ [d.val]) }
    else s) := by
  show execInrushRequest d s = _
  simp only [execInrushRequest, State.asksInrush, hj, Option.any_some]

theorem exec_inrushRequest_queues (h : s.asksInrush d = true) (hl : (s.arb (domField d)).queue.length < 8) :
    exec (.inrushRequest d) s = .next (s.putArb (domField d) { s.arb (domField d) with
      queue := (s.arb (domField d)).queue ++ [d.val], headAt := s.headSince (domField d) ((s.arb (domField d)).queue ++ [d.val]) }) := by
  obtain ⟨j, hj⟩ := job_of_asksInrush h
  rw [exec_inrushRequest_of_job hj, if_pos h, if_neg hl.not_ge]

theorem exec_inrushRequest_full {j : SeqJob} (hj : s.job (.domain d) = some j) (h : s.asksInrush d = true)
    (hl : 8 ≤ (s.arb (domField d)).queue.length) : exec (.inrushRequest d) s = .next (s.closeJob j 9).drive := by
  rw [exec_inrushRequest_of_job hj, if_pos h, if_pos hl]

theorem exec_inrushRequest_idle (h : s.asksInrush d = false) : exec (.inrushRequest d) s = .next s := by
  cases hj : s.job (.domain d) with
  | none =>
    show execInrushRequest d s = _
    simp [execInrushRequest, hj]
  | some j => simp [exec_inrushRequest_of_job hj, h]

/-- A new last request becomes the head only of an empty queue (R277). -/
theorem headSince_append (s : State) (f : FieldId) (n : Nat) : s.headSince f ((s.arb f).queue ++ [n]) =
    if (s.arb f).queue = [] then s.time (fSt f) else (s.arb f).headAt := by
  cases hq : (s.arb f).queue <;> simp [State.headSince, hq]

end

section
variable {s : State} {f : FieldId} {n : Nat} {rest : List Nat}

theorem exec_inrushGrant_empty (h : (s.arb f).queue = []) : exec (.inrushGrant f) s = .next s := by
  show execInrushGrant f s = _
  simp only [execInrushGrant, h]

theorem exec_inrushTimeoutExpire_empty (h : (s.arb f).queue = []) : exec (.inrushTimeoutExpire f) s = .next s := by
  show execInrushTimeoutExpire f s = _
  simp only [execInrushTimeoutExpire, h]

/-- The reservation of the request in front is held: the next one is the head, and the make-room ceiling is gone (R276, R277). -/
def State.holdInrush (s : State) (f : FieldId) (n : Nat) (rest : List Nat) : State :=
  (s.putArb f { s.arb f with
    queue := rest, headAt := s.headSince f rest, granted := (s.arb f).granted ++ [n]
    amounts := tblSet 0 (s.arb f).amounts n (s.inrush (Fin.ofNat 64 n)), roomOn := false }).wr (fSt f) O.C_ROOM 256

theorem exec_inrushGrant_covered (h : (s.arb f).queue = n :: rest) (hn : (s.inrush (Fin.ofNat 64 n) : Int) ≤ s.readHeadroom f) :
    let u := s.holdInrush f n rest
    exec (.inrushGrant f) s =
      .next ((((u.putArb f { u.arb f with limit := u.coreLimit f }).setHeadroom f).rampDomain (Fin.ofNat 64 n)).drive) := by
  show execInrushGrant f s = _
  simp only [execInrushGrant, h, if_pos hn, State.holdInrush]

theorem exec_inrushGrant_short (h : (s.arb f).queue = n :: rest) (hn : s.readHeadroom f < s.inrush (Fin.ofNat 64 n)) :
    exec (.inrushGrant f) s = .next s := by
  show execInrushGrant f s = _
  simp only [execInrushGrant, h, if_neg hn.not_ge]

theorem exec_inrushTimeoutExpire_due (h : (s.arb f).queue = n :: rest) (hr : (s.arb f).roomOn = false)
    (ht : (s.arb f).headAt + s.rd hubSt O.INRUSH_TIMEOUT ≤ s.time (fSt f)) : exec (.inrushTimeoutExpire f) s =
    .next (((s.putArb f { s.arb f with roomOn := true }).inc32 (fSt f) O.ROOM_ACTS).raise F.ROOM_FORCED (fSt f) n 0) := by
  show execInrushTimeoutExpire f s = _
  simp [execInrushTimeoutExpire, h, hr, ht.not_gt]

theorem exec_inrushTimeoutExpire_not_due (h : (s.arb f).queue = n :: rest)
    (hw : (s.arb f).roomOn = true ∨ s.time (fSt f) < (s.arb f).headAt + s.rd hubSt O.INRUSH_TIMEOUT) :
    exec (.inrushTimeoutExpire f) s = .next s := by
  show execInrushTimeoutExpire f s = _
  simp only [execInrushTimeoutExpire, h, if_pos hw]

end

/-! ### The end of a reservation (R276) -/

section
variable {s : State} {d : DomId}

/-- The domain has been up for 100 µs, or no turn-on of it is left. -/
def State.reservationOver (s : State) (d : DomId) : Bool :=
  ((s.dstate d).isUp && decide (s.rd hubSt (O.ON_TIME.at d.val) + 100000 ≤ s.time hubSt))
    || (!(s.dstate d).isUp && !s.turningOn d)

theorem exec_reservationRelease_over (hg : d.val ∈ (s.arb (domField d)).granted) (ho : s.reservationOver d = true) :
    exec (.reservationRelease d) s = .next (s.putArb (domField d) { s.arb (domField d) with
      granted := (s.arb (domField d)).granted.filter (· != d.val), amounts := tblErase (s.arb (domField d)).amounts d.val }) :=
  congrArg Host.Outcome.next (if_pos (by rw [Bool.and_eq_true, List.contains_iff_mem]; exact ⟨hg, ho⟩))

theorem exec_reservationRelease_held (h : d.val ∉ (s.arb (domField d)).granted ∨ s.reservationOver d = false) :
    exec (.reservationRelease d) s = .next s :=
  congrArg Host.Outcome.next (if_neg (by
    rw [Bool.and_eq_true, List.contains_iff_mem, not_and_or, Bool.not_eq_true]
    exact h))

end

/-! ### Hint words (R282) -/

section
variable {s : State} {f : FieldId} {k : TileId} {w : BitVec 32}

/-- A hint word as its field station queues it. -/
def State.hintWord (s : State) (f : FieldId) (k : TileId) (w : BitVec 32) : HintWord :=
  ⟨k.val, w.toNat, s.time (fSt f), s.curdSeen f k⟩

theorem exec_hintReceive_room (h : (s.arb f).hints.length < 64) : exec (.hintReceive f k w) s =
    .next (s.putArb f { s.arb f with hints := (s.arb f).hints ++ [s.hintWord f k w] }) :=
  congrArg Host.Outcome.next (if_pos h)

theorem exec_hintReceive_full (h : 64 ≤ (s.arb f).hints.length) : exec (.hintReceive f k w) s =
    .next ((s.putArb f { s.arb f with hints := (s.arb f).hints.drop 1 ++ [s.hintWord f k w] }).inc32 (fSt f) O.HINT_DROPS) :=
  congrArg Host.Outcome.next (if_neg h.not_gt)

theorem exec_hintExpire (s : State) (f : FieldId) (k : TileId) : exec (.hintExpire f k) s =
    .next (s.putTile f k { s.tile f k with
      hint := keepPred (s.time (fSt f)) (s.tile f k).hint, curd := keepPred (s.time (fSt f)) (s.tile f k).curd }) := rfl

end

/-! ### Pre-position messages (R258, R285) -/

section
variable (s : State) (st : Nat) (o : Obj) (l : List (Nat × Nat))

/-- The values written to one object, one after the other. -/
def State.wrAll : State := l.foldl (fun t m => t.wr st o m.2) s

theorem wrAll_frame : ∃ regs, s.wrAll st o l = { s with regs := regs } :=
  foldl_writes (set := fun (s : State) r => { s with regs := r }) (fun s => ⟨s.regs, rfl⟩) (fun _ _ _ => rfl) (fun _ _ => ⟨_, rfl⟩) l s

theorem regsKept_wrAll : RegsKept s (s.wrAll st o l) [(st, o)] := by
  intro k hk
  have hne : k ≠ rkey st o.index o.sub := hk (st, o) (List.mem_singleton_self _)
  exact foldl_keeps (fun t : State => tblFind t.regs k) (fun t m => regs_wr_ne t m.2 hne) l s

@[simp] theorem wrAll_tiles : (s.wrAll st o l).tiles = s.tiles := by
  obtain ⟨r, h⟩ := wrAll_frame s st o l
  rw [h]

@[simp] theorem tile_wrAll (f : FieldId) (k : TileId) : (s.wrAll st o l).tile f k = s.tile f k := by
  simp only [State.tile, wrAll_tiles]

/-- The last value written is the one read. -/
theorem rd_wrAll {m : Nat × Nat} (h : l.getLast? = some m) : (s.wrAll st o l).rd st o = m.2 := by
  obtain ⟨r, rfl⟩ := List.getLast?_eq_some_iff.1 h
  rw [State.wrAll, List.foldl_append]
  exact rd_wr_same _ st o m.2

theorem tblKept_putTile (s : State) (f : FieldId) (k : TileId) (r : TileRec) : TblKept s.tiles (s.putTile f k r).tiles [tileKey f k] :=
  fun _ hj => tblFind_set_ne _ _ _ (List.ne_of_not_mem_cons hj)

end

section
variable {s : State} {f : FieldId} {k : TileId}

/-- The pre-position messages of a tile that are due. -/
def State.posDue (s : State) (f : FieldId) (k : TileId) : List (Nat × Nat) :=
  (s.tile f k).pos.filter (fun m => decide (m.1 ≤ s.time (fSt f)))

theorem exec_posReqSend_between (h : s.time (fSt f) % 1000 ≠ 0) : exec (.posReqSend f k) s = .next s :=
  congrArg Host.Outcome.next (if_neg h)

/-- The due messages are on their way to the cluster, and the others stay. -/
def State.takePos (s : State) (f : FieldId) (k : TileId) : State :=
  s.putTile f k { s.tile f k with
    pos := (s.tile f k).pos.filter (fun m => decide (s.time (fSt f) < m.1))
    posOut := (s.tile f k).posOut ++ (s.posDue f k).map Prod.snd }

/-- POS_REQ takes each message that is sent. -/
theorem exec_posReqSend_start (h : s.time (fSt f) % 1000 = 0) :
    exec (.posReqSend f k) s = .next ((s.takePos f k).wrAll (fSt f) (O.POS_REQ.at k.val) (s.posDue f k)) :=
  congrArg Host.Outcome.next (if_pos h)

/-! ### THR_CLEAR (R297) -/

variable {slot : Slot} {v : Byte}

theorem thrClear_index_ne (k : TileId) : (O.THR_CLEAR.at k.val).index ≠ 0x1200 := by
  simp only [Obj.at, O.THR_CLEAR]
  omega

theorem exec_thrClear_zero (ha : s.Admitted slot (fSt f) (O.THR_CLEAR.at k.val) 1) :
    exec (.thrClear slot f k 0) s = .next ((s.touch slot).respond slot { op := 2 }) :=
  congrArg Host.Outcome.next (writeReq_ok (eff := effThrClear f k 0) ha (thrClear_index_ne k) rfl)

theorem exec_thrClear_one (ha : s.Admitted slot (fSt f) (O.THR_CLEAR.at k.val) 1) : exec (.thrClear slot f k 1) s =
    .next (((s.touch slot).putTile f k { s.tile f k with thrClear := true }).respond slot { op := 2 }) :=
  congrArg Host.Outcome.next (writeReq_ok (eff := effThrClear f k 1) ha (thrClear_index_ne k) rfl)

theorem exec_thrClear_above (ha : s.Admitted slot (fSt f) (O.THR_CLEAR.at k.val) 1) (hv : 1 < v.toNat) :
    exec (.thrClear slot f k v) s = .next (s.turned slot (fSt f) (O.THR_CLEAR.at k.val) .value) :=
  congrArg Host.Outcome.next (writeReq_error (eff := effThrClear f k v.toNat) ha (thrClear_index_ne k)
    (by simp [effThrClear, hv.ne', (Nat.zero_lt_of_lt hv).ne']))

end
end Sys2Proof.Machine

namespace Sys2Proof
open Machine

/-- Settles O48: each command's cases from its own equations; the messages sent by the values written to POS_REQ. -/
theorem reservationsAndHints : Obligations.ReservationsAndHints := by
  unfold Obligations.ReservationsAndHints
  refine fun s slot f k d => ⟨⟨exec_inrushRequest_idle, fun ha hl => ?_, fun j hj => exec_inrushRequest_full hj⟩,
    fun hq => ⟨exec_inrushGrant_empty hq, exec_inrushTimeoutExpire_empty hq⟩,
    fun n rest hq => ⟨exec_inrushGrant_covered hq, exec_inrushGrant_short hq, fun hr ht => ?_, exec_inrushTimeoutExpire_not_due hq⟩,
    ⟨fun hg ho => ?_, exec_reservationRelease_held⟩,
    fun w => ⟨fun h => ?_, fun h => ?_⟩,
    ⟨_, exec_hintExpire s f k, ?_, ?_, ?_⟩,
    exec_posReqSend_between, fun h => ?_,
    fun v ha => ⟨fun hv => ?_, exec_thrClear_above ha⟩⟩
  · exact ⟨_, exec_inrushRequest_queues ha hl, by simp, by simp [headSince_append], rfl⟩
  · exact ⟨_, exec_inrushTimeoutExpire_due hq hr ht, by simp, by simp, rfl, by simp⟩
  · exact ⟨_, exec_reservationRelease_over hg ho, by simp, by simp [tblFind_erase_same], rfl⟩
  · exact ⟨_, exec_hintReceive_room h, by simp [State.hintWord], rfl⟩
  · exact ⟨_, exec_hintReceive_full h, by simp [State.hintWord], by simp, by simp⟩
  · simp [keepPred]
  · simp [keepPred]
  · rfl
  · refine ⟨_, exec_posReqSend_start h, by simp [State.takePos, State.posDue], by simp [State.takePos], fun m hm => rd_wrAll _ _ _ _ hm,
      regsKept_wrAll (s.takePos f k) _ _ _, ?_, ?_⟩
    · rw [wrAll_tiles]
      exact tblKept_putTile s f k _
    · obtain ⟨regs, he⟩ := wrAll_frame (s.takePos f k) (fSt f) (O.POS_REQ.at k.val) (s.posDue f k)
      rw [he]
      simp [State.takePos]
  · obtain rfl | rfl := byte_eq_zero_or_one hv
    · exact ⟨_, exec_thrClear_zero ha, by simp, by simp, by simp⟩
    · exact ⟨_, exec_thrClear_one ha, by simp, by simp, by simp⟩

end Sys2Proof
